-- ==== Sys2Proof/Word.lean ====
section
/-! DEFINITION. Word.lean: the word types of the Worolahild (00 R7, R8) and the two shapes of sparse data
the state uses: a table of records by number, and a byte memory (Host.Cell). -/
namespace Sys2Proof

/-- An 8-bit byte. -/
abbrev Byte := BitVec 8
/-- A 16-bit field. -/
abbrev Half := BitVec 16
/-- A 32-bit register (R8). -/
abbrev Word := BitVec 32
/-- A 64-bit value. -/
abbrev DWord := BitVec 64
/-- A SHA-384 digest. -/
abbrev Digest := BitVec 384
/-- A table of records by number, numbers strictly rising; a number not listed holds its reset record. -/
abbrev Tab (α : Type) := List (Nat × α)
/-- A byte memory: addresses strictly rising, no byte equal to 0, and an unlisted address reads 0. -/
abbrev Mem := List Host.Cell

end Sys2Proof
end

