-- ==== Sys2Proof/Config/Names.lean ====
section
/-! DEFINITION. Config/Names.lean: the names the
manual fixes: variants, paths, status codes, cause registers, counters. -/
namespace Sys2Proof.Machine
open Sys2Proof


/-- The twelve variants (R1). -/
inductive Variant where
  | v2SC | v2SF | v2PC | v2PF | v4SC | v4SF | v4PC | v4PF | v8SC | v8SF | v8PC | v8PF
  deriving DecidableEq, Repr

/-- The requester paths of BAR0 (R34, R534). -/
inductive Path where
  | groom | peer | pcie | debug | mgmt
  deriving DecidableEq, Repr

/-- The three transports to Groom (R38). -/
inductive Transport where
  | pcie | mgmt | peer
  deriving DecidableEq, Repr

/-- The issuing classes of a command (R49), in the order of their PRIV codes 1 to 4. -/
inductive Priv where
  | operator | engineer | safety | service
  deriving DecidableEq, Repr

/-- MBX_STATE.STATE (R44). -/
inductive MbxSt where
  | idle | pending | executing | done
  deriving DecidableEq, Repr

/-- The status codes (R68). -/
inductive Status where
  | ok | badOpcode | badHeader | badParam | noSession | privDenied | mbxBusy | badCheck
  | variantUnsupported | aborted | alreadyDone | dmaFault | noResource | badState | authFailed
  | cfgNoTxn | cfgTxnOpen | cfgStaleBase | admissionRefused | alreadyCommitted | cfgHashMismatch
  | cfgTxnExpired | cfgTooLarge
  | imgBadMagic | imgFormat | imgHash | imgSectionCrc | imgLayout | imgUnknownRequired | imgVariant
  | timeNotLocked | timeStepPending | layerSourceAbsent | lampGroupConflict
  | tackBadBinary | tackNoBound | cutNotArmed
  | pairVariantMismatch | pairProtoMismatch | pairSwapPostponed | pairNotPaired
  | bridleLevel | calBadCheck | calRange | calBusy | checkUnitBusy | testDeferred | testFailed
  | updBusy | updSignature | updChunkHash | updRollback | updIncompatible | updNoSession
  | secState | secUnlockFailed | logRange
  deriving DecidableEq, Repr, Inhabited

/-- The cause registers that drive the event sources (R69). -/
inductive CauseReg where
  | glb | mbx | ym | time | comp | map | lamp
  | pdk (k : Nat) | stl (k : Nat)
  | ethTx (p : Nat) | ethRx (p : Nat) | flwTx (p : Nat) | ylRx (p : Nat)
  | lp (n : Nat) | rst (h : Nat) | pair | brd | far | sec
  deriving DecidableEq, Repr

/-- The observability counters of the blocks, each under the register name its chapter gives it. -/
inductive Ctr where
  | ymMiss (cause : Nat) | ymBeLate
  | compLate (layer : Nat) | compRxIncomplete (input : Nat)
  | mapUnpacked | mapDataErr | mapOverrun | mapPixels
  | lampFault | lampProof | lampProofMiss | lampCapOver | lampTelemDrop
  | pdkDispatch (k : Nat) | pdkSwitch (k : Nat) | pdkCancel (k : Nat)
  | pdkMigrate (k : Nat) | pdkWaitHist (k : Nat) (bucket : Nat)
  | stlRetired (k : Nat) | stlOverrun (k : Nat) | stlFault (k : Nat) | stlMemCorr (k : Nat)
  | stlSoftEvt (k : Nat)
  | flwTxMsg (p : Nat) | flwDiscard (p : Nat) | flwRingWait (p : Nat)
  | ylRxBad (p : Nat) | ylRxDup (p : Nat) | ylRxUnknown (p : Nat)
  | eth (p : Nat) (which : Nat)
  | lp (n : Nat) (which : Nat)
  | rst (h : Nat) (which : Nat)
  | pair (which : Nat)
  | brd (which : Nat)
  | intErr (which : Nat) | far (which : Nat)
  deriving DecidableEq, Repr

/-- What the memory code makes of a word it reads (R266, R458): no error, one it corrects, one it cannot. -/
inductive Ecc where
  | clean | corrected | uncorrectable
  deriving DecidableEq, Repr

/-- The registers read as a _LO and _HI pair (R9): the extended local time, or a 64-bit counter. -/
inductive Reg64 where
  | elt
  | ctr (c : Ctr)
  deriving DecidableEq, Repr

/-- The references of R22 and R23. -/
inductive RefClk where
  | ser0 | ser1 | pcie
  deriving DecidableEq, Repr

/-- The registers without a row of their own that a path may write (R31, R46, R76, R82, R153, R473): a word of a
mailbox's request window, EVC_TGT_CFG of a target, word i of an MSI-X table entry, TIME_TRIG_LO and _HI, register
`off` of a check unit; a location whose fields are all RO or RSV. -/
inductive RegW where
  | window (m i : Nat)
  | tgtCfg (t : Nat)
  | msix (v i : Nat)
  | trigLo | trigHi
  | chk (u off : Nat)
  | readOnly
  deriving DecidableEq, Repr

end Sys2Proof.Machine
end

