-- ==== Sys2Proof/Config/Bridle.lean ====
section
/-! DEFINITION. Config/Bridle.lean: BRD_CFG and CAL_CFG (chapter 16) and the operands of calibration. -/
namespace Sys2Proof.Machine
open Sys2Proof

/-- BRD_CFG and CAL_CFG (R457). -/
structure BrdCfg where
  brd : Word := 0x00000014#32
  cal : Word := 0x80000008#32
  deriving DecidableEq, Repr

/-- A calibration value: group kind and index, item, value (R448, R454). -/
structure CalVal where
  kind  : Nat
  index : Nat
  item  : Byte
  value : Half
  deriving DecidableEq, Repr

end Sys2Proof.Machine
end

