-- ==== Sys2Proof/Config/Check.lean ====
section
/-! DEFINITION. Config/Check.lean: FAR_CFG and the operands of chapter 17: what the memory code's decoder sees of a
word, an uncorrectable read, the images of CHECK_RUN. -/
namespace Sys2Proof.Machine
open Sys2Proof

/-- What the decoder of R459 sees of a word: whether the fold bit agrees, and the positions its syndrome locates
(none: a nonzero syndrome that locates nothing): 0 to 78 in the codeword, 80 + i bit i of the virtual address. -/
structure EccRead where
  fold    : Bool := true
  located : Option (List Nat) := some []
  deriving DecidableEq, Repr

/-- What a scrubber reads of a word, and what it reads again after a write-back (R460). -/
structure ScrubRead where
  read  : EccRead := {}
  again : EccRead := {}
  deriving DecidableEq, Repr

/-- The decode outcomes (R459). -/
inductive EccOut where
  | clean | corrected | address | uncorrectable
  deriving DecidableEq, Repr

/-- A read that found no correctable word (R461; log 29): region as INT_ERR_LAST numbers it, byte address, whether
the outcome is ADDRESS. -/
structure Hit where
  region : Nat
  addr   : Nat
  isAddr : Bool := false
  deriving DecidableEq, Repr

/-- The images of the unit registers that CHECK_RUN takes (R483). -/
structure ChkImages where
  ctrl   : Word := 0
  expect : Word := 0
  fold   : Word := 0
  start  : Word := 0
  length : Word := 0
  chunk  : Word := 0x40#32
  stride : Word := 0x40#32
  deriving DecidableEq, Repr

end Sys2Proof.Machine
end

