-- ==== Sys2Proof/Config/Comp.lean ====
section
/-! DEFINITION. Config/Comp.lean: the layers section (chapter 06): canvas, layers, inputs, coefficient sets,
stills; and the operands of the composition commands. -/
namespace Sys2Proof.Machine
open Sys2Proof

/-- The configuration registers of a layer (R184): COMP_L_CTRL, SRC_SIZE, DST_POS, DST_SIZE, OPACITY,
OPACITY_SRC. -/
structure LayerRegs where
  ctrl    : Word := 0
  src     : Word := 0
  pos     : Word := 0
  dst     : Word := 0
  opac    : Word := 0x0000FFFF#32
  opacSrc : Word := 0
  deriving DecidableEq, Repr

/-- An input record (R161). -/
structure InputRec where
  port     : Nat := 0
  enable   : Bool := false
  ipv6     : Bool := false
  rgb      : Bool := false
  full     : Bool := false
  bpm      : Bool := false
  udp      : Half := 0
  group    : BitVec 128 := 0
  width    : Nat := 0
  height   : Nat := 0
  rateNum  : Nat := 0
  den1001  : Bool := false
  latchUs  : Nat := 0
  deriving DecidableEq, Repr

/-- A still (R166): format, size, PREMULT, pixels in the format's layout. -/
structure Still where
  format  : Nat
  width   : Nat
  height  : Nat
  premult : Bool := false
  data    : Mem := []
  deriving DecidableEq, Repr

/-- A coefficient set (R170): 64 phases of 8 horizontal, 8 vertical (8 taps) and 4 vertical (4 taps)
coefficients, 20 signed 1.14 numbers each. -/
structure CoefSet where
  phases : List (List Int) := []
  deriving DecidableEq, Repr

/-- The layers object (R536): the canvas registers, layers 0 to 8, inputs 0 to 7, coefficient sets 1 to 15,
stills 0 to 63. -/
structure CompCfg where
  size   : Word := 0
  ctrl   : Word := 0
  bgRg   : Word := 0
  bgB    : Word := 0
  order  : Word := 0xFFFFFFFF#32
  layers : Tab LayerRegs := []
  inputs : Tab InputRec := []
  coefs  : Tab CoefSet := []
  stills : Tab Still := []
  deriving DecidableEq, Repr

/-- A row fragment of an ST 2110-20 packet: sample row number, pixel offset, octets. -/
structure RowFrag where
  row  : Nat
  off  : Nat
  data : List Byte
  deriving DecidableEq, Repr

/-- An ST 2110-20 packet classified to an input (R162): extended sequence number, RTP timestamp, marker,
whether it matches the configured geometry and packing, its row fragments. -/
structure VideoPkt where
  seq    : Nat
  ts     : Word
  marker : Bool
  fits   : Bool := true
  rows   : List RowFrag := []
  deriving DecidableEq, Repr

/-- A buffer has become FREE for the LAYER_WRITE that waits in a mailbox (R164); `held` is, on a LEAD, when the SHADOW's
copy was complete. -/
structure BufferFree where
  mailbox : Nat := 0
  held    : Option Nat := none
  deriving DecidableEq, Repr

/-- An uncorrectable 64-byte line of the buffer of a layer (R182), and the failing word itself. -/
structure LineErr where
  layer : Nat
  line  : Nat
  hit   : Hit
  deriving DecidableEq, Repr

/-- An uncorrectable word of the line banks (R182) with the source pixels, n from x in row y, that it holds; and the
failing word itself. -/
structure BankErr where
  layer : Nat
  y     : Nat
  x     : Nat
  n     : Nat
  hit   : Hit
  deriving DecidableEq, Repr

/-- An uncorrectable error that a composition meets in its sources (R182). -/
inductive LayerErr where
  | line (e : LineErr)
  | bank (e : BankErr)
  deriving DecidableEq, Repr

/-- The failing word. -/
def LayerErr.hit : LayerErr → Hit
  | .line e => e.hit
  | .bank e => e.hit

/-- The layer whose source has failed. -/
def LayerErr.layer : LayerErr → Nat
  | .line e => e.layer
  | .bank e => e.layer

end Sys2Proof.Machine
end

