-- ==== Sys2Proof/Config/Flow.lean ====
section
/-! DEFINITION. Config/Flow.lean: the flows section (chapter 11) and the operands of its commands. -/
namespace Sys2Proof.Machine
open Sys2Proof

/-- A flow record (R292) without its LIVE fields, which the state holds. -/
structure FlowRec where
  kind       : Nat := 0
  port       : Nat := 0
  enable     : Bool := false
  guaranteed : Bool := false
  pixels     : Bool := false
  dither     : Bool := false
  ipv6       : Bool := false
  vlan       : Bool := false
  sync       : Bool := false
  width      : Nat := 0
  emitters   : Nat := 1
  stream     : Word := 0
  count      : Nat := 1
  group      : Nat := 0
  first      : Nat := 0
  tci        : Half := 0
  dstPort    : Half := 0
  dst        : BitVec 128 := 0
  prio       : Nat := 0
  divisor    : Nat := 1
  phase      : Nat := 0
  deriving DecidableEq, Repr

/-- The flow settings block (R327). -/
structure FlowSet where
  ylCfg  : Word := 0xB840785A#32
  gate   : Word := 0
  cid    : BitVec 128 := 0
  name   : BitVec 512 := 0
  sync   : Tab Nat := []
  deriving DecidableEq, Repr

/-- The flows object (R327): flow records by FLOW, the parameter map's entries (R294), the settings. -/
structure FlowCfg where
  flows  : Tab FlowRec := []
  params : List Word := []
  set    : FlowSet := {}
  deriving DecidableEq, Repr

/-- A Yardline message as it arrives (R302): the header's fields and the payload bytes of this fragment. -/
structure YlMsg where
  version   : Nat := 1
  type      : Nat
  stream    : Nat := 0
  flags     : Byte := 0
  format    : Half := 0
  seq       : Word := 0
  ptSec     : Word := 0
  ptNs      : Word := 0
  fragOff   : Nat := 0
  fragCount : Nat := 1
  total     : Nat := 0
  proofs    : Nat := 0
  payload   : List Byte := []
  deriving DecidableEq, Repr

end Sys2Proof.Machine
end

