-- ==== Sys2Proof/Config/Eth.lean ====
section
/-! DEFINITION. Config/Eth.lean: the configuration of the Ethernet ports (chapter 12) and received frames. -/
namespace Sys2Proof.Machine
open Sys2Proof

/-- What ETH_PORT_SET stages for a port (R361). -/
structure PortRegs where
  cfg  : Word := 0x000005DC#32
  eee  : Word := 0x03E81388#32
  ct   : Word := 0x00000200#32
  thru : Word := 0
  sacn : Word := 0
  ipv4 : Word := 0
  pfx  : Nat := 0
  ipv6 : BitVec 128 := 0
  deriving DecidableEq, Repr

/-- What ETH_FILTER_SET stages for a port: 16 pairs of ETH_FILTER_A and _B, 8 images of ETH_RXQ_CFG. -/
structure FilterRegs where
  filters : List (Word × Word) := []
  rxq     : List Word := []
  deriving DecidableEq, Repr

/-- The Ethernet ports' objects, by port; ring bases by 8 x port + queue. -/
structure EthCfg where
  ports   : Tab PortRegs := []
  filters : Tab FilterRegs := []
  bases   : Tab DWord := []
  deriving DecidableEq, Repr

/-- What a received frame carries, as far as the port tells frames apart (R334). -/
inductive RxBody where
  /-- A PAUSE frame with its pause_time in quanta. -/
  | pause (quanta : Nat)
  /-- Another MAC control frame. -/
  | control
  /-- LLDP, with the transmit wake time in microseconds its EEE TLV asks for. -/
  | lldp (tw : Option Nat)
  /-- PTP over UDP to port 319 or 320: whether it is an event message whose residence time is added (R141). -/
  | ptp (event : Bool)
  /-- UDP to a group and port. -/
  | udp (group : BitVec 128) (port : Nat)
  /-- ARP or neighbour discovery that resolves an address. -/
  | resolve (ip : BitVec 128)
  /-- An ARP request or neighbour solicitation for an address, or an ICMP echo request to it. -/
  | ask (ip : BitVec 128)
  /-- A membership query (IGMP or MLD). -/
  | query
  /-- An E1.31 data packet. -/
  | sacn
  | other
  deriving DecidableEq, Repr

/-- A received frame: its bytes from the destination address without FCS, what the checks of R334 to R336 find,
its tag, EtherType and destination, its body and whether that is Yardline, and for a host ring how many owned descriptors stand at HEAD. -/
structure RxFrame where
  bytes   : List Byte := []
  fcsOk   : Bool := true
  csumOk  : Bool := true
  staging : Option Hit := none
  vid     : Option Nat := none
  etype   : Half := 0x0800#16
  group   : Bool := false
  own     : Bool := false
  body    : RxBody := .other
  yl      : Bool := false
  owned   : Nat := 0
  deriving DecidableEq, Repr

end Sys2Proof.Machine
end

