-- ==== Sys2Proof/Config/Host.lean ====
section
/-! DEFINITION. Config/Host.lean: the operands of the transports (chapter 02): a datagram and a handshake of the management port, a
segment of a DMA transfer. -/
namespace Sys2Proof.Machine
open Sys2Proof

/-- A datagram of the management port (R39, R40): the DTLS connection that it belongs to, the UDP port it is sent to,
whether it is the connection's closure alert, and the bytes it carries: the framing header and a fragment of the window
image. -/
structure MgmtMsg where
  peer  : Nat
  udp   : Nat := 30811
  close : Bool := false
  bytes : List Byte := []
  deriving DecidableEq, Repr

/-- A DTLS handshake of the management port (R39): the mailbox it is for, the connection it opens. -/
structure Handshake where
  mailbox : Nat := 0
  peer    : Nat := 0
  deriving DecidableEq, Repr

/-- A segment of a DMA transfer as it ends (R55, R56): the bytes of its descriptor, none where the list entry could not
be read; the bytes that host memory holds at ADDR, for a segment to the device; whether the PCIe accesses completed. -/
structure DmaSeg where
  desc : Option (List Byte)
  data : List Byte := []
  done : Bool := true
  deriving DecidableEq, Repr

/-- A DMA descriptor (R55). -/
structure DmaDesc where
  addr   : DWord := 0
  length : Nat := 0
  flags  : Word := 0
  offset : Nat := 0
  crc    : Word := 0
  rest   : Word := 0
  deriving DecidableEq, Repr

end Sys2Proof.Machine
end

