-- ==== Sys2Proof/Config/Map.lean ====
section
/-! DEFINITION. Config/Map.lean: the pixel map, models, curves and mapper settings (chapter 07), the bins,
circuits, safety groups and lamp settings (chapter 08), and the operands of their commands. -/
namespace Sys2Proof.Machine
open Sys2Proof

/-- A segment entry (R185). -/
structure MapSeg where
  first  : Nat
  count  : Nat
  rowMax : Nat
  deriving DecidableEq, Repr

/-- A pixel record (R187). X and Y are in quarters of a canvas pixel. -/
structure PixRec where
  x       : Nat := 0
  y       : Nat := 0
  fixture : Nat := 0
  model   : Nat := 0
  sample  : Nat := 0
  areaW   : Nat := 0
  areaH   : Nat := 0
  proofEn : Bool := false
  bin     : Nat := 0
  flow    : Nat := 0
  offset  : Nat := 0
  group   : Nat := 0x7FF
  circuit : Nat := 0x7FF
  deriving DecidableEq, Repr

/-- A pixel map (R185); the empty map has neither segments nor records. -/
structure PixMap where
  segs : List MapSeg := []
  recs : List PixRec := []
  deriving DecidableEq, Repr

/-- A fixture model (R194): header fields and the gamut table's nodes, 8 codes each (not listed: zeros). -/
structure Model where
  emitters  : Nat
  bt2020    : Bool := false
  intensity : Nat := 0xFF
  knee      : Nat := 0xFF
  slope     : Nat := 0
  curves    : List Nat := []
  power     : List Nat := []
  nodes     : Tab (List Nat) := []
  deriving DecidableEq, Repr

/-- The map, models and curves objects and the registers of MAP_SET (R209). -/
structure MapCfg where
  map     : PixMap := {}
  models  : Tab Model := []
  curves  : Tab (List Nat) := []
  pqWhite : Word := 0x000003E8#32
  gm      : Word := 0x0000FFFF#32
  gmSrc   : Word := 0
  probe   : Word := 0
  deriving DecidableEq, Repr

/-- A bin record (R211): FLUX, VALID and the matrix, 64 signed 1.14 coefficients by rows. -/
structure BinRec where
  flux   : Nat
  valid  : Bool
  matrix : List Int
  deriving DecidableEq, Repr

/-- A circuit record (R219). -/
structure Circuit where
  enable : Bool
  budget : Nat
  idle   : Nat
  deriving DecidableEq, Repr

/-- A group record with its member list (R225). -/
structure Group where
  enable  : Bool
  members : List Nat
  tMeasUs : Nat
  period  : Nat
  code    : Nat
  timeout : Nat
  deriving DecidableEq, Repr

/-- The bins, circuits and groups objects and the registers of LAMP_CFG_SET (R235). -/
structure LampCfg where
  bins     : Tab BinRec := []
  circuits : Tab Circuit := []
  groups   : Tab Group := []
  floor    : Word := 0x00002000#32
  staleD   : Word := 0x0000C000#32
  telem    : Word := 0x000003E8#32
  proof    : Word := 0x00C803E8#32
  measCode : Word := 0x00000100#32
  deriving DecidableEq, Repr

/-- A lamp message of a node (R214), by the flow its stream belongs to: fixture temperatures in 1/16 C, 2-bit
statuses and currents by pixel position; or the proof results of a content, whose PT the message names as seconds modulo
2^32 times 10^9 plus nanoseconds (R302), by pixel position. -/
inductive LampMsg where
  | telemetry (flow : Nat) (temps : List (Nat × Int)) (stats : List (Nat × Nat)) (currents : List (Nat × Nat))
  | proof (flow pt : Nat) (results : List (Nat × Nat))
  deriving DecidableEq, Repr

/-- What the LEAD forwards to the SHADOW (R214): a message with its acceptance number, or the last number of
the applied set. -/
inductive LampFwd where
  | msg (number : Nat) (m : LampMsg)
  | setNumber (number : Nat)
  deriving DecidableEq, Repr

/-- A word that the memory code refuses while a segment is mapped or a group packed (R206, R325), by what it holds: so many
pixel records from one on; the fixture line of a fixture; so many canvas pixels of a row from a column on; a node of a
model; an entry of a curve; a bin; a flow record or an entry of its parameter map; a frame in a ring, by flow and
fragment. Each with the failing word itself. -/
inductive FillErr where
  | records (first count : Nat) (hit : Hit)
  | fixture (f : Nat) (hit : Hit)
  | canvas (y x n : Nat) (hit : Hit)
  | node (model i : Nat) (hit : Hit)
  | curve (c i : Nat) (hit : Hit)
  | bin (b : Nat) (hit : Hit)
  | flow (f : Nat) (hit : Hit)
  | frame (f frag : Nat) (hit : Hit)
  deriving DecidableEq, Repr

/-- The failing word. -/
def FillErr.hit : FillErr → Hit
  | .records _ _ h => h
  | .fixture _ h => h
  | .canvas _ _ _ h => h
  | .node _ _ h => h
  | .curve _ _ h => h
  | .bin _ h => h
  | .flow _ h => h
  | .frame _ _ h => h

/-- The error is one of the mapper's own reads (R206). -/
def FillErr.mapped : FillErr → Bool
  | .flow _ _ => false
  | .frame _ _ _ => false
  | _ => true

/-- The bulk of a LAMP_GROUP_SET (R225, R234): how many group records, and the staging object they stand in where no
descriptors bring them. -/
structure GroupBulk where
  count : Nat := 0
  obj   : Nat := 0
  deriving DecidableEq, Repr

/-- A LAMP_GROUP_RESET (R229): the group and, in one that the LEAD forwards, its boundary. -/
structure GroupReset where
  group : Nat := 0
  lead  : Option Nat := none
  deriving DecidableEq, Repr

end Sys2Proof.Machine
end

