-- ==== Sys2Proof/Config/Stall.lean ====
section
/-! DEFINITION. Config/Stall.lean: the fixtures, Tack binaries and arguments, the task graph (chapters 09 and
10) and PDK_CORE_CFG. -/
namespace Sys2Proof.Machine
open Sys2Proof

/-- A task descriptor (R236); `succ` holds its six successor references as words (R237). -/
structure TaskDesc where
  task        : Nat
  guaranteed  : Bool := false
  late        : Bool := false
  tolerant    : Bool := false
  layerFinish : Bool := false
  prio        : Nat := 0
  home        : Nat := 0
  affinity    : Half := 1
  dep         : Nat := 0
  bound       : Word := 0
  entry       : Word := 0
  delayUs     : Word := 0
  dataBytes   : Word := 0
  layer       : Nat := 0xFFFF
  saveMask    : Half := 0
  succ        : List Word := []
  deriving DecidableEq, Repr

/-- A fan-out entry: 15 successor references and a LINK (R237). -/
structure FanOut where
  succ : List Word := []
  link : Word := 0
  deriving DecidableEq, Repr

/-- A hardware link record (R240). -/
structure HwLink where
  hw   : Nat
  succ : List Word := []
  deriving DecidableEq, Repr

/-- A task graph (R260): descriptors in ascending TASK, fan-out entries, hardware link records. -/
structure Graph where
  tasks : List TaskDesc := []
  fan   : List FanOut := []
  links : List HwLink := []
  deriving DecidableEq, Repr

/-- What an SRAM word of the Paddock belongs to (R257): the slot of a task's instance for a content, or a fan-out
entry. -/
inductive PdkWord where
  | slot (task content : Nat)
  | fan (index : Nat)
  deriving DecidableEq, Repr

/-- A fixture record (R284). -/
structure Fixture where
  slots : Nat := 64
  init  : List Half := []
  deriving DecidableEq, Repr

/-- A Tack binary (R285): its code words and constant bytes. -/
structure Binary where
  code   : List Word
  consts : List Byte := []
  deriving DecidableEq, Repr

/-- An argument record (R285). -/
structure ArgRec where
  first : Nat := 0
  count : Nat := 0
  args  : List Word := []
  deriving DecidableEq, Repr

/-- The Tack section (R285): binaries by BINARY, argument records by task number, and where the binaries are placed
(R288): the instruction word address of the first code word and CONST_BASE, by BINARY. -/
structure TackCfg where
  bins  : Tab Binary := []
  args  : List ArgRec := []
  place : Tab (Nat × Nat) := []
  deriving DecidableEq, Repr

/-- The fixtures, Tack and graph objects and the images of PDK_CORE_CFG by Stall (not listed: 0x4, R261). -/
structure StlCfg where
  fixtures : Tab Fixture := []
  tack     : TackCfg := {}
  graph    : Graph := {}
  cores    : Tab Word := []
  deriving DecidableEq, Repr

end Sys2Proof.Machine
end

