-- ==== Sys2Proof/Config/Time.lean ====
section
/-! DEFINITION. Config/Time.lean: the configuration of the frame clock, the cuts (chapter 04) and the time
unit (chapter 05), and the operand records of their commands. -/
namespace Sys2Proof.Machine
open Sys2Proof

/-- A cut record (R118). `flows` is its flow list. -/
structure Cut where
  index     : Nat := 0
  trigLine  : Byte := 0xFF
  triggers  : Half := 0
  hold      : Half := 0
  flows     : List Nat := []
  lineMask  : DWord := 0
  cueStream : BitVec 24 := 0
  deriving DecidableEq, Repr

/-- YM_RATE, YM_GATE_OFFSET, YM_CUT_CTRL (R126) and the cut records (R118). -/
structure YmCfg where
  rate    : Word := 0x0000EA60#32
  gateNs  : Word := 0x00030D40#32
  cutCtrl : Word := 0x00000802#32
  cuts    : List Cut := []
  deriving DecidableEq, Repr

/-- TIME_JUMP_LIMIT, TIME_ALIGN, TIME_WC_RATE, TIME_SERVO, TIME_PTP_CFG, TIME_PTP_ASYM (R152), priority2 and
the intervals of TIME_SET_PTP that override the profile's (R139), as logarithms to base 2 of seconds. -/
structure TimeCfg where
  jump      : Word := 0x000003E8#32
  align     : Word := 0x00480000#32
  wcRate    : Word := 0
  servo     : Word := 0x640203E8#32
  ptp       : Word := 0x04000080#32
  asym      : Word := 0
  priority2 : Byte := 128
  syncLog   : Option Int := none
  annLog    : Option Int := none
  receipt   : Option Nat := none
  delayLog  : Option Int := none
  deriving DecidableEq, Repr

/-- The payload of TIME_SET_PTP (R139, R152): the image of TIME_PTP_CFG, priority2, the overrides, ASYMMETRY. -/
structure PtpSet where
  ptp       : Word := 0
  priority2 : Byte := 0
  syncLog   : Option Int := none
  annLog    : Option Int := none
  receipt   : Option Nat := none
  delayLog  : Option Int := none
  asym      : Word := 0
  deriving DecidableEq, Repr

/-- What an Announce says of its sender (R139; IEEE 1588-2019, PRESUMED, log 66): the domain, the grandmaster's data set,
the steps removed, the sender. -/
structure Announce where
  domain    : Byte := 0
  priority1 : Byte := 128
  cls       : Byte := 248
  accuracy  : Byte := 0xFE#8
  variance  : Half := 0xFFFF#16
  priority2 : Byte := 128
  gm        : DWord := 0
  steps     : Half := 0
  sender    : DWord := 0
  deriving DecidableEq, Repr

/-- A PTP timestamp (R128): 48-bit seconds, 32-bit nanoseconds. -/
structure PtpTime where
  sec : BitVec 48 := 0
  ns  : Word := 0
  deriving DecidableEq, Repr

/-- What triggers a cut (R118, R120): a house-sync input, the cut's line input, a CUE message, the host. -/
inductive CutTrig where
  | house (port : Nat) | line (port : Nat) | cue (stream : BitVec 24) | host (cut : Nat)
  deriving DecidableEq, Repr

end Sys2Proof.Machine
end

