-- ==== Sys2Proof/Config/Image.lean ====
section
/-! DEFINITION. Config/Image.lean: the operands of the configuration commands (chapter 02): a patch image (R63) and
what the pair peer answers to a commit (R61, R97). -/
namespace Sys2Proof.Machine
open Sys2Proof

/-- The contents of a section by TYPE (R63); strings are held by no object (R536). -/
inductive SecBody where
  | fixtures (f : Tab Fixture)
  | pixels (p : PixMap)
  | models (m : Tab Model)
  | curves (c : Tab (List Nat))
  | bins (b : Tab BinRec)
  | circuits (c : Tab Circuit) (g : Tab Group)
  | tack (t : TackCfg)
  | graph (g : Graph)
  | flows (f : FlowCfg)
  | layers (c : CompCfg)
  | cuts (c : List Cut)
  | strings
  deriving DecidableEq, Repr

/-- A directory entry (R63). -/
structure DirEntry where
  type    : Nat
  version : Nat := 1
  flags   : Word := 1
  offset  : Nat
  length  : Nat
  records : Nat := 0
  crc     : Word := 0
  deriving DecidableEq, Repr

/-- The header of a patch image (R63): `clean` says that its reserved bytes are 0. -/
structure ImgHeader where
  magic      : Word := 0x49505848#32
  major      : Nat := 3
  minor      : Nat := 0
  headerLen  : Nat := 128
  sections   : Nat := 0
  dirOffset  : Nat := 128
  imageLen   : Nat := 0
  minVariant : Word := 0
  build      : Word := 0
  id         : BitVec 128 := 0
  hash       : Digest := 0
  clean      : Bool := true
  deriving DecidableEq, Repr

/-- The pair peer at a commit: its configuration hash, when it completed, the frame at which the LEAD lets the commit take
effect (R97; a SHADOW takes it), its first failure of admission (kind, index, demand, capacity). -/
structure PeerCommit where
  hash   : Digest
  doneNs : Nat := 0
  frame  : Nat := 0
  refuse : Option (Nat × Nat × Nat × Nat) := none
  deriving DecidableEq, Repr

end Sys2Proof.Machine
end

