-- ==== Sys2Proof/Config/Line.lean ====
section
/-! DEFINITION. Config/Line.lean: the configuration registers of a line port (chapter 13). -/
namespace Sys2Proof.Machine
open Sys2Proof

/-- The images LINE_PORT_SET stages for a port (R386). -/
structure LineRegs where
  mode    : Word := 0
  gap     : Word := 0
  clk     : Word := 0x00280000#32
  wordVal : Word := 0
  frame   : Word := 0
  headPat : Word := 0
  tailPat : Word := 0
  sym0    : Word := 0
  sym1    : Word := 0
  dmx     : Word := 0x005C0C00#32
  rdm     : Word := 0x00000AF0#32
  rdmT    : Word := 0x16A800B0#32
  trig    : Word := 0
  deriving DecidableEq, Repr

/-- An uncorrectable 64-bit word of a frame buffer or cut store, by its place in the frame (R387). -/
structure LineBad where
  port : Nat
  word : Nat
  hit  : Hit
  deriving DecidableEq, Repr

/-- An RDM request of LINE_RDM (R385): destination UID, sub-device, command class, PID, R_max, parameter data. -/
structure RdmReq where
  dest : BitVec 48
  sub  : Half := 0
  cc   : Byte := 0x20#8
  pid  : Half := 0
  rmax : Nat := 0
  data : List Byte := []
  deriving DecidableEq, Repr

end Sys2Proof.Machine
end

