-- ==== Sys2Proof/Config/Pair.lean ====
section
/-! DEFINITION. Config/Pair.lean: the pair's configuration registers (chapter 15). -/
namespace Sys2Proof.Machine
open Sys2Proof

/-- PAIR_CFG and PAIR_SWAP_INTERVAL (R433). -/
structure PairCfg where
  cfg  : Word := 0x00030000#32
  swap : Word := 0
  deriving DecidableEq, Repr

/-- The rails with two feeds. -/
inductive Rail where
  | core | aon
  deriving DecidableEq, Repr

end Sys2Proof.Machine
end

