-- ==== Sys2Proof/Config/Raster.lean ====
section
/-! DEFINITION. Config/Raster.lean: the configuration registers of the raster heads and tiles (chapter 14). -/
namespace Sys2Proof.Machine
open Sys2Proof

/-- The images RASTER_HEAD_SET stages for a head (R406, R407). -/
structure HeadRegs where
  ctrl    : Word := 0
  delay   : Word := 0
  h       : Word := 0
  v       : Word := 0
  hsync   : Word := 0
  vsync   : Word := 0
  winPos  : Word := 0
  winSize : Word := 0
  bg      : Word := 0
  frzCtrl : Word := 0x00020000#32
  frzPos  : Word := 0
  frzSize : Word := 0
  deriving DecidableEq, Repr

/-- The images RASTER_TILE_SET stages for a tile. -/
structure TileRegs where
  ctrl : Word := 0
  pos  : Word := 0
  size : Word := 0
  ssrc : Word := 0
  deriving DecidableEq, Repr

/-- The raster objects: heads, and tiles by head x 4 + tile. -/
structure RasterCfg where
  heads : Tab HeadRegs := []
  tiles : Tab TileRegs := []
  deriving DecidableEq, Repr

/-- A line that underruns in a head frame: from which pixel on, and the uncorrectable error that is the reason
(R394). -/
structure Underrun where
  line  : Nat
  px    : Nat
  error : Option Hit := none
  deriving DecidableEq, Repr

end Sys2Proof.Machine
end

