-- ==== Sys2Proof/Config/Sec.lean ====
section
/-! DEFINITION. Config/Sec.lean: the operands of chapter 18: life-cycle states, what a boot finds, credentials,
manifests, chunks, chains, SPDM requests. -/
namespace Sys2Proof.Machine
open Sys2Proof

/-- The life-cycle states (R486). -/
inductive Lc where
  | raw | test | provisioned | field | fieldDebug | rma | scrapped
  deriving DecidableEq, Repr

/-- A part that fails the cold-boot self-test (R476). A bank is named by its SRAM region; a vital part is logic or memory
of one of the domains AON, SEC, FABRIC, DDR0 and HOST, at which boot stops. -/
inductive BootFail where
  | vital (domain : Nat) | ddr12 | stall (k : Nat) | eth (p : Nat) | line (n : Nat) | head (h : Nat) | lineBank (b : Nat)
  | bank (region : Nat) | logic (domain : Nat) | test
  deriving DecidableEq, Repr

/-- What a boot finds (log 31): the capacity of each DRAM channel, the failing parts, whether feed A of each dual
rail is in window, the PAIR_SIDE strap, the references present, whether the loader and the installed manifest's
signature verify, a component type whose bytes in flash do not match, the calibration values measured. -/
structure Boot where
  gib    : List Nat := [16, 16, 16]
  fails  : List BootFail := []
  coreA  : Bool := true
  aonA   : Bool := true
  side   : Bool := false
  ser0   : Bool := true
  ser1   : Bool := true
  pcie   : Bool := true
  loader : Bool := true
  sigOk  : Bool := true
  broken : Option Nat := none
  cal    : List CalVal := []
  deriving DecidableEq, Repr

/-- A credential (R491): its id, class mask, public key. -/
structure Cred where
  id   : Half
  mask : Byte
  key  : List Byte := []
  deriving DecidableEq, Repr

/-- The settings (R511). -/
structure Settings where
  creds   : List Cred := []
  wipe    : Bool := false
  mgmt    : List Byte := []
  rxAddrs : List Byte := []
  deriving DecidableEq, Repr

/-- A component entry of a manifest (R500). -/
structure ManComp where
  type    : Nat
  offset  : Nat
  length  : Nat
  version : Word
  digest  : Digest
  deriving DecidableEq, Repr

/-- A manifest (R500) as its fields; `clean` says that MAGIC and FORMAT are as stated and every reserved byte is 0. -/
structure Manifest where
  clean     : Bool := true
  keyIndex  : Nat := 0
  svn       : Nat := 0
  imageLen  : Nat := 0
  chunks    : Nat := 0
  pairProto : Byte := 1
  format    : Nat := 0
  version   : Word := 0
  head      : Digest := 0
  comps     : List ManComp := []
  compat    : List (Word × Word) := []
  deriving DecidableEq, Repr

/-- The payload of UPD_CHUNK (R506): whole chunks by descriptors, or half a chunk. -/
inductive ChunkIn where
  | bulk
  | half (chunk part : Nat) (data : List Byte)
  deriving DecidableEq, Repr

/-- A chain (R514): its egress port and the addresses that remain. -/
structure Chain where
  port  : Nat
  addrs : List (BitVec 128)
  deriving DecidableEq, Repr

/-- The signed measurements an SPDM request asks for (R495): the index of GET_MEASUREMENTS, the nonce. -/
structure SpdmMeas where
  index : Nat
  nonce : Option (BitVec 256) := none
  deriving DecidableEq, Repr

/-- What the device answers an SPDM request (R495): what the spec states of each response. -/
inductive SpdmResp where
  | version
  | capabilities
  | algorithms
  | digests (cert : Digest)
  | certificate (offset length : Nat)
  | challengeAuth (nonce : BitVec 256)
  | measurements (blocks : List (Nat × Digest)) (nonce : Option (BitVec 256))
  | error
  deriving DecidableEq, Repr

/-- The debug module's targets (R497): a core of Groom, a Stall. -/
inductive DbgCore where
  | groom | stall (k : Nat)
  deriving DecidableEq, Repr

end Sys2Proof.Machine
end

