-- ==== Sys2Proof/Config.lean ====
section
/-! DEFINITION. Config.lean: the whole configuration that a transaction stages and a commit puts in effect
(R58, R536), and the free values: opaque constants with no body, so that no proof can see what they are. -/
namespace Sys2Proof.Machine
open Sys2Proof

/-- The configuration: every configuration object of R536; `far` is FAR_CFG. -/
structure Cfg where
  ym   : YmCfg := {}
  time : TimeCfg := {}
  comp : CompCfg := {}
  map  : MapCfg := {}
  lamp : LampCfg := {}
  stl  : StlCfg := {}
  flow : FlowCfg := {}
  eth  : EthCfg := {}
  line : Tab LineRegs := []
  rst  : RasterCfg := {}
  pair : PairCfg := {}
  brd  : BrdCfg := {}
  far  : Word := 0x18E10258#32
  deriving DecidableEq, Repr

/-- A scheduled commit (R93 to R96): the frame it takes effect at (as a full count), its generation, its
configuration, the objects it changed. -/
structure Sched where
  frame   : Nat
  gen     : Nat
  cfg     : Cfg
  changed : List Nat := []
  deriving DecidableEq, Repr

/-- What the peer shows when a pair forms: its variant, protocol and firmware versions, whether the mirror session
authenticates, whether it holds the Halter; and, from a LEAD, its configuration as the SHADOW commits it with the
frames it takes effect at, and its sequence numbers (R299). -/
structure PeerShows where
  variant : Word
  proto   : Byte := 1
  version : Word := 0
  auth    : Bool := true
  holds   : Bool := false
  sched   : List Sched := []
  seqOff  : Word := 0
  cutSeq  : Word := 0
  ctrlSeq : Word := 0
  deriving DecidableEq, Repr

namespace Config

/-- A free natural number (log 5): nothing constrains it. -/
opaque freeNat : Nat → Nat
/-- The increment at which DT runs at the reference's own frequency, as the servo finds it (R132; log 5). -/
opaque refIncrement : Nat → Nat
/-- The clockIdentity of the device (R139). -/
opaque clockIdentity : DWord
/-- A free 384-bit value (log 5): a challenge, a measurement the spec does not give. -/
opaque freeBits : Nat → BitVec 384
/-- What a working component becomes beyond the binary16 range, where the spec states no result (log 15), in
units of 2^-24. -/
opaque overflow16 : Rat → Int
/-- Entry k of the linearisation table of HLG (2) or of PQ (1) for a PQ white, where the bounds that Transfer.lean computes
do not settle its rounding (R192, log 18). -/
opaque linTable : Nat → Nat → Nat → Nat
/-- Which free place the code of binary b takes among those of a Tack section (R288): a function of the configuration
alone whose values the spec leaves open (log 19). -/
opaque placeCode : Tab Binary → Nat → Nat
/-- Which free place its constants take (R288; log 19). -/
opaque placeConst : Tab Binary → Nat → Nat
/-- The DRAM channel in which Groom places a region whole (R30; log 27): 0 the parameter store, 1 the pixel map, 2
the canvas, 3 the Loft, 8 + l the buffers or the still of layer l. -/
opaque channelOf : Nat → Nat
/-- The OTP gradient coefficient c(i, j) of a die (R436; log 28). -/
opaque gradient : Nat → Nat → Int
/-- The die's serial number, OTP (R454; log 28). -/
opaque dieSerial : DWord
/-- The MAC address of an Ethernet port, OTP (R361; log 72). -/
opaque portMac : Nat → BitVec 48
/-- The sensors nearest to a calibration group, its place in bits 31:24 of an entry and the value ranges of the
OTP (R449, R454, R455; log 28). -/
opaque calSensors : Nat → Nat → List Nat
opaque calCode : Nat → Nat → Byte
opaque calGroup : Byte → Option (Nat × Nat)
opaque calInRange : Word → Bool
/-- Whether the mean temperature of a calibration record is rounded up (R454 gives no rounding). -/
opaque tempRoundsUp : Rat → Bool
/-- Whether the peer of a pair is at level 3 or above (R446; log 28): no command of the table tells it. -/
opaque peerHot : Nat → Bool
/-- The signature that the table holds for a Stall's slice (R474; log 29). -/
opaque signature : Nat → Nat → DWord
/-- SHA-384 (R494, R502; log 6): no number of it is computed here. -/
opaque sha384 : List Byte → Digest
/-- What boot extends measurement register 5 with: the life-cycle state and the debug-key revoke state, whose
encoding R493 leaves open (log 32). -/
opaque lcDigest : Lc → BitVec 2 → Digest
/-- The SHA-384 of the resident loader (R493; log 32). -/
opaque loaderDigest : Digest
/-- The digest of the attestation key's certificate chain (R491, R495; log 32). -/
opaque certDigest : Digest
/-- Which components enter a head's freeze signature, R G B or Y C_B C_R: R405 does not say which of a head's
outputs it takes (log 26). -/
opaque sigYcc : Nat → Bool
/-- A 10-bit chroma code where the rule's result exceeds 1,023 (R392 states none; log 26). -/
opaque chromaTop : Nat
/-- Byte i of a segment that moves to the host, as value k of the free values gives it: no command of the table names
bulk data that it returns (R55; log 33). -/
opaque bulkByte : Nat → Nat → Byte
/-- Byte i of the state of a cut for a flow, as value k of the free values gives it: no rule says where it comes from
(R308; log 34). -/
opaque cutState : Nat → Nat → Nat → Nat → Byte
/-- Byte i of the payload of an E1.31 packet with Stream_Terminated: no rule says what it holds (R322; log 37). -/
opaque endedByte : Nat → Nat → Byte
/-- Byte i of the frame buffer of a line port that no frame has been packed into yet, where R367 and R374 send the
previous frame again: the spec names none (log 50). -/
opaque priorByte : Nat → Nat → Byte
/-- The status that UPD_STATUS and UPD_INSTALL give for a hop that reports nothing within 120 s: no rule names one
(R515; log 32). -/
opaque silentHop : Status
/-- The telemetry snapshot of a block, whose contents and layout the spec leaves open (log 9). -/
opaque telemetry : Nat → Nat → List Byte

end Config
end Sys2Proof.Machine
end

