-- ==== Sys2Proof/Syntax.lean ====
section
/-! DEFINITION. Syntax.lean: the commands, one constructor per row of the opcode table. A register access
gives the requester's path and the values accessed; a mailbox command gives its mailbox and its payload, decoded
(log 9); an event gives what the event brings; a Tack row gives the Stall that executes its instruction. -/
namespace Sys2Proof
open Sys2Proof.Machine

/-- The commands of the block. -/
inductive Instr where
  /-- COLD_RESET (R25). -/
  | coldReset (b : Boot)
  /-- WARM_RESET (R525). -/
  | warmReset (b : Boot)
  /-- SUPPLY_COLLAPSE (R524). -/
  | supplyCollapse (core : Bool) (mvA mvB : Nat)
  /-- PCIE_RESET (R27). -/
  | pcieReset
  /-- SERDES_REF_LOSS (R23). -/
  | serdesRefLoss (r : RefClk)
  /-- SERDES_REF_RETURN (R23). -/
  | serdesRefReturn (r : RefClk)
  /-- ROOT_PLL_LOSS (R24). -/
  | rootPllLoss
  /-- ROOT_PLL_RELOCK (R24). -/
  | rootPllRelock
  /-- DOMAIN_POWER_ON (R26). -/
  | domainPowerOn (d : Nat)
  /-- NARROW_ACCESS (R8). -/
  | narrowAccess (p : Path) (write : Bool) (bytes addr : Nat)
  /-- UNPERMITTED_ACCESS (R33). -/
  | unpermittedAccess (p : Path) (write : Bool) (addr : Nat)
  /-- REGISTER_WRITE (R11). -/
  | registerWrite (p : Path) (r : RegW) (v : Word)
  /-- COUNTER_LO_READ (R9). -/
  | counterLoRead (p : Path) (r : Reg64)
  /-- ACCESS_ERR_CLEAR (R35). -/
  | accessErrClear (v : Word)
  /-- GLB_EVT_CAUSE_WRITE (R36). -/
  | glbEvtCauseWrite (v : Word)
  /-- SHEDDING_ENTER (R66). -/
  | sheddingEnter (ws : List Nat) (w : Nat)
  /-- SHEDDING_LEAVE (R66). -/
  | sheddingLeave (ws : List Nat) (w : Nat)
  /-- FRAME_BOUNDARY (R16). -/
  | frameBoundary (copied : List Nat)
  /-- GATE_FIRE (R99). -/
  | gateFire (errs : List LineBad)
  /-- MBX_RING (R44). -/
  | mbxRing (p : Path) (m : Nat)
  /-- MBX_ABORT (R47). -/
  | mbxAbort (p : Path) (m : Nat) (ring : Bool)
  /-- MBX_TAKE (R65). -/
  | mbxTake
  /-- MBX_EVT_CAUSE_WRITE (R45). -/
  | mbxEvtCauseWrite (p : Path) (v : Word)
  /-- MGMT_DATAGRAM (R41). -/
  | mgmtDatagram (x : MgmtMsg)
  /-- MGMT_ASSEMBLY_TIMEOUT (R41). -/
  | mgmtAssemblyTimeout (m : Nat) (tag : Word)
  /-- DTLS_HANDSHAKE (R39). -/
  | dtlsHandshake (x : Handshake)
  /-- DTLS_IDLE_EXPIRE (R39). -/
  | dtlsIdleExpire (m : Nat)
  /-- DMA_SEGMENT_DONE (R55). -/
  | dmaSegmentDone (m : Nat) (x : DmaSeg)
  /-- SESSION_IDLE_EXPIRE (R53). -/
  | sessionIdleExpire (id : Nat)
  /-- CFG_TXN_EXPIRE (R60). -/
  | cfgTxnExpire (id : Nat)
  /-- SESSION_OPEN (R52). -/
  | sessionOpen (m : Nat) (mask : Byte) (cred : Word)
  /-- SESSION_AUTH (R52). -/
  | sessionAuth (m : Nat) (verified : Bool)
  /-- SESSION_CLOSE (R53). -/
  | sessionClose (m : Nat)
  /-- SESSION_PING (R53). -/
  | sessionPing (m : Nat)
  /-- CFG_BEGIN (R58). -/
  | cfgBegin (m : Nat)
  /-- CFG_COMMIT (R61). -/
  | cfgCommit (m : Nat) (peer : PeerCommit)
  /-- CFG_ABORT (R62). -/
  | cfgAbort (m : Nat)
  /-- CFG_LOAD_IMAGE (R64). -/
  | cfgLoadImage (m len obj : Nat)
  /-- CFG_STAGE_CHUNK (R57). -/
  | cfgStageChunk (m obj offset : Nat) (data : List Byte)
  /-- CFG_STATUS (R535). -/
  | cfgStatus (m : Nat)
  /-- QUERY_CONFIG (R32). -/
  | queryConfig (m : Nat) (id : Word)
  /-- QUERY_STAGED (R32). -/
  | queryStaged (m : Nat) (id : Word)
  /-- QUERY_RESOURCE_MAP (R477). -/
  | queryResourceMap (m : Nat)
  /-- QUERY_TELEMETRY (R66). -/
  | queryTelemetry (m block : Nat)
  /-- QUERY_COUNTERS (R66). -/
  | queryCounters (m block : Nat)
  /-- LOG_READ (R67). -/
  | logRead (m : Nat) (first : Word) (count : Nat)
  /-- LOG_FLASH_READ (R67). -/
  | logFlashRead (m : Nat) (first : Word) (count : Nat)
  /-- LOG_CLEAR (R67). -/
  | logClear (m : Nat)
  /-- EVC_CLAIM (R74). -/
  | evcClaim (p : Path) (t : Nat)
  /-- EVC_VCLAIM (R83). -/
  | evcVclaim (p : Path) (v : Nat)
  /-- EVC_COMPLETE (R76). -/
  | evcComplete (p : Path) (t n : Nat)
  /-- EVC_SRC_CFG_WRITE (R79). -/
  | evcSrcCfgWrite (p : Path) (n : Nat) (v : Word)
  /-- EVC_ENABLE_APPLY (R78). -/
  | evcEnableApply (n t : Nat)
  /-- EVC_SRC_COUNT_READ (R70). -/
  | evcSrcCountRead (p : Path) (n : Nat)
  /-- EVC_TGT_STATUS_READ (R76). -/
  | evcTgtStatusRead (p : Path) (t : Nat)
  /-- EVC_SW_WRITE (R85). -/
  | evcSwWrite (v : Word)
  /-- MOD_TIMER_EXPIRE (R80). -/
  | modTimerExpire (t : Nat)
  /-- MSIX_UNMASK (R82). -/
  | msixUnmask (v : Nat)
  /-- PCIE_LINK_L0_RETURN (R81). -/
  | pcieLinkL0Return
  /-- GROOM_EVENT_POLL (R84). -/
  | groomEventPoll
  /-- CUT_ARM (R118). -/
  | cutArm (m c : Nat)
  /-- CUT_ARM_TIMEOUT (R118). -/
  | cutArmTimeout (m : Nat)
  /-- CUT_DISARM (R118). -/
  | cutDisarm (m c : Nat)
  /-- CUT_FIRE (R118). -/
  | cutFire (m c : Nat) (errs : List LineBad)
  /-- CUT_STATUS (R118). -/
  | cutStatus (m : Nat)
  /-- CUT_TRIGGER_WRITE (R120). -/
  | cutTriggerWrite (v : Word) (errs : List LineBad)
  /-- YM_EVT_CAUSE_WRITE (R126). -/
  | ymEvtCauseWrite (v : Word)
  /-- YM_SNAPSHOT (R126). -/
  | ymSnapshot
  /-- YM_CLEAR (R126). -/
  | ymClear
  /-- LT_WRAP (R127). -/
  | ltWrap
  /-- PTP_SYNC_RX (R136). -/
  | ptpSyncRx (t1 t2 : Int)
  /-- PTP_ANNOUNCE_RX (R139). -/
  | ptpAnnounceRx (a : Announce)
  /-- PTP_DELAY_REQ_TX (R139). -/
  | ptpDelayReqTx
  /-- PTP_DELAY_RESP_RX (R139). -/
  | ptpDelayRespRx (seq : Half) (t3 t4 : Int)
  /-- PTP_SYNC_TX (R140). -/
  | ptpSyncTx
  /-- PTP_ANNOUNCE_TX (R139). -/
  | ptpAnnounceTx
  /-- ANNOUNCE_RECEIPT_TIMEOUT (R137). -/
  | announceReceiptTimeout
  /-- SYNC_TIMEOUT (R137). -/
  | syncTimeout
  /-- HOUSE_EDGE (R145). -/
  | houseEdge (port : Nat) (rising : Bool) (errs : List LineBad)
  /-- HOUSE_SYNC_LOSS (R137). -/
  | houseSyncLoss (port : Nat)
  /-- INCREMENT_WRITE_TIMEOUT (R137). -/
  | incrementWriteTimeout
  /-- HOLDOVER_EXPIRE (R138). -/
  | holdoverExpire
  /-- ALIGN_FIRST_MEASUREMENT (R149). -/
  | alignFirstMeasurement (off : Int)
  /-- PEER_TIME_EXCHANGE (R150). -/
  | peerTimeExchange (off : Int)
  /-- TIME_CAPTURE (R131). -/
  | timeCapture (v : Word)
  /-- TIME_TRIG_CTRL_WRITE (R153). -/
  | timeTrigCtrlWrite (v : Word)
  /-- TIME_TRIGGER_FIRE (R153). -/
  | timeTriggerFire
  /-- TIME_EVT_CAUSE_WRITE (R152). -/
  | timeEvtCauseWrite (v : Word)
  /-- TIME_SET_ALIGN (R146). -/
  | timeSetAlign (m : Nat) (align wcRate : Word)
  /-- TIME_SET_PTP (R151). -/
  | timeSetPtp (m : Nat) (p : PtpSet)
  /-- TIME_SET_SERVO (R151). -/
  | timeSetServo (m : Nat) (jump slew lock hold : Nat)
  /-- TIME_FORCE_STEP (R134). -/
  | timeForceStep (m mode : Nat) (ns : Int) (lead : Option (Nat × Int))
  /-- TIME_STATUS (R152). -/
  | timeStatus (m : Nat)
  /-- INPUT_PACKET (R162). -/
  | inputPacket (i : Nat) (p : VideoPkt)
  /-- PEER_INPUT_COMPLETE (R163). -/
  | peerInputComplete (i : Nat) (ts : Word)
  /-- STRIPE_DONE (R180). -/
  | stripeDone (lines : List LineErr) (banks : List BankErr)
  /-- COMPOSITION_END (R181). -/
  | compositionEnd
  /-- LAYER_SET (R169). -/
  | layerSet (m l : Nat) (r : LayerRegs)
  /-- LAYER_ORDER (R172). -/
  | layerOrder (m : Nat) (prog : Bool) (order : Word)
  /-- CANVAS_SET (R154). -/
  | canvasSet (m : Nat) (size ctrl bgRg bgB : Word)
  /-- LAYER_INPUT_SET (R161). -/
  | layerInputSet (m i : Nat) (r : InputRec)
  /-- LAYER_WRITE (R164). -/
  | layerWrite (m l : Nat) (target : Word) (held : Option Nat)
  /-- LAYER_WRITE_BUFFER_FREE (R164). -/
  | layerWriteBufferFree (x : BufferFree)
  /-- LAYER_STILL_LOAD (R166). -/
  | layerStillLoad (m i : Nat) (format width height : Nat) (premult : Bool) (obj : Nat)
  /-- LAYER_COEF_SET (R170). -/
  | layerCoefSet (m i : Nat) (c : CoefSet)
  /-- LAYER_STATUS (R183). -/
  | layerStatus (m : Nat) (mask : Word)
  /-- COMP_EVT_CAUSE_WRITE (R184). -/
  | compEvtCauseWrite (v : Word)
  /-- COMP_SNAPSHOT (R184). -/
  | compSnapshot
  /-- COMP_CLEAR (R184). -/
  | compClear
  /-- SEGMENT_MAPPED (R203). -/
  | segmentMapped (j : Nat) (errs : List FillErr)
  /-- MAP_WINDOW_CLOSE (R207). -/
  | mapWindowClose
  /-- MAP_LOAD (R185). -/
  | mapLoad (m obj : Nat)
  /-- MAP_MODEL_SET (R204). -/
  | mapModelSet (m : Nat) (head : List Byte) (obj : Nat)
  /-- MAP_CURVE_SET (R198). -/
  | mapCurveSet (m i : Nat) (d : List Nat)
  /-- MAP_SET (R192). -/
  | mapSet (m : Nat) (pqWhite gm gmSrc probe : Word)
  /-- MAP_PATCH (R208). -/
  | mapPatch (m : Nat) (ps : List (Nat × PixRec))
  /-- MAP_EVT_CAUSE_WRITE (R209). -/
  | mapEvtCauseWrite (v : Word)
  /-- MAP_SNAPSHOT (R209). -/
  | mapSnapshot
  /-- MAP_CLEAR (R209). -/
  | mapClear
  /-- LAMP_SET_NUMBER_SEND (R214). -/
  | lampSetNumberSend
  /-- LAMP_BIN_SET (R213). -/
  | lampBinSet (m : Nat) (rs : List (Nat × BinRec))
  /-- LAMP_CIRCUIT_SET (R219). -/
  | lampCircuitSet (m : Nat) (rs : List (Nat × Circuit))
  /-- LAMP_GROUP_SET (R226). -/
  | lampGroupSet (m : Nat) (x : GroupBulk)
  /-- LAMP_CFG_SET (R234). -/
  | lampCfgSet (m : Nat) (floor staleD telem proof measCode : Word)
  /-- LAMP_GROUP_RESET (R229). -/
  | lampGroupReset (m : Nat) (x : GroupReset)
  /-- LAMP_STATUS (R223). -/
  | lampStatus (m first count : Nat) (currents : Bool)
  /-- LAMP_GROUP_STATUS (R228). -/
  | lampGroupStatus (m first count : Nat)
  /-- LAMP_EVT_CAUSE_READ (R235). -/
  | lampEvtCauseRead (p : Path)
  /-- SLOT_PRIME (R241). -/
  | slotPrime
  /-- DELAY_MET (R244). -/
  | delayMet (t : Nat)
  /-- TASK_DISPATCH (R246). -/
  | taskDispatch (k : Nat) (bad : Option Hit)
  /-- TASK_PREEMPT (R248). -/
  | taskPreempt (k : Nat)
  /-- SWITCH_HANDLER_TIMEOUT (R283). -/
  | switchHandlerTimeout (k : Nat)
  /-- LOFT_REFILL (R250). -/
  | loftRefill (bad : Option Hit)
  /-- FARRIER_GRANT (R247). -/
  | farrierGrant (k : Nat)
  /-- PDK_BUSY_WINDOW (R258). -/
  | pdkBusyWindow
  /-- PDK_GRAPH_SET (R238). -/
  | pdkGraphSet (m obj : Nat)
  /-- PDK_CORE_SET (R259). -/
  | pdkCoreSet (m : Nat) (images : List Word)
  /-- PDK_CANCEL (R251). -/
  | pdkCancel (m : Nat) (task flags : Nat) (fn : Word)
  /-- PDK_TASK_STATUS (R259). -/
  | pdkTaskStatus (m : Nat) (first count : Nat)
  /-- PDK_EVT_CAUSE_READ (R261). -/
  | pdkEvtCauseRead (p : Path) (k : Nat)
  /-- PDK_SNAPSHOT (R261). -/
  | pdkSnapshot
  /-- PDK_CLEAR (R261). -/
  | pdkClear
  /-- ADD (R268). -/
  | add (k : Nat)
  /-- SUB (R268). -/
  | sub (k : Nat)
  /-- AND (R268). -/
  | and (k : Nat)
  /-- OR (R268). -/
  | or (k : Nat)
  /-- XOR (R268). -/
  | xor (k : Nat)
  /-- SHL (R268). -/
  | shl (k : Nat)
  /-- SHR (R268). -/
  | shr (k : Nat)
  /-- SAR (R268). -/
  | sar (k : Nat)
  /-- MUL (R268). -/
  | mul (k : Nat)
  /-- MULH (R268). -/
  | mulh (k : Nat)
  /-- MULQ (R268). -/
  | mulq (k : Nat)
  /-- MIN (R268). -/
  | min (k : Nat)
  /-- MAX (R268). -/
  | max (k : Nat)
  /-- ADDS (R268). -/
  | adds (k : Nat)
  /-- SUBS (R268). -/
  | subs (k : Nat)
  /-- CLZ (R268). -/
  | clz (k : Nat)
  /-- DIVU (R270). -/
  | divu (k : Nat)
  /-- SEL (R268). -/
  | sel (k : Nat)
  /-- ADDI (R268). -/
  | addi (k : Nat)
  /-- ANDI (R268). -/
  | andi (k : Nat)
  /-- ORI (R268). -/
  | ori (k : Nat)
  /-- XORI (R268). -/
  | xori (k : Nat)
  /-- MOVI (R268). -/
  | movi (k : Nat)
  /-- MOVHI (R268). -/
  | movhi (k : Nat)
  /-- CMPEQ (R268). -/
  | cmpeq (k : Nat)
  /-- CMPLT (R268). -/
  | cmplt (k : Nat)
  /-- CMPLTU (R268). -/
  | cmpltu (k : Nat)
  /-- PLOG (R268). -/
  | plog (k : Nat)
  /-- BR (R268). -/
  | br (k : Nat)
  /-- CALL (R268). -/
  | call (k : Nat)
  /-- RET (R268). -/
  | ret (k : Nat)
  /-- DBNZ (R268). -/
  | dbnz (k : Nat)
  /-- ENDT (R275). -/
  | endt (k : Nat)
  /-- CANCEL (R282). -/
  | cancel (k : Nat)
  /-- EVT (R268). -/
  | evt (k : Nat)
  /-- SRD (R271). -/
  | srd (k : Nat)
  /-- LDW (R268). -/
  | ldw (k : Nat)
  /-- STW (R268). -/
  | stw (k : Nat)
  /-- LDH (R268). -/
  | ldh (k : Nat)
  /-- STH (R268). -/
  | sth (k : Nat)
  /-- VLD (R268). -/
  | vld (k : Nat)
  /-- VST (R268). -/
  | vst (k : Nat)
  /-- PLD (R274). -/
  | pld (k : Nat) (hit : Bool)
  /-- PST (R274). -/
  | pst (k : Nat)
  /-- VPLD (R274). -/
  | vpld (k : Nat) (hit : Bool)
  /-- VPST (R274). -/
  | vpst (k : Nat)
  /-- LST (R277). -/
  | lst (k cyc : Nat)
  /-- VLST (R277). -/
  | vlst (k cyc : Nat)
  /-- CLD (R278). -/
  | cld (k cyc : Nat)
  /-- VADD (R269). -/
  | vadd (k : Nat)
  /-- VSUB (R269). -/
  | vsub (k : Nat)
  /-- VMUL (R269). -/
  | vmul (k : Nat)
  /-- VMINMAX (R269). -/
  | vminmax (k : Nat)
  /-- VSHF (R269). -/
  | vshf (k : Nat)
  /-- VLOG (R269). -/
  | vlog (k : Nat)
  /-- VCMP (R269). -/
  | vcmp (k : Nat)
  /-- VMOV (R269). -/
  | vmov (k : Nat)
  /-- VLERP (R268). -/
  | vlerp (k : Nat)
  /-- ARG_RECORD_FETCHED (R271). -/
  | argRecordFetched (k cyc : Nat)
  /-- CACHE_MISS_FILL (R273). -/
  | cacheMissFill (k cyc : Nat)
  /-- CLD_ROW_VISIBLE (R278). -/
  | cldRowVisible (k cyc : Nat)
  /-- BUDGET_EXHAUSTED (R280). -/
  | budgetExhausted (k : Nat)
  /-- SEAL_COMPLETE (R275). -/
  | sealComplete (k : Nat)
  /-- STALL_SCRUB_READ (R266). -/
  | stallScrubRead (k a : Nat) (e : Ecc)
  /-- TACK_FIXTURE_SET (R284). -/
  | tackFixtureSet (m obj : Nat)
  /-- TACK_LOAD (R287). -/
  | tackLoad (m obj : Nat)
  /-- TACK_STATUS (R289). -/
  | tackStatus (m : Nat) (mask : Word)
  /-- TACK_PARAM_READ (R289). -/
  | tackParamRead (m : Nat) (first count : Nat)
  /-- STL_EVT_CAUSE_READ (R290). -/
  | stlEvtCauseRead (p : Path) (k : Nat)
  /-- STL_SNAPSHOT (R290). -/
  | stlSnapshot
  /-- STL_CLEAR (R290). -/
  | stlClear
  /-- PACK_DONE (R295). -/
  | packDone (errs : List FillErr)
  /-- RING_SPACE_FREED (R297). -/
  | ringSpaceFreed (errs : List FillErr)
  /-- ETH_FRAME_TX_START (R298). -/
  | ethFrameTxStart (p : Nat)
  /-- ETH_FRAME_TX_DONE (R298). -/
  | ethFrameTxDone (p : Nat)
  /-- YARDLINE_RECEIVE (R319). -/
  | yardlineReceive (p : Nat) (x : YlMsg) (errs : List LineBad)
  /-- SACN_DISCOVERY_TX (R322). -/
  | sacnDiscoveryTx
  /-- FLOW_LOAD (R327). -/
  | flowLoad (m obj : Nat)
  /-- FLOW_SET (R293). -/
  | flowSet (m : Nat) (rs : List (Nat × FlowRec))
  /-- FLOW_PARAM_SET (R294). -/
  | flowParamSet (m first : Nat) (es : List Word)
  /-- FLOW_SETTINGS (R327). -/
  | flowSettings (m : Nat) (b : FlowSet)
  /-- FLOW_STATUS (R326). -/
  | flowStatus (m first count : Nat)
  /-- FLOW_DIAG (R326). -/
  | flowDiag (m stream code : Nat) (data : List Byte)
  /-- FLOW_DIAG_TIMEOUT (R326). -/
  | flowDiagTimeout (m : Nat)
  /-- FLW_TX_EVT_CAUSE_READ (R328). -/
  | flwTxEvtCauseRead (q : Path) (p : Nat)
  /-- YL_RX_EVT_CAUSE_READ (R328). -/
  | ylRxEvtCauseRead (q : Path) (p : Nat)
  /-- ETH_LINK_UP (R333). -/
  | ethLinkUp (p : Nat)
  /-- ETH_LINK_DOWN (R333). -/
  | ethLinkDown (p : Nat)
  /-- ETH_FRAME_RX (R334). -/
  | ethFrameRx (p : Nat) (f : RxFrame)
  /-- RX_DESC_POLL (R339). -/
  | rxDescPoll (p q : Nat) (own : Bool)
  /-- ARP_REFRESH (R333). -/
  | arpRefresh (p : Nat)
  /-- PAUSE_EXPIRE (R348). -/
  | pauseExpire (p : Nat)
  /-- CT_UNDERRUN (R346). -/
  | ctUnderrun (p : Nat)
  /-- CT_THRESHOLD_DECAY (R346). -/
  | ctThresholdDecay (p : Nat)
  /-- LPI_ENTER (R351). -/
  | lpiEnter (p : Nat)
  /-- LPI_GATE_WAKE (R351). -/
  | lpiGateWake (p : Nat)
  /-- LLDP_TX (R350). -/
  | lldpTx (p : Nat)
  /-- TSQ_DRAIN (R352). -/
  | tsqDrain (p : Nat)
  /-- ETH_PORT_SET (R360). -/
  | ethPortSet (m p : Nat) (r : PortRegs)
  /-- ETH_FILTER_SET (R360). -/
  | ethFilterSet (m p : Nat) (r : FilterRegs)
  /-- ETH_RING_SET (R360). -/
  | ethRingSet (m p q : Nat) (base : DWord)
  /-- ETH_RING_RESTART (R358). -/
  | ethRingRestart (m p : Nat) (mask : Byte)
  /-- ETH_TX (R360). -/
  | ethTx (m p : Nat) (stamp : Bool) (tag : Half) (frame : List Byte)
  /-- ETH_RX_READ (R360). -/
  | ethRxRead (m p q count : Nat)
  /-- ETH_STATUS (R360). -/
  | ethStatus (m : Nat) (mask : Half)
  /-- ETH_TX_EVT_CAUSE_READ (R361). -/
  | ethTxEvtCauseRead (q : Path) (p : Nat)
  /-- ETH_RX_EVT_CAUSE_READ (R361). -/
  | ethRxEvtCauseRead (q : Path) (p : Nat)
  /-- ETH_SNAPSHOT (R361). -/
  | ethSnapshot (p : Nat)
  /-- ETH_CLEAR (R361). -/
  | ethClear (p : Nat)
  /-- LINE_FRAME_START (R374). -/
  | lineFrameStart (n : Nat) (errs : List LineBad)
  /-- DMX_PACKET_END (R366). -/
  | dmxPacketEnd (n : Nat)
  /-- RDM_TXN_START (R368). -/
  | rdmTxnStart (n : Nat)
  /-- RDM_RESPONSE (R369). -/
  | rdmResponse (n : Nat) (brk : Word) (bytes : List Byte) (good : Bool)
  /-- RDM_RESPONSE_TIMEOUT (R369). -/
  | rdmResponseTimeout (n : Nat)
  /-- RDM_NO_WINDOW (R369). -/
  | rdmNoWindow (n : Nat)
  /-- MANGER_READ (R381). -/
  | mangerRead (n : Nat)
  /-- DRIVE_ENABLE_COLLAPSE (R363). -/
  | driveEnableCollapse (n : Nat)
  /-- DRIVE_ENABLE_RETURN (R364). -/
  | driveEnableReturn (n : Nat)
  /-- TRIGGER_INPUT_EDGE (R376). -/
  | triggerInputEdge (n : Nat) (rising : Bool) (errs : List LineBad)
  /-- TRIGGER_PULSE_END (R377). -/
  | triggerPulseEnd (n : Nat)
  /-- SHORT_DETECT (R379). -/
  | shortDetect (n : Nat)
  /-- SHORT_SHUTOFF (R379). -/
  | shortShutoff (n : Nat)
  /-- LINE_PORT_SET (R365). -/
  | linePortSet (m n : Nat) (r : LineRegs)
  /-- LINE_RDM (R368). -/
  | lineRdm (m n : Nat) (q : RdmReq)
  /-- LINE_RDM_DISCOVER (R370). -/
  | lineRdmDiscover (m n : Nat) (full : Bool)
  /-- LINE_RDM_UIDS (R370). -/
  | lineRdmUids (m n first count : Nat)
  /-- LINE_STATUS (R385). -/
  | lineStatus (m : Nat) (mask : DWord)
  /-- LP_EVT_CAUSE_READ (R386). -/
  | lpEvtCauseRead (q : Path) (n : Nat)
  /-- LP_SNAPSHOT (R386). -/
  | lpSnapshot
  /-- LP_CLEAR (R386). -/
  | lpClear
  /-- HEAD_FRAME_START (R388). -/
  | headFrameStart (h : Nat) (us : List Underrun)
  /-- HEAD_SHADOW_TAKE (R389). -/
  | headShadowTake (h : Nat)
  /-- HEAD_SIGNATURE_DONE (R405). -/
  | headSignatureDone (h : Nat)
  /-- TILE_PACKET_DUE (R398). -/
  | tilePacketDue (h t : Nat)
  /-- DP_HOTPLUG (R401). -/
  | dpHotplug (h : Nat) (edid : List Byte) (trained : Bool)
  /-- DP_LINK_LOSS (R401). -/
  | dpLinkLoss (h : Nat) (unplugged : Bool)
  /-- RASTER_HEAD_SET (R406). -/
  | rasterHeadSet (m : Nat) (hs : List (Nat × HeadRegs))
  /-- RASTER_TILE_SET (R406). -/
  | rasterTileSet (m h t : Nat) (r : TileRegs)
  /-- RASTER_STATUS (R406). -/
  | rasterStatus (m : Nat) (mask : Word)
  /-- RASTER_DP_EDID (R406). -/
  | rasterDpEdid (m h first count : Nat)
  /-- RST_EVT_CAUSE_READ (R407). -/
  | rstEvtCauseRead (q : Path) (h : Nat)
  /-- RST_SNAPSHOT (R407). -/
  | rstSnapshot
  /-- RST_CLEAR (R407). -/
  | rstClear
  /-- FEED_FAULT (R410). -/
  | feedFault (k : Rail) (b : Bool) (sample : Nat)
  /-- FEED_IN_WINDOW (R412). -/
  | feedInWindow (k : Rail) (b : Bool) (sample : Nat)
  /-- FEED_RESYNC_COMPLETE (R412). -/
  | feedResyncComplete (k : Rail) (b : Bool)
  /-- FEED_PERIODIC_SWAP (R414). -/
  | feedPeriodicSwap
  /-- FEED_AON_SWAP (R414). -/
  | feedAonSwap
  /-- HEARTBEAT_TX (R416). -/
  | heartbeatTx
  /-- HEARTBEAT_RX (R416). -/
  | heartbeatRx
  /-- HEARTBEAT_MISSED (R416). -/
  | heartbeatMissed
  /-- HEARTBEAT_LOSS (R427). -/
  | heartbeatLoss
  /-- HALTER_WATCHDOG (R418). -/
  | halterWatchdog
  /-- HALTER_IN_LOW (R426). -/
  | halterInLow
  /-- HALTER_IN_HIGH (R418). -/
  | halterInHigh
  /-- HALTER_RAISE (R418). -/
  | halterRaise
  /-- LANE_DOWN (R415). -/
  | laneDown (k : Nat)
  /-- LANE_UP (R415). -/
  | laneUp (k : Nat)
  /-- PAIR_FORM (R420). -/
  | pairForm (x : PeerShows)
  /-- PAIR_IN_SYNC (R420). -/
  | pairInSync (hash : Digest) (peerOk : Bool)
  /-- FRAME_HASH_RX (R424). -/
  | frameHashRx (f n : Nat) (h : Word)
  /-- HASH_COMPARE_DEADLINE (R424). -/
  | hashCompareDeadline
  /-- SWAP_GAP_START (R429). -/
  | swapGapStart
  /-- SWAP_POSTPONE (R430). -/
  | swapPostpone
  /-- SWAP_INTERVAL_EXPIRE (R429). -/
  | swapIntervalExpire
  /-- PREFERRED_REVERSION (R431). -/
  | preferredReversion
  /-- PAIR_SET (R432). -/
  | pairSet (m : Nat) (x : PairCfg)
  /-- PAIR_SWAP (R429). -/
  | pairSwap (m : Nat)
  /-- PAIR_STATUS (R432). -/
  | pairStatus (m : Nat)
  /-- FEED_SET (R414). -/
  | feedSet (m : Nat) (image : Word)
  /-- FEED_SWAP (R414). -/
  | feedSwap (m : Nat) (mask : Word)
  /-- FEED_STATUS (R432). -/
  | feedStatus (m : Nat)
  /-- PAIR_EVT_CAUSE_READ (R433). -/
  | pairEvtCauseRead (q : Path)
  /-- PAIR_SNAPSHOT (R433). -/
  | pairSnapshot
  /-- PAIR_CLEAR (R433). -/
  | pairClear
  /-- SENSOR_SAMPLE (R435). -/
  | sensorSample (raws : List (Option Int)) (power : Nat)
  /-- TRIP_HOLD_MESSAGE (R447). -/
  | tripHoldMessage
  /-- TRIP_TX_STOP (R447). -/
  | tripTxStop
  /-- TRIP_DOMAINS_OFF (R447). -/
  | tripDomainsOff
  /-- TRIP_HOST_OFF (R447). -/
  | tripHostOff
  /-- GRACE_EXPIRE (R440). -/
  | graceExpire
  /-- HOLD_FALL_EXPIRE (R440). -/
  | holdFallExpire
  /-- CAL_MEASURE_DONE (R450). -/
  | calMeasureDone (vals : List CalVal)
  /-- CAL_APPLY (R450). -/
  | calApply (kind index : Nat) (spare : Bool)
  /-- DDR_QUIET (R451). -/
  | ddrQuiet
  /-- BRIDLE_SET (R456). -/
  | bridleSet (m : Nat) (image : Word)
  /-- BRIDLE_STATUS (R457). -/
  | bridleStatus (m : Nat)
  /-- BRIDLE_WAIT (R441). -/
  | bridleWait (m timeoutMs : Nat)
  /-- BRIDLE_WAIT_TIMEOUT (R456). -/
  | bridleWaitTimeout (m : Nat)
  /-- BRIDLE_SENSOR_CLEAR (R436). -/
  | bridleSensorClear (m : Nat) (mask : BitVec 24)
  /-- CAL_SET (R456). -/
  | calSet (m : Nat) (image : Word)
  /-- CAL_RUN (R450). -/
  | calRun (m : Nat) (kinds : Word)
  /-- CAL_READ (R454). -/
  | calRead (m : Nat) (seq : Word)
  /-- CAL_RESTORE (R455). -/
  | calRestore (m : Nat) (bytes : List Byte)
  /-- BRD_EVT_CAUSE_READ (R457). -/
  | brdEvtCauseRead (q : Path)
  /-- BRD_SNAPSHOT (R457). -/
  | brdSnapshot
  /-- BRD_CLEAR (R457). -/
  | brdClear
  /-- SRAM_SCRUB (R462). -/
  | sramScrub (region addr : Nat) (x : ScrubRead) (held : Option PdkWord)
  /-- PATROL_READ (R463). -/
  | patrolRead (c word : Nat) (r again : EccRead)
  /-- CHECK_CLAIM (R465). -/
  | checkClaim (p : Path) (u : Nat) (v : Word)
  /-- CHECK_START (R466). -/
  | checkStart (p : Path) (u : Nat)
  /-- CHECK_SYNC_START (R468). -/
  | checkSyncStart (u : Nat)
  /-- CHECK_DATA (R466). -/
  | checkData (p : Path) (u : Nat) (v : Word)
  /-- CHECK_DATA8 (R466). -/
  | checkData8 (p : Path) (u : Nat) (v : Word)
  /-- CHECK_FINISH (R470). -/
  | checkFinish (p : Path) (u : Nat)
  /-- CHECK_ABORT_CMD (R472). -/
  | checkAbortCmd (p : Path) (u fed : Nat)
  /-- CHECK_RESUME (R473). -/
  | checkResume (p : Path) (u : Nat)
  /-- CHECK_SCAN_DONE (R467). -/
  | checkScanDone (u : Nat) (bad : Option (Nat × Hit))
  /-- CHECK_STATUS_WRITE (R470). -/
  | checkStatusWrite (p : Path) (u : Nat) (v : Word)
  /-- FARRIER_ROUND (R478). -/
  | farrierRound
  /-- SLICE_END (R478). -/
  | sliceEnd (sig : DWord)
  /-- SLICE_DEFER (R479). -/
  | sliceDefer
  /-- ROTATION_START (R481). -/
  | rotationStart (r : Nat)
  /-- MARCH_DONE (R481). -/
  | marchDone (r : Nat) (pass : Bool)
  /-- CHECK_RUN (R483). -/
  | checkRun (m u : Nat) (img : ChkImages) (data : List Byte)
  /-- CHECK_ABORT (R483). -/
  | checkAbort (m u fed : Nat)
  /-- TEST_SET (R484). -/
  | testSet (m : Nat) (image : Word)
  /-- TEST_RUN (R483). -/
  | testRun (m kind index : Nat)
  /-- TEST_STATUS (R483). -/
  | testStatus (m : Nat)
  /-- FAR_EVT_CAUSE_READ (R484). -/
  | farEvtCauseRead (p : Path)
  /-- GET_VERSION (R495). -/
  | getVersion (via : Transport)
  /-- GET_CAPABILITIES (R495). -/
  | getCapabilities (via : Transport)
  /-- NEGOTIATE_ALGORITHMS (R495). -/
  | negotiateAlgorithms (via : Transport)
  /-- GET_DIGESTS (R495). -/
  | getDigests (via : Transport)
  /-- GET_CERTIFICATE (R495). -/
  | getCertificate (via : Transport) (slot offset length : Nat)
  /-- CHALLENGE (R495). -/
  | challenge (via : Transport) (slot : Nat) (nonce : BitVec 256)
  /-- GET_MEASUREMENTS (R495). -/
  | getMeasurements (via : Transport) (q : SpdmMeas)
  /-- TAP_DEBUG_UNLOCK (R498). -/
  | tapDebugUnlock (phase : Nat) (verified : Bool)
  /-- UNLOCK_CHALLENGE_EXPIRE (R498). -/
  | unlockChallengeExpire
  /-- DEBUG_HALT (R499). -/
  | debugHalt (c : DbgCore)
  /-- UPD_LOCK_TIMEOUT (R504). -/
  | updLockTimeout
  /-- UPD_BEGIN (R504). -/
  | updBegin (m : Nat) (chain : Option Chain)
  /-- UPD_MANIFEST (R501). -/
  | updManifest (m : Nat) (bytes : List Byte) (sigOk : Bool)
  /-- UPD_CHUNK (R506). -/
  | updChunk (m : Nat) (c : ChunkIn)
  /-- UPD_INSTALL (R507). -/
  | updInstall (m : Nat) (chain : Bool) (mism : List Nat)
  /-- UPD_ACTIVATE (R509). -/
  | updActivate (m : Nat) (b : Boot)
  /-- UPD_CONFIRM (R510). -/
  | updConfirm (m : Nat)
  /-- UPD_END (R504). -/
  | updEnd (m : Nat)
  /-- UPD_STATUS (R519). -/
  | updStatus (m : Nat)
  /-- SEC_STATUS (R519). -/
  | secStatus (m : Nat)
  /-- SEC_LC_SET (R487). -/
  | secLcSet (m : Nat) (target : Lc) (verified : Bool) (b : Boot)
  /-- SEC_CRED_SET (R518). -/
  | secCredSet (m : Nat) (c : Cred)
  /-- SEC_CRED_DEL (R518). -/
  | secCredDel (m : Nat) (id : Half)
  /-- SEC_DEBUG_UNLOCK (R498). -/
  | secDebugUnlock (m phase : Nat) (verified : Bool)
  /-- SEC_SETTINGS_SET (R511). -/
  | secSettingsSet (m : Nat) (wipe : Bool) (mgmt rxAddrs : List Byte)
  /-- SEC_KEY_REVOKE (R492). -/
  | secKeyRevoke (m k : Nat)
  /-- SEC_EVT_CAUSE_READ (R519). -/
  | secEvtCauseRead (p : Path)
  /-- UPDATE_OFFER (R514). -/
  | updateOffer (port : Nat) (addr : BitVec 128) (id : Nat) (man : List Byte) (chain : Option Chain) (sigOk : Bool)
  /-- UPDATE_ACCEPT (R514). -/
  | updateAccept (addr : BitVec 128) (id : Nat) (version : Word)
  /-- UPDATE_BUSY (R514). -/
  | updateBusy (addr : BitVec 128) (id : Nat)
  /-- UPDATE_CHUNK (R514). -/
  | updateChunk (addr : BitVec 128) (id k : Nat) (data : List Byte)
  /-- UPDATE_ACK (R514). -/
  | updateAck (addr : BitVec 128) (id k : Nat)
  /-- CHAIN_ACK_TIMEOUT (R514). -/
  | chainAckTimeout
  /-- UPDATE_INSTALL (R515). -/
  | updateInstall (addr : BitVec 128) (id : Nat) (mism : List Nat) (b : Boot)
  /-- UPDATE_INSTALLED (R515). -/
  | updateInstalled (addr : BitVec 128) (id hop : Nat) (mism : List Nat) (b : Boot)
  /-- UPDATE_FAILED (R515). -/
  | updateFailed (addr : BitVec 128) (id hop : Nat) (st : Status)
  /-- UPDATE_ABORT (R516). -/
  | updateAbort (addr : BitVec 128) (id : Nat)
  /-- CHAIN_HOP_TIMEOUT (R515). -/
  | chainHopTimeout
  /-- PTP_DELAY_REQ_RX (R139). -/
  | ptpDelayReqRx (seq : Half)
  /-- PEER_CUT_TRIGGER (R124). -/
  | peerCutTrigger (c : Nat) (errs : List LineBad)
  /-- PEER_LAMP_FORWARD (R214). -/
  | peerLampForward (f : LampFwd)
  /-- PEER_LAYER_COPY (R164). -/
  | peerLayerCopy (l frame : Nat) (data : List Byte)
  /-- DDR_APPLY_REQUEST (R452). -/
  | ddrApplyRequest (frame : Nat)
  /-- SWAP_GAP_NOTICE (R429). -/
  | swapGapNotice (ts : Nat)
  /-- PCIE_L1_OR_D3HOT_ENTRY (R81). -/
  | pcieL1OrD3hotEntry (d3 : Bool)
  /-- DEBUG_RESUME (R499). -/
  | debugResume (c : DbgCore)
  /-- TAP_SCAN_SHIFT (R475). -/
  | tapScanShift
  /-- FACTORY_TOKEN (R486). -/
  | factoryToken (verified : Bool) (b : Boot)
  deriving DecidableEq, Repr

end Sys2Proof
end

