-- ==== Sys2Proof/Decode.lean ====
section
/-! DEFINITION. Decode.lean: what a word of the opcode table spells. No row of spec/opcode_table.json gives a bit
(every row's fields are empty: the commands are events, register accesses and mailbox commands, not words of a
program), so no word spells a command. The Tack instructions are rows too, but their words are read by the Stall that
executes them, from its own instruction memory (Machine/TackWord.lean). -/
namespace Sys2Proof

/-- The command that a word spells by the table's bits: none of its rows gives any. -/
def decodeTableWord (_nbits _w : Nat) : Option Instr := none

end Sys2Proof
end

