-- ==== Sys2Proof/Machine/Rec/Bridle.lean ====
section
/-! DEFINITION. Machine/Rec/Bridle.lean: the state records of the Bridle and of calibration (chapter 16). -/
namespace Sys2Proof.Machine
open Sys2Proof

/-- A hold (R444): the held content H, and whether calibration, not level 3, is its cause. -/
structure Hold where
  content : Nat
  cal     : Bool := false
  deriving DecidableEq, Repr

/-- A calibration run (R450): the groups, the mailbox that waits for M, the values restored, whether step 2 is
done, the values still to apply. -/
structure CalRun where
  groups   : List (Nat × Nat)
  box      : Option Nat := none
  restored : Option (List CalVal) := none
  measured : Bool := false
  left     : List (Nat × Nat) := []
  vals     : List CalVal := []
  deriving DecidableEq, Repr

/-- Calibration: the run in progress, groups that the next run serves, M of the latest run, the boundary after
which a quiet is scheduled, deferred kinds, the values in force, which of two cells is active by group
(kind x 256 + index), the groups whose lost spare has been reported, reference temperatures at the last run. -/
structure Cal where
  run      : Option CalRun := none
  next     : List (Nat × Nat) := []
  applyFn  : Word := 0
  applyAt  : Nat := 0
  quiet    : Option Nat := none
  deferred : BitVec 5 := 0
  vals     : List CalVal := []
  cells    : Tab Bool := []
  lost     : List Nat := []
  refs     : Tab Rat := []
  deriving DecidableEq, Repr

/-- The Bridle. `raw` and `used` are sensor values in 1/16 C (a raw value of none: no count), `streak` counts the
consecutive deviating samples, `grace` is when the grace timer started, `expired` that it has expired, `fallAt`
when HOLD_FALL ends, `helds` the held contents with the content that each repeats, `hot` those of level-3 holds, `waits` the BRIDLE_WAITs with their deadlines, `trip` the instant of a trip, `tripMsgs` the
HOLD messages sent since, `txStop` that the transmitters have stopped, `dark` that the domains are off. -/
structure Brd where
  raw      : List (Option Int) := List.replicate 24 (some 0)
  used     : List Int := List.replicate 24 0
  failed   : BitVec 24 := 0
  streak   : List Nat := List.replicate 24 0
  sampleAt : Option Nat := none
  tmax     : Int := 0
  hottest  : Nat := 0
  level    : Nat := 0
  low      : Bool := false
  grace    : Option Nat := none
  expired  : Bool := false
  fallAt   : Option Nat := none
  waits    : List (Nat × Nat) := []
  hold     : Option Hold := none
  helds    : Tab Nat := []
  hot      : List Nat := []
  trip     : Option Nat := none
  tripMsgs : Nat := 0
  txStop   : Bool := false
  dark     : Bool := false
  budget   : Tab Nat := []
  spent    : Tab Nat := []
  cal      : Cal := {}
  deriving DecidableEq, Repr

end Sys2Proof.Machine
end

