-- ==== Sys2Proof/Machine/Rec/Comp.lean ====
section
/-! DEFINITION. Machine/Rec/Comp.lean: the state records of the compositor (chapter 06). -/
namespace Sys2Proof.Machine
open Sys2Proof

/-- The states of a layer buffer (R158). -/
inductive BufSt where
  | free | filling | ready | latched
  deriving DecidableEq, Repr

/-- A layer buffer: its state, its pixels, for an input the frame's time in device nanoseconds and RTP
timestamp, for a host layer its latch frame. -/
structure LBuf where
  st    : BufSt := .free
  data  : Mem := []
  time  : Nat := 0
  ts    : Word := 0
  frame : Nat := 0
  deriving DecidableEq, Repr

/-- A layer's buffers 0 to 2, the LATCHED one, COMP_L_LATCH_FN; whether a packet of its input has arrived since the
layer became effective (R159). -/
structure LayerSt where
  bufs    : Tab LBuf := []
  latched : Option Nat := none
  latchFn : Word := 0
  heard   : Bool := false
  deriving DecidableEq, Repr

/-- An input's reception (R159, R162): the frame being filled (RTP timestamp, buffer by layer, the octets
written per row as ranges), the next extended sequence number, a geometry mismatch, whether the frame has ended or was discarded, the times of the
frames of which a packet arrived, those the peer reported complete with the instant of the report. -/
structure InputSt where
  ts       : Option Word := none
  bufs     : Tab Nat := []
  rows     : Tab (List (Nat × Nat)) := []
  nextSeq  : Option Nat := none
  mismatch : Bool := false
  dropped  : Bool := false
  times    : List Nat := []
  peerDone : List (Word × Nat) := []
  deriving DecidableEq, Repr

/-- A canvas buffer (R18, R155): the content it holds and its words by y x 16,384 + x. -/
structure CanvasBuf where
  content : Option Nat := none
  words   : Tab Word := []
  deriving DecidableEq, Repr

/-- What a layer contributes to a composition: its buffer or none, whether it is skipped (R160, R175), its opacity
value (R173). -/
structure Snap where
  layer : Nat
  buf   : Option Nat
  skip  : Bool := false
  opac  : Nat := 65535
  deriving DecidableEq, Repr

/-- A content that waits for its composition, with the configuration and the layers of its boundary (R181). -/
structure CompWait where
  content : Nat
  cfg     : CompCfg
  snaps   : List Snap
  deriving DecidableEq, Repr

/-- A LAYER_WRITE that waits for a FREE buffer (R164); its data stand in its mailbox's transfer. -/
structure LayerWait where
  mailbox : Nat
  layer   : Nat
  target  : Word
  deriving DecidableEq, Repr

/-- The compositor: layers, inputs, canvas buffers, the composition in progress with the configuration and
the layers it works under, the contents that wait (R181), COMP_STATUS, the waiting writes. -/
structure Comp where
  layers    : Tab LayerSt := []
  inputs    : Tab InputSt := []
  canvas    : Tab CanvasBuf := []
  composing : Option Nat := none
  cfg       : CompCfg := {}
  snaps     : List Snap := []
  queue     : List CompWait := []
  overrun   : Bool := false
  rowsDone  : Nat := 0
  waits     : List LayerWait := []
  deriving DecidableEq, Repr

end Sys2Proof.Machine
end

