-- ==== Sys2Proof/Machine/Rec/Eth.lean ====
section
/-! DEFINITION. Machine/Rec/Eth.lean: the state records of the output flows (chapter 11) and of the Ethernet
ports (chapter 12). -/
namespace Sys2Proof.Machine
open Sys2Proof

/-- A PTP message of the PTP port (R128, R139, R140): its sequenceId; the timestamp that it carries, with the fraction in
2^-16 ns of a Follow_Up's and a Delay_Resp's; the Announce's clockClass. A one-step Sync takes its originTimestamp when its
SFD leaves. -/
inductive PtpMsg where
  | sync (seq : Half) (origin : PtpTime)
  | followUp (seq : Half) (origin : PtpTime) (frac : Half)
  | delayReq (seq : Half)
  | delayResp (seq : Half) (receive : PtpTime) (frac : Half)
  | announce (seq : Half) (clockClass : Nat) (origin : PtpTime)
  deriving DecidableEq, Repr

/-- What a transmitted frame is. -/
inductive TxKind where
  /-- A fragment of a flow's data message of a content, of so many. -/
  | data (flow content frag count : Nat)
  /-- The Gate GATE of a content. -/
  | gate (content : Nat)
  /-- The cut GATE of a cut. -/
  | cutGate (cut : Nat)
  /-- HOLD. -/
  | hold
  /-- ARM of a cut on a flow. -/
  | arm (cut flow : Nat)
  /-- The DIAG request of the FLOW_DIAG in a mailbox. -/
  | diag (mailbox : Nat)
  /-- An E1.31 synchronisation packet. -/
  | sync (uni content : Nat)
  /-- E1.31 universe discovery. -/
  | discovery
  /-- An E1.31 packet with Stream_Terminated. -/
  | terminated (uni : Nat)
  /-- The frame of the ETH_TX in a mailbox. -/
  | ethTx (mailbox : Nat)
  /-- LLDP. -/
  | lldp
  /-- A message of the PTP port. -/
  | ptp (msg : PtpMsg)
  /-- ARP or neighbour solicitation for a destination. -/
  | resolve (ip : BitVec 128)
  /-- The answer to an ARP request, a neighbour solicitation or an ICMP echo request for an address. -/
  | answer (ip : BitVec 128)
  /-- A membership report for a group. -/
  | report (group : BitVec 128)
  /-- A frame forwarded on a through pair. -/
  | forward
  /-- A packet of a tile flow's content of a head, with its due instant (R398). -/
  | tile (flow content head due : Nat)
  /-- An UPDATE message of the chain (R514). -/
  | update
  deriving DecidableEq, Repr

/-- A frame to send: what it is, its UDP payload or, for ETH_TX and forwarded frames, its bytes from the
destination address; its destination; the octets from the destination address to the FCS; its class; the tag of
a stamp it asks for; whether it may be cut through; whether it ended with an inverted FCS; whether it goes to
every station because its unicast destination has not yet resolved (R333); for a
forwarded PTP event message its ingress time and the residence time added (R141); its SFD's LT and fraction at the
medium (R143). -/
structure TxFrame where
  kind    : TxKind
  body    : List Byte := []
  dst     : BitVec 128 := 0
  udp     : Nat := 0
  octets  : Nat := 64
  guar    : Bool := false
  tag     : Option Half := none
  stream  : Bool := false
  broken  : Bool := false
  toAll   : Bool := false
  ingress : Option Nat := none
  corr    : Nat := 0
  sfdLt   : Word := 0
  sfdFrac : Half := 0
  deriving DecidableEq, Repr

/-- A transmit timestamp (R352); `mailbox` is the ETH_TX it belongs to, `sync` says that it is a two-step Sync's. -/
structure TxStamp where
  tag     : Half
  mailbox : Option Nat
  sync    : Bool := false
  lt      : Word
  frac    : Half
  aborted : Bool := false
  deriving DecidableEq, Repr

/-- A frame in a DRAM ring (R338): its filter index, tag, stamp, SEQ and bytes. -/
structure RxStored where
  filter : Nat
  tagged : Bool
  lt     : Word
  frac   : Half
  seq    : Word
  bytes  : List Byte
  deriving DecidableEq, Repr

/-- A receive queue (R338 to R342, R358): HEAD, waiting for OWN and since when, discarding, waiting for
ETH_RING_RESTART, SEQ, the frames of a DRAM ring not yet read, with their descriptors' stamps. -/
structure RxQ where
  head    : Nat := 0
  waitOwn : Bool := false
  pollAt  : Nat := 0
  discard : Bool := false
  restart : Bool := false
  seq     : Word := 0
  stored  : List RxStored := []
  deriving DecidableEq, Repr

/-- An Ethernet port (R330 to R358). `gates` are the Gate and cut frames waiting, which precede every other;
`guar` and `be` the calendar (R298); forwarded frames, Groom's and those of ETH_TX stand in `be` in order of
arrival (R355); `cur` the frame in transmission; `since` the first content it sends after a link-up, `noLpi` the content whose guaranteed frames
must leave before LPI, `idleAt` when the queues emptied, `lldpAt` the latest LLDP; `tlvSent` and `tlvHeard` that
Groom has sent, and the partner has sent, the EEE TLV on this link. -/
structure PortSt where
  link     : Bool := false
  lpi      : Bool := false
  agreed   : Bool := false
  tlvSent  : Bool := false
  tlvHeard : Bool := false
  paused   : Bool := false
  pauseEnd : Nat := 0
  ctThr    : Nat := 512
  ctGood   : Nat := 0
  tsq      : List TxStamp := []
  lostTag  : Half := 0
  partner  : Half := 0
  lldpAt   : Option Nat := none
  arpAt    : Nat := 0
  resolved : List (BitVec 128) := []
  groups   : List (BitVec 128) := []
  since    : Nat := 0
  noLpi    : Option Nat := none
  idleAt   : Nat := 0
  gates    : List TxFrame := []
  guar     : List TxFrame := []
  be       : List TxFrame := []
  cur      : Option TxFrame := none
  rxq      : Tab RxQ := []
  deriving DecidableEq, Repr

/-- The LIVE fields of a flow (R292), the fragments sent of the content in transmission, the proof entries of
its latest data messages by content (R303), and since which content it is in effect. -/
structure FlowLive where
  miss      : Word := 0
  missFn    : Word := 0
  sentFn    : Word := 0
  cause     : BitVec 4 := 0
  sent      : Option Nat := none
  frags     : Nat := 0
  fragsOf   : Nat := 0
  proofs    : Tab Nat := []
  since     : Nat := 0
  deriving DecidableEq, Repr

/-- The upstream sequence space of a stream (R312): the highest accepted sequence and when it was accepted. -/
structure UpSeq where
  h     : Word
  heard : Nat
  deriving DecidableEq, Repr

/-- A received message being assembled (R313): its stream, SEQ and TOTAL_LEN, the bytes present by offset. -/
structure Asm where
  stream : Nat
  seq    : Word
  total  : Nat
  bytes  : Tab Byte := []
  deriving DecidableEq, Repr

/-- The flows' own state: LIVE fields by flow, the upstream spaces by stream; for each content class n mod 4 and flow
(class x 65,536 + flow) the values that the mapper has put into it by value position, and the pulses asked (OFFSET,
t_meas); the (content, flow) pairs that an error silences (R325); a segment (content, index) that waits for ring space,
and whether the packer waits (R297); the DIAG requests that wait (mailbox, stream, deadline, CODE); the universes being
terminated (flow record, payload bytes, packets left); the latest discovery; the messages being assembled. -/
structure Flw where
  live     : Tab FlowLive := []
  up       : Tab UpSeq := []
  pix      : Tab (Tab Nat) := []
  asks     : Tab (List (Nat × Nat)) := []
  dead     : List (Nat × Nat) := []
  waitSeg  : Option (Nat × Nat) := none
  waitPack : Bool := false
  diags    : List (Nat × Nat × Nat × Nat) := []
  ending   : List (FlowRec × Nat × Nat) := []
  asm      : List Asm := []
  discAt   : Nat := 0
  deriving DecidableEq, Repr

end Sys2Proof.Machine
end

