-- ==== Sys2Proof/Machine/Rec/Far.lean ====
section
/-! DEFINITION. Machine/Rec/Far.lean: the state records of the memory code, the check units and Farrier (chapter
17). -/
namespace Sys2Proof.Machine
open Sys2Proof

/-- A check unit (R464 to R473, R484). `armed` is a START that waits for a PT edge, `content` the N of a scan,
`box` the mailbox whose CHECK_RUN it serves. -/
structure ChkUnit where
  ctrl     : Word := 0
  value    : Word := 0
  result   : Word := 0
  expect   : Word := 0
  fold     : Word := 0
  start    : Word := 0
  length   : Word := 0
  chunk    : Word := 0x40#32
  stride   : Word := 0x40#32
  pos      : Word := 0
  running  : Bool := false
  done     : Bool := false
  mismatch : Bool := false
  torn     : Bool := false
  abortRes : BitVec 2 := 0
  err      : BitVec 2 := 0
  armed    : Bool := false
  content  : Option Nat := none
  box      : Option Nat := none
  deriving DecidableEq, Repr

/-- A slice that Farrier wants to run (R478, R479): Stall, slice, since when, the mailbox of a TEST_RUN. -/
structure Slice where
  stall   : Nat
  slice   : Nat
  sinceNs : Nat
  box     : Option Nat := none
  deriving DecidableEq, Repr

/-- A region's rotation (R481): its spare bank, the bank copied into the spare, the bank being marched, the bank
rotated latest, when the latest rotation started, the mailbox of a TEST_RUN. -/
structure Rot where
  spare : Option Nat
  copy  : Option Nat := none
  march : Option Nat := none
  last  : Option Nat := none
  atNs  : Nat := 0
  box   : Option Nat := none
  deriving DecidableEq, Repr

/-- Farrier, the memory code's registers, the patrol and the check units. `want` are the slices waiting for a grant,
`active` the one that runs, `roundAt` when the latest round began, `hard` the banks with a hard error by region,
`wdEth` to `wdDomains` the withdrawal masks, `fault` that a part was withdrawn since the commit in effect (R114),
`patrol` the next line of each channel. -/
structure Far where
  units     : Tab ChkUnit := []
  bootDone  : Bool := false
  want      : List Slice := []
  active    : Option Slice := none
  roundAt   : Nat := 0
  slack     : Half := 0
  rots      : Tab Rot := []
  hard      : List (Nat × Nat) := []
  wdEth     : Half := 0
  wdLine    : BitVec 40 := 0
  wdBank    : BitVec 48 := 0
  wdHeads   : BitVec 2 := 0
  wdDram    : Bool := false
  noField   : Bool := false
  wdDomains : Half := 0
  fault     : Bool := false
  errLast   : Word := 0
  errAddr   : Word := 0
  patrol    : Tab Nat := []
  deriving DecidableEq, Repr

end Sys2Proof.Machine
end

