-- ==== Sys2Proof/Machine/Rec/Line.lean ====
section
/-! DEFINITION. Machine/Rec/Line.lean: the state records of the line ports (chapter 13). -/
namespace Sys2Proof.Machine
open Sys2Proof

/-- What a line port sends: a frame or packet of a content, the one before again, or a cut's (R367, R374, R375).
`start` and `dur` are its instant and length in ns. -/
structure LineTx where
  content : Nat
  payload : List Byte
  again   : Bool := false
  cut     : Option Nat := none
  start   : Nat
  dur     : Nat
  deriving DecidableEq, Repr

/-- What an RDM transaction asks: LINE_RDM's request, or a step of discovery (R370). -/
inductive RdmAsk where
  | user (r : RdmReq)
  | unmute
  | branch (lo hi : Nat)
  | mute (uid : Nat)
  deriving DecidableEq, Repr

/-- A queued request: the mailbox that waits, the request (none: LINE_RDM_DISCOVER, with FULL), when it was queued. -/
structure RdmItem where
  mailbox : Nat
  req     : Option RdmReq
  full    : Bool := false
  atNs    : Nat
  deriving DecidableEq, Repr

/-- A transaction in progress (R369): its number, what it asks, until when a response may begin. -/
structure RdmTxn where
  mailbox  : Nat
  num      : Byte
  ask      : RdmAsk
  deadline : Nat
  deriving DecidableEq, Repr

/-- A discovery in progress (R370): FULL, the ranges still to search, the UID to mute. -/
structure Disc where
  unmute : Bool
  ranges : List (Nat × Nat) := []
  toMute : Option Nat := none
  deriving DecidableEq, Repr

/-- A line port. `regs` are the settings in effect on it (R365), `next` the packed frames by content, `last`
the frame sent before, `tx` what is on the wire, `idle` that a DMX port is in its idle span, `skip` a content
that stays unsent (R364), `pulse` the end of an output pulse, `reading` the bytes Groom has read of a Manger
packet, `owed` the mailboxes whose response lies in the Manger, by transaction number. -/
structure LineSt where
  regs     : LineRegs := {}
  drive    : Bool := false
  short    : Bool := false
  shortOff : Bool := false
  shortAt  : Nat := 0
  next     : Tab (List Byte) := []
  last     : List Byte := []
  tx       : Option LineTx := none
  idle     : Bool := false
  skip     : Option Nat := none
  cuts     : Tab (List Byte) := []
  cutShown : Option Nat := none
  queue    : List RdmItem := []
  txn      : Option RdmTxn := none
  txnNum   : Byte := 0
  disc     : Option Disc := none
  uids     : List Nat := []
  write    : BitVec 13 := 0
  commit   : BitVec 13 := 0
  read     : BitVec 13 := 0
  mem      : Mem := []
  reading  : List Byte := []
  owed     : List (Byte × Nat) := []
  stamp    : Word := 0
  pulse    : Option Nat := none
  deriving DecidableEq, Repr

end Sys2Proof.Machine
end

