-- ==== Sys2Proof/Machine/Rec/Map.lean ====
section
/-! DEFINITION. Machine/Rec/Map.lean: the state records of the pixel mapper (chapter 07) and the lamp logic
(chapter 08). -/
namespace Sys2Proof.Machine
open Sys2Proof

/-- The probe registers (R210). -/
structure Probe where
  fn     : Word := 0
  sample : List Nat := []
  lin    : List Nat := []
  k      : Nat := 0
  tet    : List Nat := []
  w      : List Nat := []
  out    : List Nat := []
  deriving DecidableEq, Repr

/-- The mapper (R209): the content mapped latest and how many of its segments are finished, the (content,
segment) pairs finished of the contents in work, the value of the bound grand master by content (R197),
the (content, segment) pairs whose window has closed on them (R207), the probe. -/
structure Mapper where
  content : Option Nat := none
  segDone : Nat := 0
  done    : List (Nat × Nat) := []
  gm      : Tab Nat := []
  overruns : List (Nat × Nat) := []
  probe   : Probe := {}
  deriving DecidableEq, Repr

/-- A lamp message accepted and not yet applied, with its acceptance number and instant (R214). -/
structure LampAcc where
  number : Nat
  atNs   : Nat
  msg    : LampMsg
  deriving DecidableEq, Repr

/-- A fixture's lamp state (R216 to R218): the latest applied temperature, when it was applied, staleness, D. -/
structure FixLamp where
  temp  : Int := 0
  atNs  : Option Nat := none
  stale : Bool := false
  d     : Nat := 0x10000
  deriving DecidableEq, Repr

/-- A circuit's lamp state (R220, R221): the accumulators by content and S. -/
structure CircLamp where
  acc : Tab Nat := []
  s   : Nat := 0x10000
  deriving DecidableEq, Repr

/-- A pixel's lamp state (R223, R231, R232): status, measured current, the latest proof content, whether a
code of at least MEAS_CODE has been given since, the contents of the outstanding pulses, oldest first, the content after the latest
applied OK. -/
structure PixLamp where
  status  : Nat := 0
  current : Nat := 0
  lit     : Bool := false
  pulses  : List Nat := []
  okAfter : Option Nat := none
  deriving DecidableEq, Repr

/-- Why a group turned OFF (R228); MEMBERSHIP (R227) is `GrpLamp.member`. -/
inductive OffCause where
  | none | fault | noDiagnosis
  deriving DecidableEq, Repr

/-- A group's state (R227 to R229): OFF, its cause, whether MEMBERSHIP holds now, the first content governed after
its history was emptied, the boundary of a scheduled reset. -/
structure GrpLamp where
  off     : Bool := false
  cause   : OffCause := .none
  member  : Bool := false
  since   : Nat := 0
  resetAt : Option Nat := none
  deriving DecidableEq, Repr

/-- What the lamp logic fixes for a content at its boundary: D by fixture, S by circuit (1.16; not listed: 1), the OFF
groups (R214, R228). -/
structure LampFixed where
  d    : Tab Nat := []
  s    : Tab Nat := []
  dark : List Nat := []
  deriving DecidableEq, Repr

/-- The lamp logic. `acc` holds the messages accepted, or on a SHADOW forwarded, and not applied, oldest first; `own`
those a SHADOW received directly; `setNumber` the last acceptance number of the LEAD's set, `applied` that of the
set a SHADOW applied latest; `fixed` what is fixed by content; `lately` the contents governed latest, newest
first. -/
structure Lamp where
  acc       : List LampAcc := []
  own       : List LampAcc := []
  next      : Nat := 1
  setNumber : Option Nat := none
  applied   : Option Nat := none
  fix       : Tab FixLamp := []
  circ      : Tab CircLamp := []
  pix       : Tab PixLamp := []
  grp       : Tab GrpLamp := []
  fixed     : Tab LampFixed := []
  lately    : List Nat := []
  deriving DecidableEq, Repr

end Sys2Proof.Machine
end

