-- ==== Sys2Proof/Machine/Rec/Pair.lean ====
section
/-! DEFINITION. Machine/Rec/Pair.lean: the state records of pairing and of the feeds (chapter 15). -/
namespace Sys2Proof.Machine
open Sys2Proof

/-- PAIR_STATUS.ROLE. -/
inductive Role where
  | unpaired | lead | shadow | solo
  deriving DecidableEq, Repr

/-- PAIR_STATUS.STATE. -/
inductive PairSt where
  | off | forming | inSync | handover | alone | refused
  deriving DecidableEq, Repr

/-- Why a device is taking the Halter over. -/
inductive Taking where
  | no | takeover | swap
  deriving DecidableEq, Repr

/-- A role swap requested on the LEAD, or replayed on the SHADOW (R429): the mailboxes that wait, FORCE, the
instant of the request, the content lit latest at that instant, the frame in which it started; `auto` says that
SWAP_INTERVAL or PREFERRED asked for it. -/
structure SwapReq where
  boxes : List Nat := []
  force : Bool := false
  atNs  : Nat
  lit   : Option Nat := none
  began : Option Nat := none
  auto  : Bool := false
  deriving DecidableEq, Repr

/-- The pairing logic (R415 to R431). `lowAt` is since when HALTER_IN is low, `conflict` that both devices
asserted the Halter, `taking` that this device is taking the Halter over, `bad` that PAIR_OK fails (R428),
`hbTx` the latest heartbeat sent, `hbRx` the instant from which the next one is awaited, `missed` the
consecutive missed ones, `muted` that the pair's SHADOW is muted, `txFrom` the first content a SHADOW or a new
holder sends, `syncAt` since when IN_SYNC, unmuted and on both lanes without a break, `swapTs` the gap start the
LEAD announced, `own` and `peer` the frame hashes by content x 65,536 + flow, `compared` the latest content
compared, `divRun` and `goodRun` the consecutive contents with and without divergence. -/
structure Pair where
  role     : Role := .unpaired
  st       : PairSt := .off
  out      : Bool := false
  inp      : Bool := false
  lowAt    : Nat := 0
  side     : Bool := false
  lane0    : Bool := false
  lane1    : Bool := false
  conflict : Bool := false
  taking   : Taking := .no
  bad      : Bool := false
  hbTx     : Nat := 0
  hbRx     : Option Nat := none
  missed   : Nat := 0
  muted    : Bool := false
  txFrom   : Nat := 0
  syncAt   : Nat := 0
  variant  : Word := 0
  proto    : Byte := 0
  version  : Word := 0
  swap     : Option SwapReq := none
  swapTs   : Option Nat := none
  swapAt   : Nat := 0
  own      : List (Nat × Word) := []
  peer     : List (Nat × Word) := []
  compared : Option Nat := none
  divRun   : Nat := 0
  goodRun  : Nat := 0
  divFlow  : Half := 0
  divFn    : Word := 0
  deriving DecidableEq, Repr

/-- The states of a feed (R409). -/
inductive FeedSt where
  | active | standby | fault | resync
  deriving DecidableEq, Repr

/-- A feed: its state, since when it has been in window in RESYNC, its latest fault sample in mV. -/
structure Feed where
  st    : FeedSt
  since : Nat := 0
  mv    : Nat := 0
  deriving DecidableEq, Repr

/-- The two feeds of a rail and which one supplies it. -/
structure RailSt where
  a   : Feed := { st := .active }
  b   : Feed := { st := .fault }
  onB : Bool := false
  deriving DecidableEq, Repr

/-- The feeds (R409 to R414): FEED_CFG, the rails, the latest periodic swap, the AON swap that follows. -/
structure Feeds where
  cfg    : Word := 0x0000003C#32
  core   : RailSt := {}
  aon    : RailSt := {}
  swapAt : Nat := 0
  aonDue : Option Nat := none
  deriving DecidableEq, Repr

end Sys2Proof.Machine
end

