-- ==== Sys2Proof/Machine/Rec/Raster.lean ====
section
/-! DEFINITION. Machine/Rec/Raster.lean: the state records of the raster heads (chapter 14). -/
namespace Sys2Proof.Machine
open Sys2Proof

/-- A raster head. `run` says that its timing generator runs; `content` is the content being scanned, `begun`
how many of its head frames have begun, `bg` that the present one is background, `restart` the content shown as
background (R403), `under` the lines that underran in the present head frame, `sent` the packets each tile has
sent of it, `shadow` the settings taken for the next boundary, `regs` those of the present head frame, `sigDone`
the content whose signature has been taken. -/
structure HeadSt where
  run      : Bool := false
  content  : Nat := 0
  begun    : Nat := 0
  bg       : Bool := false
  restart  : Option Nat := none
  under    : List Underrun := []
  sent     : Tab Nat := []
  shadow   : HeadRegs := {}
  regs     : HeadRegs := {}
  sig      : Word := 0
  sigFn    : Word := 0
  sigDone  : Option Nat := none
  frzCount : Byte := 0
  link     : Bool := false
  hpd      : Bool := false
  edid     : List Byte := []
  deriving DecidableEq, Repr

/-- The raster heads. `ym` is the rate under which the present content is scanned (R404), `hold` the content that
a calibration hold keeps on show (R444), `fresh` per content the layers that latched a new buffer at its latch
(R405), `missed` the tile misses already counted, as flow and content. -/
structure Rst where
  heads  : Tab HeadSt := []
  ym     : YmCfg := {}
  hold   : Option Nat := none
  fresh  : Tab (List Nat) := []
  missed : List (Nat × Nat) := []
  deriving DecidableEq, Repr

end Sys2Proof.Machine
end

