-- ==== Sys2Proof/Machine/Rec/Sec.lean ====
section
/-! DEFINITION. Machine/Rec/Sec.lean: the state records of the security domain and of updates (chapter 18). -/
namespace Sys2Proof.Machine
open Sys2Proof

/-- The holder of the update lock (R504, R505): the mailbox session, or the chain neighbour's address, with its
transport, credential id and start; the mailbox that issued UPD_BEGIN is not part of it. -/
structure UpdLock where
  session : Option Nat := none
  from?   : Option (BitVec 128) := none
  trans   : Transport := .pcie
  cred    : Half := 0
  atNs    : Nat
  id      : Nat
  lastNs  : Nat
  deriving DecidableEq, Repr

/-- A relay to the next device of a chain (R514, R515): offered and accepted, chunks sent and acknowledged since
when, whether INSTALL has gone down and until when a report may come. -/
structure Relay where
  port      : Nat
  addr      : BitVec 128
  accepted  : Bool := false
  sent      : Nat := 0
  acked     : Nat := 0
  ackNs     : Nat := 0
  peerVer   : Word := 0
  install   : Bool := false
  reportNs  : Nat := 0
  deriving DecidableEq, Repr

/-- The update path (R504 to R516). `man` is the staged manifest with its 1,024 bytes, `chunks` the accepted chunks,
oldest first (4,096 bytes each), `expect` the hash expected next, `half` part 0 of a chunk, `bad` how often the
expected chunk has failed, `chain` the remaining chain, `upPort` the port of the upstream neighbour, `seq` the SEQ
of the messages sent, `box` the mailbox of a chained UPD_INSTALL, `hops` the reports of the hops, `installed` that an
installation has completed and has not been activated. -/
structure Upd where
  lock      : Option UpdLock := none
  next      : Nat := 1
  man       : Option Manifest := none
  manBytes  : List Byte := []
  chunks    : List (List Byte) := []
  expect    : Digest := 0
  half      : Option (Nat × List Byte) := none
  bad       : Nat := 0
  chain     : Option Chain := none
  relay     : Option Relay := none
  upPort    : Nat := 0
  seq       : Word := 0
  box       : Option Nat := none
  hops      : List (Nat × Half) := []
  installed : Bool := false
  deriving DecidableEq, Repr

/-- The security domain: OTP (`lc` the OTP state, `debug` the AON register FIELD_DEBUG, revoked keys, counter), the
flash (installed manifest, component digests by type, settings by format), the running manifest, the key store, the
measurement registers, the debug module, recovery, updates. `scan` says that shifting is enabled, `challenge` an
outstanding unlock challenge with its instant, `lastInst` the session and upstream port and address that INSTALLED
goes to. -/
structure Sec where
  lc        : Lc := .field
  debug     : Bool := false
  revoked   : BitVec 4 := 0
  dbgRevoked : BitVec 2 := 0
  counter   : Nat := 0
  flashMan  : Manifest := {}
  flashComp : Tab Digest := []
  settings  : Tab Settings := []
  running   : Manifest := {}
  keys      : Bool := true
  scan      : Bool := false
  meas      : List Digest := List.replicate 8 0
  opened    : Bool := false
  fails     : Nat := 0
  challenge : Option (Nat × Digest) := none
  halted    : List DbgCore := []
  failType  : Nat := 0
  recovered : Bool := false
  lastInst  : Option (Nat × Nat × BitVec 128) := none
  upd       : Upd := {}
  deriving DecidableEq, Repr

end Sys2Proof.Machine
end

