-- ==== Sys2Proof/Machine/Rec/Host.lean ====
section
/-! DEFINITION. Machine/Rec/Host.lean: the state records of chapters 00 to 03: the GLOBAL block, the
mailboxes with their sessions, the event log and the event controller. -/
namespace Sys2Proof.Machine
open Sys2Proof

/-- GLB_CLK_STATUS (R23, R24): the five status bits, at the register's reset value 0x0000_0010. -/
structure Clk where
  rootLock : Bool := false
  serRef0  : Bool := false
  serRef1  : Bool := false
  pcieRef  : Bool := false
  aonRc    : Bool := true
  deriving DecidableEq, Repr

/-- GLB_ACCESS_ERR and GLB_ACCESS_ADDR (R33, R35): the first recorded error and how many followed. -/
structure AccErr where
  valid : Bool := false
  path  : BitVec 3 := 0
  cause : BitVec 4 := 0
  count : Byte := 0
  addr  : BitVec 26 := 0
  deriving DecidableEq, Repr

/-- The GLOBAL block (chapters 00 and 01). `domain` is the image of GLB_DOMAIN_STATUS; `hiLatch` holds per
requester path and counter address the _HI word latched by the latest _LO read (R9); `readData` holds per
requester path the value the latest modelled read returned (log 14). -/
structure Glb where
  deviceId : Word := 0x57481000#32
  domain   : Word := 0x00000001#32
  clk      : Clk := {}
  acc      : AccErr := {}
  faulted  : Bool := false
  hiLatch  : List ((Path × Nat) × Word) := []
  readData : List (Path × Word) := []
  dramGiB  : List Nat := []
  recovery : Bool := false
  deriving DecidableEq, Repr

/-- A request as Groom snapshots it at the doorbell: the header of R49 and the payload bytes. -/
structure Req where
  opcode    : Half := 0
  hdrVer    : Byte := 0
  priv      : Byte := 0
  session   : Word := 0
  tag       : Word := 0
  len       : Half := 0
  flags     : Half := 0
  descAddr  : DWord := 0
  descCount : Half := 0
  status    : Half := 0
  check     : Word := 0
  checkOk   : Bool := true
  deriving DecidableEq, Repr

/-- A response's payload: the bytes the command states. -/
abbrev RespData := List Byte

/-- A completed response: the header fields of R49 and the payload. -/
structure Resp where
  opcode    : Half := 0
  priv      : Byte := 0
  session   : Word := 0
  tag       : Word := 0
  len       : Half := 0
  flags     : Half := 0
  descCount : Half := 0
  status    : Status := .ok
  check     : Word := 0
  data      : RespData := []
  deriving DecidableEq, Repr

/-- A staging object (R57), or what a transfer has moved (R55): its bytes and the ranges written, first byte and the
byte after the last, in order and apart. -/
structure StageObj where
  data   : Mem := []
  ranges : List (Nat × Nat) := []
  deriving DecidableEq, Repr

/-- The DMA transfer of the command a mailbox executes (R55, R56): descriptors consumed, whether the transfer has ended,
the bytes moved to the device, the target object as they fill it. -/
structure Dma where
  consumed : Nat := 0
  ended    : Bool := false
  bytes    : Nat := 0
  obj      : StageObj := {}
  deriving DecidableEq, Repr

/-- One mailbox (R43 to R48): the request window's words (not listed: 0), the snapshot, MBX_STATE, the
ignored-ring counter, the latest response, the tag of the last completed command, the owning session, the
doorbell order, the DMA transfer, a written abort not yet sampled, and whether the session that owned it
has closed so that its response is to be discarded (R53). -/
structure Mailbox where
  window      : Tab Word := []
  req         : Req := {}
  st          : MbxSt := .idle
  respLen     : BitVec 13 := 0
  doneCount   : Byte := 0
  abortRes    : BitVec 2 := 0
  ringIgnored : Word := 0
  resp        : Resp := {}
  lastTag     : Option Word := none
  owner       : Nat := 0
  order       : Nat := 0
  dma         : Option Dma := none
  abortReq    : Bool := false
  discard     : Bool := false
  waiting     : Bool := false
  waitUntil   : Nat := 0
  deriving DecidableEq, Repr

/-- A management association of mailbox 12 or 13 (R39): open, the connection it is, the instant of its latest
datagram. -/
structure Assoc where
  opened : Bool := false
  peer   : Nat := 0
  lastNs : Nat := 0
  deriving DecidableEq, Repr

/-- Fragments of one request on the management port (R40, R41). -/
structure Partial where
  tag     : Word := 0
  count   : Nat := 0
  frags   : Tab (List Byte) := []
  firstNs : Nat := 0
  deriving DecidableEq, Repr

/-- A log entry (R67). -/
structure LogEntry where
  seq    : Word
  dtSec  : Word
  dtNs   : Word
  sev    : Byte
  source : Byte
  code   : Half
  detail : BitVec 128
  deriving DecidableEq, Repr

/-- The event log: entries oldest first, in AON SRAM and in flash, and the next sequence number (R67). -/
structure EvLog where
  sram  : List LogEntry := []
  flash : List LogEntry := []
  next  : Word := 0
  deriving DecidableEq, Repr

/-- What a source holds for one target while it is pending: the PRIORITY and VECTOR it took (R77). -/
structure Pend where
  prio : BitVec 4 := 0
  vec  : BitVec 5 := 0
  deriving DecidableEq, Repr

/-- One event source (R69 to R79). `pend` and `act` are by target number 0 to 3. -/
structure Src where
  level     : Bool := false
  count     : Byte := 0
  vector    : BitVec 5 := 0
  priority  : BitVec 4 := 0
  enable    : BitVec 4 := 0
  effective : BitVec 4 := 0
  pend      : Tab Pend := []
  act       : Tab Pend := []
  deriving DecidableEq, Repr

/-- One target (R73, R76, R80): EVC_TGT_CFG's fields, BAD_COMPLETE, the moderation state. `held` lists the
sources whose presentation is held, `age` the nanoseconds that the moderation timer has run. -/
structure Tgt where
  base    : BitVec 4 := 0
  bypass  : BitVec 4 := 0
  modCnt  : Byte := 0
  modUs   : Half := 0
  bad     : Byte := 0
  count   : Nat := 0
  running : Bool := false
  age     : Nat := 0
  held    : List Nat := []
  deriving DecidableEq, Repr

/-- What the event controller delivers (R75, R81): a host vector's message, a notice to another target,
PME and the WAKE_N ball. -/
inductive Delivery where
  | msix (v : Nat)
  | notice (t : Nat)
  | pme
  | wake
  deriving DecidableEq, Repr

/-- One MSI-X vector (R82): its table entry, its mask, its pending bit. -/
structure Vec where
  addr    : DWord := 0
  data    : Word := 0
  mask    : Bool := true
  pending : Bool := false
  deriving DecidableEq, Repr

/-- The event controller (chapter 03). `sent` is the log of deliveries, newest first; `wakeHeld` the sources
a release found while the link was in L1 or the function in D3hot (R81); `polled` the sources Groom found at
level 1 in its latest poll (R84). -/
structure Evc where
  src      : Tab Src := []
  tgt      : Tab Tgt := []
  vec      : Tab Vec := []
  sw       : Half := 0
  linkL1   : Bool := false
  d3hot    : Bool := false
  wakeHeld : List Nat := []
  polled   : List Nat := []
  sent     : List Delivery := []
  deriving DecidableEq, Repr

end Sys2Proof.Machine
end

