-- ==== Sys2Proof/Machine/Rec/Session.lean ====
section
/-! DEFINITION. Machine/Rec/Session.lean: sessions, transactions and scheduled commits (R52 to R62, R96),
and the mailbox block's own registers. -/
namespace Sys2Proof.Machine
open Sys2Proof

/-- An open transaction (R58 to R60): its id, its base generation, the staged configuration, the object ids
staged so far, the bytes it holds against R59, its staging objects, the instant of its latest command. -/
structure Txn where
  id      : Nat
  base    : Nat
  cfg     : Cfg
  changed : List Nat := []
  bytes   : Nat := 0
  objs    : Tab StageObj := []
  lastNs  : Nat := 0
  deriving DecidableEq, Repr

/-- An open session (R52, R53, R60, R62). Class masks have bit n set for PRIV class n; `committed` says that its latest
transaction ended in a commit; `closing` is the mailbox of a SESSION_CLOSE that waits; `expiredNs` the latest command of an expired transaction and
`expiredBase` its base generation. -/
structure Session where
  transport : Transport
  requested : Byte := 0
  granted   : Byte := 0
  cred      : Word := 0
  challenge : BitVec 384 := 0
  lastNs    : Nat := 0
  expired   : Bool := false
  expiredNs : Nat := 0
  expiredBase : Nat := 0
  txn       : Option Txn := none
  committed : Bool := false
  closing   : Option Nat := none
  deriving DecidableEq, Repr

/-- The mailbox block: the mailboxes, MBX_GROOM_LOAD and the loads of the latest 10 ms windows, newest last (R66), the
doorbell order, the management
associations and partial requests (R39 to R41), the TACK_PARAM_READs that wait (mailbox, first, count), the sessions and the next session and transaction ids. -/
structure Mbx where
  boxes    : Tab Mailbox := []
  shedding : Bool := false
  peak     : Byte := 0
  load     : Byte := 0
  loads    : List Nat := []
  order    : Nat := 0
  assoc    : Tab Assoc := []
  part     : Tab Partial := []
  sessions : Tab Session := []
  nextSes  : Nat := 1
  nextTxn  : Nat := 1
  paramReads : List (Nat × Nat × Nat) := []
  deriving DecidableEq, Repr

end Sys2Proof.Machine
end

