-- ==== Sys2Proof/Machine/Rec/Stall.lean ====
section
/-! DEFINITION. Machine/Rec/Stall.lean: the state records of the Paddock (chapter 09) and of the Stalls and
the fixture parameter store (chapter 10). -/
namespace Sys2Proof.Machine
open Sys2Proof

/-- The states of a released instance (R242). FREE and PRIMED concern a slot, not an instance. -/
inductive TaskSt where
  | waiting | delayed | ready | running | suspended | ended
  deriving DecidableEq, Repr

/-- How an instance ended (R242). -/
inductive TaskEnd where
  | completed | terminated | cancelled
  deriving DecidableEq, Repr

/-- A released instance of a task (R236, R242). `dep` is DEP_COUNT, `carry` says that the carried-over instance
of the content before counts in it (R254), `relNs` the boundary that released it, `seq` and `readyNs` when it
became READY, `loft` that it lies in the Loft, `noSlot` that it waits for a slot (R257), `unreleased` that the
Bridle kept it back (R256), `ver` the version of the Stall configuration it runs under, `writes` the slots of
its own block it has written (R274), by fixture x 64 + slot. -/
structure Inst where
  task       : Nat
  content    : Nat
  st         : TaskSt := .waiting
  fin        : Option TaskEnd := none
  dep        : Nat := 0
  carry      : Bool := false
  delayMet   : Bool := false
  relNs      : Nat := 0
  seq        : Nat := 0
  readyNs    : Nat := 0
  waitNs     : Nat := 0
  started    : Bool := false
  loft       : Bool := false
  noSlot     : Bool := false
  unreleased : Bool := false
  stall      : Option Nat := none
  ver        : Nat := 0
  writes     : Tab Half := []
  deriving DecidableEq, Repr

/-- The context of an instance on a Stall (R263): scalar registers, vector registers, predicates, the PC as a
word offset from its binary's first word, the budget counter where there is one. A register not listed is 0. `argsIn`
says that the argument record, whose fetch its dispatch began, has arrived (R271). -/
structure Core where
  s      : Tab Word := []
  v      : Tab (BitVec 128) := []
  p      : Byte := 0
  pc     : Nat := 0
  budget : Option Nat := none
  argsIn : Bool := false
  deriving DecidableEq, Repr

/-- What a Stall's instruction waits for: the argument record (R271), a cache miss (R273), a canvas row (R278). -/
inductive StallWait where
  | none | args | miss | row
  deriving DecidableEq, Repr

/-- One Stall (R263 to R266, R290). `run` is the task and content it runs, `runtime` that the switch handler is
open (R283), `switching` that a save has ended and nothing has been dispatched yet, `sealing` the end of the
instance whose seal is in progress, `slice` that Farrier holds
the Stall (standby), `withdrawn` that self-test withdrew it, `scratch` the written words of the eight scratch
areas (R265), `bad` the words that hold an uncorrectable error: instruction word addresses, and data word
addresses + 0x10000. -/
structure StallRec where
  core      : Core := {}
  run       : Option (Nat × Nat) := Option.none
  runtime   : Bool := false
  switching : Bool := false
  wait      : StallWait := .none
  sealing   : Option TaskEnd := Option.none
  slice     : Bool := false
  withdrawn : Bool := false
  frames    : Tab Core := []
  scratch   : Tab (Tab Word) := []
  bad       : List Nat := []
  fault     : Word := 0
  faultPc   : Word := 0
  faultFn   : Word := 0
  soft      : Word := 0
  busyAcc   : Nat := 0
  busy      : Nat := 0
  deriving DecidableEq, Repr

/-- The Paddock, the Stalls and the parameter store. `content` is the content begun latest, `released` the latest whose
graph was released, `hw` the counters of the hardware tasks, `ready` the SEGMENT and PACK tasks that may run or
run, by content, in order of release, `primed` the tasks primed for the next content, `seq`
the order in which instances become READY, `ver` and `held` the versions of the Stall configuration, `fresh` the
fresh fixtures by content (R276), `bank0` and `bank1` the banks' slots by fixture x 64 + slot, `noBuf` and
`noBufTold` the (layer, content) pairs whose writes are discarded and those already reported (R277), `bad` the slots and
fan-out entries that hold an uncorrectable error, with the word (R257), `winMs` the latest complete millisecond of
device time. -/
structure Pdk where
  insts     : List Inst := []
  content   : Option Nat := none
  released  : Option Nat := none
  hw        : Tab Nat := []
  ready     : List (Nat × Nat) := []
  primed    : List Nat := []
  seq       : Nat := 0
  ver       : Nat := 0
  held      : Tab StlCfg := []
  fresh     : Tab (List Nat) := []
  bank0     : Tab Half := []
  bank1     : Tab Half := []
  noBuf     : List (Nat × Nat) := []
  noBufTold : List (Nat × Nat) := []
  bad       : List (PdkWord × Hit) := []
  winMs     : Nat := 0
  stalls    : Tab StallRec := []
  deriving DecidableEq, Repr

end Sys2Proof.Machine
end

