-- ==== Sys2Proof/Machine/Rec/Time.lean ====
section
/-! DEFINITION. Machine/Rec/Time.lean: the state records of the frame clock (chapter 04) and of the time
unit (chapter 05). -/
namespace Sys2Proof.Machine
open Sys2Proof

/-- A content in flight (R88, R116): its number and the conditions of R114 that have failed at some instant of
its work window, bit n being cause n + 1. -/
structure Flight where
  n    : Nat
  fail : BitVec 6 := 0
  deriving DecidableEq, Repr

/-- A cut being armed (R118): the mailbox that waits, the receivers that have not acknowledged (flow and SEQ of its
ARM), the deadline in ELT nanoseconds. -/
structure Arming where
  cut     : Nat
  mailbox : Nat
  waiting : List (Nat × Word)
  deadline : Nat
  deriving DecidableEq, Repr

/-- A cut that has fired and holds its flows (R123): those flows, the line ports that take part, the boundaries still to
pass before the content that releases the hold, and that content once it is known. -/
structure CutHold where
  cut     : Nat
  flows   : List Nat := []
  lines   : BitVec 64 := 0
  left    : Nat
  release : Option Nat := none
  deriving DecidableEq, Repr

/-- The frame clock (R87 to R89, R126). `next` is the number of the next boundary, `latest` the latest one
issued, `resume` the least device time in nanoseconds at which the boundary after a change of rate or alignment may lie;
`pulse` are the conditions of R114
that an event has failed since the latest boundary, `noRelease` says that no graph is released, no Gate fired and no miss counted until that boundary (R89). -/
structure Ym where
  next      : Nat := 0
  latest    : Option Nat := none
  resume    : Rat := 0
  noRelease : Bool := false
  fbNs      : Nat := 0
  flights   : List Flight := []
  cond      : BitVec 6 := 0
  holds     : Bool := false
  pulse     : BitVec 6 := 0
  armed     : List Nat := []
  arming    : List Arming := []
  holding   : List CutHold := []
  firedNow  : Nat := 0
  fired     : Half := 0
  reject    : BitVec 4 := 0
  lastCut   : BitVec 6 := 0
  pendFlag  : Bool := false
  missCause : BitVec 4 := 0
  missFlow  : Half := 0
  missFn    : Word := 0
  seqOff    : Word := 0
  cutSeq    : Word := 0
  ctrlSeq   : Word := 0
  lit       : Option Nat := none
  litFrom   : Nat := 0
  litFail   : BitVec 6 := 0
  deriving DecidableEq, Repr

/-- TIME_STATUS.STATE (R136 to R138). -/
inductive TimeSt where
  | unset | free | acquiring | locked | holdover
  deriving DecidableEq, Repr

/-- A step scheduled for a boundary (R132, R134): its boundary, its signed nanoseconds. -/
structure TStep where
  m  : Nat
  ns : Int
  deriving DecidableEq, Repr

/-- The PTP port's state (R139). -/
inductive PtpSt where
  | listening | slave | master
  deriving DecidableEq, Repr

/-- The time unit (R127 to R153). `carry` is a carry out of LT not yet counted into WRAP. `step` is the
servo's scheduled step, `forced` that of TIME_FORCE_STEP, `wordAt` the latest word-clock edge and
`wordCnt` its number in the word-clock cycle (R146), `edge0` and `edge1` the latest selected edge of each house-sync port,
`refOff` the latest offset measured from the
reference that disciplines DT, at `measAt` (R134), `first` the first measurement after an alignment change (R149), `best` the Announce of the master selected. Times named `At` are ELT
nanoseconds. -/
structure Tim where
  lt        : Word := 0
  frac      : Word := 0
  wrap      : Word := 0
  carry     : Bool := false
  incInt    : BitVec 4 := 5
  incFrac   : Word := 0
  incHist   : List Nat := []
  incAt     : Nat := 0
  st        : TimeSt := .free
  hs0       : Bool := false
  hs1       : Bool := false
  refused   : Bool := false
  peerRef   : Bool := false
  gmChanges : Half := 0
  offset    : Int := 0
  gmId      : DWord := 0
  measAt    : Option Nat := none
  refOff    : Int := 0
  good      : Nat := 0
  bad       : Nat := 0
  step      : Option TStep := none
  forced    : Option TStep := none
  refusedNs : Int := 0
  holdAt    : Option Nat := none
  holdOver  : Bool := false
  port      : PtpSt := .listening
  annAt     : Nat := 0
  syncAt    : Nat := 0
  syncSeq   : Half := 0
  annSeq    : Half := 0
  delaySeq  : Half := 0
  delayOut  : Option Half := none
  delayAt   : Nat := 0
  pathDelay : Int := 0
  syncDelta : Int := 0
  peerBad   : Nat := 0
  capElt    : DWord := 0
  capNs     : Word := 0
  capSec    : BitVec 48 := 0
  capFn     : Word := 0
  trig      : DWord := 0
  arm       : Bool := false
  late      : Bool := false
  trigPast  : Bool := false
  wordAt    : Option Nat := none
  wordCnt   : Option Nat := none
  edge0     : Option Nat := none
  edge1     : Option Nat := none
  first     : Option Int := none
  best      : Option Announce := none
  deriving DecidableEq, Repr

end Sys2Proof.Machine
end

