-- ==== Sys2Proof/Machine/State.lean ====
section
/-! DEFINITION. Machine/State.lean: the whole state of the block as plain data, the reasons a step can stop,
and the state right after reset. -/
namespace Sys2Proof.Machine
open Sys2Proof

/-- What leaves the device and is not held anywhere else, newest first (log 7). -/
inductive Out where
  /-- A host layer buffer copied to the SHADOW over the pairing lanes (R164). -/
  | layerCopy (layer frame : Nat) (data : List Byte)
  /-- The RTP timestamp of a complete input frame reported to the peer (R163). -/
  | inputComplete (input : Nat) (ts : Word)
  /-- A lamp message forwarded to the SHADOW, or the applied set's last acceptance number (R214). -/
  | lampForward (f : LampFwd)
  /-- A LAMP_GROUP_RESET forwarded to the SHADOW with its boundary (R229). -/
  | groupReset (group frame : Nat)
  /-- A frame of an Ethernet port, at its SFD. -/
  | frame (port ns : Nat) (f : TxFrame)
  /-- A frame written into a receive ring: port, queue, index of its FIRST descriptor, whether it is TAGGED, the filter
  index, its SEQ, the time of its SFD at the medium with the fraction in 2^-16 ns, its bytes (R338, R340). -/
  | ring (port queue head : Nat) (tagged : Bool) (filter : Nat) (seq lt : Word) (frac : Half) (bytes : List Byte)
  /-- A pixel-line frame's bits or a DMX packet's slots, start code first, on a line port that drives (R366,
  R371). -/
  | lineFrame (port content : Nat) (bits : List Bool)
  | dmxPacket (port content : Nat) (slots : List Byte)
  /-- An RDM request on a line port (R369). -/
  | rdm (port : Nat) (num : Byte) (ask : RdmAsk)
  /-- A line frame or packet in progress ended after so many of its bits (R122). -/
  | lineCutShort (port content bits : Nat)
  /-- A TIME_FORCE_STEP forwarded to the SHADOW: its boundary and step (R135, R150). -/
  | stepForward (frame : Nat) (ns : Int)
  /-- A pulse of a trigger output (R377). -/
  | linePulse (port ns : Nat)
  /-- A DDR apply request of the SHADOW, or the common M the LEAD answers with (R452). -/
  | ddrRequest (frame : Nat)
  /-- A heartbeat on both lanes (R416). -/
  | heartbeat
  /-- A frame hash sent to the peer (R424). -/
  | frameHash (flow content : Nat) (hash : Word)
  /-- An SPDM response (R495, R496). -/
  | spdm (via : Transport) (resp : SpdmResp)
  /-- A head frame's active video on a trained DisplayPort: head, content, head frame, the pixels' components in
  raster order, whether the VSC and the HDR SDP go with it (R388, R400, R401). -/
  | dpFrame (head content j : Nat) (pixels : List (Nat × Nat × Nat)) (vsc hdr : Bool)
  /-- A datagram of a response on the management port, its framing header first (R40, R41). -/
  | datagram (mailbox : Nat) (bytes : List Byte)
  /-- The device answers a DTLS handshake of a mailbox's association and authenticates with the attestation key, whose
  certificate chain has this digest (R39, R491). -/
  | dtlsAccept (mailbox peer : Nat) (cert : Digest)
  /-- A segment written to host memory at an address (R55). -/
  | hostWrite (addr : DWord) (bytes : List Byte)
  /-- A response that the pair peer's Groom receives (R42). -/
  | peerReply (mailbox : Nat) (bytes : List Byte)
  /-- A cut trigger forwarded to the pair peer (R124). -/
  | cutTrigger (cut : Nat)
  deriving DecidableEq, Repr

/-- The state: every piece of state of INVENTORY.md, by block (`prev`: for the contents in work up to a number, the
configuration that governs them, oldest first, where a later one is in effect), the log of what left the device, the model's
own counter of free values taken (log 5), and the commands that wait, first in, first out. -/
structure State where
  variant : Variant := .v8PF
  glb     : Glb := {}
  mbx     : Mbx := {}
  log     : EvLog := {}
  evc     : Evc := {}
  causes  : Tab Word := []
  cnt     : Tab Nat := []
  cap     : Tab Nat := []
  cfg     : Cfg := {}
  prev    : List (Nat × Cfg) := []
  gen     : Nat := 0
  sched   : List Sched := []
  ym      : Ym := {}
  tim     : Tim := {}
  comp    : Comp := {}
  map     : Mapper := {}
  lamp    : Lamp := {}
  pdk     : Pdk := {}
  flw     : Flw := {}
  eth     : Tab PortSt := []
  line    : Tab LineSt := []
  rst     : Rst := {}
  pair    : Pair := {}
  feeds   : Feeds := {}
  brd     : Brd := {}
  far     : Far := {}
  sec     : Sec := {}
  out     : List Out := []
  freeCtr : Nat := 0
  pending : List Instr := []
  deriving DecidableEq, Repr

/-- Reasons for a fault: none. No rule of the spec stops the block; every misuse is answered by a status, an
access error or a cause bit, and the machine goes on. -/
inductive Fault where
  deriving DecidableEq, Repr

/-- Reasons for a refusal. -/
inductive Refusal where
  /-- Raised by Dispatch.lean for a command that has no meaning yet; safe: no claim about it can be proved. -/
  | notModelled (mnemonic : String)
  deriving DecidableEq, Repr

/-- The machine right after reset: every register at the reset value its table gives, memories empty, nothing
waiting; values the spec does not give are named in the log. -/
def State.reset : State := {}

end Sys2Proof.Machine
end

