-- ==== Sys2Proof/Machine/Ops.lean ====
section
/-! DEFINITION. Machine/Ops.lean: the named operations every family shares: bit fields and byte order, tables
and byte memories, the variant table, device time, the event log, access errors, counters, free values and
what leaves the device. The event controller's operations stand in Flags.lean, those of mailboxes and
transactions in Operands.lean. -/
namespace Sys2Proof.Machine
open Sys2Proof

/-! ## Bit fields and bytes -/

/-- The field of a register in bits hi:lo (R7), as a number. -/
def fld {w : Nat} (r : BitVec w) (hi lo : Nat) : Nat := (r.toNat >>> lo) % 2 ^ (hi + 1 - lo)

/-- Bit i of a register. -/
def bitOf {w : Nat} (r : BitVec w) (i : Nat) : Bool := r.getLsbD i

/-- The register with its field hi:lo replaced. -/
def setFld {w : Nat} (r : BitVec w) (hi lo v : Nat) : BitVec w :=
  BitVec.ofNat w (r.toNat - (fld r hi lo) * 2 ^ lo + (v % 2 ^ (hi + 1 - lo)) * 2 ^ lo)

/-- A word with bit i alone set. -/
def bitMask (w i : Nat) : BitVec w := BitVec.ofNat w (2 ^ i)

/-- n bytes of a number, least significant first (R10). -/
def le : Nat → Nat → List Byte
  | 0, _ => []
  | n + 1, v => BitVec.ofNat 8 v :: le n (v / 256)

/-- The number that bytes spell, least significant first (R10). -/
def unle : List Byte → Nat
  | [] => 0
  | b :: bs => b.toNat + 256 * unle bs

/-- n bytes of a signed number, least significant first. -/
def leInt (n : Nat) (v : Int) : List Byte := le n (v % (2 ^ (8 * n) : Int)).toNat

/-- One bit of the reflected CRC-32C (R464). -/
def crcBit (c : Word) : Word := if c.getLsbD 0 then (c >>> 1) ^^^ 0x82F63B78#32 else c >>> 1

/-- One byte of the reflected CRC-32C (R464). -/
def crcByte (c : Word) (b : Byte) : Word :=
  crcBit (crcBit (crcBit (crcBit (crcBit (crcBit (crcBit (crcBit (c ^^^ b.setWidth 32))))))))

/-- CRC-32C of bytes (R464): initial value and final inversion all ones. -/
def crc32c (bs : List Byte) : Word := (bs.foldl crcByte 0xFFFFFFFF#32) ^^^ 0xFFFFFFFF#32

/-- A signed 32-bit register's value. -/
def sval (w : Word) : Int := w.toInt

/-- The 32-bit image of a signed number, saturating (R152). -/
def satWord (v : Int) : Word :=
  if v > 2147483647 then 0x7FFFFFFF#32 else if v < -2147483648 then 0x80000000#32 else BitVec.ofInt 32 v

/-- A count that saturates at 2^w - 1. -/
def satInc {w : Nat} (v : BitVec w) : BitVec w := if v.toNat + 1 = 2 ^ w then v else v + 1

/-- The least number of units of b that hold a. -/
def ceilDiv (a b : Nat) : Nat := (a + b - 1) / b

/-! ## Tables -/

/-- The record a table lists under a number. -/
def tfind? {α : Type} : Tab α → Nat → Option α
  | [], _ => none
  | (i, v) :: r, k => if i = k then some v else tfind? r k

/-- The record of a number, its reset record where the table lists none. -/
def tget {α : Type} (t : Tab α) (k : Nat) (d : α) : α := (tfind? t k).getD d

/-- The table with a record put under a number, numbers kept rising. -/
def tset {α : Type} : Tab α → Nat → α → Tab α
  | [], k, v => [(k, v)]
  | (i, w) :: r, k, v =>
    if k < i then (k, v) :: (i, w) :: r
    else if i = k then (k, v) :: r
    else (i, w) :: tset r k v

/-- The table without a number. -/
def tdel {α : Type} (t : Tab α) (k : Nat) : Tab α := t.filter (fun e => e.1 ≠ k)

/-- The numbers rise strictly from a bound. -/
def tfrom {α : Type} : Nat → Tab α → Bool
  | _, [] => true
  | lo, (i, _) :: r => decide (lo ≤ i) && tfrom (i + 1) r

/-- The numbers of a table. -/
def tkeys {α : Type} (t : Tab α) : List Nat := t.map (·.1)

/-! ## Byte memories -/

/-- The canonical form: addresses strictly rising, no byte 0. -/
def memFrom : Nat → Mem → Bool
  | _, [] => true
  | lo, (a, b) :: r => decide (lo ≤ a) && decide (b ≠ 0) && memFrom (a + 1) r

/-- A byte memory is in its canonical form. -/
abbrev memWf (m : Mem) : Prop := memFrom 0 m = true

/-- Reading one byte: an unlisted address reads 0. -/
def mget (m : Mem) (a : Nat) : Byte := tget m a 0

/-- The memory without an address. -/
def mdrop : Mem → Nat → Mem
  | [], _ => []
  | (i, b) :: r, a => if i = a then mdrop r a else (i, b) :: mdrop r a

/-- Writing one byte: writing 0 removes the entry. -/
def mset (m : Mem) (a : Nat) (b : Byte) : Mem := if b = 0 then mdrop m a else tset m a b

/-- Reading n bytes from rising addresses. -/
def mread (m : Mem) : Nat → Nat → List Byte
  | _, 0 => []
  | a, n + 1 => mget m a :: mread m (a + 1) n

/-- Writing bytes to rising addresses. -/
def mwrite (m : Mem) : Nat → List Byte → Mem
  | _, [] => m
  | a, b :: bs => mwrite (mset m a b) (a + 1) bs

/-! ## Codes and configuration fields -/

/-- GLB_VARIANT. -/
def Variant.code : Variant → Word
  | .v2SC => 0x00100208#32 | .v2SF => 0x00101308#32 | .v2PC => 0x00110208#32 | .v2PF => 0x00111308#32
  | .v4SC => 0x0020020C#32 | .v4SF => 0x0020130C#32 | .v4PC => 0x0021020C#32 | .v4PF => 0x0021130C#32
  | .v8SC => 0x00300210#32 | .v8SF => 0x00301310#32 | .v8PC => 0x00310210#32 | .v8PF => 0x00311310#32

/-- The path of a transport (R534). -/
def Transport.path : Transport → Path
  | .pcie => .pcie | .mgmt => .mgmt | .peer => .peer

/-- GLB_ACCESS_ERR.PATH (R33). DESIGN CHOICE: the table gives Groom no code; the one access of Groom's that is recorded,
a write of another target's EVC_COMPLETE (R76), is recorded with code 0 (log 41). -/
def Path.code : Path → BitVec 3
  | .pcie => 0 | .peer => 1 | .debug => 2 | .mgmt => 3 | .groom => 0

/-- Numerator of the frame period of a configuration: T = tNum / NUM nanoseconds (R86). -/
def YmCfg.tNum (c : YmCfg) : Nat := if bitOf c.rate 31 then 1001000000000 else 1000000000000
/-- NUM of YM_RATE (R86). -/
def YmCfg.num (c : YmCfg) : Nat := fld c.rate 17 0
/-- The frame period in nanoseconds, exactly (R86). -/
def YmCfg.period (c : YmCfg) : Rat := (c.tNum : Rat) / (c.num : Rat)

/-- FB(n) (R87): the first TIMECLK edge of device time, a multiple of 5 ns, at or after n times T, in rational
arithmetic. -/
def YmCfg.fbAt (c : YmCfg) (n : Nat) : Nat := 5 * ceilDiv (n * c.tNum) (5 * c.num)
/-- PT(n) (R87): the first such edge at or after n times T plus G. -/
def YmCfg.ptAt (c : YmCfg) (n : Nat) : Nat := 5 * ceilDiv (n * c.tNum + c.gateNs.toNat * c.num) (5 * c.num)
/-- The frame in which an instant falls: FB(n) has come and FB(n + 1) has not. -/
def YmCfg.frameAt (c : YmCfg) (t : Nat) : Nat :=
  let n := t * c.num / c.tNum
  if t < c.fbAt n then n - 1 else n
/-- The first boundary that lies at or after an instant: the first n with n times T beyond the edge before it. -/
def YmCfg.firstFrom (c : YmCfg) (t : Nat) : Nat :=
  if t = 0 then 0 else 5 * (ceilDiv t 5 - 1) * c.num / c.tNum + 1

/-- The first boundary that lies at or after an exact instant. -/
def YmCfg.firstAt (c : YmCfg) (t : Rat) : Nat := c.firstFrom t.ceil.toNat

/-- A 32-bit stamp extended to ELT against the present ELT (R129). -/
def extendLt (stamp : Word) (elt : Nat) : Nat := elt - (elt + 4294967296 - stamp.toNat) % 4294967296

/-- An instant of device time as a PTP timestamp (R128). -/
def toPtp (elt : Nat) : PtpTime := { sec := BitVec.ofNat 48 (elt / 1000000000), ns := BitVec.ofNat 32 (elt % 1000000000) }

/-- A counter's place: its block's number times 2^20, then a number within the block. -/
def Ctr.key : Ctr → Nat
  | .ymMiss c => 0x100000 + c
  | .ymBeLate => 0x100100
  | .compLate l => 0x200000 + l
  | .compRxIncomplete i => 0x200100 + i
  | .mapUnpacked => 0x300000 | .mapDataErr => 0x300001 | .mapOverrun => 0x300002 | .mapPixels => 0x300003
  | .lampFault => 0x300100 | .lampProof => 0x300101 | .lampProofMiss => 0x300102
  | .lampCapOver => 0x300103 | .lampTelemDrop => 0x300104
  | .pdkDispatch k => 0x400100 + k | .pdkSwitch k => 0x400200 + k
  | .pdkCancel k => 0x400300 + k | .pdkMigrate k => 0x400400 + k
  | .pdkWaitHist k b => 0x400500 + 16 * k + b
  | .stlRetired k => 0x500000 + k | .stlOverrun k => 0x500100 + k | .stlFault k => 0x500200 + k
  | .stlMemCorr k => 0x500300 + k | .stlSoftEvt k => 0x500400 + k
  | .eth p w => 0x600000 + 64 * p + w
  | .flwTxMsg p => 0x600000 + 64 * p + 40 | .flwDiscard p => 0x600000 + 64 * p + 41
  | .flwRingWait p => 0x600000 + 64 * p + 42 | .ylRxBad p => 0x600000 + 64 * p + 43
  | .ylRxDup p => 0x600000 + 64 * p + 44 | .ylRxUnknown p => 0x600000 + 64 * p + 45
  | .lp n w => 0x700000 + 16 * n + w
  | .rst h w => 0x800000 + 16 * h + w
  | .pair w => 0x900000 + w
  | .brd w => 0xA00000 + w
  | .intErr w => 0xB00000 + w
  | .far w => 0xB00010 + w

/-- The width of a counter: 64 bits for the miss, pixel, retired-instruction and octet counts, else 32. -/
def Ctr.width : Ctr → Nat
  | .ymMiss _ | .ymBeLate | .mapPixels | .stlRetired _ => 64
  | .eth _ w => if w < 2 then 64 else 32
  | _ => 32

end Sys2Proof.Machine

namespace Sys2Proof.Machine
open Sys2Proof

/-! ## The variant table (R1) -/

/-- GLB_VARIANT of the device. -/
def State.vcode (s : State) : Word := Variant.code s.variant
/-- Production variants: pairing, the protected layer, more than 8 armed cuts, raster heads. -/
def State.isP (s : State) : Bool := fld s.vcode 19 16 = 1
/-- The full package. -/
def State.isF (s : State) : Bool := fld s.vcode 15 12 = 1
/-- Mapped pixels by tier. -/
def State.nPixels (s : State) : Nat :=
  if fld s.vcode 23 20 = 1 then 2097152 else if fld s.vcode 23 20 = 2 then 4194304 else 8388608
/-- Fixtures by tier. -/
def State.nFixtures (s : State) : Nat :=
  if fld s.vcode 23 20 = 1 then 32768 else if fld s.vcode 23 20 = 2 then 65536 else 131072
/-- Stalls. -/
def State.nStalls (s : State) : Nat := fld s.vcode 4 0
/-- DRAM channels. -/
def State.nDram (s : State) : Nat := fld s.vcode 11 8
/-- Ethernet ports. -/
def State.nEth (s : State) : Nat := if s.isF then 16 else 8
/-- Line ports. -/
def State.nLine (s : State) : Nat := if s.isF then 40 else 24
/-- Raster heads. -/
def State.nHeads (s : State) : Nat := if s.isP then (if s.isF then 2 else 1) else 0
/-- Armed cuts a configuration may hold (R118). -/
def State.nCuts (s : State) : Nat := if s.isP then 64 else 8

/-- A domain's state in GLB_DOMAIN_STATUS (R26). -/
def State.domainOf (s : State) (d : Nat) : Nat := fld s.glb.domain (2 * d + 1) (2 * d)
/-- The domain is on. -/
def State.domainOn (s : State) (d : Nat) : Bool := decide (s.domainOf d = 1)

/-- What the registers of a domain show: their reset values while it is off (R184, R209, R290, R386, R407). -/
def State.shown (s : State) (d : Nat) : State := if s.domainOn d then s else { State.reset with variant := s.variant }

/-- The domains of Stall k and of line port n. -/
def stallDomain (k : Nat) : Nat := if k < 8 then 3 else 4
def lineDomain (n : Nat) : Nat := if n < 20 then 10 else 11

/-- The domain whose being off makes a counter read its reset value (R184, R209, R290, R386, R407). -/
def Ctr.domain : Ctr → Option Nat
  | .compLate _ | .compRxIncomplete _ => some 6
  | .mapUnpacked | .mapDataErr | .mapOverrun | .mapPixels => some 5
  | .lampFault | .lampProof | .lampProofMiss | .lampCapOver | .lampTelemDrop => some 5
  | .stlRetired k | .stlOverrun k | .stlFault k | .stlMemCorr k | .stlSoftEvt k => some (stallDomain k)
  | .lp n _ => some (lineDomain n)
  | .rst _ _ => some 7
  | _ => none

/-- The transport a mailbox is bound to (R38). -/
def State.mbxTransport (s : State) (m : Nat) : Option Transport :=
  if m ≤ 11 then some .pcie
  else if m ≤ 13 then some .mgmt
  else if m ≤ 15 then (if s.isP then some .peer else some .pcie)
  else none

/-! ## Time -/

/-- Extended local time in nanoseconds (R127), which is device time since the PTP epoch (R128). -/
def State.elt (s : State) : Nat := s.tim.wrap.toNat * 4294967296 + s.tim.lt.toNat

/-- FN: the full frame count modulo 2^32 (R14). -/
def fnOf (n : Nat) : Word := BitVec.ofNat 32 n

/-- Frame a is later than frame b (R15). -/
def fnLater (a b : Word) : Bool := a - b ≠ 0 && decide ((a - b).toNat < 0x80000000)

/-- The full frame count of the latest boundary; 0 before the first. -/
def State.frameNow (s : State) : Nat := s.ym.latest.getD 0

/-- The configuration that governs content n: that of the latest commit with an effective frame below n (R16). -/
def State.cfgFor (s : State) (n : Nat) : Cfg :=
  match s.prev.find? (fun e => n ≤ e.1) with
  | some e => e.2
  | none => s.cfg

/-- What a block does for content n, under the configuration that governs it. -/
def underCfg (n : Nat) (f : State → State) (s : State) : State :=
  { f { s with cfg := s.cfgFor n } with cfg := s.cfg }

/-- The first boundary at least 120 us after now that is still to come (R132, R134). -/
def State.boundaryIn120 (s : State) : Nat := max s.ym.next (s.cfg.ym.firstFrom (s.elt + 120000))

/-! ## Free values, outputs, counters -/

/-- The next free value's index, and the state that has taken it (log 5). -/
def State.takeFree (s : State) : State := { s with freeCtr := s.freeCtr + 1 }

/-- Something leaves the device (log 7). -/
def State.emit (s : State) (o : Out) : State := { s with out := o :: s.out }

/-- Several things leave the device, the first one first. -/
def State.emits (s : State) (os : List Out) : State := { s with out := os.reverse ++ s.out }

/-- A counter's live value. -/
def State.count (s : State) (c : Ctr) : Nat := tget s.cnt c.key 0

/-- A counter's captured value, which is what a read returns (R126). -/
def State.captured (s : State) (c : Ctr) : Nat := tget s.cap c.key 0

/-- A counter as a register read finds it. -/
def State.counter (s : State) (c : Ctr) : Nat :=
  match c.domain with
  | some d => (s.shown d).captured c
  | none => s.captured c

/-- A counter advances by n, modulo its width. -/
def State.bumpBy (s : State) (c : Ctr) (n : Nat) : State :=
  { s with cnt := tset s.cnt c.key ((s.count c + n) % 2 ^ c.width) }

/-- A counter advances by one. -/
def State.bump (s : State) (c : Ctr) : State := s.bumpBy c 1

/-- The live counters of the keys in [lo, hi) are captured (SNAPSHOT, or a boundary). -/
def State.captureKeys (s : State) (lo hi : Nat) : State :=
  { s with cap := s.cap.filter (fun e => e.1 < lo) ++ s.cnt.filter (fun e => lo ≤ e.1 ∧ e.1 < hi)
                    ++ s.cap.filter (fun e => hi ≤ e.1) }

/-- The live counters of the keys in [lo, hi) are cleared (CLEAR; log 8). -/
def State.clearKeys (s : State) (lo hi : Nat) : State :=
  { s with cnt := s.cnt.filter (fun e => e.1 < lo ∨ hi ≤ e.1) }

/-! ## Reads that return a value, access errors -/

/-- A read returns a value to a path (log 14). -/
def State.returns (s : State) (p : Path) (v : Word) : State :=
  { s with glb := { s.glb with readData := (p, v) :: s.glb.readData.filter (fun e => e.1 ≠ p) } }

end Sys2Proof.Machine
end

