-- ==== Sys2Proof/Machine/Codec.lean ====
section
/-! DEFINITION. Machine/Codec.lean: the byte layouts of structures in memory, least significant byte first (R10): the
sections of a patch image that are configuration objects (R118, R183, R205, R233, R260, R284, R285, R327), each read from
bytes and rebuilt as R536 states, the register images of every other object, and the bytes CONFIG_HASH is taken of. -/
namespace Sys2Proof.Machine
open Sys2Proof

/-! ## Reading and writing -/

/-- A check of a staging rule: the status where it fails. -/
def need (b : Bool) (st : Status) : Except Status Unit := if b then .ok () else .error st

/-- n bytes from an offset, as far as there are any. -/
def slice (bs : List Byte) (off n : Nat) : List Byte := (bs.drop off).take n

/-- The number in n bytes at an offset. -/
def num (bs : List Byte) (off n : Nat) : Nat := unle (slice bs off n)

/-- The 32-bit word at an offset. -/
def wordAt (bs : List Byte) (off : Nat) : Word := BitVec.ofNat 32 (num bs off 4)

/-- n bytes at an offset are 0. -/
def clear (bs : List Byte) (off n : Nat) : Bool := (slice bs off n).all (fun b => decide (b = 0))

/-- The first n records of a size. -/
def chop (size : Nat) : Nat → List Byte → List (List Byte)
  | 0, _ => []
  | n + 1, bs => bs.take size :: chop size n (bs.drop size)

/-- The next offset aligned to 64 bytes. -/
def up64 (n : Nat) : Nat := ceilDiv n 64 * 64

/-- Bytes followed by zeros up to a length. -/
def padTo (n : Nat) (bs : List Byte) : List Byte := bs ++ List.replicate (n - bs.length) 0

/-- Bytes followed by zeros up to a 64-byte boundary. -/
def pad64 (bs : List Byte) : List Byte := padTo (up64 bs.length) bs

/-- n bytes of a number, most significant first. -/
def be (n v : Nat) : List Byte := (le n v).reverse

/-- The number that bytes spell, most significant first. -/
def unbe (bs : List Byte) : Nat := unle bs.reverse

/-- The signed number that an n-byte field holds. -/
def signedOf (n v : Nat) : Int := if v < 2 ^ (8 * n - 1) then (v : Int) else (v : Int) - (2 ^ (8 * n) : Nat)

/-- The words of a list of images. -/
def leWords (l : List Word) : List Byte := l.flatMap (fun w => le 4 w.toNat)

/-- Records of a section whose order no rule states, in ascending order. DESIGN CHOICE: one index twice answers BAD_PARAM
(log 59). -/
def collect {α : Type} (l : List (Nat × α)) : Except Status (Tab α) := do
  need (decide (l.map (·.1)).Nodup) .badParam
  pure (l.foldl (fun t e => tset t e.1 e.2) [])

/-! ## Fixtures, section 0x0001 (R284) -/

/-- A fixture record; what it may hold is fixtureOk's. -/
def readFixture (r : List Byte) : Except Status (Nat × Fixture) := do
  need (decide (num r 0 4 < 2 ^ 17) && clear r 5 11) .badParam
  pure (num r 0 4, { slots := num r 4 1, init := (chop 2 64 (r.drop 16)).map (fun b => BitVec.ofNat 16 (unle b)) })

def fixtureBytes (e : Nat × Fixture) : List Byte :=
  le 4 e.1 ++ le 1 e.2.slots ++ le 11 0 ++ padTo 128 (e.2.init.flatMap (fun v => le 2 v.toNat))

/-- The section's records in their order. -/
def readFixtures (bs : List Byte) : Except Status (Tab Fixture) := do
  let n := num bs 0 4
  need (decide (bs.length = 64 + 144 * n) && clear bs 4 60) .badParam
  (chop 144 n (bs.drop 64)).mapM readFixture

def fixturesSection (fs : Tab Fixture) : List Byte := padTo 64 (le 4 fs.length) ++ fs.flatMap fixtureBytes

/-! ## The pixel map, section 0x0002 (R185, R187, R205) -/

/-- A pixel record as one 128-bit number. -/
def PixRec.image (r : PixRec) : Nat :=
  r.x % 65536 + r.y % 65536 * 2 ^ 16 + r.fixture * 2 ^ 32 + r.model * 2 ^ 49 + r.sample * 2 ^ 57 + r.areaW * 2 ^ 59
    + r.areaH * 2 ^ 61 + (if r.proofEn then 2 ^ 63 else 0) + r.bin * 2 ^ 64 + r.flow * 2 ^ 76 + r.offset * 2 ^ 92
    + r.group * 2 ^ 106 + r.circuit * 2 ^ 117

/-- The record that a 128-bit number is. -/
def pixOfImage (v : Nat) : PixRec :=
  let f (hi lo : Nat) : Nat := fld (BitVec.ofNat 128 v) hi lo
  { x := f 15 0, y := f 31 16, fixture := f 48 32, model := f 56 49, sample := f 58 57, areaW := f 60 59, areaH := f 62 61
    proofEn := decide (f 63 63 = 1), bin := f 75 64, flow := f 91 76, offset := f 105 92, group := f 116 106
    circuit := f 127 117 }

/-- A segment entry. -/
def readSeg (r : List Byte) : Except Status MapSeg := do
  need (clear r 10 6) .badParam
  pure { first := num r 0 4, count := num r 4 4, rowMax := num r 8 2 }

def segBytes (g : MapSeg) : List Byte := le 4 g.first ++ le 4 g.count ++ le 2 g.rowMax ++ le 6 0

def readMap (bs : List Byte) : Except Status PixMap := do
  let p := num bs 0 4
  let g := num bs 4 4
  let at_ := up64 (64 + 16 * g)
  need (decide (bs.length = if p = 0 then 64 + 16 * g else at_ + 16 * p) && clear bs 8 56
    && clear bs (64 + 16 * g) (at_ - (64 + 16 * g))) .badParam
  let segs ← (chop 16 g (bs.drop 64)).mapM readSeg
  pure { segs := segs, recs := (chop 16 p (bs.drop at_)).map (fun r => pixOfImage (unle r)) }

def mapSection (m : PixMap) : List Byte :=
  let head := padTo 64 (le 4 m.recs.length ++ le 4 m.segs.length) ++ m.segs.flatMap segBytes
  if m.recs = [] then head else pad64 head ++ m.recs.flatMap (fun r => le 16 r.image)

/-! ## Models and curves, sections 0x0003 and 0x0004 (R194, R198, R205) -/

/-- The nodes of a gamut table that are not 0, from node i on. -/
def readNodes : Nat → Nat → List Byte → Tab (List Nat)
  | 0, _, _ => []
  | n + 1, i, bs =>
    let r := bs.take 16
    let rest := readNodes n (i + 1) (bs.drop 16)
    if r.all (fun b => decide (b = 0)) then rest else (i, (chop 2 8 r).map unle) :: rest

/-- A model: header, table, and zeros up to 78,720 bytes where they follow. -/
def readModel (bs : List Byte) : Except Status (Nat × Model) := do
  need (decide (bs.length = 78672 ∨ bs.length = 78720) && clear bs 78672 48 && decide (num bs 3 1 < 2) && clear bs 0x20 32)
    .badParam
  pure (num bs 0 2,
    { emitters := num bs 2 1, bt2020 := decide (num bs 3 1 = 1), intensity := num bs 4 1, knee := num bs 5 1
      slope := num bs 6 2, curves := (slice bs 8 8).map (·.toNat), power := (chop 2 8 (slice bs 16 16)).map unle
      nodes := readNodes 4913 0 (bs.drop 64) })

def modelBytes (e : Nat × Model) : List Byte :=
  let m := e.2
  padTo 64 (le 2 e.1 ++ le 1 m.emitters ++ le 1 (if m.bt2020 then 1 else 0) ++ le 1 m.intensity ++ le 1 m.knee
      ++ le 2 m.slope ++ padTo 8 (m.curves.flatMap (le 1)) ++ padTo 16 (m.power.flatMap (le 2)))
    ++ (List.range 4913).flatMap (fun i => padTo 16 ((tget m.nodes i []).flatMap (le 2)))

def readModels (bs : List Byte) : Except Status (Tab Model) := do
  need (decide (bs.length % 78720 = 0)) .badParam
  collect (← (chop 78720 (bs.length / 78720) bs).mapM readModel)

def modelsSection (ms : Tab Model) : List Byte := ms.flatMap (fun e => padTo 78720 (modelBytes e))

def readCurves (bs : List Byte) : Except Status (Tab (List Nat)) := do
  need (decide (bs.length % 4104 = 0)) .badParam
  collect ((chop 4104 (bs.length / 4104) bs).map (fun r => (num r 0 4, (chop 4 1025 (r.drop 4)).map unle)))

def curvesSection (cs : Tab (List Nat)) : List Byte := cs.flatMap (fun e => le 4 e.1 ++ padTo 4100 (e.2.flatMap (le 4)))

/-! ## Bins, circuits and groups, sections 0x0005 and 0x0006 (R211, R219, R225, R233) -/

def readBin (r : List Byte) : Except Status (Nat × BinRec) := do
  need (decide (num r 4 2 < 2) && clear r 6 10) .badParam
  pure (num r 0 2, { flux := num r 2 2, valid := decide (num r 4 2 = 1)
                     matrix := (chop 2 64 (r.drop 16)).map (fun b => signedOf 2 (unle b)) })

def binBytes (e : Nat × BinRec) : List Byte :=
  le 2 e.1 ++ le 2 e.2.flux ++ le 2 (if e.2.valid then 1 else 0) ++ le 10 0 ++ padTo 128 (e.2.matrix.flatMap (leInt 2))

def readBins (bs : List Byte) : Except Status (Tab BinRec) := do
  need (decide (bs.length % 144 = 0)) .badParam
  (chop 144 (bs.length / 144) bs).mapM readBin

def readCircuit (r : List Byte) : Except Status (Nat × Circuit) := do
  need (decide (num r 2 2 < 2) && clear r 12 4) .badParam
  pure (num r 0 2, { enable := decide (num r 2 2 = 1), budget := num r 4 4, idle := num r 8 4 })

def circuitBytes (e : Nat × Circuit) : List Byte :=
  le 2 e.1 ++ le 2 (if e.2.enable then 1 else 0) ++ le 4 e.2.budget ++ le 4 e.2.idle ++ le 4 0

/-- A group record with its member list, which stands in `bs` at the record's LIST. -/
def readGroup (bs r : List Byte) : Except Status (Nat × Group) := do
  let n := num r 4 4
  let at_ := num r 8 4
  need (decide (num r 2 2 < 2) && clear r 0x13 13 && decide (n ≤ 65536) && decide (at_ + 4 * n ≤ bs.length)) .badParam
  pure (num r 0 2,
    { enable := decide (num r 2 2 = 1), members := (chop 4 n (bs.drop at_)).map unle, tMeasUs := num r 12 2
      period := num r 14 2, code := num r 16 2, timeout := num r 18 1 })

def groupBytes (at_ : Nat) (e : Nat × Group) : List Byte :=
  le 2 e.1 ++ le 2 (if e.2.enable then 1 else 0) ++ le 4 e.2.members.length ++ le 4 at_ ++ le 2 e.2.tMeasUs
    ++ le 2 e.2.period ++ le 2 e.2.code ++ le 1 e.2.timeout ++ le 13 0

/-- The group records, the list of each after those of the groups before it. -/
def groupRecords : Nat → Tab Group → List Byte
  | _, [] => []
  | at_, e :: r => groupBytes at_ e ++ groupRecords (at_ + 4 * e.2.members.length) r

/-- The payload of LAMP_GROUP_SET: n group records, then the lists they name (log 9). -/
def readGroups (n : Nat) (bs : List Byte) : Except Status (Tab Group) := do
  need (decide (32 * n ≤ bs.length)) .badParam
  (chop 32 n bs).mapM (readGroup bs)

def readCircuits (bs : List Byte) : Except Status (Tab Circuit × Tab Group) := do
  let c := num bs 0 4
  let g := num bs 4 4
  let at_ := up64 (64 + 16 * c)
  need (decide (at_ + 32 * g ≤ bs.length ∨ (g = 0 ∧ 64 + 16 * c ≤ bs.length)) && clear bs 8 56
    && clear bs (64 + 16 * c) (at_ - (64 + 16 * c))) .badParam
  let cs ← (chop 16 c (bs.drop 64)).mapM readCircuit
  let gs ← (chop 32 g (bs.drop at_)).mapM (readGroup bs)
  pure (← collect cs, ← collect gs)

def circuitsSection (cs : Tab Circuit) (gs : Tab Group) : List Byte :=
  let head := padTo 64 (le 4 cs.length ++ le 4 gs.length) ++ cs.flatMap circuitBytes
  if gs = [] then head
  else
    let lists := up64 (up64 head.length + 32 * gs.length)
    padTo lists (pad64 head ++ groupRecords lists gs) ++ gs.flatMap (fun e => e.2.members.flatMap (le 4))

/-! ## Tack binaries, section 0x0007 (R285, R287) -/

/-- A directory entry with its code and constants. -/
def readBinary (bs r : List Byte) : Except Status (Nat × Binary) := do
  let n := num r 4 4
  let k := num r 0x10 4
  let code := num r 8 8
  let const := num r 0x18 8
  need (clear r 2 2 && clear r 0x14 4 && decide (n ≤ 15360) && decide (k ≤ 65536) && decide (code % 64 = 0)
    && decide (const % 64 = 0) && decide (code + 4 * n ≤ bs.length) && decide (k = 0 ∨ const + k ≤ bs.length)) .tackBadBinary
  pure (num r 0 2, { code := (chop 4 n (bs.drop code)).map (fun b => BitVec.ofNat 32 (unle b)), consts := slice bs const k })

def readArg (r : List Byte) : Except Status ArgRec := do
  need (decide (num r 0 4 < 2 ^ 17) && clear r 8 8) .badParam
  pure { first := num r 0 4, count := num r 4 4, args := (chop 4 4 (r.drop 16)).map (fun b => BitVec.ofNat 32 (unle b)) }

def argBytes (a : ArgRec) : List Byte := le 4 a.first ++ le 4 a.count ++ le 8 0 ++ padTo 16 (leWords a.args)

/-- The directory may stand in any order; a BINARY named twice is refused. -/
def readTack (bs : List Byte) : Except Status TackCfg := do
  let b := num bs 0 4
  let a := num bs 4 4
  let at_ := num bs 8 8
  need (decide (64 + 32 * b ≤ bs.length) && clear bs 16 48) .tackBadBinary
  let bins ← (chop 32 b (bs.drop 64)).mapM (readBinary bs)
  need (decide (bins.map (·.1)).Nodup) .tackBadBinary
  need (decide (a = 0 ∨ at_ + 32 * a ≤ bs.length) && decide (at_ % 64 = 0)) .badParam
  let args ← (chop 32 a (bs.drop at_)).mapM readArg
  pure { bins := bins.foldl (fun t e => tset t e.1 e.2) [], args := args }

/-- The directory entries of binaries whose code and constants follow one another from an offset on. -/
def binaryEntries : Nat → Tab Binary → List Byte
  | _, [] => []
  | at_, e :: r =>
    let c := up64 (at_ + 4 * e.2.code.length)
    le 2 e.1 ++ le 2 0 ++ le 4 e.2.code.length ++ le 8 at_ ++ le 4 e.2.consts.length ++ le 4 0
      ++ le 8 (if e.2.consts = [] then 0 else c) ++ binaryEntries (up64 (c + e.2.consts.length)) r

/-- The code and the constants of the binaries, each on a 64-byte boundary. -/
def binaryParts (bs : Tab Binary) : List Byte :=
  bs.flatMap (fun e => pad64 (leWords e.2.code) ++ pad64 e.2.consts)

def tackSection (t : TackCfg) : List Byte :=
  let dir := up64 (64 + 32 * t.bins.length)
  let at_ := dir + (binaryParts t.bins).length
  padTo 64 (le 4 t.bins.length ++ le 4 t.args.length ++ le 8 (if t.args = [] then 0 else at_))
    ++ (if t.bins = [] then [] else pad64 (binaryEntries dir t.bins) ++ binaryParts t.bins) ++ t.args.flatMap argBytes

/-! ## The task graph, section 0x0008 (R236, R237, R240, R260) -/

/-- A task descriptor: bits 31:21 of TASK, bits 15:4 of FLAGS and the LIVE field are 0 outside the Paddock. -/
def readTask (r : List Byte) : Except Status TaskDesc := do
  let f := num r 4 2
  need (decide (num r 0 4 < 2 ^ 21) && decide (f < 16) && clear r 0x38 8) .badParam
  pure { task := num r 0 4, guaranteed := f.testBit 0, late := f.testBit 1, tolerant := f.testBit 2
         layerFinish := f.testBit 3, prio := num r 6 1, home := num r 7 1, affinity := BitVec.ofNat 16 (num r 8 2)
         dep := num r 10 2, bound := wordAt r 0x0C, entry := wordAt r 0x10, delayUs := wordAt r 0x14
         dataBytes := wordAt r 0x18, layer := num r 0x1C 2, saveMask := BitVec.ofNat 16 (num r 0x1E 2)
         succ := (chop 4 6 (r.drop 0x20)).map (fun b => BitVec.ofNat 32 (unle b)) }

/-- A descriptor's bytes with its LIVE words. -/
def taskBytes (d : TaskDesc) (liveFn liveState : Word) : List Byte :=
  let f := (if d.guaranteed then 1 else 0) + (if d.late then 2 else 0) + (if d.tolerant then 4 else 0)
    + (if d.layerFinish then 8 else 0)
  le 4 d.task ++ le 2 f ++ le 1 d.prio ++ le 1 d.home ++ le 2 d.affinity.toNat ++ le 2 d.dep
    ++ leWords [d.bound, d.entry, d.delayUs, d.dataBytes] ++ le 2 d.layer ++ le 2 d.saveMask.toNat
    ++ padTo 24 (leWords d.succ) ++ leWords [liveFn, liveState]

def readGraph (bs : List Byte) : Except Status Graph := do
  let t := num bs 0 4
  let f := num bs 4 4
  let l := num bs 8 4
  need (decide (bs.length = 64 + 64 * t + 64 * f + 32 * l) && clear bs 12 52) .badParam
  let tasks ← (chop 64 t (bs.drop 64)).mapM readTask
  let refs (b : List Byte) (n : Nat) : List Word := (chop 4 n b).map (fun b => BitVec.ofNat 32 (unle b))
  pure { tasks := tasks
         fan := (chop 64 f (bs.drop (64 + 64 * t))).map (fun b => { succ := refs b 15, link := wordAt b 60 })
         links := (chop 32 l (bs.drop (64 + 64 * t + 64 * f))).map (fun b => { hw := num b 0 4, succ := refs (b.drop 4) 7 }) }

def graphSection (g : Graph) : List Byte :=
  padTo 64 (le 4 g.tasks.length ++ le 4 g.fan.length ++ le 4 g.links.length)
    ++ g.tasks.flatMap (fun d => taskBytes d 0 0)
    ++ g.fan.flatMap (fun e => padTo 60 (leWords e.succ) ++ le 4 e.link.toNat)
    ++ g.links.flatMap (fun l => le 4 l.hw ++ padTo 28 (leWords l.succ))

/-! ## Flows, section 0x0009 (R292, R294, R327) -/

/-- A flow record: the LIVE fields are ignored (R292). -/
def readFlow (r : List Byte) : Except Status (Nat × FlowRec) := do
  let f := BitVec.ofNat 16 (num r 6 2)
  need (decide (num r 0 4 < 65536) && decide (fld f 15 13 = 0) && decide (num r 8 4 < 2 ^ 24) && clear r 0x2B 5) .badParam
  pure (num r 0 4,
    { kind := num r 4 1, port := num r 5 1, enable := bitOf f 0, guaranteed := bitOf f 1, pixels := bitOf f 2
      dither := bitOf f 3, ipv6 := bitOf f 4, vlan := bitOf f 5, sync := bitOf f 6, width := fld f 8 7
      emitters := fld f 12 9, stream := wordAt r 8, count := num r 0x0C 2, group := num r 0x0E 2, first := num r 0x10 4
      tci := BitVec.ofNat 16 (num r 0x14 2), dstPort := BitVec.ofNat 16 (num r 0x16 2)
      dst := BitVec.ofNat 128 (unbe (slice r 0x18 16)), prio := num r 0x28 1, divisor := num r 0x29 1
      phase := num r 0x2A 1 })

/-- A flow record's bytes with its LIVE fields. -/
def flowBytes (e : Nat × FlowRec) (live : List Word) : List Byte :=
  let r := e.2
  let b (v : Bool) (i : Nat) : Nat := if v then 2 ^ i else 0
  le 4 e.1 ++ le 1 r.kind ++ le 1 r.port
    ++ le 2 (b r.enable 0 + b r.guaranteed 1 + b r.pixels 2 + b r.dither 3 + b r.ipv6 4 + b r.vlan 5 + b r.sync 6
        + r.width * 2 ^ 7 + r.emitters * 2 ^ 9)
    ++ le 4 r.stream.toNat ++ le 2 r.count ++ le 2 r.group ++ le 4 r.first ++ le 2 r.tci.toNat ++ le 2 r.dstPort.toNat
    ++ be 16 r.dst.toNat ++ le 1 r.prio ++ le 1 r.divisor ++ le 1 r.phase ++ le 5 0 ++ padTo 16 (leWords live)

/-- The register images of a settings block with their reserved bits clear (R13, R328). -/
def FlowSet.masked (x : FlowSet) : FlowSet := { x with ylCfg := x.ylCfg &&& 0xFCFFFFFF#32, gate := x.gate &&& 0xFFFFFE#32 }

/-- The flow settings block (R327). -/
def readFlowSet (r : List Byte) : Except Status FlowSet := do
  need (clear r 8 8) .badParam
  let sync : Tab Nat := ((List.range 16).map (fun p => (p, num r (0x60 + 2 * p) 2))).filter (fun e => e.2 ≠ 0)
  pure (FlowSet.masked { ylCfg := wordAt r 0, gate := wordAt r 4, cid := BitVec.ofNat 128 (unbe (slice r 16 16)),
                         name := BitVec.ofNat 512 (unbe (slice r 32 64)), sync := sync })

def flowSetBytes (x : FlowSet) : List Byte :=
  leWords [x.ylCfg, x.gate] ++ le 8 0 ++ be 16 x.cid.toNat ++ be 64 x.name.toNat
    ++ (List.range 16).flatMap (fun p => le 2 (tget x.sync p 0))

def readFlows (bs : List Byte) : Except Status FlowCfg := do
  let n := num bs 0 4
  let p := num bs 4 4
  need (decide (bs.length = 192 + 64 * n + 4 * p) && clear bs 8 56) .badParam
  let set ← readFlowSet (slice bs 64 128)
  let flows ← (chop 64 n (bs.drop 192)).mapM readFlow
  pure { flows := flows, set := set
         params := (chop 4 p (bs.drop (192 + 64 * n))).map (fun b => BitVec.ofNat 32 (unle b)) }

def flowsSection (c : FlowCfg) : List Byte :=
  padTo 64 (le 4 c.flows.length ++ le 4 c.params.length) ++ flowSetBytes c.set
    ++ c.flows.flatMap (fun e => flowBytes e []) ++ leWords c.params

/-! ## Layers, section 0x000A (R161, R166, R170, R183; log 59) -/

/-- The frame size in bytes of a w x h image of a format; none where the format has no such size. -/
def frameBytes (fmt w h : Nat) : Nat :=
  if fmt = 1 then 8 * w * h else if fmt = 3 then w * 5 / 2 * h else if fmt = 4 then w * 15 / 4 * h else 4 * w * h

/-- An input record (R161). -/
def readInput (r : List Byte) : Except Status InputRec := do
  let f := num r 1 1
  need (decide (f < 32) && decide (num r 0x1A 2 < 2)) .badParam
  pure { port := num r 0 1, enable := f.testBit 0, ipv6 := f.testBit 1, rgb := f.testBit 2, full := f.testBit 3
         bpm := f.testBit 4, udp := BitVec.ofNat 16 (num r 2 2), group := BitVec.ofNat 128 (unbe (slice r 4 16))
         width := num r 0x14 2, height := num r 0x16 2, rateNum := num r 0x18 2, den1001 := decide (num r 0x1A 2 = 1)
         latchUs := num r 0x1C 4 }

def inputBytes (r : InputRec) : List Byte :=
  let b (v : Bool) (i : Nat) : Nat := if v then 2 ^ i else 0
  le 1 r.port ++ le 1 (b r.enable 0 + b r.ipv6 1 + b r.rgb 2 + b r.full 3 + b r.bpm 4) ++ le 2 r.udp.toNat
    ++ be 16 r.group.toNat ++ le 2 r.width ++ le 2 r.height ++ le 2 r.rateNum ++ le 2 (if r.den1001 then 1 else 0)
    ++ le 4 r.latchUs

/-- The register images of layer l as they are kept: RSV bits are ignored (R13), BEST_EFFORT is always 0 for layer 8
(R184). -/
def layerFor (l : Nat) (r : LayerRegs) : LayerRegs :=
  { ctrl := r.ctrl &&& (if l = 8 then 0xFFFFDE00#32 else 0xFFFFFE00#32), src := r.src &&& 0x7FFF7FFF#32
    pos := r.pos &&& 0x7FFF7FFF#32, dst := r.dst &&& 0x7FFF7FFF#32, opac := r.opac &&& 0x8000FFFF#32
    opacSrc := r.opacSrc &&& 0x007FFFFF#32 }

/-- The six register images of layer l. -/
def readLayer (l : Nat) (r : List Byte) : LayerRegs :=
  layerFor l { ctrl := wordAt r 0, src := wordAt r 4, pos := wordAt r 8, dst := wordAt r 12, opac := wordAt r 16
               opacSrc := wordAt r 20 }

def layerImage (r : LayerRegs) : List Byte := leWords [r.ctrl, r.src, r.pos, r.dst, r.opac, r.opacSrc] ++ le 8 0

/-- A coefficient set: 64 phases of 20 signed numbers. -/
def readCoefs (r : List Byte) : CoefSet :=
  { phases := (chop 40 64 r).map (fun p => (chop 2 20 p).map (fun b => signedOf 2 (unle b))) }

def coefBytes (c : CoefSet) : List Byte :=
  padTo 2560 (c.phases.flatMap (fun p => padTo 40 (p.flatMap (leInt 2))))

/-- Entry i of the still directory with its data: an entry of zeros but for INDEX names no still. Bit 15 of FORMAT is
PREMULT (log 59). -/
def readStill (bs : List Byte) (i : Nat) (r : List Byte) : Except Status (Option (Nat × Still)) :=
  if clear r 2 14 then (if num r 0 2 = i then .ok none else .error .badParam)
  else
    let f := num r 2 2
    let w := num r 4 4
    let h := num r 8 4
    let n := frameBytes (f % 32768) w h
    if num r 0 2 = i ∧ num r 12 4 % 64 = 0 ∧ num r 12 4 + n ≤ bs.length then
      .ok (some (i, { format := f % 32768, width := w, height := h, premult := f.testBit 15
                      data := mwrite [] 0 (slice bs (num r 12 4) n) }))
    else .error .badParam

/-- Where the parts of the section begin: coefficient sets, still directory, still data. -/
def coefAt : Nat := 576
def stillDirAt : Nat := 576 + 15 * 2560
def stillsAt : Nat := 576 + 15 * 2560 + 1024

def readLayers (bs : List Byte) : Except Status CompCfg := do
  need (decide (stillsAt ≤ bs.length) && clear bs 20 12 && (chop 32 9 (bs.drop 32)).all (fun r => clear r 24 8)) .badParam
  let inputs ← (chop 32 8 (bs.drop 320)).mapM readInput
  let stills ← ((List.range 64).zip (chop 16 64 (bs.drop stillDirAt))).mapM (fun e => readStill bs e.1 e.2)
  let ls := ((List.range 9).zip (chop 32 9 (bs.drop 32))).map (fun e => (e.1, readLayer e.1 e.2))
  let ks := (List.range 15).zip (chop 2560 15 (bs.drop coefAt))
  pure { size := wordAt bs 0 &&& 0x7FFF7FFF#32, ctrl := wordAt bs 4 &&& 0x0000000F#32, bgRg := wordAt bs 8
         bgB := wordAt bs 12 &&& 0x0000FFFF#32, order := wordAt bs 16
         layers := ls.filter (fun e => e.2 ≠ {})
         inputs := ((List.range 8).zip inputs).filter (fun e => e.2 ≠ {})
         coefs := (ks.filter (fun e => e.2.any (fun b => decide (b ≠ 0)))).map (fun e => (e.1 + 1, readCoefs e.2))
         stills := stills.filterMap id }

/-- The still directory, each still's data after those of the stills before it. -/
def stillDir : Nat → Nat → Tab Still → Nat → List Byte
  | 0, _, _, _ => []
  | n + 1, i, ss, at_ =>
    match tfind? ss i with
    | none => le 2 i ++ le 14 0 ++ stillDir n (i + 1) ss at_
    | some t =>
      le 2 i ++ le 2 (t.format + (if t.premult then 32768 else 0)) ++ le 4 t.width ++ le 4 t.height ++ le 4 at_
        ++ stillDir n (i + 1) ss (up64 (at_ + frameBytes t.format t.width t.height))

def layersSection (c : CompCfg) : List Byte :=
  leWords [c.size, c.ctrl, c.bgRg, c.bgB, c.order] ++ le 12 0
    ++ (List.range 9).flatMap (fun l => layerImage (tget c.layers l {}))
    ++ (List.range 8).flatMap (fun i => inputBytes (tget c.inputs i {}))
    ++ (List.range 15).flatMap (fun k => coefBytes (tget c.coefs (k + 1) {}))
    ++ stillDir 64 0 c.stills stillsAt
    ++ c.stills.flatMap (fun e => pad64 (mread e.2.data 0 (frameBytes e.2.format e.2.width e.2.height)))

/-! ## Cuts, section 0x000B (R118) -/

/-- A cut record with its flow list. -/
def readCut (bs r : List Byte) : Except Status Cut := do
  let n := num r 0x0C 4
  let at_ := num r 8 4
  let fs := (chop 4 n (bs.drop at_)).map unle
  need (clear r 6 2 && clear r 0x1C 4 && decide (num r 0x18 4 < 2 ^ 24) && decide (1 ≤ n) && decide (n ≤ 65536)
    && decide (at_ + 4 * n ≤ bs.length) && fs.all (fun f => decide (f < 65536))) .badParam
  pure { index := num r 0 1, trigLine := BitVec.ofNat 8 (num r 1 1), triggers := BitVec.ofNat 16 (num r 2 2)
         hold := BitVec.ofNat 16 (num r 4 2), flows := fs, lineMask := BitVec.ofNat 64 (num r 0x10 8)
         cueStream := BitVec.ofNat 24 (num r 0x18 4) }

def cutRecordBytes (at_ : Nat) (c : Cut) : List Byte :=
  le 1 c.index ++ le 1 c.trigLine.toNat ++ le 2 c.triggers.toNat ++ le 2 c.hold.toNat ++ le 2 0 ++ le 4 at_
    ++ le 4 c.flows.length ++ le 8 c.lineMask.toNat ++ le 4 c.cueStream.toNat ++ le 4 0

/-- n cut records, as the section's directory entry counts them, then the lists they name (log 59). -/
def readCuts (n : Nat) (bs : List Byte) : Except Status (List Cut) := do
  need (decide (32 * n ≤ bs.length)) .badParam
  (chop 32 n bs).mapM (readCut bs)

def cutRecords : Nat → List Cut → List Byte
  | _, [] => []
  | at_, c :: r => cutRecordBytes at_ c ++ cutRecords (at_ + 4 * c.flows.length) r

def cutsSection (cs : List Cut) : List Byte :=
  cutRecords (32 * cs.length) cs ++ cs.flatMap (fun c => c.flows.flatMap (le 4))

/-! ## Configuration objects (R536) -/

/-- The section object of a TYPE, rebuilt. -/
def sectionBytes (c : Cfg) (type : Nat) : List Byte :=
  if type = 0x01 then fixturesSection c.stl.fixtures
  else if type = 0x02 then mapSection c.map.map
  else if type = 0x03 then modelsSection c.map.models
  else if type = 0x04 then curvesSection c.map.curves
  else if type = 0x05 then c.lamp.bins.flatMap binBytes
  else if type = 0x06 then circuitsSection c.lamp.circuits c.lamp.groups
  else if type = 0x07 then tackSection c.stl.tack
  else if type = 0x08 then graphSection c.stl.graph
  else if type = 0x09 then flowsSection c.flow
  else if type = 0x0A then layersSection c.comp
  else cutsSection c.ym.cuts

/-- The bytes of a section object without its bytes built: how many they are. -/
def sectionSize (c : Cfg) (type : Nat) : Nat :=
  let sum (l : List Nat) : Nat := l.sum
  if type = 0x01 then 64 + 144 * c.stl.fixtures.length
  else if type = 0x02 then
    (if c.map.map.recs = [] then 64 + 16 * c.map.map.segs.length
     else up64 (64 + 16 * c.map.map.segs.length) + 16 * c.map.map.recs.length)
  else if type = 0x03 then 78720 * c.map.models.length
  else if type = 0x04 then 4104 * c.map.curves.length
  else if type = 0x05 then 144 * c.lamp.bins.length
  else if type = 0x06 then
    (if c.lamp.groups = [] then 64 + 16 * c.lamp.circuits.length
     else up64 (up64 (64 + 16 * c.lamp.circuits.length) + 32 * c.lamp.groups.length)
       + 4 * sum (c.lamp.groups.map (fun e => e.2.members.length)))
  else if type = 0x07 then
    64 + (up64 (32 * c.stl.tack.bins.length)
      + sum (c.stl.tack.bins.map (fun e => up64 (4 * e.2.code.length) + up64 e.2.consts.length)))
      + 32 * c.stl.tack.args.length
  else if type = 0x08 then 64 + 64 * c.stl.graph.tasks.length + 64 * c.stl.graph.fan.length + 32 * c.stl.graph.links.length
  else if type = 0x09 then 192 + 64 * c.flow.flows.length + 4 * c.flow.params.length
  else if type = 0x0A then
    stillsAt + sum (c.comp.stills.map (fun e => up64 (frameBytes e.2.format e.2.width e.2.height)))
  else 32 * c.ym.cuts.length + 4 * sum (c.ym.cuts.map (fun k => k.flows.length))

/-- The register images of one object, in the order of its command's payload. -/
def imageBytes (c : Cfg) (op i : Nat) : Option (List Byte) :=
  let lg (v : Option Int) : List Byte := match v with | some x => leInt 1 x | none => [0x80#8]
  if op = 0x0301 ∧ i = 0 then some (leWords [c.time.align, c.time.wcRate])
  else if op = 0x0302 ∧ i = 0 then
    some (leWords [c.time.ptp] ++ [c.time.priority2] ++ lg c.time.syncLog ++ lg c.time.annLog
      ++ [BitVec.ofNat 8 (c.time.receipt.getD 0)] ++ lg c.time.delayLog ++ leWords [c.time.asym])
  else if op = 0x0303 ∧ i = 0 then some (leWords [c.time.jump, c.time.servo])
  else if op = 0x0440 ∧ i < 16 then
    let r := tget c.eth.ports i {}
    some (leWords [r.cfg, r.eee, r.ct, r.thru, r.sacn, r.ipv4] ++ le 1 r.pfx ++ le 16 r.ipv6.toNat)
  else if op = 0x0441 ∧ i < 16 then
    let r := tget c.eth.filters i {}
    some (leWords (r.filters.flatMap (fun p => [p.1, p.2]) ++ r.rxq))
  else if op = 0x0442 ∧ i < 16 then
    some ((List.range 8).flatMap (fun q => le 8 (tget c.eth.bases (8 * i + q) 0).toNat))
  else if op = 0x0460 ∧ i < 40 then
    let r := tget c.line i {}
    some (leWords [r.mode, r.gap, r.clk, r.wordVal, r.frame, r.headPat, r.tailPat, r.sym0, r.sym1, r.dmx, r.rdm, r.rdmT,
      r.trig])
  else if op = 0x0540 ∧ i < 2 then
    let r := tget c.rst.heads i {}
    some (leWords [r.ctrl, r.delay, r.h, r.v, r.hsync, r.vsync, r.winPos, r.winSize, r.bg, r.frzCtrl, r.frzPos, r.frzSize])
  else if op = 0x0541 ∧ i < 8 then
    let r := tget c.rst.tiles i {}
    some (leWords [r.ctrl, r.pos, r.size, r.ssrc])
  else if op = 0x0604 ∧ i = 0 then some (leWords [c.map.pqWhite, c.map.gm, c.map.gmSrc, c.map.probe])
  else if op = 0x0704 ∧ i = 0 then
    some (leWords [c.lamp.floor, c.lamp.staleD, c.lamp.telem, c.lamp.proof, c.lamp.measCode])
  else if op = 0x0881 ∧ i = 0 then some (leWords ((List.range 16).map (fun k => tget c.stl.cores k 4)))
  else if op = 0x0A01 ∧ i = 0 then some (leWords [c.pair.cfg, c.pair.swap])
  else if op = 0x0B01 ∧ i = 0 then some (leWords [c.brd.brd])
  else if op = 0x0C01 ∧ i = 0 then some (leWords [c.brd.cal])
  else if op = 0x0E01 ∧ i = 0 then some (leWords [c.far])
  else none

/-- The content of an object (R536). -/
def objectBytes (c : Cfg) (id : Nat) : Option (List Byte) :=
  let op := id / 65536
  let i := id % 65536
  if 1 ≤ op ∧ op ≤ 0x0B then (if i = 0 then some (sectionBytes c op) else none) else imageBytes c op i

/-- How many bytes the content of an object is. -/
def objectSize (c : Cfg) (id : Nat) : Nat :=
  let op := id / 65536
  if 1 ≤ op ∧ op ≤ 0x0B then (if id % 65536 = 0 then sectionSize c op else 0)
  else ((imageBytes c op (id % 65536)).map (·.length)).getD 0

/-- The ids of the objects that are not sections, in ascending order (R536). -/
def imageIds : List Nat :=
  let many (op n : Nat) : List Nat := (List.range n).map (fun i => op * 65536 + i)
  many 0x0301 1 ++ many 0x0302 1 ++ many 0x0303 1 ++ many 0x0440 16 ++ many 0x0441 16 ++ many 0x0442 16
    ++ many 0x0460 40 ++ many 0x0540 2 ++ many 0x0541 8 ++ many 0x0604 1 ++ many 0x0704 1 ++ many 0x0881 1
    ++ many 0x0A01 1 ++ many 0x0B01 1 ++ many 0x0C01 1 ++ many 0x0E01 1

/-- The ids of all objects, in ascending order. -/
def objectIds : List Nat := (List.range 11).map (fun n => (n + 1) * 65536) ++ imageIds

/-- The variant has the object. -/
def State.hasObject (s : State) (id : Nat) : Bool :=
  let op := id / 65536
  let i := id % 65536
  if op = 0x0440 ∨ op = 0x0441 ∨ op = 0x0442 then decide (i < s.nEth)
  else if op = 0x0460 then decide (i < s.nLine)
  else if op = 0x0540 then decide (i < s.nHeads)
  else if op = 0x0541 then decide (i / 4 < s.nHeads)
  else if op = 0x0A01 then s.isP
  else true

/-- A record of CONFIG_HASH: the id, the content's length, the content. -/
def hashRecord (c : Cfg) (id : Nat) : List Byte :=
  let b := (objectBytes c id).getD []
  le 4 id ++ le 8 b.length ++ b

/-- What CONFIG_HASH is taken of: a record for every object of the variant, in ascending id. -/
def State.hashInput (s : State) (c : Cfg) : List Byte :=
  (objectIds.filter (fun id => s.hasObject id)).flatMap (hashRecord c)

/-- CONFIG_HASH of a configuration (R536). -/
def State.configHash (s : State) (c : Cfg) : Digest := Config.sha384 (s.hashInput c)

end Sys2Proof.Machine
end

