-- ==== Sys2Proof/Machine/Flags.lean ====
section
/-! DEFINITION. Machine/Flags.lean: the cause registers, the event sources they drive, and the event
controller's operations (chapter 03): pending, thresholds, presentation, moderation and MSI-X. Also what
records an event: the access-error register (R33) and the log (R67). -/
namespace Sys2Proof.Machine
open Sys2Proof

/-! ## Cause registers and sources -/

/-- A cause register's place in the table of cause registers. -/
def causeKey : CauseReg → Nat
  | .glb => 0 | .mbx => 1 | .ym => 2 | .time => 3 | .comp => 4 | .map => 5 | .lamp => 6
  | .pdk k => 100 + k | .stl k => 120 + k
  | .ethTx p => 140 + p | .ethRx p => 160 + p | .flwTx p => 180 + p | .ylRx p => 200 + p
  | .lp n => 300 + n | .rst h => 400 + h | .pair => 410 | .brd => 411 | .far => 412 | .sec => 413

/-- The event source a cause bit drives, where it drives one (R36, R45, R69 and the source sentence of each
block's register rule). -/
def srcOf : CauseReg → Nat → Option Nat
  | .glb, b => if 1 ≤ b ∧ b ≤ 3 then some b else none
  | .mbx, b => if b < 16 then some (8 + b) else none
  | .ym, b => if b < 8 then some (24 + b) else none
  | .time, b => if b < 8 then some (40 + b) else none
  | .pdk k, _ => some (48 + k)
  | .stl k, _ => some (48 + k)
  | .comp, b => if b < 13 then some (64 + b) else none
  | .map, b => if b < 4 then some (80 + b) else none
  | .lamp, b => if b < 8 then some (88 + b) else none
  | .ethTx p, _ => some (96 + 2 * p)
  | .flwTx p, _ => some (96 + 2 * p)
  | .ethRx p, _ => some (97 + 2 * p)
  | .ylRx p, _ => some (97 + 2 * p)
  | .lp n, _ => some (128 + n)
  | .rst h, _ => some (168 + h)
  | .pair, b => if b < 15 then some (176 + b) else none
  | .brd, b => if b < 8 then some (192 + b) else none
  | .far, b => if b < 8 then some (208 + b) else none
  | .sec, b => if b < 8 then some (216 + b) else none

/-- The other cause register that drives the same source, where one does (R261, R328). -/
def causeTwin : CauseReg → Option CauseReg
  | .pdk k => some (.stl k) | .stl k => some (.pdk k)
  | .ethTx p => some (.flwTx p) | .flwTx p => some (.ethTx p)
  | .ethRx p => some (.ylRx p) | .ylRx p => some (.ethRx p)
  | _ => none

/-- A cause register's value. -/
def State.cause (s : State) (r : CauseReg) : Word := tget s.causes (causeKey r) 0

/-- The level of the source that bit b of r drives: bit by bit, or the whole register and its twin nonzero. -/
def causeLevel (s : State) (r : CauseReg) (b : Nat) : Bool :=
  match r with
  | .pdk _ | .stl _ | .ethTx _ | .ethRx _ | .flwTx _ | .ylRx _ =>
    decide (s.cause r ≠ 0) || (match causeTwin r with | some t => decide (s.cause t ≠ 0) | none => false)
  | .lp _ | .rst _ => decide (s.cause r ≠ 0)
  | _ => bitOf (s.cause r) b

/-! ## The event controller -/

/-- A source's record. -/
def Evc.srcAt (e : Evc) (n : Nat) : Src := tget e.src n {}
/-- A target's record. -/
def Evc.tgtAt (e : Evc) (t : Nat) : Tgt := tget e.tgt t {}
/-- A vector's record. -/
def Evc.vecAt (e : Evc) (v : Nat) : Vec := tget e.vec v {}
/-- A source's record put in place. -/
def Evc.setSrc (e : Evc) (n : Nat) (r : Src) : Evc := { e with src := tset e.src n r }
/-- A target's record put in place. -/
def Evc.setTgt (e : Evc) (t : Nat) (r : Tgt) : Evc := { e with tgt := tset e.tgt t r }

/-- Pending for target t (R72): level 1, effectively enabled, not active. -/
def Src.pends (r : Src) (t : Nat) : Bool :=
  r.level && bitOf r.effective t && (tfind? r.act t).isNone

/-- The pending record for target t brought up to date: a source that becomes pending takes the PRIORITY and
VECTOR of that moment and keeps them while it stays pending (R77). -/
def Src.refreshOne (r : Src) (t : Nat) : Src :=
  if r.pends t then
    match tfind? r.pend t with
    | some _ => r
    | none => { r with pend := tset r.pend t { prio := r.priority, vec := r.vector } }
  else { r with pend := tdel r.pend t }

/-- The pending records for the four targets. -/
def Src.refresh (r : Src) : Src := (((r.refreshOne 0).refreshOne 1).refreshOne 2).refreshOne 3

/-- The greatest priority among the sources active for t (R73). -/
def Evc.activePrio (e : Evc) (t : Nat) : Nat :=
  e.src.foldl (fun a x => match tfind? x.2.act t with | some p => max a p.prio.toNat | none => a) 0

/-- The current threshold of t (R73). -/
def Evc.threshold (e : Evc) (t : Nat) : Nat := max (e.tgtAt t).base.toNat (e.activePrio t)

/-- The sources presentable for t, with what they hold (R72), source numbers rising. -/
def Evc.presentable (e : Evc) (t : Nat) : List (Nat × Pend) :=
  e.src.filterMap (fun x =>
    match tfind? x.2.pend t with
    | some p => if e.threshold t < p.prio.toNat then some (x.1, p) else none
    | none => none)

/-- The highest priority of a list of sources, ties to the lower number, which stands first (R74). -/
def bestOf : List (Nat × Pend) → Option (Nat × Pend)
  | [] => none
  | x :: r =>
    match bestOf r with
    | none => some x
    | some y => if x.2.prio.toNat < y.2.prio.toNat then some y else some x

/-- Wake-capable sources (R69). -/
def wakeCapable (n : Nat) : Bool :=
  n < 48 || (80 ≤ n && n < 96) || (176 ≤ n && n < 200) || (208 ≤ n && n < 224)

/-- A vector's message, or its pending bit where the vector is masked (R82). -/
def Evc.sendVec (e : Evc) (v : Nat) : Evc :=
  if (e.vecAt v).mask then { e with vec := tset e.vec v { e.vecAt v with pending := true } }
  else { e with sent := .msix v :: e.sent }

/-- The list without repeats, first places kept. -/
def dedup : List Nat → List Nat
  | [] => []
  | x :: r => x :: (dedup r).filter (· ≠ x)

/-- Delivery to the host of the sources ns that have just been presented or released: PME and WAKE_N while
the link sleeps (R81), else the message of each vector that had no presentable source before (R82). DESIGN CHOICE: the
link cannot carry the PME message exactly in L1; in D3hot with the link in L0 PME goes alone (log 62). -/
def Evc.deliverHost (e : Evc) (ns : List Nat) : Evc :=
  if e.linkL1 || e.d3hot then
    { e with
      wakeHeld := e.wakeHeld ++ ns
      sent := (if ns.any wakeCapable then (if e.linkL1 then [.wake, .pme] else [.pme]) else []) ++ e.sent }
  else
    let pres := e.presentable 0
    let held := (e.tgtAt 0).held
    let mine := pres.filter (fun x => x.1 ∈ ns)
    let others := pres.filter (fun x => x.1 ∉ ns ∧ x.1 ∉ held)
    let vs := dedup (mine.map (·.2.vec.toNat))
    (vs.filter (fun v => others.all (fun x => x.2.vec.toNat ≠ v))).foldl Evc.sendVec e

/-- Delivery to a target. -/
def Evc.deliver (e : Evc) (t : Nat) (ns : List Nat) : Evc :=
  if ns = [] then e
  else if t = 0 then e.deliverHost ns
  else { e with sent := .notice t :: e.sent }

/-- Everything a target holds is released and its count and timer restart (R80). DESIGN CHOICE: targets 1 to 3 get their
notice even where nothing held is presentable any more (log 62). -/
def Evc.release (e : Evc) (t : Nat) : Evc :=
  let h := (e.tgtAt t).held
  (e.setTgt t { e.tgtAt t with held := [], count := 0, running := false, age := 0 }).deliver t h

/-- Moderation is off when both limits are 0 (R80). -/
def Tgt.unmoderated (g : Tgt) : Bool := decide (g.modCnt = 0) && decide (g.modUs = 0)

/-- Presentation of sources that have become presentable for t (R75, R80). -/
def Evc.present (e : Evc) (t : Nat) (ns : List (Nat × Pend)) : Evc :=
  if ns = [] then e
  else
    let g := e.tgtAt t
    if g.unmoderated then e.deliver t (ns.map (·.1))
    else
      let e' := e.setTgt t { g with held := g.held ++ ns.map (·.1), running := true }
      if g.bypass ≠ 0 ∧ ns.any (fun x => g.bypass.toNat ≤ x.2.prio.toNat) then e'.release t else e'

/-- The sources presentable for t now that were not presentable in `old`. -/
def Evc.newly (old new : Evc) (t : Nat) : List (Nat × Pend) :=
  (new.presentable t).filter (fun x => (old.presentable t).all (fun y => y.1 ≠ x.1))

/-- A TIMECLK cycle of 5 ns passes for the moderation timers that run (R80). -/
def Evc.tick (e : Evc) : Evc :=
  { e with tgt := e.tgt.map (fun x => (x.1, if x.2.running then { x.2 with age := x.2.age + 5 } else x.2)) }

/-- After any change: every source that has become presentable is presented, target by target. -/
def Evc.settle (old new : Evc) : Evc :=
  [0, 1, 2, 3].foldl (fun e t => e.present t (Evc.newly old new t)) new

/-- A change to one source, its pending records and what it presents. -/
def Evc.change (e : Evc) (n : Nat) (f : Src → Src) : Evc :=
  Evc.settle e (e.setSrc n (f (e.srcAt n)).refresh)

/-- An occurrence counted toward the moderation count of t (R80). -/
def Evc.countOcc (e : Evc) (n t : Nat) : Evc :=
  let g := e.tgtAt t
  if g.unmoderated || (e.presentable t).all (fun x => x.1 ≠ n) then e
  else
    let e' := e.setTgt t { g with count := g.count + 1 }
    if g.modCnt ≠ 0 ∧ g.modCnt.toNat ≤ g.count + 1 then e'.release t else e'

/-- An occurrence of source n: the counter advances, saturating, the level is 1 (R69, R70). -/
def Evc.occur (e : Evc) (n : Nat) : Evc :=
  [0, 1, 2, 3].foldl (fun e t => e.countOcc n t)
    (e.change n (fun r => { r with level := true, count := satInc r.count }))

/-- The level of source n follows its cause (R69). -/
def Evc.level (e : Evc) (n : Nat) (l : Bool) : Evc :=
  if (e.srcAt n).level = l then e else e.change n (fun r => { r with level := l })

/-- An occurrence of a source. -/
def State.occur (s : State) (n : Nat) : State := { s with evc := s.evc.occur n }

/-- A cause bit is set by its condition and its source takes an occurrence (R69 to R71). -/
def State.raiseCause (s : State) (r : CauseReg) (b : Nat) : State :=
  let s' := { s with causes := tset s.causes (causeKey r) (s.cause r ||| bitMask 32 b) }
  match srcOf r b with
  | some n => s'.occur n
  | none => s'

/-- The sources a register's bits drive follow their causes again. -/
def State.relevel (s : State) (r : CauseReg) : State :=
  (List.range 16).foldl (fun s b =>
    match srcOf r b with
    | some n => if (s.evc.srcAt n).level && !(causeLevel s r b)
                then { s with evc := s.evc.level n false } else s
    | none => s) s

/-- Ones written to a W1C cause register, or a read of an RC one, clear bits (R11, R69). -/
def State.clearCause (s : State) (r : CauseReg) (mask : Word) : State :=
  { s with causes := tset s.causes (causeKey r) (s.cause r &&& ~~~mask) }.relevel r

/-! ## The event log and the access-error register -/

/-- A log entry is written (R67): the SRAM log keeps the newest 4,096, the flash copy the newest 65,536 of
severity ERROR and above, which also raise LOG_ERROR (R36). -/
def State.logEvent (s : State) (sev : Nat) (source : Nat) (code : Half) (detail : Nat) : State :=
  let e : LogEntry :=
    { seq := s.log.next, dtSec := BitVec.ofNat 32 (s.elt / 1000000000)
      dtNs := BitVec.ofNat 32 (s.elt % 1000000000), sev := BitVec.ofNat 8 sev
      source := BitVec.ofNat 8 source, code := code, detail := BitVec.ofNat 128 detail }
  let keep (n : Nat) (l : List LogEntry) : List LogEntry := l.drop (l.length - n)
  let s' := { s with log :=
    { sram := keep 4096 (s.log.sram ++ [e])
      flash := if 4 ≤ sev then keep 65536 (s.log.flash ++ [e]) else s.log.flash
      next := s.log.next + 1 } }
  if 4 ≤ sev then s'.raiseCause .glb 3 else s'

/-- An access error is recorded (R33, R35): the first one whole, later ones counted; source 0 occurs. -/
def State.accessError (s : State) (p : Path) (cause : BitVec 4) (addr : Nat) : State :=
  let a := s.glb.acc
  let a' : AccErr :=
    if a.valid then { a with count := satInc a.count }
    else { valid := true, path := p.code, cause := cause, count := 0, addr := BitVec.ofNat 26 addr }
  { s with glb := { s.glb with acc := a' } }.occur 0

/-! ## The memory code's reports (R460, R461) -/

/-- INT_ERR_LAST and INT_ERR_ADDR take an error (R484). -/
def State.noteErr (s : State) (kind region addr : Nat) : State :=
  { s with far := { s.far with
      errLast := BitVec.ofNat 32 (kind * 1073741824 + region * 16777216), errAddr := BitVec.ofNat 32 (addr / 8) } }

/-- A read that finds no correctable word: counted, recorded, raised, logged (R461). -/
def State.eccFail (s : State) (h : Hit) : State :=
  let s1 := (s.bump (.intErr (if h.isAddr then 2 else 1))).noteErr (if h.isAddr then 1 else 2) h.region h.addr
  (s1.raiseCause .far 2).logEvent 4 210 0 (h.addr + h.region * 4294967296)

end Sys2Proof.Machine
end

