-- ==== Sys2Proof/Machine/Operands.lean ====
section
/-! DEFINITION. Machine/Operands.lean: what every mailbox command shares (chapter 02): the status codes, the
opcode classes, the privilege table, the completion of a mailbox, the session and transaction of a request,
and staging. A mailbox command's row gives the mailbox and its decoded payload (log 9). -/
namespace Sys2Proof.Machine
open Sys2Proof

/-- The 16-bit value of a status code (R68). -/
def Status.code : Status → Half
  | .ok => 0x0000#16 | .badOpcode => 0x0001#16 | .badHeader => 0x0002#16 | .badParam => 0x0003#16
  | .noSession => 0x0004#16 | .privDenied => 0x0005#16 | .mbxBusy => 0x0006#16 | .badCheck => 0x0007#16
  | .variantUnsupported => 0x0008#16 | .aborted => 0x0009#16 | .alreadyDone => 0x000A#16
  | .dmaFault => 0x000B#16 | .noResource => 0x000C#16 | .badState => 0x000D#16 | .authFailed => 0x000E#16
  | .cfgNoTxn => 0x0101#16 | .cfgTxnOpen => 0x0102#16 | .cfgStaleBase => 0x0103#16
  | .admissionRefused => 0x0104#16 | .alreadyCommitted => 0x0105#16 | .cfgHashMismatch => 0x0106#16
  | .cfgTxnExpired => 0x0108#16 | .cfgTooLarge => 0x0109#16
  | .imgBadMagic => 0x0110#16 | .imgFormat => 0x0111#16 | .imgHash => 0x0112#16
  | .imgSectionCrc => 0x0113#16 | .imgLayout => 0x0114#16 | .imgUnknownRequired => 0x0115#16
  | .imgVariant => 0x0116#16
  | .timeNotLocked => 0x0301#16 | .timeStepPending => 0x0302#16 | .layerSourceAbsent => 0x0501#16
  | .lampGroupConflict => 0x0701#16 | .tackBadBinary => 0x0801#16 | .tackNoBound => 0x0802#16
  | .cutNotArmed => 0x0901#16
  | .pairVariantMismatch => 0x0A01#16 | .pairProtoMismatch => 0x0A02#16 | .pairSwapPostponed => 0x0A03#16
  | .pairNotPaired => 0x0A04#16 | .bridleLevel => 0x0B01#16
  | .calBadCheck => 0x0C01#16 | .calRange => 0x0C02#16 | .calBusy => 0x0C03#16
  | .checkUnitBusy => 0x0D01#16 | .testDeferred => 0x0E01#16 | .testFailed => 0x0E02#16
  | .updBusy => 0x0F01#16 | .updSignature => 0x0F02#16 | .updChunkHash => 0x0F03#16
  | .updRollback => 0x0F04#16 | .updIncompatible => 0x0F05#16 | .updNoSession => 0x0F06#16
  | .secState => 0x1001#16 | .secUnlockFailed => 0x1002#16 | .logRange => 0x1101#16

/-- The PRIV code of an issuing class (R49). -/
def Priv.code : Priv → Nat
  | .operator => 1 | .engineer => 2 | .safety => 3 | .service => 4

/-- The issuing class of a PRIV code. -/
def Priv.ofCode : Nat → Option Priv
  | 1 => some .operator | 2 => some .engineer | 3 => some .safety | 4 => some .service
  | _ => none

/-- A command issued under the second class satisfies the first (R54). -/
def Priv.satisfies (required issued : Priv) : Bool :=
  match required, issued with
  | .operator, _ => true
  | .engineer, .engineer => true
  | .engineer, .service => true
  | .safety, .safety => true
  | .service, .service => true
  | _, _ => false

end Sys2Proof.Machine

namespace Sys2Proof.Machine
open Sys2Proof

/-! ## Opcodes -/

/-- The opcodes of the command set: the tables of chapter 02 and of each class's chapter. -/
def opcodes : List Half :=
  [0x0001#16, 0x0002#16, 0x0003#16, 0x0004#16,
   0x0101#16, 0x0102#16, 0x0103#16, 0x0104#16, 0x0105#16, 0x0106#16,
   0x0201#16, 0x0202#16, 0x0203#16, 0x0204#16, 0x0205#16,
   0x0301#16, 0x0302#16, 0x0303#16, 0x0304#16, 0x0305#16,
   0x0401#16, 0x0402#16, 0x0403#16, 0x0404#16, 0x0405#16, 0x0406#16,
   0x0440#16, 0x0441#16, 0x0442#16, 0x0443#16, 0x0444#16, 0x0445#16, 0x0446#16,
   0x0460#16, 0x0461#16, 0x0462#16, 0x0463#16, 0x0464#16]
  ++ [0x0501#16, 0x0502#16, 0x0503#16, 0x0504#16, 0x0505#16, 0x0506#16, 0x0507#16, 0x0508#16,
   0x0540#16, 0x0541#16, 0x0542#16, 0x0543#16,
   0x0601#16, 0x0602#16, 0x0603#16, 0x0604#16, 0x0605#16,
   0x0701#16, 0x0702#16, 0x0703#16, 0x0704#16, 0x0705#16, 0x0706#16, 0x0707#16,
   0x0801#16, 0x0802#16, 0x0803#16, 0x0804#16, 0x0880#16, 0x0881#16, 0x0882#16, 0x0883#16,
   0x0901#16, 0x0902#16, 0x0903#16, 0x0904#16]
  ++ [0x0A01#16, 0x0A02#16, 0x0A03#16, 0x0A04#16, 0x0A05#16, 0x0A06#16,
   0x0B01#16, 0x0B02#16, 0x0B03#16, 0x0B04#16, 0x0C01#16, 0x0C02#16, 0x0C03#16, 0x0C04#16,
   0x0D01#16, 0x0D02#16, 0x0E01#16, 0x0E02#16, 0x0E03#16,
   0x0F01#16, 0x0F02#16, 0x0F03#16, 0x0F04#16, 0x0F05#16, 0x0F06#16, 0x0F07#16, 0x0F08#16,
   0x1001#16, 0x1002#16, 0x1003#16, 0x1004#16, 0x1005#16, 0x1006#16, 0x1007#16,
   0x1101#16, 0x1102#16, 0x1103#16]

/-- The class of an opcode, its high byte (R54). -/
def opClass (op : Half) : Nat := op.toNat / 256

/-- The class an opcode requires where its payload does not decide it (R54); the SESSION class needs none.
LAYER and LAMP commands that touch the protected layer or safety groups check SAFETY themselves. -/
def requiredClass (op : Half) : Option Priv :=
  if opClass op = 0x00 then none
  else if op = 0x0104#16 then some .engineer
  else if op = 0x0304#16 then some .engineer
  else if op = 0x0703#16 ∨ op = 0x0705#16 then some .safety
  else if op = 0x1103#16 then some .service
  else if opClass op = 0x01 ∨ opClass op = 0x02 ∨ opClass op = 0x03 then some .operator
  else if opClass op = 0x05 ∨ opClass op = 0x09 ∨ opClass op = 0x0D ∨ opClass op = 0x11 then some .operator
  else if opClass op = 0x0E ∨ opClass op = 0x0F ∨ opClass op = 0x10 then some .service
  else some .engineer

/-- The commands shed under load (R54, R65). -/
def shedAble (op : Half) : Bool :=
  decide (op = 0x0204#16) || decide (op = 0x0205#16) || decide (op = 0x1101#16) || decide (op = 0x1102#16)

/-! ## Mailboxes -/

/-- Mailbox m. -/
def State.box (s : State) (m : Nat) : Mailbox := tget s.mbx.boxes m {}

/-- Mailbox m put in place. -/
def State.setBox (s : State) (m : Nat) (b : Mailbox) : State :=
  { s with mbx := { s.mbx with boxes := tset s.mbx.boxes m b } }

/-- The session of an id. -/
def State.session? (s : State) (id : Nat) : Option Session := tfind? s.mbx.sessions id

/-- A session put in place. -/
def State.setSession (s : State) (id : Nat) (x : Session) : State :=
  { s with mbx := { s.mbx with sessions := tset s.mbx.sessions id x } }

/-- A session removed. -/
def State.delSession (s : State) (id : Nat) : State :=
  { s with mbx := { s.mbx with sessions := tdel s.mbx.sessions id } }

/-- What a command answers: a status, the payload, the COMMIT_PENDING flag. -/
structure Reply where
  status  : Status := .ok
  data    : List Byte := []
  pending : Bool := false
  deriving DecidableEq, Repr

/-- A bare status. -/
def reply (st : Status) : Reply := { status := st }
/-- OK with a payload. -/
def okWith (d : List Byte) : Reply := { status := .ok, data := d }

/-- The 32 header bytes of a response with CHECK as 0 (R49). -/
def respHeader (r : Resp) : List Byte :=
  le 2 r.opcode.toNat ++ le 1 1 ++ le 1 r.priv.toNat ++ le 4 r.session.toNat ++ le 4 r.tag.toNat
  ++ le 2 r.len.toNat ++ le 2 r.flags.toNat ++ le 8 0 ++ le 2 r.descCount.toNat
  ++ le 2 r.status.code.toNat ++ le 4 0

/-- The response to a request (R49, R51): the echoed fields, CHECKED as in the request, the CRC-32C when
CHECKED is set. -/
def mkResp (q : Req) (consumed : Nat) (session : Word) (r : Reply) : Resp :=
  let f : Nat := (if bitOf q.flags 0 then 1 else 0) + (if r.pending then 4 else 0)
  let base : Resp :=
    { opcode := q.opcode, priv := q.priv, session := session, tag := q.tag
      len := BitVec.ofNat 16 r.data.length, flags := BitVec.ofNat 16 f
      descCount := BitVec.ofNat 16 consumed, status := r.status, data := r.data }
  if bitOf q.flags 0 then { base with check := crc32c (respHeader base ++ r.data) } else base

/-- Mailbox m returns to IDLE and its response is dropped (R53). -/
def Mailbox.drop (b : Mailbox) : Mailbox :=
  { b with st := .idle, respLen := 0, discard := false, abortReq := false, dma := none, waiting := false }

/-- The bytes of a response: header and payload. -/
def respBytes (r : Resp) : List Byte := (respHeader r).take 28 ++ le 4 r.check.toNat ++ r.data

/-- The framing header of a datagram on the management port, most significant byte first (R40). -/
def framing (m kind index count : Nat) (tag : Word) : List Byte :=
  [BitVec.ofNat 8 m, BitVec.ofNat 8 kind, BitVec.ofNat 8 index, BitVec.ofNat 8 count] ++ be 4 tag.toNat

/-- A response goes out on the transport of mailbox m: fragments of 1,184 bytes, KIND 2, while an association is open,
or the pairing lanes (R40 to R42); over PCIe the host reads the window. -/
def State.respond (s : State) (m : Nat) (r : Resp) : State :=
  match s.mbxTransport m with
  | some .mgmt =>
    let n := ceilDiv (respBytes r).length 1184
    if (tget s.mbx.assoc m {}).opened then
      s.emits ((List.range n).map (fun i =>
        .datagram m (framing m 2 i n r.tag ++ ((respBytes r).drop (1184 * i)).take 1184)))
    else s
  | some .peer => s.emit (.peerReply m (respBytes r))
  | _ => s

/-- Mailbox m completes (R44): response, RESP_LEN, DONE_COUNT, DONE, then its mailbox-done bit. An abort
written while the command executed and not sampled before its completion reads ABORT_RES 0b10 (R47). -/
def State.completeAs (s : State) (m : Nat) (session : Word) (r : Reply) : State :=
  let b := s.box m
  let resp := mkResp b.req ((b.dma.map (·.consumed)).getD 0) session r
  let b' : Mailbox :=
    { b with
      resp := resp, respLen := BitVec.ofNat 13 (32 + r.data.length), doneCount := b.doneCount + 1
      st := .done, lastTag := some b.req.tag, dma := none, waiting := false, abortReq := false
      abortRes := if b.abortReq then 2 else b.abortRes }
  ((s.setBox m b').respond m resp).raiseCause .mbx m

/-- The mailboxes of a session other than m that are still PENDING or EXECUTING. -/
def State.otherBusy (s : State) (id m : Nat) : Bool :=
  s.mbx.boxes.any (fun e => decide (e.1 ≠ m) && decide (e.2.owner = id)
    && (decide (e.2.st = .pending) || decide (e.2.st = .executing)))

/-- The session whose SESSION_CLOSE waits for its other mailboxes, completed once they are all IDLE (R53). -/
def State.settleClose (s : State) : State :=
  match s.mbx.sessions.find? (fun e => match e.2.closing with
      | some m => !(s.otherBusy e.1 m)
      | none => false) with
  | some (id, x) =>
    match x.closing with
    | some m =>
      let t := s.delSession id
      if (s.box m).discard then t.setBox m (t.box m).drop else t.completeAs m (BitVec.ofNat 32 id) (reply .ok)
    | none => s
  | none => s

/-- A command of mailbox m ends: its response, or, where its session has closed, IDLE with none (R53). -/
def State.finish (s : State) (m : Nat) (r : Reply) : State :=
  let b := s.box m
  if b.discard then (s.setBox m b.drop).settleClose
  else s.completeAs m b.req.session r

/-- Mailbox m executes a command of this opcode whose bulk data, if any, has been moved (R55). -/
def State.executes (s : State) (m : Nat) (op : Half) : Bool :=
  let b := s.box m
  decide (m < 16) && decide (b.st = .executing) && decide (b.req.opcode = op) && !b.waiting
    && (match b.dma with | some d => d.ended | none => true)

/-- A command row of mailbox m: where the mailbox executes the opcode, f gives the answer and the state it
leaves, or no answer while the command waits; elsewhere the row does not occur (log 3). -/
def cmd (m : Nat) (op : Half) (s : State) (f : Req → State → Option Reply × State) : State :=
  if s.executes m op then
    match f (s.box m).req s with
    | (some r, t) => t.finish m r
    | (none, t) => t.setBox m { t.box m with waiting := true }
  else s

/-- A command that answers at once. -/
def cmdNow (m : Nat) (op : Half) (s : State) (f : Req → State → Reply × State) : State :=
  cmd m op s (fun q t => let (r, u) := f q t; (some r, u))

/-- A command that reads only. -/
def cmdRead (m : Nat) (op : Half) (s : State) (f : Req → State → Reply) : State :=
  cmd m op s (fun q t => (some (f q t), t))

/-- A command waiting in mailbox m ends. -/
def endWait (m : Nat) (op : Half) (s : State) (r : Reply) : State :=
  let b := s.box m
  if b.st = .executing ∧ b.req.opcode = op ∧ b.waiting then s.finish m r else s

/-- Mailbox m waits in a command of this opcode. -/
def State.waits (s : State) (m : Nat) (op : Half) : Bool :=
  let b := s.box m
  decide (b.st = .executing) && decide (b.req.opcode = op) && b.waiting

/-- The request's issuing class. -/
def Req.cls (q : Req) : Option Priv := Priv.ofCode q.priv.toNat

/-- The FORCE flag (R49, R51). -/
def Req.force (q : Req) : Bool := bitOf q.flags 1

/-! ## Transactions -/

/-- The newest configuration (R58): of the latest scheduled commit, else the effective one. -/
def State.newestCfg (s : State) : Cfg := match s.sched.getLast? with | some c => c.cfg | none => s.cfg

/-- The newest generation (R58). -/
def State.newestGen (s : State) : Nat := match s.sched.getLast? with | some c => c.gen | none => s.gen

/-- Ranges with one more range, in order and apart. -/
def addRange : List (Nat × Nat) → Nat → Nat → List (Nat × Nat)
  | [], a, b => if a < b then [(a, b)] else []
  | (c, d) :: r, a, b =>
    if b ≤ a then (c, d) :: r
    else if b < c then (a, b) :: (c, d) :: r
    else if d < a then (c, d) :: addRange r a b
    else addRange r (min a c) (max b d)

/-- The bytes that ranges cover. -/
def covered (rs : List (Nat × Nat)) : Nat := (rs.map (fun r => r.2 - r.1)).sum

/-- Bytes written at an offset of a staging object (R57). -/
def StageObj.put (o : StageObj) (offset : Nat) (bs : List Byte) : StageObj :=
  { data := mwrite o.data offset bs, ranges := addRange o.ranges offset (offset + bs.length) }

/-- The bytes of an object that is complete: every byte from 0 to its end is written (R57). -/
def StageObj.whole (o : StageObj) : Option (List Byte) :=
  match o.ranges with
  | [] => some []
  | [(0, n)] => some (mread o.data 0 n)
  | _ => none

/-- The DRAM staging that a transaction holds: the contents of the objects it has staged, as they stand, and its staging
objects. DESIGN CHOICE: R59 does not say what counts; what is staged again replaces what it counted before (log 60). -/
def heldBytes (c : Cfg) (changed : List Nat) (objs : Tab StageObj) : Nat :=
  (changed.map (objectSize c)).sum + (objs.map (fun e => covered e.2.ranges)).sum

/-- Bytes staged by all sessions together (R59). -/
def State.stagedBytes (s : State) : Nat :=
  s.mbx.sessions.foldl (fun a e => a + (e.2.txn.map (·.bytes)).getD 0) 0

/-- A transaction may hold n bytes: all sessions together stay within 1 GiB (R59). -/
def State.mayHold (s : State) (tx : Txn) (n : Nat) : Bool := decide (s.stagedBytes - tx.bytes + n ≤ 1073741824)

/-- The configuration that a request's staging builds on: its transaction's, or the newest where it has none. -/
def State.standing (s : State) (q : Req) : Cfg :=
  match (s.session? q.session.toNat).bind (·.txn) with
  | some tx => tx.cfg
  | none => s.newestCfg

/-- The bytes that the command in mailbox m brings: moved by its descriptors, else the staging object of a number in its
session's transaction, where it is complete (R55, R57; log 33). -/
def State.bulk (s : State) (m obj : Nat) : Option (List Byte) :=
  match (s.box m).dma with
  | some d => d.obj.whole
  | none =>
    match (s.session? (s.box m).req.session.toNat).bind (·.txn) with
    | some tx => (tfind? tx.objs obj).bind StageObj.whole
    | none => none

/-- What a command reads out of its bulk bytes; where there are none it answers BAD_PARAM (log 33). -/
def State.bulkAs {α : Type} (s : State) (m obj : Nat) (rd : List Byte → Except Status α) : Except Status α :=
  match s.bulk m obj with
  | some bs => rd bs
  | none => .error .badParam

/-- The transaction of the request's session, or the status of R58 or R60 that refuses the command; the
report of an expiry is given once (R60), and the transaction's idle time restarts. -/
def State.useTxn (s : State) (q : Req) : Except Status (Session × Txn) × State :=
  match s.session? q.session.toNat with
  | none => (.error .noSession, s)
  | some x =>
    if x.expired then (.error .cfgTxnExpired, s.setSession q.session.toNat { x with expired := false })
    else
      match x.txn with
      | none => (.error .cfgNoTxn, s)
      | some t =>
        let t' := { t with lastNs := s.elt }
        (.ok (x, t'), s.setSession q.session.toNat { x with txn := some t' })

/-- The list with a number added once. -/
def addOnce (l : List Nat) (n : Nat) : List Nat := if n ∈ l then l else l ++ [n]

/-- On the SHADOW, staging commands and the immediate commands of R421 come from the mirror session only, which is
the session of the pair-peer transport (R423). -/
def State.mirrored (s : State) (q : Req) : Bool :=
  decide (s.pair.role ≠ .shadow) || decide ((s.session? q.session.toNat).map (·.transport) = some .peer)

/-- The staging objects that remain once a command has taken one: what descriptors moved leaves them all. -/
def objsAfter (b : Mailbox) (src : Option Nat) (objs : Tab StageObj) : Tab StageObj :=
  match b.dma, src with
  | none, some n => tdel objs n
  | _, _ => objs

/-- The command needs nothing beyond R50's first four steps. -/
def noCheck (_ : Req) (_ : State) : Except Status Unit := .ok ()

/-- A staging command (R58, R59): `pre` holds the checks of privilege and variant that its payload decides, which come
first (R50); f checks the payload against the configuration as it then stands and gives the configuration with it; a
failure leaves the earlier staging intact, and the limit of R59 refuses what would exceed it. `objs` are the object ids
it stages (R536), `src` the staging object it takes its bytes from, which is released once they are staged (log 60). -/
def stageCmd (m : Nat) (op : Half) (objs : List Nat) (s : State)
    (f : Req → State → Cfg → Except Status (Cfg × List Byte)) (pre : Req → State → Except Status Unit := noCheck)
    (src : Option Nat := none) : State :=
  cmdNow m op s (fun q t =>
    match pre q t with
    | .error e => (reply e, t)
    | .ok _ =>
      if !t.mirrored q then (reply .badState, t)
      else match t.useTxn q with
      | (.error e, t') => (reply e, t')
      | (.ok (x, tx), t') =>
        match f q t tx.cfg with
        | .error e => (reply e, t')
        | .ok (c, d) =>
          let ids := objs.foldl addOnce tx.changed
          let os := objsAfter (t.box m) src tx.objs
          if t.mayHold tx (heldBytes c ids os) then
            (okWith d, t'.setSession q.session.toNat { x with txn := some { tx with
              cfg := c, changed := ids, objs := os, bytes := heldBytes c ids os } })
          else (reply .cfgTooLarge, t'))

/-- A staging command with an empty answer. -/
def stage (m : Nat) (op : Half) (objs : List Nat) (s : State)
    (f : Req → State → Cfg → Except Status Cfg) (pre : Req → State → Except Status Unit := noCheck)
    (src : Option Nat := none) : State :=
  stageCmd m op objs s (fun q t c => (f q t c).map (fun c' => (c', []))) pre src

/-! ## The outcome of every meaning -/

/-- The outcome of a meaning: the next state, with the queue and the identity of the device as they were
(R6; log 2). -/
def commit (s t : State) : Host.Outcome State Fault Refusal :=
  .next { t with pending := s.pending, variant := s.variant
                 glb := { t.glb with deviceId := s.glb.deviceId } }

end Sys2Proof.Machine
end

