-- ==== Sys2Proof/Machine/Cond.lean ====
section
/-! DEFINITION. Machine/Cond.lean: the six conditions of the delivery guarantee (R114) and what their
failure leaves on the contents in flight (R116). -/
namespace Sys2Proof.Machine
open Sys2Proof

/-- TIME_OK's standing part (R138): the state, the holdover limit, REFUSED. -/
def State.timeOk (s : State) : Bool :=
  (match s.tim.st with
   | .locked => true | .free => true | .unset => false | .acquiring => false
   | .holdover => (match s.tim.holdAt with
      | some t => decide (s.elt ≤ t + fld s.cfg.time.servo 23 16 * 1000000000)
      | none => false))
  && !s.tim.refused

/-- The next boundary has come, and boundaries are issued at all (R24, R149, R447, R476). -/
def boundaryDue (s : State) : Bool :=
  s.glb.clk.rootLock && !s.glb.faulted && !s.glb.recovery && !s.brd.dark && decide (s.tim.st ≠ .unset)
    && decide (s.cfg.ym.fbAt s.ym.next ≤ s.elt)

/-- An Ethernet port carries guaranteed flows. -/
def State.guarPort (s : State) (p : Nat) : Bool :=
  s.cfg.flow.flows.any (fun e => e.2.enable && e.2.guaranteed && decide (e.2.port = p)
    && (decide (e.2.kind = 0) || decide (e.2.kind = 1) || decide (e.2.kind = 4)))

/-- The SerDes reference of an Ethernet port (R22). -/
def State.serRef (s : State) (p : Nat) : Bool := if p < 8 then s.glb.clk.serRef0 else s.glb.clk.serRef1

/-- LINK_OK: every port that carries guaranteed flows has link and its SerDes reference; a line port with
SHORT_OFF set has none (R379). -/
def State.linkOk (s : State) : Bool :=
  (List.range s.nEth).all (fun p => !s.guarPort p || ((tget s.eth p {}).link && s.serRef p))
    && s.cfg.flow.flows.all (fun e => !(e.2.enable && e.2.guaranteed
        && (decide (e.2.kind = 2) || decide (e.2.kind = 3))) || !(tget s.line e.2.port {}).shortOff)

/-- Holding the Halter (R417, R418): always while pairing is disabled. -/
def State.halter (s : State) : Bool :=
  !bitOf s.cfg.pair.cfg 31 || (s.pair.out && !s.pair.inp && !s.pair.conflict)

/-- A device at level 3 or above whose formed peer is cooler mutes its network transmission (R446). -/
def State.hotMuted (s : State) : Bool :=
  decide (3 ≤ s.brd.level) && decide (s.pair.st = .inSync) && !Config.peerHot s.freeCtr

/-- A content's network flows are sent (R419, R420, R425, R428). -/
def State.netOn (s : State) (n : Nat) : Bool :=
  !s.hotMuted && match s.pair.role with
  | .unpaired => true
  | .lead => decide (s.pair.txFrom ≤ n)
  | .shadow => (decide (s.pair.st = .inSync) || decide (s.pair.st = .handover)) && !s.pair.muted
      && decide (s.pair.txFrom ≤ n)
  | .solo => (s.halter || decide (s.pair.taking = .takeover)) && decide (s.pair.txFrom ≤ n)

/-- The pair is formed (R420). -/
def State.paired (s : State) : Bool := decide (s.pair.st = .inSync) || decide (s.pair.st = .handover)

/-- PAIR_OK: no takeover or role swap in progress (R114, R428). -/
def State.pairOk (s : State) : Bool := !s.pair.bad && decide (s.pair.st ≠ .handover)

/-- A rail has a feed within limits. -/
def RailSt.ok (r : RailSt) : Bool := !(decide (r.a.st = .fault) && decide (r.b.st = .fault))

/-- PAUSE_OK: no PAUSE honoured on a port that carries guaranteed flows. -/
def State.pauseOk (s : State) : Bool :=
  (List.range s.nEth).all (fun p => !s.guarPort p || !(tget s.eth p {}).paused)

/-- FAULT_OK's standing part: root PLL locked, a feed within limits, nothing failed or withdrawn since the
commit, no core halted (R114, R499). -/
def State.faultOk (s : State) : Bool :=
  s.glb.clk.rootLock && s.feeds.core.ok && s.feeds.aon.ok && !s.far.fault && s.sec.halted.isEmpty

/-- The conditions that fail now, bit n being cause n + 1 of R114. -/
def State.condFailed (s : State) : BitVec 6 :=
  (if s.faultOk then 0 else bitMask 6 0) ||| (if s.linkOk then 0 else bitMask 6 1) ||| (if s.pairOk then 0 else bitMask 6 2) ||| (if s.timeOk then 0 else bitMask 6 3)
    ||| (if s.brd.level ≤ 2 then 0 else bitMask 6 4) ||| (if s.pauseOk then 0 else bitMask 6 5)

/-- Work is best-effort and shed at level 2 and above: counted and raised (R117, R442). -/
def State.shed (s : State) : State := (s.bump .ymBeLate).raiseCause .ym 4

/-- A pause before an operation of resource r at level 2: a free length within its step and its budget (R443). -/
def State.pauseAt (s : State) (r step : Nat) : State :=
  let left := tget s.brd.budget r 0 - tget s.brd.spent r 0
  if s.brd.level = 2 ∧ 1520 ≤ s.brd.tmax ∧ left ≠ 0 then
    let n := Config.freeNat s.freeCtr % (min step left + 1)
    { s with freeCtr := s.freeCtr + 1
             brd := { s.brd with spent := tset s.brd.spent r (tget s.brd.spent r 0 + n) } }
  else s

/-- The conditions that YM_GUARANTEE shows as failing: those that fail now, and those that a step, a slip or an
uncorrectable word has failed since the latest boundary (R114, R126, R138, R461; log 65). -/
def State.condShown (s : State) : BitVec 6 := s.condFailed ||| s.ym.pulse

/-- The failing conditions are noted on every content in flight (R116) and in YM_GUARANTEE. -/
def State.noteCond (s : State) : State :=
  let f := s.condFailed
  { s with ym := { s.ym with
      cond := ~~~s.condShown, holds := decide (s.condShown = 0)
      flights := s.ym.flights.map (fun x => { x with fail := x.fail ||| f }) } }

/-- A condition fails at this instant for the contents in flight (a step or slip, R138). -/
def State.failCond (s : State) (b : Nat) : State :=
  let s1 : State := { s with ym := { s.ym with
      pulse := s.ym.pulse ||| bitMask 6 b
      flights := s.ym.flights.map (fun x => { x with fail := x.fail ||| bitMask 6 b }) } }
  s1.noteCond

/-- A block of the data path reads an uncorrectable word: reported, and FAULT_OK fails (R114, R461). -/
def State.eccData (s : State) (h : Hit) : State := (s.eccFail h).failCond 0

/-- Several such reads. -/
def State.eccAll (s : State) (hs : List Hit) : State := hs.foldl (fun s h => s.eccData h) s

end Sys2Proof.Machine
end

