-- ==== Sys2Proof/Machine/Half.lean ====
section
/-! DEFINITION. Machine/Half.lean: the working format (R167): binary16 components held as whole numbers of
units of 2^-24, every finite binary16 value being such a number; exact conversion, one rounding to nearest
with ties to even, and the canvas packing of R156. -/
namespace Sys2Proof.Machine
open Sys2Proof

/-- The nearest whole number to a rational, ties to even. -/
def rne (q : Rat) : Int :=
  let f := q.floor
  let r := q - f
  if r < 1 / 2 then f else if 1 / 2 < r then f + 1 else if f % 2 = 0 then f else f + 1

/-- The exponent step of a binary16 magnitude of u units: 2^e with u < 2^(11+e), from e = 0. -/
def halfStep (u : Nat) : Nat := Nat.log2 u - 10

/-- A rational in units of 2^-24 rounded once to binary16; beyond 65,504 the spec states no result
(log 15). -/
def roundUnits (q : Rat) : Int :=
  let a := if q < 0 then -q else q
  let e := halfStep a.floor.natAbs
  let m := rne (a / (2 ^ e : Nat)) * (2 ^ e : Nat)
  let m' := if m ≤ 65504 * 16777216 then m else Config.overflow16 a
  if q < 0 then -m' else m'

/-- A real value rounded once to binary16, in units of 2^-24. -/
def half (v : Rat) : Int := roundUnits (v * 16777216)

/-- The real value of a component. -/
def unhalf (u : Int) : Rat := (u : Rat) / 16777216

/-- The units of a binary16 code: a NaN is 0, an infinity the largest finite value of its sign (R167). -/
def ofCode (c : Half) : Int :=
  let e := fld c 14 10
  let m := fld c 9 0
  let u : Int := if e = 31 then (if m = 0 then 65504 * 16777216 else 0)
    else if e = 0 then (m : Int) else ((1024 + m) * 2 ^ (e - 1) : Nat)
  if bitOf c 15 then -u else u

/-- A canvas field of p mantissa bits, 5-bit exponent, no sign, from units (R155, R156): negative becomes 0,
above the largest finite value that value, else the mantissa rounded with ties to even. -/
def packField (p : Nat) (u : Int) : Nat :=
  if u ≤ 0 then 0
  else
    let big := (2 ^ (p + 1) - 1) * 2 ^ (15 - p) * 16777216
    if (big : Int) < u then 30 * 2 ^ p + (2 ^ p - 1)
    else
      let n := u.natAbs
      let l := Nat.log2 n
      -- the value is n x 2^-24: its binary exponent is l - 24, a denormal below -14
      if l < 10 then (rne ((n : Rat) / (2 ^ (10 - p) : Nat))).natAbs
      else
        let m := (rne ((n : Rat) * (2 ^ p : Nat) / (2 ^ l : Nat))).natAbs
        -- m runs from 2^p to 2^(p+1); a carry increments the exponent
        min ((l - 9) * 2 ^ p + (m - 2 ^ p)) (30 * 2 ^ p + (2 ^ p - 1))

/-- The units of a canvas field (R155). -/
def unpackField (p v : Nat) : Int :=
  let e := v / 2 ^ p
  let m := v % 2 ^ p
  if e = 0 then (m * 2 ^ (10 - p) : Nat) else ((2 ^ p + m) * 2 ^ (e - 1 + (10 - p)) : Nat)

/-- A canvas word (R155): BLUE, GREEN, RED. -/
def packCanvas (r g b : Int) : Word :=
  BitVec.ofNat 32 (packField 5 b * 4194304 + packField 6 g * 2048 + packField 6 r)

/-- The three components of a canvas word, in units. -/
def unpackCanvas (w : Word) : Int × Int × Int :=
  (unpackField 6 (fld w 10 0), unpackField 6 (fld w 21 11), unpackField 5 (fld w 31 22))

end Sys2Proof.Machine
end

