-- ==== Sys2Proof/Machine/Transfer.lean ====
section
/-! DEFINITION. Machine/Transfer.lean: the linearisation tables of R192. The BT.709 entries are decided exactly. Those of PQ
and HLG lie between two bounds that are computed exactly; where both round alike that is the entry, and elsewhere it is
left open (log 18). -/
namespace Sys2Proof.Machine
open Sys2Proof

/-- The greatest n below 2^k that satisfies a downward closed test, from bit k - 1 down. -/
def greatest (p : Nat → Bool) : Nat → Nat → Nat
  | 0, a => a
  | k + 1, a => greatest p k (if p (a + 2 ^ k) then a + 2 ^ k else a)

/-- The argument of entry k: min(1, 16k / 65,535). -/
def entryArg (k : Nat) : Rat := min 1 ((16 * k : Nat) / 65535)

/-- The entry that bounds of it round to, where they agree. -/
def agreed (tf white k lo hi : Nat) : Nat := if lo = hi then lo else Config.linTable tf white k

/-- Entry k of the BT.709 table: round(F(min(1, 16k / 65,535)) x 2^20), exactly. Above 0.081 the
rounded value n is the greatest with (n - 1/2)^9 at most 2^180 ((E + 0.099) / 1.099)^20. -/
def bt709 (k : Nat) : Nat :=
  let e := entryArg k
  if e < 81 / 1000 then (rne (e / (45 / 10) * 1048576)).toNat
  else
    let x : Rat := (e + 99 / 1000) / (1099 / 1000)
    greatest (fun n => ((2 * n - 1 : Nat) : Rat) ^ 9 ≤ 2 ^ 189 * x ^ 20) 21 0

/-! ## PQ (SMPTE ST 2084)

Y(E) = 10,000 (max(x - c1, 0) / (c2 - c3 x))^(1 / m1) cd/m2 with x = E^(1 / m2), m1 = 1305 / 8192, m2 = 2523 / 32,
c1 = 107 / 128, c2 = 2413 / 128, c3 = 2392 / 128. -/

/-- The greatest a with a / 2^128 at most E^(1 / m2), where E is e / 65,535. -/
def pqRoot (e : Nat) : Nat :=
  let bound := e ^ 32 * 2 ^ 322944
  let d := 65535 ^ 32
  greatest (fun a => decide (a ^ 2523 * d ≤ bound)) 129 0

/-- The rounded entry where x is a / 2^128: the greatest n with (n - 1/2) / 2^20 at most Y / CD_M2, at most 2^20. -/
def pqEntry (white a : Nat) : Nat :=
  let top := (128 * a - 107 * 2 ^ 128) ^ 8192 * 20971520000 ^ 1305
  let low := (2413 * 2 ^ 128 - 2392 * a) ^ 8192
  min (greatest (fun n => decide (((2 * n - 1) * white) ^ 1305 * low ≤ top)) 21 0) 1048576

def pqTable (white k : Nat) : Nat :=
  let a := pqRoot (min (16 * k) 65535)
  agreed 1 white k (pqEntry white a) (pqEntry white (a + 1))

/-! ## HLG (BT.2100)

The inverse OETF over its value at 1, with a = 0.17883277, b = 1 - 4a, c = 1/2 - a ln(4a): 12 F is 4 E^2 up to 1/2 and
4a exp((E - 1/2) / a) + b from there up. -/

def hlgA : Rat := 17883277 / 100000000

/-- The sum of n more terms of the series of exp(t), from term i on, and the term after them. -/
def expSeries (t : Rat) : Nat → Nat → Rat → Rat → Rat × Rat
  | 0, _, term, acc => (acc, term)
  | n + 1, i, term, acc => expSeries t n (i + 1) (term * t / (i + 1 : Nat)) (acc + term)

/-- Bounds of exp(t) for t from 0 to 3: 64 terms, and twice the next one beyond them. -/
def expBounds (t : Rat) : Rat × Rat :=
  let (s, r) := expSeries t 64 0 1 0
  (s, s + 2 * r)

/-- Bounds of 12 F(E). -/
def hlgBounds (e : Rat) : Rat × Rat :=
  if e ≤ 1 / 2 then (4 * e * e, 4 * e * e)
  else
    let (lo, hi) := expBounds ((e - 1 / 2) / hlgA)
    (4 * hlgA * lo + (1 - 4 * hlgA), 4 * hlgA * hi + (1 - 4 * hlgA))

def hlgTable (k : Nat) : Nat :=
  let (lo, hi) := hlgBounds (entryArg k)
  let (lo1, hi1) := hlgBounds 1
  agreed 2 0 k (rne (lo / hi1 * 1048576)).toNat (rne (hi / lo1 * 1048576)).toNat

/-- Entry k of the table of a transfer function: BT.709, PQ at a white of `white` cd/m2, HLG. -/
def linEntry (tf white k : Nat) : Nat :=
  if tf = 0 then bt709 k else if tf = 1 then pqTable white k else hlgTable k

end Sys2Proof.Machine
end

