-- ==== Sys2Proof/Machine/Pixel.lean ====
section
/-! DEFINITION. Machine/Pixel.lean: the colour pipeline of one pixel (chapter 07), to the bit: sampling,
linear light, primaries, the gamut table, bin correction, the factor K, output curves, dither and packing. -/
namespace Sys2Proof.Machine
open Sys2Proof

/-! ## Sampling (R189) -/

/-- floor(v + 0.5) of a 14.2 position. -/
def PixRec.roundPos (v : Nat) : Nat := (v + 2) / 4

/-- The first coordinate of an area of n samples centred at a 14.2 position. -/
def areaFirst (v n : Nat) : Int := ((PixRec.roundPos v : Nat) : Int) - (((n - 1) / 2 : Nat) : Int)

/-- The first and last rows a record samples, before clamping (R186, R189). -/
def PixRec.rows (r : PixRec) : Int × Int :=
  if r.sample = 0 then ((PixRec.roundPos r.y : Nat), (PixRec.roundPos r.y : Nat))
  else if r.sample = 1 then ((r.y / 4 : Nat), (r.y / 4 + 1 : Nat))
  else (areaFirst r.y (2 ^ r.areaH), areaFirst r.y (2 ^ r.areaH) + (2 ^ r.areaH : Nat) - 1)

/-- The canvas pixels that a record samples on a w x h canvas (R189). -/
def PixRec.sampled (r : PixRec) (w h : Nat) : List (Nat × Nat) :=
  let at_ (i j : Int) : Nat × Nat := ((max 0 (min i (w - 1 : Nat))).toNat, (max 0 (min j (h - 1 : Nat))).toNat)
  let box (x y : Int) (cw ch : Nat) : List (Nat × Nat) :=
    (List.range ch).flatMap (fun j => (List.range cw).map (fun i => at_ (x + (i : Int)) (y + (j : Int))))
  if w = 0 then []
  else if r.sample = 0 then [at_ (PixRec.roundPos r.x : Nat) (PixRec.roundPos r.y : Nat)]
  else if r.sample = 1 then box (r.x / 4 : Nat) (r.y / 4 : Nat) 2 2
  else box (areaFirst r.x (2 ^ r.areaW)) (areaFirst r.y (2 ^ r.areaH)) (2 ^ r.areaW) (2 ^ r.areaH)

/-- The sample of a record on a w x h canvas whose pixels `at_` gives in units of 2^-24; 0 with no canvas. -/
def sampleAt (r : PixRec) (w h : Nat) (at_ : Nat → Nat → Int × Int × Int) : Int × Int × Int :=
  if w = 0 then (0, 0, 0)
  else
    let px (i j : Int) : Int × Int × Int :=
      at_ (max 0 (min i (w - 1 : Nat))).toNat (max 0 (min j (h - 1 : Nat))).toNat
    let mean (l : List (Int × Int × Rat)) : Int × Int × Int :=
      let f (g : Int × Int × Int → Int) : Int := roundUnits ((l.map (fun e => (g (px e.1 e.2.1) : Rat) * e.2.2)).sum)
      (f (·.1), f (·.2.1), f (·.2.2))
    if r.sample = 0 then px (PixRec.roundPos r.x : Nat) (PixRec.roundPos r.y : Nat)
    else if r.sample = 1 then
      let fx : Rat := (r.x % 4 : Nat) / 4
      let fy : Rat := (r.y % 4 : Nat) / 4
      let x : Int := (r.x / 4 : Nat)
      let y : Int := (r.y / 4 : Nat)
      mean [(x, y, (1 - fx) * (1 - fy)), (x + 1, y, fx * (1 - fy)), (x, y + 1, (1 - fx) * fy), (x + 1, y + 1, fx * fy)]
    else
      let cw := 2 ^ r.areaW
      let ch := 2 ^ r.areaH
      mean ((List.range ch).flatMap (fun j => (List.range cw).map (fun i =>
        (areaFirst r.x cw + (i : Int), areaFirst r.y ch + (j : Int), (1 : Rat) / (cw * ch : Nat)))))

/-! ## Linear light (R191 to R193) -/

/-- A sample component turned into a linear value in 1.20 (R191). -/
def linear (tf white : Nat) (u : Int) : Nat :=
  let e : Rat := unhalf (max 0 (min u 16777216))
  if tf = 3 then (rne (e * 1048576)).toNat
  else
    let c := (rne (e * 65535)).toNat
    let i := c / 16
    let t0 : Int := (linEntry tf white i : Nat)
    let t1 : Int := (linEntry tf white (i + 1) : Nat)
    (t0 + ((t1 - t0) * (c % 16 : Nat) + 8) / 16).toNat

/-- One row of a primaries matrix applied (R193). -/
def primRow (a b c : Int) (l : Nat × Nat × Nat) : Nat :=
  (max 0 (min ((a * l.1 + b * l.2.1 + c * l.2.2 + 8192) / 16384) 0x100000)).toNat

/-- The primaries conversion from the canvas to the model (R193). -/
def primaries (canvas2020 model2020 : Bool) (l : Nat × Nat × Nat) : Nat × Nat × Nat :=
  if canvas2020 = model2020 then l
  else if canvas2020 then
    (primRow 27206 (-9628) (-1194) l, primRow (-2041) 18562 (-137) l, primRow (-297) (-1648) 18329 l)
  else (primRow 10279 5395 710 l, primRow 1132 15066 186 l, primRow 269 1442 14673 l)

/-! ## Gamut table (R195) -/

/-- The code of emitter e at node (r, g, b). -/
def Model.node (m : Model) (r g b e : Nat) : Int :=
  (((tget m.nodes ((r * 17 + g) * 17 + b) []).getD e 0 : Nat) : Int)

/-- The axes 0, 1, 2 in descending order of their fractions, ties in the order R, G, B (R195). -/
def axisOrder (fr fg fb : Nat) : Nat × Nat × Nat :=
  if fg ≤ fr ∧ fb ≤ fr then (if fb ≤ fg then (0, 1, 2) else (0, 2, 1))
  else if fb ≤ fg then (if fb ≤ fr then (1, 0, 2) else (1, 2, 0))
  else (if fg ≤ fr then (2, 0, 1) else (2, 1, 0))

/-- The nodes that the linear values of a pixel read (R195): the corners of its cell on the path. -/
def nodesRead (l : Nat × Nat × Nat) : List Nat :=
  let i (v : Nat) : Nat := min (v / 65536) 15
  let f (v : Nat) : Nat := v - i v * 65536
  let (a, b, c) := axisOrder (f l.1) (f l.2.1) (f l.2.2)
  [[], [a], [a, b], [a, b, c]].map (fun ax =>
    ((i l.1 + (if 0 ∈ ax then 1 else 0)) * 17 + (i l.2.1 + (if 1 ∈ ax then 1 else 0))) * 17
      + (i l.2.2 + (if 2 ∈ ax then 1 else 0)))

/-- The working value of emitter e (R195). -/
def tetra (m : Model) (l : Nat × Nat × Nat) (e : Nat) : Nat :=
  let i (v : Nat) : Nat := min (v / 65536) 15
  let ir := i l.1
  let ig := i l.2.1
  let ib := i l.2.2
  let f (n : Nat) : Nat := if n = 0 then l.1 - ir * 65536 else if n = 1 then l.2.1 - ig * 65536 else l.2.2 - ib * 65536
  let (a, b, c) := axisOrder (f 0) (f 1) (f 2)
  let at_ (ax : List Nat) : Int :=
    m.node (ir + (if 0 ∈ ax then 1 else 0)) (ig + (if 1 ∈ ax then 1 else 0)) (ib + (if 2 ∈ ax then 1 else 0)) e
  let c0 := at_ []
  let c1 := at_ [a]
  let c2 := at_ [a, b]
  let c3 := at_ [a, b, c]
  ((c0 * 65536 + (f a : Int) * (c1 - c0) + (f b : Int) * (c2 - c1) + (f c : Int) * (c3 - c2) + 128) / 256).toNat

/-! ## Bin, factors, curve, dither (R196 to R200) -/

/-- The greatest working value. -/
def wMax : Nat := 0xFFFF00

/-- The identity bin (R212). -/
def identityBin : BinRec :=
  { flux := 0x8000, valid := true
    matrix := (List.range 64).map (fun k => if k % 9 = 0 then 16384 else 0) }

/-- The record that acts for a bin (R212). -/
def binOf (bins : Tab BinRec) (n : Nat) : BinRec :=
  match tfind? bins n with
  | some b => if b.valid then b else identityBin
  | none => identityBin

/-- Bin correction (R196) of the working values of the emitters below `em`. -/
def binCorrect (b : BinRec) (em : Nat) (w : List Nat) : List Nat :=
  (List.range em).map (fun i =>
    let s : Int := ((List.range em).map (fun j => (b.matrix.getD (i * 8 + j) 0) * ((w.getD j 0 : Nat) : Int))).sum
    let w1 := (max 0 (min ((s + 8192) / 16384) (wMax : Nat))).toNat
    min ((w1 * b.flux + 16384) / 32768) wMax)

/-- A 16-bit slot value as a 1.16 factor (R197). -/
def factorOf (v : Nat) : Nat := v + v / 32768

/-- A product of 1.16 factors, rounded (R197). -/
def fmul (x y : Nat) : Nat := (x * y + 32768) / 65536

/-- An emitter's value times a factor (R197). -/
def scaleW (w k : Nat) : Nat := min ((w * k + 32768) / 65536) wMax

/-- An output curve applied (R198); curve 0 is the identity. -/
def curveAt (curves : Tab (List Nat)) (n w : Nat) : Nat :=
  if n = 0 then w
  else
    let c := tget curves n []
    let i := w / 16384
    let a : Int := (c.getD i 0 : Nat)
    let b : Int := (c.getD (i + 1) 0 : Nat)
    min (a + ((b - a) * (w % 16384 : Nat) + 8192) / 16384).toNat wMax

/-- Bits 5:0 in reverse order. -/
def bitrev6 (v : Nat) : Nat :=
  ((List.range 6).map (fun i => if v / 2 ^ i % 2 = 1 then 2 ^ (5 - i) else 0)).sum

/-- The dither threshold (R200). -/
def threshold6 (p e : Nat) (fn : Word) : Nat :=
  let h := (p * 0x9E3779B1 + e * 0x7F4A7C15) % 4294967296 / 67108864
  bitrev6 ((fn.toNat + h) % 64)

/-- The code of an emitter at a width of b bits (R199). -/
def ditherTo (b : Nat) (dither : Bool) (p e : Nat) (fn : Word) (w : Nat) : Nat :=
  let s := 24 - b
  if dither then
    min (w / 2 ^ s + (if threshold6 p e fn < w / 2 ^ (s - 6) % 64 then 1 else 0)) (2 ^ b - 1)
  else min ((w + 2 ^ (s - 1)) / 2 ^ s) (2 ^ b - 1)

/-- What the pipeline gives for a pixel: the stages the probe shows (R210), the values before the curves, and the
uncapped values of R220. -/
structure PixOut where
  sample : Int × Int × Int := (0, 0, 0)
  lin    : Nat × Nat × Nat := (0, 0, 0)
  tet    : List Nat := []
  k      : Nat := 0
  pre    : List Nat := []
  w      : List Nat := []
  wu     : List Nat := []
  deriving DecidableEq, Repr

/-- The pipeline of a record up to the output curves (R189 to R198): the canvas (tf, PQ white, primaries, size,
pixels), the models, curves and bins, and the factors: intensity, grand master, D, S in 1.16. -/
def pipeline (c : MapCfg) (bins : Tab BinRec) (tf : Nat) (canvas2020 : Bool) (w h : Nat)
    (at_ : Nat → Nat → Int × Int × Int) (r : PixRec) (intens gm d s : Nat) : PixOut :=
  match tfind? c.models r.model with
  | none => {}
  | some m =>
    let smp := sampleAt r w h at_
    let white := fld c.pqWhite 15 0
    let lin := primaries canvas2020 m.bt2020 (linear tf white smp.1, linear tf white smp.2.1, linear tf white smp.2.2)
    let tet := (List.range m.emitters).map (tetra m lin)
    let bc := binCorrect (binOf bins r.bin) m.emitters tet
    let ku := fmul (fmul intens gm) d
    let k := fmul ku s
    let pre := bc.map (fun v => scaleW v k)
    { sample := smp, lin := lin, tet := tet, k := k, wu := bc.map (fun v => scaleW v ku), pre := pre
      w := (List.range m.emitters).map (fun e => curveAt c.curves (m.curves.getD e 0) (pre.getD e 0)) }

/-! ## Packing (R202) -/

/-- A value of b bits put at value position v of a payload, bit 0 the most significant of byte 0. -/
def putValue (b v code : Nat) (payload : Mem) : Mem :=
  (List.range b).foldl (fun pl i =>
    if code / 2 ^ (b - 1 - i) % 2 = 1 then
      let bit := v * b + i
      mset pl (bit / 8) (mget pl (bit / 8) ||| BitVec.ofNat 8 (2 ^ (7 - bit % 8)))
    else pl) payload

end Sys2Proof.Machine
end

