-- ==== Sys2Proof/Machine/Mapper.lean ====
section
/-! DEFINITION. Machine/Mapper.lean: the MAP commands (chapter 07) and the LAMP commands (chapter 08): the
staging rules, the applied set's forwarding, status reads. Mapping a segment and what the lamp logic does at a
boundary stand in MapRun.lean. -/
namespace Sys2Proof.Machine
open Sys2Proof

/-! ## The pixel map's rules (R185 to R188, R223) -/

/-- A list without repeats. -/
def nodupB {α : Type} [DecidableEq α] : List α → Bool
  | [] => true
  | x :: r => !(decide (x ∈ r)) && nodupB r

/-- The records of a segment. -/
def segRecs (p : PixMap) (g : MapSeg) : List PixRec := (p.recs.drop g.first).take g.count

/-- The segments cover the records once, in order, with no gap (R185). -/
def segsCover : Nat → List MapSeg → Nat → Bool
  | at_, [], n => decide (at_ = n)
  | at_, g :: r, n => decide (g.first = at_) && decide (1 ≤ g.count) && decide (g.count ≤ 65536)
      && segsCover (at_ + g.count) r n

/-- A list in non-decreasing order. -/
def sortedB : List Int → Bool
  | [] => true
  | [_] => true
  | a :: b :: r => decide (a ≤ b) && sortedB (b :: r)

/-- The list with equal neighbours merged. -/
def runsOf : List Nat → List Nat
  | [] => []
  | [a] => [a]
  | a :: b :: r => if a = b then runsOf (b :: r) else a :: runsOf (b :: r)

/-- The rules of one segment (R186). -/
def segOk (p : PixMap) (g : MapSeg) : Bool :=
  let rs := segRecs p g
  sortedB (rs.map (fun r => r.rows.1))
    && decide (((rs.map (fun r => r.rows.2)).max?).getD 0 = (g.rowMax : Int))
    && nodupB (runsOf (rs.map (·.fixture)))

/-- Fixtures of different segments are apart (R186). -/
def fixturesApart (p : PixMap) : Bool :=
  nodupB (p.segs.flatMap (fun g => runsOf ((segRecs p g).map (·.fixture))))

/-- A pixel stands in a group's member list: the group records are the authority on membership (R227). -/
def inGroup (g : Tab Group) (p : Nat) : Bool := g.any (fun e => decide (p ∈ e.2.members))

/-- Diagnosed lamps of a map (R223): in a group, or with PROOF_EN. -/
def diagnosed (g : Tab Group) (p : PixMap) : Nat :=
  (((List.range p.recs.length).zip p.recs).filter (fun e => e.2.proofEn || inGroup g e.1)).length

/-- A pixel map stays within the variant's pixels and fixtures (R185, R187). -/
def mapFits (nPix nFix : Nat) (p : PixMap) : Bool :=
  decide (p.recs.length ≤ nPix) && p.recs.all (fun r => decide (r.fixture < nFix))

/-- The rules of a pixel map (R185 to R188, R223) for a variant's pixel and fixture counts. -/
def mapRules (nPix nFix : Nat) (models : Tab Model) (groups : Tab Group) (atCommit : Bool) (p : PixMap) :
    Except Status Unit := do
  if p.segs = [] ∧ p.recs = [] then return ()
  need (mapFits nPix nFix p) .variantUnsupported
  need (p.segs ≠ [] && p.recs ≠ [] && p.segs.length ≤ 4096) .badParam
  need (segsCover 0 p.segs p.recs.length) .badParam
  need (p.recs.all (fun r => r.sample ≠ 3 && (r.group < 1024 || r.group = 0x7FF))) .badParam
  need (p.segs.all (segOk p) && fixturesApart p) .badParam
  need (nodupB (p.recs.map (fun r => (r.flow, r.offset)))) .badParam
  need (!atCommit || p.recs.all (fun r => (tfind? models r.model).isSome)) .badParam
  need (diagnosed groups p ≤ 65536) .noResource

/-- A model's own rules (R194, R208); its curves are asked for at a commit (R537). -/
def modelRules (curves : Tab (List Nat)) (atCommit : Bool) (i : Nat) (m : Model) : Except Status Unit := do
  need (i < 256 && 1 ≤ m.emitters && m.emitters ≤ 8) .badParam
  need (m.intensity ≤ 31 || m.intensity = 0xFF) .badParam
  need ((m.curves.take m.emitters).all (fun c => c ≤ 63)) .badParam
  need (m.nodes.all (fun n => n.1 < 4913 && (n.2.drop m.emitters).all (· = 0) && n.2.all (· < 65536))) .badParam
  need (!atCommit || (m.curves.take m.emitters).all (fun c => c = 0 || (tfind? curves c).isSome)) .badParam

/-- A curve's rules (R198, R208). -/
def curveOk (i : Nat) (c : List Nat) : Bool :=
  1 ≤ i && i ≤ 63 && decide (c.length = 1025) && c.all (fun v => v ≤ 0x1000000)

/-- Records of b that differ from a. -/
def tdiff {α : Type} [DecidableEq α] (a b : Tab α) : Nat := (b.filter (fun e => tfind? a e.1 ≠ some e.2)).length

/-- Numbers under which two tables hold different records, or only one holds a record. -/
def tchanged {α : Type} [DecidableEq α] (a b : Tab α) : Nat :=
  (((tkeys a ++ tkeys b).dedup).filter (fun k => decide (tfind? a k ≠ tfind? b k))).length

/-- What is held beside the effective configuration if session `id` stages `new` (R204, R213): what each scheduled commit
changes of the one before it, and each open transaction of the newest. -/
def heldBeside (s : State) (diff : Cfg → Cfg → Nat) (id : Nat) (new : Cfg) : Nat :=
  let rec scheds : Cfg → List Sched → Nat
    | _, [] => 0
    | c, x :: r => diff c x.cfg + scheds x.cfg r
  scheds s.cfg s.sched + diff s.newestCfg new
    + (s.mbx.sessions.map (fun e => match e.2.txn with
        | some t => if e.1 = id then 0 else diff s.newestCfg t.cfg
        | none => 0)).sum

/-- Free on-die slots remain for what session `id` stages: of 256 for models, of 128 for curves (R204), of 512 for bins
that differ from the effective ones (R213). -/
def modelSlots (s : State) (id : Nat) (new : Cfg) : Bool :=
  decide (s.cfg.map.models.length + heldBeside s (fun a b => tdiff a.map.models b.map.models) id new ≤ 256)
def curveSlots (s : State) (id : Nat) (new : Cfg) : Bool :=
  decide (s.cfg.map.curves.length + heldBeside s (fun a b => tdiff a.map.curves b.map.curves) id new ≤ 128)
def binSlots (s : State) (id : Nat) (new : Cfg) : Bool :=
  decide (heldBeside s (fun a b => tchanged a.lamp.bins b.lamp.bins) id new ≤ 512)

/-- The map with records replaced (R208). -/
def patchMap (p : PixMap) (ps : List (Nat × PixRec)) : PixMap :=
  { p with recs := ps.foldl (fun rs e => rs.set e.1 e.2) p.recs }

/-- MAP_LOAD (R185): section 0x0002, by descriptors or in the staging object `obj`. -/
def mapLoadEffect (m obj : Nat) (s : State) : State :=
  stage m 0x0601#16 [0x00020000] s (fun _ t c => do
    let p ← t.bulkAs m obj readMap
    mapRules t.nPixels t.nFixtures c.map.models c.lamp.groups false p
    return { c with map := { c.map with map := p } })
    (fun _ t => match t.bulkAs m obj readMap with
      | .ok p => need (mapFits t.nPixels t.nFixtures p) .variantUnsupported
      | .error _ => .ok ()) (some obj)

/-- MAP_MODEL_SET (R194, R204): header and table. `head` are the bytes of them that the payload itself carries, the header
or none; the others come by descriptors or stand in the staging object `obj` (log 9). -/
def mapModelSetEffect (m : Nat) (head : List Byte) (obj : Nat) (s : State) : State :=
  stage m 0x0602#16 [0x00030000] s (fun q t c => do
    let (i, d) ← t.bulkAs m obj (fun bs => readModel (head ++ bs))
    modelRules c.map.curves false i d
    let c' : Cfg := { c with map := { c.map with models := tset c.map.models i d } }
    need (modelSlots t q.session.toNat c') .noResource
    return c') noCheck (some obj)

/-- MAP_CURVE_SET (R198, R204). -/
def mapCurveSetEffect (m i : Nat) (d : List Nat) (s : State) : State :=
  stage m 0x0603#16 [0x00040000] s (fun q t c => do
    need (curveOk i d) .badParam
    let c' : Cfg := { c with map := { c.map with curves := tset c.map.curves i d } }
    need (curveSlots t q.session.toNat c') .noResource
    return c')

/-- A bound grand master names a fixture of the variant (R4). -/
def gmOk (t : State) (gm gmSrc : Word) : Bool := !(bitOf gm 31) || decide (fld gmSrc 22 6 < t.nFixtures)

/-- The rules of MAP_SET's registers (R208). -/
def mapSetRules (t : State) (c : Cfg) : Except Status Unit := do
  need (gmOk t c.map.gm c.map.gmSrc) .variantUnsupported
  need (100 ≤ fld c.map.pqWhite 15 0 && fld c.map.pqWhite 15 0 ≤ 10000) .badParam

/-- MAP_SET (R192, R208, R209); RSV bits are ignored (R13). -/
def mapSetEffect (m : Nat) (pqWhite gm gmSrc probe : Word) (s : State) : State :=
  stage m 0x0604#16 [0x06040000] s (fun _ t c => do
    let c' : Cfg := { c with map := { c.map with
      pqWhite := pqWhite &&& 0x0000FFFF#32, gm := gm &&& 0x8000FFFF#32, gmSrc := gmSrc &&& 0x007FFFFF#32
      probe := probe &&& 0x807FFFFF#32 } }
    mapSetRules t c'
    return c') (fun _ t => need (gmOk t gm gmSrc) .variantUnsupported)

/-- MAP_PATCH (R208): validated against the whole resulting map. -/
def mapPatchEffect (m : Nat) (ps : List (Nat × PixRec)) (s : State) : State :=
  stage m 0x0605#16 [0x00020000] s (fun _ t c => do
    need (ps.length ≤ 203 && ps.all (fun e => e.1 < c.map.map.recs.length)) .badParam
    let p := patchMap c.map.map ps
    mapRules t.nPixels t.nFixtures c.map.models c.lamp.groups false p
    return { c with map := { c.map with map := p } })
    (fun _ t => need (ps.all (fun e => decide (e.2.fixture < t.nFixtures))) .variantUnsupported)

/-- Ones written to MAP_EVT_CAUSE (R209). -/
def mapEvtCauseWriteEffect (v : Word) (s : State) : State := s.clearCause .map (v &&& 0x0000000F#32)

/-- MAP_CNT_CTRL.SNAPSHOT: the mapper's and the lamp counters (R209, R235). -/
def mapSnapshotEffect (s : State) : State := s.captureKeys 0x300000 0x400000

/-- MAP_CNT_CTRL.CLEAR. -/
def mapClearEffect (s : State) : State := s.clearKeys 0x300000 0x400000

/-! ## Lamps -/

/-- A fixture's, a circuit's, a pixel's, a group's lamp state. -/
def Lamp.fixAt (l : Lamp) (i : Nat) : FixLamp := tget l.fix i {}
def Lamp.circAt (l : Lamp) (i : Nat) : CircLamp := tget l.circ i {}
def Lamp.pixAt (l : Lamp) (i : Nat) : PixLamp := tget l.pix i {}
def Lamp.grpAt (l : Lamp) (i : Nat) : GrpLamp := tget l.grp i {}

/-- A lamp message is accepted (R214): it takes the next acceptance number; a SHADOW only keeps it. -/
def acceptLamp (m : LampMsg) (s : State) : State :=
  let a : LampAcc := { number := s.lamp.next, atNs := s.elt, msg := m }
  if s.pair.role = .shadow then { s with lamp := { s.lamp with own := s.lamp.own ++ [a] } }
  else
    let s1 : State := { s with lamp := { s.lamp with acc := s.lamp.acc ++ [a], next := s.lamp.next + 1 } }
    if s.pair.role = .lead then s1.emit (.lampForward (.msg s.lamp.next m)) else s1

/-- The last acceptance number of the set that FB at an instant applies: where it holds no message, the number before the
first that waits. -/
def Lamp.lastOf (l : Lamp) (fbNs : Nat) : Nat :=
  ((l.acc.filter (fun a => a.atNs + 100000 < fbNs)).map (·.number)).max?.getD
    (((l.acc.map (·.number)).min?.getD l.next) - 1)

/-- The LEAD sends the last acceptance number of the set applied next, in the 80 us that end 20 us before its boundary
(R214). -/
def lampSetNumberSendEffect (s : State) : State :=
  let fb := s.cfg.ym.fbAt s.ym.next
  if s.pair.role = .lead ∧ fb ≤ s.elt + 100000 ∧ s.elt + 20000 ≤ fb then
    let n := s.lamp.lastOf fb
    ({ s with lamp := { s.lamp with setNumber := some n } }).emit (.lampForward (.setNumber n))
  else s

/-- The SHADOW receives a forwarded message or the set's number (R214). -/
def peerLampForwardEffect (f : LampFwd) (s : State) : State :=
  if s.pair.role = .shadow then
    match f with
    | .msg n m =>
      let a : LampAcc := { number := n, atNs := s.elt, msg := m }
      { s with lamp := { s.lamp with acc := s.lamp.acc ++ [a], next := n + 1 } }
    | .setNumber n => { s with lamp := { s.lamp with setNumber := some n } }
  else s

/-- A bin record's ranges (R211). -/
def binOk (e : Nat × BinRec) : Bool :=
  e.1 < 4096 && e.2.flux < 65536 && decide (e.2.matrix.length = 64)
    && e.2.matrix.all (fun v => -32768 ≤ v && v ≤ 32767)

/-- LAMP_BIN_SET (R211, R213). -/
def lampBinSetEffect (m : Nat) (rs : List (Nat × BinRec)) (s : State) : State :=
  stage m 0x0701#16 [0x00050000] s (fun q t c => do
    need (rs.length ≤ 28 && rs.all binOk) .badParam
    let c' : Cfg := { c with lamp := { c.lamp with bins := rs.foldl (fun b e => tset b e.1 e.2) c.lamp.bins } }
    need (binSlots t q.session.toNat c') .noResource
    return c')

/-- A circuit record's ranges (R219, R234). -/
def circuitOk (e : Nat × Circuit) : Bool :=
  e.1 ≤ 2046 && 1 ≤ e.2.budget && e.2.budget ≤ 4294967295 && e.2.idle < e.2.budget

/-- LAMP_CIRCUIT_SET (R219). -/
def lampCircuitSetEffect (m : Nat) (rs : List (Nat × Circuit)) (s : State) : State :=
  stage m 0x0702#16 [0x00060000] s (fun _ _ c => do
    need (rs.length ≤ 254 && rs.all circuitOk) .badParam
    return { c with lamp := { c.lamp with circuits := rs.foldl (fun b e => tset b e.1 e.2) c.lamp.circuits } })

/-- A group record's ranges and the duty rule (R225, R226). -/
def groupOk (e : Nat × Group) : Bool :=
  e.1 ≤ 1023 && 1 ≤ e.2.members.length && e.2.members.length ≤ 65536 && nodupB e.2.members
    && sortedB (e.2.members.map (fun n => (n : Int)))
    && 1 ≤ e.2.tMeasUs && e.2.tMeasUs ≤ 15000 && 100 ≤ e.2.period && e.2.period ≤ 60000
    && e.2.code < 65536 && 1 ≤ e.2.timeout && e.2.timeout ≤ 15
    && e.2.tMeasUs * 4000 ≤ e.2.period * 1000

/-- No pixel stands in two groups (R226). -/
def groupsApart (g : Tab Group) : Bool := nodupB (g.flatMap (fun e => e.2.members))

/-- No pixel of the records stands in another group of the effective configuration (R226). -/
def groupsClear (eff : Tab Group) (rs : List (Nat × Group)) : Bool :=
  rs.all (fun e => e.2.members.all (fun p => eff.all (fun h => decide (h.1 = e.1) || decide (p ∉ h.2.members))))

/-- LAMP_GROUP_SET (R225, R226): group records and the member lists they name, by descriptors or in a staging object. -/
def lampGroupSetEffect (m : Nat) (x : GroupBulk) (s : State) : State :=
  stage m 0x0703#16 [0x00060000] s (fun _ t c => do
    let rs ← t.bulkAs m x.obj (readGroups x.count)
    need (rs.all groupOk) .badParam
    let g := rs.foldl (fun b e => tset b e.1 e.2) c.lamp.groups
    need ((g.map (fun e => e.2.members.length)).sum ≤ 65536) .badParam
    need (groupsApart g && groupsClear t.cfg.lamp.groups rs) .lampGroupConflict
    need (diagnosed g c.map.map ≤ 65536) .noResource
    return { c with lamp := { c.lamp with groups := g } }) noCheck (some x.obj)

/-- The rules of LAMP_CFG_SET's registers (R234). -/
def lampSetRules (c : Cfg) : Except Status Unit := do
  let l := c.lamp
  need (fld l.floor 16 0 ≤ 0x10000 && fld l.staleD 16 0 ≤ 0x10000) .badParam
  need (10 ≤ fld l.telem 15 0 && fld l.telem 15 0 ≤ 60000) .badParam
  need (1 ≤ fld l.proof 31 16 && fld l.proof 31 16 ≤ 15000 && 100 ≤ fld l.proof 15 0 && fld l.proof 15 0 ≤ 60000
    && fld l.proof 31 16 * 4000 ≤ fld l.proof 15 0 * 1000) .badParam

/-- LAMP_CFG_SET (R234, R235); RSV bits are ignored (R13). -/
def lampCfgSetEffect (m : Nat) (floor staleD telem proof measCode : Word) (s : State) : State :=
  stage m 0x0704#16 [0x07040000] s (fun _ _ c => do
    let c' : Cfg := { c with lamp := { c.lamp with
      floor := floor &&& 0x0001FFFF#32, staleD := staleD &&& 0x0001FFFF#32, telem := telem &&& 0x0000FFFF#32
      proof := proof, measCode := measCode &&& 0x0000FFFF#32 } }
    lampSetRules c'
    return c')

/-- LAMP_GROUP_RESET (R229): scheduled for the first boundary at least 120 us ahead; the LEAD forwards it with that
boundary, at which the SHADOW applies it too. -/
def lampGroupResetEffect (m : Nat) (x : GroupReset) (s : State) : State :=
  let g := x.group
  cmdNow m 0x0705#16 s (fun q t =>
    if !t.mirrored q then (reply .badState, t)
    else match tfind? t.cfg.lamp.groups g with
    | none => (reply .badParam, t)
    | some r =>
      let faulty := r.members.any (fun p => decide ((t.lamp.pixAt p).status = 2) || decide ((t.lamp.pixAt p).status = 3))
      if faulty ∨ (t.lamp.grpAt g).member then (reply .badState, t)
      else
        let f := if t.pair.role = .shadow then x.lead.getD t.boundaryIn120 else t.boundaryIn120
        let t1 : State := { t with lamp := { t.lamp with
          grp := tset t.lamp.grp g { t.lamp.grpAt g with resetAt := some f } } }
        (okWith (le 4 (fnOf f).toNat), if t.pair.role = .lead then t1.emit (.groupReset g f) else t1))

/-- Statuses two per byte, low nibble first (R223). -/
def nibbles : List Nat → List Byte
  | [] => []
  | [a] => [BitVec.ofNat 8 a]
  | a :: b :: r => BitVec.ofNat 8 (a + 16 * b) :: nibbles r

/-- LAMP_STATUS (R223). -/
def lampStatusEffect (m first count : Nat) (currents : Bool) (s : State) : State :=
  cmdRead m 0x0706#16 s (fun _ t =>
    if 1 ≤ count ∧ count ≤ 8000 then
      let ps := (List.range count).map (fun i => t.lamp.pixAt (first + i))
      okWith (nibbles (ps.map (·.status)) ++ (if currents then ps.flatMap (fun p => le 2 p.current) else []))
    else reply .badParam)

/-- Contents in a proof period (R230). -/
def proofPeriod (y : YmCfg) (periodMs : Nat) : Nat :=
  ceilDiv (periodMs * y.num) (1000 * (if bitOf y.rate 31 then 1001 else 1000))

/-- A group's cause as LAMP_GROUP_STATUS reports it. -/
def GrpLamp.code (g : GrpLamp) : Nat :=
  if g.member then 3 else match g.cause with | .none => 0 | .fault => 1 | .noDiagnosis => 2

/-- The contents since a member's latest diagnosis (R228): since the first content governed after its latest applied OK
or, where the history was emptied later, after that. -/
def sinceOk (s : State) (g p : Nat) : Nat :=
  s.frameNow + 1 - max ((s.lamp.pixAt p).okAfter.getD 0) (s.lamp.grpAt g).since

/-- LAMP_GROUP_STATUS (R228): per group ON/OFF, cause, members OK, members faulty, periods since the last full
diagnosis, 4 bytes each in 32 bytes (log 9). -/
def lampGroupStatusEffect (m first count : Nat) (s : State) : State :=
  cmdRead m 0x0707#16 s (fun _ t =>
    if 1 ≤ count ∧ count ≤ 127 then
      okWith ((List.range count).flatMap (fun i =>
        let g := first + i
        let st := t.lamp.grpAt g
        let ms := (tfind? t.cfg.lamp.groups g).map (·.members) |>.getD []
        let pf := ((tfind? t.cfg.lamp.groups g).map (fun r => proofPeriod t.cfg.ym r.period)).getD 1
        le 4 (if st.off then 0 else 1) ++ le 4 st.code
          ++ le 4 (ms.filter (fun p => (t.lamp.pixAt p).status = 1)).length
          ++ le 4 (ms.filter (fun p => (t.lamp.pixAt p).status = 2 ∨ (t.lamp.pixAt p).status = 3)).length
          ++ le 4 (((ms.map (sinceOk t g)).max?.getD 0) / pf) ++ le 12 0))
    else reply .badParam)

/-- LAMP_EVT_CAUSE read by a path (R235): returned and cleared. -/
def lampEvtCauseReadEffect (p : Path) (s : State) : State :=
  (s.clearCause .lamp 0xFFFFFFFF#32).returns p (s.cause .lamp)

-- The meanings of this family's rows: the effect, with the queue and the identity kept.

/-- MAP_LOAD (R185). -/
def execMapLoad (m obj : Nat) (s : State) : Host.Outcome State Fault Refusal :=
  commit s (mapLoadEffect m obj s)
/-- MAP_MODEL_SET (R204). -/
def execMapModelSet (m : Nat) (head : List Byte) (obj : Nat) (s : State) :
    Host.Outcome State Fault Refusal :=
  commit s (mapModelSetEffect m head obj s)
/-- MAP_CURVE_SET (R198). -/
def execMapCurveSet (m i : Nat) (d : List Nat) (s : State) : Host.Outcome State Fault Refusal :=
  commit s (mapCurveSetEffect m i d s)
/-- MAP_SET (R192). -/
def execMapSet (m : Nat) (pqWhite gm gmSrc probe : Word) (s : State) : Host.Outcome State Fault Refusal :=
  commit s (mapSetEffect m pqWhite gm gmSrc probe s)
/-- MAP_PATCH (R208). -/
def execMapPatch (m : Nat) (ps : List (Nat × PixRec)) (s : State) : Host.Outcome State Fault Refusal :=
  commit s (mapPatchEffect m ps s)
/-- MAP_EVT_CAUSE_WRITE (R209). -/
def execMapEvtCauseWrite (v : Word) (s : State) : Host.Outcome State Fault Refusal :=
  commit s (mapEvtCauseWriteEffect v s)
/-- MAP_SNAPSHOT (R209). -/
def execMapSnapshot (s : State) : Host.Outcome State Fault Refusal :=
  commit s (mapSnapshotEffect s)
/-- MAP_CLEAR (R209). -/
def execMapClear (s : State) : Host.Outcome State Fault Refusal :=
  commit s (mapClearEffect s)
/-- LAMP_SET_NUMBER_SEND (R214). -/
def execLampSetNumberSend (s : State) : Host.Outcome State Fault Refusal :=
  commit s (lampSetNumberSendEffect s)
/-- LAMP_BIN_SET (R213). -/
def execLampBinSet (m : Nat) (rs : List (Nat × BinRec)) (s : State) : Host.Outcome State Fault Refusal :=
  commit s (lampBinSetEffect m rs s)
/-- LAMP_CIRCUIT_SET (R219). -/
def execLampCircuitSet (m : Nat) (rs : List (Nat × Circuit)) (s : State) :
    Host.Outcome State Fault Refusal :=
  commit s (lampCircuitSetEffect m rs s)
/-- LAMP_GROUP_SET (R226). -/
def execLampGroupSet (m : Nat) (x : GroupBulk) (s : State) : Host.Outcome State Fault Refusal :=
  commit s (lampGroupSetEffect m x s)
/-- LAMP_CFG_SET (R234). -/
def execLampCfgSet (m : Nat) (floor staleD telem proof measCode : Word) (s : State) :
    Host.Outcome State Fault Refusal :=
  commit s (lampCfgSetEffect m floor staleD telem proof measCode s)
/-- LAMP_GROUP_RESET (R229). -/
def execLampGroupReset (m : Nat) (x : GroupReset) (s : State) : Host.Outcome State Fault Refusal :=
  commit s (lampGroupResetEffect m x s)
/-- LAMP_STATUS (R223). -/
def execLampStatus (m first count : Nat) (currents : Bool) (s : State) : Host.Outcome State Fault Refusal :=
  commit s (lampStatusEffect m first count currents s)
/-- LAMP_GROUP_STATUS (R228). -/
def execLampGroupStatus (m first count : Nat) (s : State) : Host.Outcome State Fault Refusal :=
  commit s (lampGroupStatusEffect m first count s)
/-- LAMP_EVT_CAUSE_READ (R235). -/
def execLampEvtCauseRead (p : Path) (s : State) : Host.Outcome State Fault Refusal :=
  commit s (lampEvtCauseReadEffect p s)
/-- PEER_LAMP_FORWARD (R214). -/
def execPeerLampForward (f : LampFwd) (s : State) : Host.Outcome State Fault Refusal :=
  commit s (peerLampForwardEffect f s)

end Sys2Proof.Machine
end

