-- ==== Sys2Proof/Machine/Compose.lean ====
section
/-! DEFINITION. Machine/Compose.lean: the compositor (chapter 06): source pixels in the working format, the
scaler, blending and the canvas word; layer buffers, inputs and the latch rule; the LAYER commands. -/
namespace Sys2Proof.Machine
open Sys2Proof

/-! ## Register fields -/

def LayerRegs.on (r : LayerRegs) : Bool := bitOf r.ctrl 31
def LayerRegs.kind (r : LayerRegs) : Nat := fld r.ctrl 30 28
def LayerRegs.index (r : LayerRegs) : Nat := fld r.ctrl 27 22
def LayerRegs.format (r : LayerRegs) : Nat := fld r.ctrl 21 19
def LayerRegs.blend (r : LayerRegs) : Nat := fld r.ctrl 18 17
/-- TAPS as a number of taps (R184); the reserved code 0b11 gives 0. -/
def LayerRegs.taps (r : LayerRegs) : Nat :=
  if fld r.ctrl 16 15 = 0 then 1 else if fld r.ctrl 16 15 = 1 then 4 else if fld r.ctrl 16 15 = 2 then 8 else 0
def LayerRegs.premult (r : LayerRegs) : Bool := bitOf r.ctrl 14
def LayerRegs.bestEffort (r : LayerRegs) : Bool := bitOf r.ctrl 13
def LayerRegs.coef (r : LayerRegs) : Nat := fld r.ctrl 12 9
def LayerRegs.sw (r : LayerRegs) : Nat := fld r.src 30 16
def LayerRegs.sh (r : LayerRegs) : Nat := fld r.src 14 0
def LayerRegs.x (r : LayerRegs) : Nat := fld r.pos 30 16
def LayerRegs.y (r : LayerRegs) : Nat := fld r.pos 14 0
def LayerRegs.dw (r : LayerRegs) : Nat := fld r.dst 30 16
def LayerRegs.dh (r : LayerRegs) : Nat := fld r.dst 14 0
/-- The layer's registers in a configuration. -/
def layerOf (c : CompCfg) (l : Nat) : LayerRegs := tget c.layers l {}
/-- The canvas width and height (R154). -/
def canvasW (c : CompCfg) : Nat := fld c.size 30 16
def canvasH (c : CompCfg) : Nat := fld c.size 14 0
/-- Line banks a layer needs (R171). -/
def lineBanks (r : LayerRegs) : Nat :=
  if r.on then ceilDiv r.sw 8192 * r.taps * max 1 (ceilDiv r.sh r.dh) else 0

/-! ## Source pixels (R167, R168) -/

/-- A working pixel, components in units of 2^-24. -/
structure Px where
  r : Int := 0
  g : Int := 0
  b : Int := 0
  a : Int := 0
  deriving DecidableEq, Repr

/-- One, in units. -/
def oneU : Int := 16777216
/-- A number clamped to a range. -/
def clampI (v lo hi : Int) : Int := max lo (min hi v)

/-- A clamped to 0..1, colour to at least 0 (R168). -/
def Px.clamp (p : Px) : Px := { r := max 0 p.r, g := max 0 p.g, b := max 0 p.b, a := clampI p.a 0 oneU }

/-- Colour and alpha of exact reals, premultiplied within the one rounding unless stored so (R167). -/
def mkPx (r g b a : Rat) (premult : Bool) : Px :=
  let k : Rat := if premult then 1 else a
  ({ r := half (r * k), g := half (g * k), b := half (b * k), a := half a } : Px).clamp

/-- n bits of a big-endian pgroup of octets, starting at bit i (ST 2110-20, log 16). -/
def pgBits (bs : List Byte) (i n : Nat) : Nat :=
  let v := bs.foldl (fun a b => a * 256 + b.toNat) 0
  v / 2 ^ (8 * bs.length - i - n) % 2 ^ n

/-- The 10-bit luma and chroma codes of a 4:2:2 pixel: Y, C_B, C_R (R167). -/
def ycc (m : Mem) (w x y : Nat) : Nat × Nat × Nat :=
  let pg (i : Nat) : List Byte := mread m (y * (w * 5 / 2) + i * 5) 5
  let p := pg (x / 2)
  if x % 2 = 0 then (pgBits p 10 10, pgBits p 0 10, pgBits p 20 10)
  else
    let q := if x + 1 < w then pg (x / 2 + 1) else p
    (pgBits p 30 10, (pgBits p 0 10 + pgBits q 0 10 + 1) / 2, (pgBits p 20 10 + pgBits q 20 10 + 1) / 2)

/-- The non-constant-luminance matrix of BT.709 (0) or BT.2020 (1): the weights of red and blue (log 16). -/
def lumaWeights (prim : Nat) : Rat × Rat :=
  if prim = 0 then (2126 / 10000, 722 / 10000) else (2627 / 10000, 593 / 10000)

/-- R, G, B of exact Y, C_B, C_R. -/
def yccToRgb (prim : Nat) (y cb cr : Rat) : Rat × Rat × Rat :=
  let (kr, kb) := lumaWeights prim
  let r := y + 2 * (1 - kr) * cr
  let b := y + 2 * (1 - kb) * cb
  (r, (y - kr * r - kb * b) / (1 - kr - kb), b)

/-- The pixel (x, y) of a w-wide image of a format in the working format (R167). -/
def srcPixel (fmt : Nat) (premult full : Bool) (prim : Nat) (m : Mem) (w x y : Nat) : Px :=
  let word (n : Nat) : Nat := unle (mread m ((y * w + x) * n) n)
  if fmt = 0 then
    let v := word 4
    mkPx ((v % 256 : Nat) / 255) ((v / 256 % 256 : Nat) / 255) ((v / 65536 % 256 : Nat) / 255)
      ((v / 16777216 % 256 : Nat) / 255) premult
  else if fmt = 1 then
    let v := word 8
    let c (i : Nat) : Rat := unhalf (ofCode (BitVec.ofNat 16 (v / 2 ^ (16 * i))))
    mkPx (c 0) (c 1) (c 2) (c 3) premult
  else if fmt = 2 then
    let v := word 4
    mkPx ((v % 1024 : Nat) / 1023) ((v / 1024 % 1024 : Nat) / 1023) ((v / 1048576 % 1024 : Nat) / 1023)
      ((v / 1073741824 % 4 : Nat) / 3) premult
  else if fmt = 3 then
    let (yc, cb, cr) := ycc m w x y
    let y' : Rat := if full then (yc : Rat) / 1023 else ((yc : Rat) - 64) / 876
    let d : Rat := if full then 1023 else 896
    let (r, g, b) := yccToRgb prim y' (((cb : Rat) - 512) / d) (((cr : Rat) - 512) / d)
    mkPx r g b 1 true
  else if fmt = 4 then
    let p := mread m (y * (w * 15 / 4) + x / 4 * 15) 15
    let c (i : Nat) : Rat :=
      let d := (pgBits p (x % 4 * 30 + i * 10) 10 : Nat)
      if full then (d : Rat) / 1023 else ((d : Rat) - 64) / 876
    mkPx (c 0) (c 1) (c 2) 1 true
  else
    let (r, g, b) := unpackCanvas (BitVec.ofNat 32 (word 4))
    { r := r, g := g, b := b, a := oneU }

/-! ## Scaler (R170) -/

/-- The coefficient of a tap: kind 0 the 8-tap horizontal, 1 the 8-tap vertical, 2 the 4-tap vertical filter;
set 0 is built in. -/
def coefOf (c : CompCfg) (set kind taps phase k : Nat) : Int :=
  if set = 0 then
    let h := taps / 2 - 1
    if k = h then ((64 - phase) * 256 : Nat) else if k = h + 1 then (phase * 256 : Nat) else 0
  else ((((tget c.coefs set {}).phases.getD phase []).getD ((if kind = 0 then 0 else if kind = 1 then 8 else 16) + k) 0))

/-- The position p_i of destination sample i along an axis of source size S and destination size D, in 2^-32. -/
def srcPos (S D i : Nat) : Int :=
  let step := S * 4294967296 / D
  ((step / 2 : Nat) : Int) - 2147483648 + (i * step : Nat)

/-- The phase of a position. -/
def phaseOf (p : Int) : Nat := (p % 4294967296 / 67108864).toNat

/-- The source samples whose mean tap k applies to. -/
def tapAt (taps S D k : Nat) (p : Int) : List Nat :=
  let b := if D < S then ceilDiv S D else 1
  let h : Int := (taps / 2 : Nat) - 1
  (List.range b).map (fun j => (clampI (p / 4294967296 + ((k : Int) - h) * b + j) 0 (S - 1 : Nat)).toNat)

/-- One filtered sample along an axis of source size S and destination size D: f gives a source component. -/
def filterAt (c : CompCfg) (set kind taps S D i : Nat) (f : Nat → Int) : Int :=
  let p := srcPos S D i
  let tap (k : Nat) : Rat :=
    let xs := tapAt taps S D k p
    (coefOf c set kind taps (phaseOf p) k : Rat) * ((((xs.map f).sum : Int) : Rat) / xs.length)
  roundUnits (((List.range taps).map tap).sum / 16384)

/-- The scaled sample of a layer at destination offset (i, j): vertical first, then horizontal. -/
def scaled (c : CompCfg) (r : LayerRegs) (src : Nat → Nat → Px) (i j : Nat) : Px :=
  let comp (g : Px → Int) : Int :=
    let col (x : Nat) : Int :=
      if r.taps = 1 then g (src x j)
      else filterAt c r.coef (if r.taps = 8 then 1 else 2) r.taps r.sh r.dh j (fun y => g (src x y))
    filterAt c r.coef 0 8 r.sw r.dw i col
  { r := comp (·.r), g := comp (·.g), b := comp (·.b), a := comp (·.a) }

/-- The source samples that a filtered sample is computed from: those of its taps that carry weight. -/
def usedAt (c : CompCfg) (set kind taps S D i : Nat) : List Nat :=
  let p := srcPos S D i
  ((List.range taps).filter (fun k => decide (coefOf c set kind taps (phaseOf p) k ≠ 0))).flatMap (fun k => tapAt taps S D k p)

/-- The source columns and rows of the scaled sample at destination offset (i, j). -/
def sourceCols (c : CompCfg) (r : LayerRegs) (i : Nat) : List Nat := usedAt c r.coef 0 8 r.sw r.dw i
def sourceRows (c : CompCfg) (r : LayerRegs) (j : Nat) : List Nat :=
  if r.taps = 1 then [j] else usedAt c r.coef (if r.taps = 8 then 1 else 2) r.taps r.sh r.dh j

/-- The bytes of a buffer that hold the pixel (x, y) of a w-wide image of a format: those of its pgroup, and of the next
one whose chroma an odd pixel of 4:2:2 takes (R167). -/
def pixelBytes (fmt w x y : Nat) : Nat × Nat :=
  if fmt = 1 then ((y * w + x) * 8, 8)
  else if fmt = 3 then (y * (w * 5 / 2) + x / 2 * 5, if x % 2 = 1 ∧ x + 1 < w then 10 else 5)
  else if fmt = 4 then (y * (w * 15 / 4) + x / 4 * 15, 15)
  else ((y * w + x) * 4, 4)

/-- A source pixel of layer l lies in the failing word or line (R182). -/
def LayerErr.strikes (l fmt w x y : Nat) : LayerErr → Bool
  | .line e =>
    let (a, len) := pixelBytes fmt w x y
    decide (e.layer = l) && decide (a < 64 * e.line + 64) && decide (64 * e.line < a + len)
  | .bank e => decide (e.layer = l) && decide (y = e.y) && decide (e.x ≤ x) && decide (x < e.x + e.n)

/-- The destination pixel at offset (i, j) of layer l has a source in a failing word. DESIGN CHOICE: its source is every
sample that carries weight in it (log 67). -/
def struck (c : CompCfg) (r : LayerRegs) (l fmt w : Nat) (errs : List LayerErr) (i j : Nat) : Bool :=
  (errs.filter (fun e => e.layer = l)).any (fun e =>
    (sourceRows c r j).any (fun y => (sourceCols c r i).any (fun x => e.strikes l fmt w x y)))

/-! ## Blending (R172 to R177) -/

/-- Every component times the opacity v / 65,535, each product rounded once (R173). -/
def Px.fade (p : Px) (v : Nat) : Px :=
  let f (u : Int) : Int := roundUnits ((u : Rat) * v / 65535)
  { r := f p.r, g := f p.g, b := f p.b, a := f p.a }

/-- One component blended (R174): exact, rounded once, clamped to 0..65,504. -/
def blendComp (mode : Nat) (d s sa : Int) : Int :=
  let v : Rat :=
    if mode = 0 then unhalf s + unhalf d * (1 - unhalf sa)
    else if mode = 1 then unhalf d + unhalf s
    else if mode = 2 then unhalf d * (unhalf s + 1 - unhalf sa)
    else if d < s then unhalf s else unhalf d
  if v < 0 then 0 else if 65504 < v then 65504 * 16777216 else clampI (half v) 0 (65504 * 16777216)

/-- A pixel blended with a sample. -/
def blendPx (mode : Nat) (d s : Px) : Px :=
  { r := blendComp mode d.r s.r s.a, g := blendComp mode d.g s.g s.a, b := blendComp mode d.b s.b s.a, a := oneU }

/-- The layers that a COMP_ORDER image lists, lowest first (R172). -/
def listed (order : Word) : List Nat :=
  ((List.range 8).map (fun i => fld order (4 * i + 3) (4 * i))).takeWhile (fun n => n ≠ 15)

/-- The blend order (R172): enabled general layers by index or as COMP_ORDER lists them, then layer 8. -/
def blendOrder (c : CompCfg) : List Nat :=
  let general := if bitOf c.ctrl 3 then listed c.order else List.range 8
  (general ++ [8]).filter (fun l => (layerOf c l).on)

/-- The background colour (R184). -/
def background (c : CompCfg) : Px :=
  { r := ofCode (BitVec.ofNat 16 (fld c.bgRg 15 0)), g := ofCode (BitVec.ofNat 16 (fld c.bgRg 31 16))
    b := ofCode (BitVec.ofNat 16 (fld c.bgB 15 0)), a := oneU }

/-- A layer's source pixels: its still, or the buffer it was snapped with; none where it has no content or is skipped
(R175). -/
def layerSource (c : CompCfg) (cm : Comp) (snaps : List Snap) (l : Nat) : Option (Nat → Nat → Px) :=
  let r := layerOf c l
  let prim := fld c.ctrl 2 2
  if snaps.any (fun n => decide (n.layer = l) && n.skip) then none
  else if r.kind = 3 then
    match tfind? c.stills r.index with
    | some st => some (fun x y => srcPixel st.format st.premult false prim st.data st.width x y)
    | none => none
  else
    match snaps.find? (fun n => n.layer = l) with
    | some n =>
      match n.buf with
      | some b =>
        let full := (tget c.inputs r.index {}).full && decide (r.kind = 0)
        let data := (tget (tget cm.layers l {}).bufs b {}).data
        some (fun x y => srcPixel r.format r.premult full prim data r.sw x y)
      | none => none
    | none => none

/-- The canvas word of a pixel (R174, R156): every covering layer in order; `opac` gives a layer's opacity
value, `bad` the errors of R182. -/
def composePixel (c : CompCfg) (cm : Comp) (snaps : List Snap) (opac : Nat → Nat) (bad : List LayerErr)
    (x y : Nat) : Word :=
  let bg := background c
  let d := (blendOrder c).foldl (fun (d : Px) l =>
    let r := layerOf c l
    if r.x ≤ x ∧ x < r.x + r.dw ∧ r.y ≤ y ∧ y < r.y + r.dh then
      match layerSource c cm snaps l with
      | some src =>
        if struck c r l r.format r.sw bad (x - r.x) (y - r.y) then
          if l = 8 then blendPx 0 d bg else d
        else
          let p := scaled c r src (x - r.x) (y - r.y)
          blendPx (if l = 8 then 0 else r.blend) d (p.fade (if l = 8 then 65535 else opac l))
      | none => d
    else d) bg
  packCanvas d.r d.g d.b

/-- The words of n rows from row y0, in order of place. -/
def composeRows (c : CompCfg) (cm : Comp) (snaps : List Snap) (opac : Nat → Nat) (bad : List LayerErr)
    (y0 n : Nat) : Tab Word :=
  (List.range n).flatMap (fun j => (List.range (canvasW c)).map (fun x =>
    ((y0 + j) * 16384 + x, composePixel c cm snaps opac bad x (y0 + j))))

/-! ## Buffers, inputs, the latch -/

/-- Layer l's buffers. -/
def Comp.layer (cm : Comp) (l : Nat) : LayerSt := tget cm.layers l {}
/-- Buffer b of a layer. -/
def LayerSt.buf (r : LayerSt) (b : Nat) : LBuf := tget r.bufs b {}
/-- A layer's record put in place. -/
def Comp.setLayer (cm : Comp) (l : Nat) (r : LayerSt) : Comp := { cm with layers := tset cm.layers l r }
/-- A buffer put in place. -/
def LayerSt.setBuf (r : LayerSt) (b : Nat) (v : LBuf) : LayerSt := { r with bufs := tset r.bufs b v }
/-- The first FREE buffer of a layer (R158). -/
def LayerSt.freeBuf (r : LayerSt) : Option Nat := [0, 1, 2].find? (fun b => decide ((r.buf b).st = .free))
/-- The layer's buffers that satisfy a test. -/
def LayerSt.bufsIn (r : LayerSt) (q : LBuf → Bool) : List Nat := [0, 1, 2].filter (fun b => q (r.buf b))
/-- Buffers returned to FREE. -/
def LayerSt.freeAll (r : LayerSt) (bs : List Nat) : LayerSt :=
  bs.foldl (fun r b => r.setBuf b { r.buf b with st := .free }) r

/-- The enabled layers fed by input i under a configuration. -/
def inputLayers (c : CompCfg) (i : Nat) : List Nat :=
  (List.range 8).filter (fun l => (layerOf c l).on && decide ((layerOf c l).kind = 0) && decide ((layerOf c l).index = i))

/-- Octets per row of an input (R161). -/
def InputRec.rowBytes (r : InputRec) : Nat := if r.rgb then r.width * 15 / 4 else r.width * 5 / 2
/-- The octet a pixel offset stands at within a row. -/
def InputRec.offBytes (r : InputRec) (o : Nat) : Nat := if r.rgb then o * 15 / 4 else o * 5 / 2

/-- The device time of an RTP timestamp (R163): the start of the nearest 90 kHz tick not after the arrival that
carries it (log 17). -/
def rtpTime (now : Nat) (ts : Word) : Nat :=
  let k := now * 9 / 100000
  let d := ((BitVec.ofNat 32 k) - ts).toNat
  if k < d then 0 else ceilDiv ((k - d) * 100000) 9

/-- The frame an input fills is discarded (R162): its buffers return to FREE, and it is counted. -/
def dropFrame (i : Nat) (count : Bool) (s : State) : State :=
  let st := tget s.comp.inputs i {}
  let cm := st.bufs.foldl (fun (cm : Comp) e => cm.setLayer e.1 ((cm.layer e.1).setBuf e.2 {})) s.comp
  let s1 : State := { s with comp := { cm with
    inputs := tset cm.inputs i { st with bufs := [], rows := [], dropped := true } } }
  if count then (s1.bump (.compRxIncomplete i)).raiseCause .comp 10 else s1

/-- A new frame begins (R162): each layer the input feeds gives a FREE buffer, else the frame is discarded. -/
def beginFrame (i : Nat) (ts : Word) (s : State) : State :=
  let st := tget s.comp.inputs i {}
  let t := rtpTime s.elt ts
  let ls := inputLayers s.cfg.comp i
  let st' : InputSt := { st with ts := some ts, rows := [], bufs := [], dropped := false, times := st.times ++ [t] }
  let s1 : State := { s with comp := { s.comp with inputs := tset s.comp.inputs i st' } }
  if ls.all (fun l => ((s.comp.layer l).freeBuf).isSome) then
    let (cm, bs) := ls.foldl (fun (acc : Comp × Tab Nat) l =>
      match (acc.1.layer l).freeBuf with
      | some b => (acc.1.setLayer l ((acc.1.layer l).setBuf b { st := .filling, time := t, ts := ts }), tset acc.2 l b)
      | none => acc) (s1.comp, [])
    { s1 with comp := { cm with inputs := tset cm.inputs i { st' with bufs := bs } } }
  else dropFrame i true s1

/-- A row fragment written into the frame being filled. -/
def writeFrag (i : Nat) (rec : InputRec) (f : RowFrag) (s : State) : State :=
  let st := tget s.comp.inputs i {}
  let a := f.row * rec.rowBytes + rec.offBytes f.off
  let cm := st.bufs.foldl (fun (cm : Comp) e =>
    let b := (cm.layer e.1).buf e.2
    cm.setLayer e.1 ((cm.layer e.1).setBuf e.2 { b with data := mwrite b.data a f.data })) s.comp
  { s with comp := { cm with
    inputs := tset cm.inputs i { st with
      rows := tset st.rows f.row (addRange (tget st.rows f.row []) (rec.offBytes f.off) (rec.offBytes f.off + f.data.length)) } } }

/-- The frame is complete (R158, R162): its buffers become READY and older READY ones FREE; on a paired device
the peer is told its RTP timestamp (R163). -/
def completeFrame (i : Nat) (s : State) : State :=
  let st := tget s.comp.inputs i {}
  let cm := st.bufs.foldl (fun (cm : Comp) e =>
    let r := cm.layer e.1
    let r1 := r.freeAll (r.bufsIn (fun b => decide (b.st = .ready)))
    cm.setLayer e.1 (r1.setBuf e.2 { r1.buf e.2 with st := .ready })) s.comp
  let s1 : State := { s with comp := { cm with
    inputs := tset cm.inputs i { st with bufs := [], rows := [], dropped := true } } }
  if s.pair.role = .lead ∨ s.pair.role = .shadow then
    match st.ts with | some ts => s1.emit (.inputComplete i ts) | none => s1
  else s1

/-- The layers that input i feeds have had a packet of it since they became effective (R159). -/
def hearInput (i : Nat) (s : State) : State :=
  { s with comp := (inputLayers s.cfg.comp i).foldl (fun (c : Comp) l => c.setLayer l { c.layer l with heard := true }) s.comp }

/-- An ST 2110-20 packet of an enabled input i, whose record is `rec'` (R162). -/
def takePacket (i : Nat) (rec' : InputRec) (p : VideoPkt) (s : State) : State :=
  let st := tget s.comp.inputs i {}
  let lost : Bool := match st.nextSeq with | some n => decide (n ≠ p.seq) | none => false
  let s0 : State := { s with comp := { s.comp with
    inputs := tset s.comp.inputs i { st with nextSeq := some ((p.seq + 1) % 4294967296) } } }
  if p.fits = false then
    let s1 := dropFrame i false s0
    let st1 := tget s1.comp.inputs i {}
    ({ s1 with comp := { s1.comp with
        inputs := tset s1.comp.inputs i { st1 with mismatch := true, ts := some p.ts } } }).raiseCause .comp 11
  else
    let s1 := if lost ∧ st.dropped = false ∧ st.ts.isSome then dropFrame i true s0 else s0
    let st1 := tget s1.comp.inputs i {}
    let s2 := if st1.ts = some p.ts then s1
      else beginFrame i p.ts (if st1.ts.isSome ∧ st1.dropped = false then dropFrame i true s1 else s1)
    let st2 := tget s2.comp.inputs i {}
    let s3 : State := { s2 with comp := { s2.comp with inputs := tset s2.comp.inputs i { st2 with mismatch := false } } }
    if st2.dropped then s3
    else if p.rows.all (fun f => f.row < rec'.height ∧ f.off < rec'.width
        ∧ rec'.offBytes f.off + f.data.length ≤ rec'.rowBytes) then
      let s4 := p.rows.foldl (fun s f => writeFrag i rec' f s) s3
      if p.marker then
        let st4 := tget s4.comp.inputs i {}
        if (List.range rec'.height).all (fun y => decide (rec'.rowBytes ≤ covered (tget st4.rows y [])))
        then completeFrame i s4 else dropFrame i true s4
      else s4
    else dropFrame i true s3

/-- INPUT_PACKET (R162). -/
def inputPacketEffect (i : Nat) (p : VideoPkt) (s : State) : State :=
  let rec' := tget s.cfg.comp.inputs i {}
  if i < 8 ∧ rec'.enable then takePacket i rec' p (hearInput i s) else s

/-- The peer reports a complete frame (R163). -/
def peerInputCompleteEffect (i : Nat) (ts : Word) (s : State) : State :=
  if i < 8 ∧ (s.pair.role = .lead ∨ s.pair.role = .shadow) then
    let st := tget s.comp.inputs i {}
    { s with comp := { s.comp with
        inputs := tset s.comp.inputs i { st with peerDone := ((ts, s.elt) :: st.peerDone).take 16 } } }
  else s

/-- LATCH_OFFSET in nanoseconds (R161). -/
def InputRec.latchNs (r : InputRec) : Nat :=
  if r.latchUs = 0 then (ceilDiv ((if r.den1001 then 1001 else 1000) * 1000000) r.rateNum + 1000) * 1000
  else r.latchUs * 1000

/-- The numerator of the source period: the period is this over RATE_NUM nanoseconds (R159). -/
def InputRec.perNum (r : InputRec) : Nat := (if r.den1001 then 1001 else 1000) * 1000000000

/-- The newest due frame of an input at a boundary (R159): its time, and whether a packet of it arrived. Past the latest
heard frame at or before the cut-off, frames are expected a period apart; where a frame after the cut-off has been heard
already, only those before it, which are wholly lost, still lie between (log 17). -/
def newestDue (r : InputRec) (times : List Nat) (fb : Nat) : Option (Nat × Bool) :=
  if fb < r.latchNs then none
  else
    let c := fb - r.latchNs
    ((times.filter (fun t => t ≤ c)).max?).map (fun l =>
      let k := (c - l) * r.rateNum / r.perNum
      let n := match (times.filter (fun t => c < t)).min? with
        | some u => min k ((2 * (u - l) * r.rateNum + r.perNum) / (2 * r.perNum) - 1)
        | none => k
      (l + n * r.perNum / r.rateNum, decide (n = 0)))

/-- A buffer becomes LATCHED at FB(m) (R158): the one latched before is FREE at once unless a composition still
reads it. -/
def latchBuf (l b : Nat) (m : Nat) (s : State) : State :=
  let r := s.comp.layer l
  let r1 := match r.latched with
    | some o => if o = b then r else
        if s.comp.composing.isSome then r else r.freeAll [o]
    | none => r
  let r2 := r1.setBuf b { r1.buf b with st := .latched }
  { s with comp := s.comp.setLayer l { r2 with latched := some b, latchFn := fnOf m } }

/-- A layer is late at a boundary (R160). -/
def layerLate (l : Nat) (s : State) : State := (s.bump (.compLate l)).raiseCause .comp l

/-- The latch rule of one layer at FB(m), fb its instant (R159, R160). -/
def latchLayer (l m fb : Nat) (s : State) : State :=
  let r := layerOf s.cfg.comp l
  let ls := s.comp.layer l
  if r.on = false then s
  else if r.kind = 0 then
    let st := tget s.comp.inputs r.index {}
    if ls.heard = false then s
    else match newestDue (tget s.cfg.comp.inputs r.index {}) st.times fb with
    | none => s
    | some (t, arrived) =>
      let shown := match ls.latched with | some b => decide ((ls.buf b).time = t) | none => false
      let paired := decide (s.pair.role = .lead) || decide (s.pair.role = .shadow)
      let ok (b : Nat) : Bool := decide ((ls.buf b).st = .ready) && decide ((ls.buf b).time = t)
        && (!paired || st.peerDone.any (fun e => e.1 = (ls.buf b).ts ∧ e.2 + 10000 < fb))
      if arrived && shown then s
      else match [0, 1, 2].find? ok with
        | some b => if arrived then latchBuf l b m s else layerLate l s
        | none => layerLate l s
  else if r.kind = 1 then
    match [0, 1, 2].find? (fun b => decide ((ls.buf b).st = .ready) && decide ((ls.buf b).frame = m)) with
    | some b => latchBuf l b m s
    | none => s
  else if r.kind = 2 then
    match [0, 1, 2].find? (fun b => decide ((ls.buf b).st = .ready)) with
    | some b => latchBuf l b m s
    | none => layerLate l s
  else s

/-- The compositor latches the layer buffers that are ready (R16 step 2). -/
def latchLayers (m fb : Nat) (s : State) : State := (List.range 9).foldl (fun s l => latchLayer l m fb s) s

/-- The buffers of a layer whose source a commit changes return to FREE (R178). -/
def sourceChanged (a b : LayerRegs) : Bool :=
  decide (a.kind ≠ b.kind) || decide (a.index ≠ b.index) || decide (a.format ≠ b.format)
    || decide (a.sw ≠ b.sw) || decide (a.sh ≠ b.sh)

/-- A layer's buffers at a commit (R178): all FREE where its source changes; a layer that becomes effective has heard no
packet yet (R159). What a composition still reads stays in the bytes of the buffer. -/
def commitLayer (old new : CompCfg) (l : Nat) (c : Comp) : Comp :=
  if sourceChanged (layerOf old l) (layerOf new l) then
    let c1 := c.setLayer l { bufs := (c.layer l).bufs.map (fun e => (e.1, { e.2 with st := .free })) }
    { c1 with inputs := c1.inputs.map (fun e => (e.1, { e.2 with bufs := tdel e.2.bufs l })) }
  else if (layerOf old l).on then c else c.setLayer l { c.layer l with heard := false }

/-- What a commit does to the layer buffers at its effective boundary (R178): an input whose record changes drops the
frame it fills and starts afresh. -/
def commitLayers (old new : CompCfg) (s : State) : State :=
  let s1 := ((List.range 8).filter (fun i => tget old.inputs i {} ≠ tget new.inputs i {})).foldl (fun s i =>
    let t := dropFrame i false s
    { t with comp := { t.comp with inputs := tdel t.comp.inputs i } }) s
  { s1 with comp := (List.range 9).foldl (fun c l => commitLayer old new l c) s1.comp }

/-! ## Staging rules -/

/-- The canvas rules (R154). -/
def canvasOk (c : CompCfg) : Bool :=
  let w := canvasW c
  let h := canvasH c
  w ≤ 16384 && h ≤ 16384 && (w = 0 || (1 ≤ h && w * h ≤ 16777216))

/-- The formats of a source kind. -/
def kindFormats (k : Nat) : List Nat := if k = 0 then [3, 4] else [0, 1, 2, 5]

/-- The rules of an enabled layer against canvas and source (R154, R166, R169, R177); whether its canvas and its source
stand is asked at a commit only (R537). -/
def layerCheck (c : CompCfg) (atCommit : Bool) (l : Nat) : Except Status Unit := do
  let r := layerOf c l
  if r.on = false then return ()
  need ((canvasW c ≠ 0 || !atCommit) && r.kind ≤ 3 && decide (r.format ∈ kindFormats r.kind) && r.taps ≠ 0) .badParam
  need (r.kind = 3 || (r.kind = 0 && r.index ≤ 7) || r.index = 0) .badParam
  need (l ≠ 8 || (r.kind = 3 && !r.bestEffort)) .badParam
  need (1 ≤ r.sw && 1 ≤ r.sh && 1 ≤ r.dw && 1 ≤ r.dh) .badParam
  need ((canvasW c = 0 && !atCommit) || (r.x + r.dw ≤ canvasW c && r.y + r.dh ≤ canvasH c)) .badParam
  need (r.dw ≤ 16 * r.sw && r.dh ≤ 16 * r.sh && r.sw ≤ 8 * r.dw && (r.taps ≠ 1 || r.sh = r.dh)) .badParam
  if r.kind = 0 then
    let i := tget c.inputs r.index {}
    if i.enable then
      need (r.sw = i.width && r.sh = i.height && r.format = (if i.rgb then 4 else 3)) .badParam
    else need (!atCommit) .layerSourceAbsent
  else if r.kind = 3 then
    match tfind? c.stills r.index with
    | some st => need (r.sw = st.width && r.sh = st.height && r.format = st.format) .badParam
    | none => need (!atCommit) .layerSourceAbsent
  else return ()

/-- COMP_ORDER names no layer twice and none above 7, up to its end (R172). -/
def orderOk (order : Word) : Bool :=
  (listed order).all (fun n => n ≤ 7) && decide ((dedup (listed order)).length = (listed order).length)

/-- A coefficient set: 64 phases whose three filters each sum to 16,384 (R170). -/
def coefOk (c : CoefSet) : Bool :=
  decide (c.phases.length = 64) && c.phases.all (fun p => decide (p.length = 20)
    && decide ((p.take 8).sum = 16384) && decide (((p.drop 8).take 8).sum = 16384)
    && decide ((p.drop 16).sum = 16384))

/-- Every rule of the layers object (R154 to R177). -/
def compCheck (c : CompCfg) (atCommit : Bool) : Except Status Unit := do
  need (canvasOk c && orderOk c.order) .badParam
  (List.range 9).forM (layerCheck c atCommit)

/-- The object id of the layers section (R536). -/
def objComp : Nat := 0x000A0000

/-- A LAYER staging command: the changed layers object, checked. -/
def stageComp (m : Nat) (op : Half) (s : State) (f : Req → State → CompCfg → Except Status CompCfg)
    (pre : Req → State → Except Status Unit := noCheck) (src : Option Nat := none) : State :=
  stage m op [objComp] s (fun q t c => do
    let c' ← f q t c.comp
    compCheck c' false
    return { c with comp := c' }) pre src

/-- Layer 8 needs SAFETY and a P variant (R50, R176). -/
def protectedGate (q : Req) (t : State) (l : Nat) : Except Status Unit := do
  if l = 8 then
    need (q.cls = some .safety) .privDenied
    need t.isP .variantUnsupported
  else return ()

/-- The fixture that a bound opacity names lies within the variant (R4). -/
def opacityOk (t : State) (r : LayerRegs) : Bool := !(bitOf r.opac 31) || decide (fld r.opacSrc 22 6 < t.nFixtures)

/-- LAYER_SET (R169, R176). -/
def layerSetEffect (m l : Nat) (r : LayerRegs) (s : State) : State :=
  stageComp m 0x0501#16 s (fun _ _ c => do
    need (l ≤ 8) .badParam
    return { c with layers := tset c.layers l (layerFor l r) })
    (fun q t => do
      protectedGate q t l
      need (opacityOk t r) .variantUnsupported)

/-- LAYER_ORDER (R172): on S variants it may not name layer 8 (R176). -/
def layerOrderEffect (m : Nat) (prog : Bool) (order : Word) (s : State) : State :=
  stageComp m 0x0502#16 s (fun _ _ c =>
    .ok { c with order := order, ctrl := setFld c.ctrl 3 3 (if prog then 1 else 0) })
    (fun _ t => need (t.isP || !decide (8 ∈ listed order)) .variantUnsupported)

/-- CANVAS_SET (R154). -/
def canvasSetEffect (m : Nat) (size ctrl bgRg bgB : Word) (s : State) : State :=
  stageComp m 0x0503#16 s (fun _ _ c =>
    .ok { c with size := size &&& 0x7FFF7FFF#32, ctrl := ctrl &&& 0x0000000F#32, bgRg := bgRg
                 bgB := bgB &&& 0x0000FFFF#32 })

/-- An input record's ranges (R161). -/
def inputOk (r : InputRec) : Bool :=
  !r.enable || (2 ≤ r.width && r.width ≤ 3840 && r.width % (if r.rgb then 4 else 2) = 0
    && 1 ≤ r.height && r.height ≤ 2160 && 24000 ≤ r.rateNum && r.rateNum ≤ 60000
    && (r.latchUs = 0 || (100 ≤ r.latchUs && r.latchUs ≤ 100000)))

/-- LAYER_INPUT_SET (R161). -/
def layerInputSetEffect (m i : Nat) (r : InputRec) (s : State) : State :=
  stageComp m 0x0504#16 s (fun _ _ c => do
    need (i < 8 && inputOk r) .badParam
    return { c with inputs := tset c.inputs i r })
    (fun _ t => need (r.port < t.nEth) .variantUnsupported)

/-- The still that layer 8 of a layers object names, whether the layer is enabled or not (R176). -/
def protectedIndex (c : CompCfg) : Option Nat := if (layerOf c 8).kind = 3 then some (layerOf c 8).index else none

/-- A still's format and size (R166). -/
def stillOk (x : Still) : Bool :=
  decide (x.format ∈ [0, 1, 2, 5]) && decide (1 ≤ x.width) && decide (x.width ≤ 16384) && decide (1 ≤ x.height)
    && decide (x.height ≤ 16384)

/-- LAYER_STILL_LOAD (R166, R176): the still that layer 8 names, effective or staged, needs SAFETY. Its data come by
descriptors, or stand in the staging object `obj`. -/
def layerStillLoadEffect (m i : Nat) (format width height : Nat) (premult : Bool) (obj : Nat) (s : State) : State :=
  stageComp m 0x0506#16 s (fun _ t c => do
    let data ← t.bulkAs m obj (fun bs => .ok bs)
    let x : Still := { format := format, width := width, height := height, premult := premult, data := mwrite [] 0 data }
    need (i < 64 && stillOk x && data.length = frameBytes format width height) .badParam
    return { c with stills := tset c.stills i x })
    (fun q t => need (!(decide (protectedIndex (t.standing q).comp = some i) || decide (protectedIndex t.cfg.comp = some i))
      || q.cls = some .safety) .privDenied) (some obj)

/-- LAYER_COEF_SET (R170). -/
def layerCoefSetEffect (m i : Nat) (c : CoefSet) (s : State) : State :=
  stageComp m 0x0507#16 s (fun _ _ k => do
    need (1 ≤ i && i ≤ 15 && coefOk c) .badParam
    return { k with coefs := tset k.coefs i c })

/-- The rules of a layers object, in the order of its chapter, as its commands apply them (R183, R537). -/
def layersRules (t : State) (atCommit : Bool) (c : CompCfg) : Except Status Unit := do
  need ((t.isP || (!(layerOf c 8).on && !decide (8 ∈ listed c.order)))
    && (List.range 9).all (fun l => opacityOk t (layerOf c l)) && c.inputs.all (fun e => decide (e.2.port < t.nEth)))
    .variantUnsupported
  need (c.inputs.all (fun e => inputOk e.2) && c.stills.all (fun e => stillOk e.2)
    && c.coefs.all (fun e => coefOk e.2)) .badParam
  compCheck c atCommit

/-! ## LAYER_WRITE (R164, R179) -/

/-- The full frame count that a 32-bit frame number names, nearest to the present in serial arithmetic (R15). -/
def State.fullOf (s : State) (fn : Word) : Nat :=
  let n := s.frameNow
  let d := fn - fnOf n
  if d.toNat < 0x80000000 then n + d.toNat else n - (4294967296 - d.toNat)

/-- The latch frame of a write completed at an instant (R164). -/
def State.latchFrame (s : State) (target : Word) (done : Nat) : Nat :=
  max (s.fullOf target) (max s.ym.next (s.cfg.ym.firstFrom (done + 120000)))

/-- The frame of the first scheduled commit that frees the layer's buffers (R179). -/
def freeingFrame (l : Nat) : CompCfg → List Sched → Option Nat
  | _, [] => none
  | c, x :: r =>
    if sourceChanged (layerOf c l) (layerOf x.cfg.comp l) then some x.frame else freeingFrame l x.cfg.comp r

/-- A frame of a host layer is written (R164): it replaces the buffer of the same latch frame, if any, and is
READY; the LEAD of a pair copies it to the SHADOW. -/
def storeLayer (l b frame : Nat) (data : List Byte) (s : State) : State :=
  let r := s.comp.layer l
  let r1 := r.freeAll (r.bufsIn (fun x => decide (x.st = .ready) && decide (x.frame = frame)))
  let r2 := r1.setBuf b { st := .ready, data := mwrite [] 0 data, frame := frame }
  let s1 : State := { s with comp := s.comp.setLayer l r2 }
  if s.pair.role = .lead then s1.emit (.layerCopy l frame data) else s1

/-- The bytes that the descriptors of mailbox m's command have brought (R55). -/
def State.moved (s : State) (m : Nat) : Option (List Byte) := (s.box m).dma.bind (fun d => d.obj.whole)

/-- A LAYER_WRITE goes on: the checks on the layer and the transfer, a FREE buffer, the latch frame, the data. The LEAD
has the SHADOW's copy by `held`, and takes M from the later of the two completions. -/
def layerWriteNow (m l : Nat) (target : Word) (held : Option Nat) (s : State) : Option Reply × State :=
  let r := layerOf s.cfg.comp l
  if r.kind ≠ 1 ∨ s.pair.role = .shadow then (some (reply .badState), s)
  else match s.moved m with
  | none => (some (reply .badParam), s)
  | some data =>
    if data.length ≠ frameBytes r.format r.sw r.sh then (some (reply .badParam), s)
    else match (s.comp.layer l).freeBuf with
    | none => (none, { s with comp := { s.comp with
        waits := s.comp.waits ++ [{ mailbox := m, layer := l, target := target }] } })
    | some b =>
      let f := s.latchFrame target (if s.pair.role = .lead then max s.elt (held.getD 0) else s.elt)
      match freeingFrame l s.cfg.comp s.sched with
      | some e =>
        if e ≤ f then (some (reply .badState), s)
        else (some (okWith (le 4 (fnOf f).toNat)), storeLayer l b f data s)
      | none => (some (okWith (le 4 (fnOf f).toNat)), storeLayer l b f data s)

/-- A LAYER_WRITE rung before mailbox m's has not come to its turn. -/
def State.writeBefore (s : State) (m : Nat) : Bool :=
  s.mbx.boxes.any (fun e => decide (e.2.req.opcode = 0x0505#16) && decide (e.2.order < (s.box m).order)
    && (decide (e.2.st = .pending) || (decide (e.2.st = .executing) && !e.2.waiting)))

/-- LAYER_WRITE (R164, R179, R183), of the data that its descriptors have moved; without descriptors it brings no whole
frame. Writes come to their turn in doorbell order, and one that finds a write to its layer waiting waits behind it. DESIGN
CHOICE: the order holds over all layers until a write's layer is known (log 68). -/
def layerWriteEffect (m l : Nat) (target : Word) (held : Option Nat) (s : State) : State :=
  if s.writeBefore m then s
  else cmd m 0x0505#16 s (fun _ t =>
    if 8 < l then (some (reply .badParam), t)
    else if l = 8 ∧ t.isP = false then (some (reply .variantUnsupported), t)
    else if (layerOf t.cfg.comp l).kind = 1 ∧ t.comp.waits.any (fun w => w.layer = l) then
      (none, { t with comp := { t.comp with waits := t.comp.waits ++ [{ mailbox := m, layer := l, target := target }] } })
    else layerWriteNow m l target held t)

/-- A waiting LAYER_WRITE obtains a buffer (R164): the first to have waited for the layer. -/
def layerWriteBufferFreeEffect (x : BufferFree) (s : State) : State :=
  let m := x.mailbox
  match s.comp.waits.find? (fun w => w.mailbox = m) with
  | some w =>
    if (s.comp.waits.find? (fun v => v.layer = w.layer)).map (·.mailbox) = some m
        ∧ (((s.comp.layer w.layer).freeBuf).isSome ∨ (layerOf s.cfg.comp w.layer).kind ≠ 1) then
      let s1 : State := { s with comp := { s.comp with waits := s.comp.waits.filter (fun v => v.mailbox ≠ m) } }
      match layerWriteNow m w.layer w.target x.held s1 with
      | (some r, t) => t.finish m r
      | (none, t) => t
    else s
  | none => s

/-- The SHADOW receives a host layer buffer from the LEAD (R164). -/
def peerLayerCopyEffect (l frame : Nat) (data : List Byte) (s : State) : State :=
  if s.pair.role = .shadow then
    match (s.comp.layer l).freeBuf with
    | some b => storeLayer l b frame data s
    | none => s
  else s

/-! ## Status, causes, counters -/

/-- COMP_L_STATUS (R184). -/
def compLStatus (s : State) (l : Nat) : Word :=
  let r := s.comp.layer l
  let lb := (r.latched.getD 0) * 1073741824
  let valid := if r.latched.isSome ∨ ((layerOf s.cfg.comp l).on ∧ (layerOf s.cfg.comp l).kind = 3) then 536870912 else 0
  let ready := if (r.bufsIn (fun b => decide (b.st = .ready))) ≠ [] then 268435456 else 0
  BitVec.ofNat 32 (lb + valid + ready + lineBanks (layerOf s.cfg.comp l) * 4194304)

/-- LAYER_STATUS: per layer of the mask COMP_L_STATUS, COMP_L_LATCH_FN and the late count, at their reset values while
COMPOSE is off (R184). -/
def layerStatusEffect (m : Nat) (mask : Word) (s : State) : State :=
  cmdRead m 0x0508#16 s (fun _ t =>
    if bitOf mask 8 ∧ t.isP = false then reply .variantUnsupported
    else if !t.domainOn 6 then okWith (((List.range 9).filter (fun l => bitOf mask l)).flatMap (fun _ => le 12 0))
    else okWith (((List.range 9).filter (fun l => bitOf mask l)).flatMap (fun l =>
      le 4 (compLStatus t l).toNat ++ le 4 (t.comp.layer l).latchFn.toNat ++ le 4 (t.captured (.compLate l)))))

/-- Ones written to COMP_EVT_CAUSE (R184). -/
def compEvtCauseWriteEffect (v : Word) (s : State) : State := s.clearCause .comp (v &&& 0x00001FFF#32)

/-- COMP_CNT_CTRL.SNAPSHOT. -/
def compSnapshotEffect (s : State) : State := s.captureKeys 0x200000 0x300000

/-- COMP_CNT_CTRL.CLEAR. -/
def compClearEffect (s : State) : State := s.clearKeys 0x200000 0x300000

/-- The row of content n's canvas is visible (R180). -/
def rowVisible (s : State) (n y : Nat) : Bool :=
  decide ((tget s.comp.canvas (n % 3) {}).content = some n)
    && (decide (s.comp.composing ≠ some n) || decide (y < s.comp.rowsDone))

-- The meanings of this family's rows: the effect, with the queue and the identity kept.

/-- INPUT_PACKET (R162). -/
def execInputPacket (i : Nat) (p : VideoPkt) (s : State) : Host.Outcome State Fault Refusal :=
  commit s (inputPacketEffect i p s)
/-- PEER_INPUT_COMPLETE (R163). -/
def execPeerInputComplete (i : Nat) (ts : Word) (s : State) : Host.Outcome State Fault Refusal :=
  commit s (peerInputCompleteEffect i ts s)
/-- LAYER_SET (R169). -/
def execLayerSet (m l : Nat) (r : LayerRegs) (s : State) : Host.Outcome State Fault Refusal :=
  commit s (layerSetEffect m l r s)
/-- LAYER_ORDER (R172). -/
def execLayerOrder (m : Nat) (prog : Bool) (order : Word) (s : State) : Host.Outcome State Fault Refusal :=
  commit s (layerOrderEffect m prog order s)
/-- CANVAS_SET (R154). -/
def execCanvasSet (m : Nat) (size ctrl bgRg bgB : Word) (s : State) : Host.Outcome State Fault Refusal :=
  commit s (canvasSetEffect m size ctrl bgRg bgB s)
/-- LAYER_INPUT_SET (R161). -/
def execLayerInputSet (m i : Nat) (r : InputRec) (s : State) : Host.Outcome State Fault Refusal :=
  commit s (layerInputSetEffect m i r s)
/-- LAYER_WRITE (R164). -/
def execLayerWrite (m l : Nat) (target : Word) (held : Option Nat) (s : State) :
    Host.Outcome State Fault Refusal :=
  commit s (layerWriteEffect m l target held s)
/-- LAYER_WRITE_BUFFER_FREE (R164). -/
def execLayerWriteBufferFree (x : BufferFree) (s : State) : Host.Outcome State Fault Refusal :=
  commit s (layerWriteBufferFreeEffect x s)
/-- LAYER_STILL_LOAD (R166). -/
def execLayerStillLoad (m i : Nat) (format width height : Nat) (premult : Bool) (obj : Nat) (s : State) :
    Host.Outcome State Fault Refusal :=
  commit s (layerStillLoadEffect m i format width height premult obj s)
/-- LAYER_COEF_SET (R170). -/
def execLayerCoefSet (m i : Nat) (c : CoefSet) (s : State) : Host.Outcome State Fault Refusal :=
  commit s (layerCoefSetEffect m i c s)
/-- LAYER_STATUS (R183). -/
def execLayerStatus (m : Nat) (mask : Word) (s : State) : Host.Outcome State Fault Refusal :=
  commit s (layerStatusEffect m mask s)
/-- COMP_EVT_CAUSE_WRITE (R184). -/
def execCompEvtCauseWrite (v : Word) (s : State) : Host.Outcome State Fault Refusal :=
  commit s (compEvtCauseWriteEffect v s)
/-- COMP_SNAPSHOT (R184). -/
def execCompSnapshot (s : State) : Host.Outcome State Fault Refusal :=
  commit s (compSnapshotEffect s)
/-- COMP_CLEAR (R184). -/
def execCompClear (s : State) : Host.Outcome State Fault Refusal :=
  commit s (compClearEffect s)
/-- PEER_LAYER_COPY (R164). -/
def execPeerLayerCopy (l frame : Nat) (data : List Byte) (s : State) : Host.Outcome State Fault Refusal :=
  commit s (peerLayerCopyEffect l frame data s)

end Sys2Proof.Machine
end

