-- ==== Sys2Proof/Machine/Graph.lean ====
section
/-! DEFINITION. Machine/Graph.lean: successor references and fan-out chains (R237), hardware tasks (R239), the
staging rules of a task graph, of PDK_CORE_CFG and of the fixtures and Tack sections (R238 to R240, R284 to
R287), as far as they concern one object; the rules across objects carry the suffix Cross. -/
namespace Sys2Proof.Machine
open Sys2Proof

/-- VALID of a successor reference. -/
def refValid (w : Word) : Bool := bitOf w 31
/-- KIND of a successor reference: 0 a Stall task, 1 a hardware task, 2 a fan-out entry. -/
def refKind (w : Word) : Nat := fld w 30 29
/-- INDEX of a successor reference. -/
def refIndex (w : Word) : Nat := fld w 20 0

/-- The Stall tasks (false, task) and hardware tasks (true, index) that references reach, through at most n
nested fan-out entries (R237). -/
def expand (g : Graph) : Nat → List Word → List (Bool × Nat)
  | 0, _ => []
  | n + 1, refs => refs.flatMap (fun w =>
      if refValid w then
        if refKind w = 0 then [(false, refIndex w)]
        else if refKind w = 1 then [(true, refIndex w)]
        else match g.fan[refIndex w]? with
          | some e => expand g n (e.succ ++ [e.link])
          | none => []
      else [])

/-- The successors that references reach. -/
def Graph.reach (g : Graph) (refs : List Word) : List (Bool × Nat) := expand g (g.fan.length + 1) refs

/-- A task's descriptor. -/
def Graph.task? (g : Graph) (t : Nat) : Option TaskDesc := g.tasks[t]?

/-- The successors of a Stall task. -/
def Graph.succs (g : Graph) (t : Nat) : List (Bool × Nat) :=
  match g.task? t with | some d => g.reach d.succ | none => []

/-- The successors of a hardware task through its link record (R240). -/
def Graph.links? (g : Graph) (h : Nat) : List (Bool × Nat) :=
  match g.links.find? (fun l => l.hw = h) with | some l => g.reach l.succ | none => []

/-- The stripe whose rows contain a segment's ROW_MAX, clamped to H - 1 (R239). -/
def segStripe (c : CompCfg) (seg : MapSeg) : Nat := min seg.rowMax (canvasH c - 1) / 64

/-- The canvas stands in a configuration. -/
def canvasOn (c : CompCfg) : Bool := decide (0 < canvasW c) && decide (0 < canvasH c)

/-- Packing group g has a flow (R295). -/
def packExists (f : FlowCfg) (g : Nat) : Bool := f.flows.any (fun e => !e.2.pixels && decide (e.2.group = g))

/-- A hardware task is in the configuration (R239). -/
def hwExists (c : Cfg) (h : Nat) : Bool :=
  if h < 256 then canvasOn c.comp && decide (64 * h < canvasH c.comp)
  else if h < 4352 then decide (h - 256 < c.map.map.segs.length)
  else decide (h < 8192) && packExists c.flow (h - 4352)

/-- The object that decides whether a hardware task exists stands in the configuration (R239). -/
def hwKnown (c : Cfg) (h : Nat) : Bool :=
  if h < 256 then canvasOn c.comp
  else if h < 4352 then !c.map.map.segs.isEmpty
  else !c.flow.flows.isEmpty

/-- How many references of a graph reach a task. -/
def Graph.preds (g : Graph) (x : Bool × Nat) : Nat :=
  (g.tasks.map (fun d => (g.reach d.succ).count x)).sum + (g.links.map (fun l => (g.reach l.succ).count x)).sum

/-- No repeats in a list. -/
def noDup {α : Type} [DecidableEq α] : List α → Bool
  | [] => true
  | x :: r => decide (x ∉ r) && noDup r

/-- A reference word's own fields (R237): bits 28:21 are 0 and no KIND is reserved, whether or not it names a
successor. -/
def refOk (g : Graph) (w : Word) : Bool :=
  decide (fld w 28 21 = 0) && decide (refKind w ≠ 3) &&
    (!refValid w ||
      (if refKind w = 0 then decide (refIndex w < g.tasks.length)
       else if refKind w = 1 then decide (256 ≤ refIndex w) && decide (refIndex w < 8192)
       else decide (refIndex w < g.fan.length)))

/-- A fan-out chain that never returns to an entry it has passed, within n entries. -/
def chainEnds (g : Graph) : Nat → List Word → Bool
  | 0, _ => false
  | n + 1, refs => refs.all (fun w =>
      if refValid w && decide (refKind w = 2) then
        match g.fan[refIndex w]? with
        | some e => chainEnds g n (e.succ ++ [e.link])
        | none => true
      else true)

/-- What a list of references may reach: at most 96 successors, none twice, by a chain that ends (R237). -/
def refsOk (g : Graph) (refs : List Word) : Bool :=
  refs.all (refOk g) && chainEnds g (g.fan.length + 1) refs
    && decide ((g.reach refs).length ≤ 96) && noDup (g.reach refs)

/-- A descriptor's fields (R236) and its references (R238). -/
def descOk (g : Graph) (d : TaskDesc) : Bool :=
  decide (d.prio ≤ 7) && decide (d.home ≤ 15) && bitOf d.affinity d.home && decide (d.dep ≤ 4095)
    && (if d.layerFinish then decide (d.layer ≤ 7) else decide (d.layer = 0xFFFF))
    && decide (d.saveMask.toNat < 16) && decide (fld d.entry 23 14 = 0) && decide (d.succ.length = 6)
    && refsOk g d.succ
    && (g.reach d.succ).all (fun x => x.1 || decide (d.task < x.2))
    && decide (g.preds (false, d.task) = d.dep)

/-- One step of references from hardware tasks to hardware tasks through Stall tasks. -/
def hopFrom (g : Graph) (xs : List (Bool × Nat)) : List (Bool × Nat) :=
  (xs.flatMap (fun x => if x.1 then g.links? x.2 else g.succs x.2)).dedup

/-- A chain of references leads from hardware task h back to itself within n references (R240). -/
def hwLoop (g : Graph) (h : Nat) : Nat → List (Bool × Nat) → Bool
  | 0, _ => false
  | n + 1, xs => let ys := hopFrom g xs; decide ((true, h) ∈ ys) || hwLoop g h n ys

/-- Numbers in strictly ascending order. -/
def rising : List Nat → Bool
  | [] => true
  | [_] => true
  | a :: b :: r => decide (a < b) && rising (b :: r)

/-- A graph names no Stall beyond the variant (R4, R238). -/
def graphFits (nStalls : Nat) (g : Graph) : Bool :=
  g.tasks.all (fun d => decide (d.home < nStalls) && decide (d.affinity.toNat < 2 ^ nStalls))

/-- PDK_CORE_CFG images (R259). DEDUCED: MODE being one bit, its reserved values are those with bit 1 set (log 70). -/
def coreRules (c : Cfg) : Except Status Unit :=
  need (c.stl.cores.all (fun e => !bitOf e.2 1)) .badParam

/-- The rules of R238 and R240 that concern the graph alone, in the order PDK_GRAPH_SET applies them: the variant comes
first (R50). -/
def graphRules (nStalls : Nat) (g : Graph) : Except Status Unit := do
  need (graphFits nStalls g) .variantUnsupported
  need (decide (g.fan.length ≤ 1024)) .noResource
  need (decide (g.tasks.length ≤ 1052672) && decide (g.tasks.map (·.task) = List.range g.tasks.length)) .badParam
  need (g.fan.all (fun e => decide (e.succ.length = 15) && e.succ.all (refOk g) && refOk g e.link
          && (decide (e.link = 0) || (refValid e.link && decide (refKind e.link = 2))))) .badParam
  need (g.tasks.all (descOk g)) .badParam
  need (rising (g.links.map (·.hw)) && g.links.all (fun l => decide (l.hw < 8192) && decide (l.succ.length = 7)
          && refsOk g l.succ && (g.reach l.succ).all (fun x => !x.1))) .badParam
  need (decide ((g.tasks.filter (fun d => 0 < d.dep ∨ d.delayUs ≠ 0)).length ≤ 3584)) .badParam
  need (noDup ((g.tasks.filter (·.layerFinish)).map (·.layer))) .badParam
  need (g.links.all (fun l => !hwLoop g l.hw (g.tasks.length + g.links.length) [(true, l.hw)])) .badParam
  need (g.tasks.all (fun d => !d.guaranteed || decide (d.bound ≠ 0))) .tackNoBound

/-- A fixture's SLOTS; a fixture without a record has 64 (R284). -/
def slotsOf (c : StlCfg) (f : Nat) : Nat := (tget c.fixtures f {}).slots

/-- A task's argument record; none: an empty block and arguments of 0 (R285). -/
def argsOf (c : StlCfg) (t : Nat) : ArgRec := (c.tack.args[t]?).getD {}

/-- Fixture f lies in the block of an argument record. -/
def ArgRec.holds (a : ArgRec) (f : Nat) : Bool := decide (a.first ≤ f) && decide (f < a.first + a.count)

/-- L, the lines of a block: the sum of ceil(SLOTS / 32) over its fixtures (R275). -/
def blockLines (c : StlCfg) (a : ArgRec) : Nat :=
  let listed := c.fixtures.filter (fun e => a.holds e.1)
  (listed.map (fun e => ceilDiv e.2.slots 32)).sum + 2 * (a.count - listed.length)

/-- X_t, the longest seal (R275). -/
def sealTime (c : StlCfg) (t : Nat) : Nat :=
  if (argsOf c t).count = 0 then 0 else 1280 + 8 * blockLines c (argsOf c t)

/-- BINARY and entry point of an ENTRY field (R286). -/
def entryBin (e : Word) : Nat := fld e 31 24
/-- The entry point's word offset. -/
def entryPoint (e : Word) : Nat := fld e 13 0

/-- The rules between the graph and the Tack section (R287): ENTRY against the binaries, BOUND against X_t. -/
def graphTackCross (c : StlCfg) (atCommit : Bool) : Except Status Unit := do
  need (c.graph.tasks.all (fun d =>
    match tfind? c.tack.bins (entryBin d.entry) with
    | some b => decide (entryPoint d.entry < b.code.length)
    | none => !atCommit)) .tackBadBinary
  need (c.graph.tasks.all (fun d => !d.guaranteed || (!atCommit && decide (c.tack.args.length ≤ d.task))
    || decide (sealTime c d.task < d.bound.toNat))) .tackNoBound

/-- The rules between the graph and the hardware tasks (R239): a named one is in the configuration. -/
def graphHwCross (c : Cfg) (atCommit : Bool) : Except Status Unit :=
  let g := c.stl.graph
  let ok (h : Nat) : Bool := hwExists c h || (!atCommit && !hwKnown c h)
  need (g.tasks.all (fun d => (g.reach d.succ).all (fun x => !x.1 || ok x.2)) && g.links.all (fun l => ok l.hw))
    .badParam

/-- The fixtures that the entries of packing group g name (R294). -/
def packFixtures (f : FlowCfg) (g : Nat) : List Nat :=
  (f.flows.filter (fun e => !e.2.pixels && decide (e.2.group = g))).flatMap
    (fun e => ((f.params.drop e.2.first).take e.2.count).map (fun w => fld w 16 0))

/-- Every Stall task whose block contains a fixture of a group names the group's PACK task (R295). -/
def packCross (c : Cfg) : Except Status Unit :=
  let g := c.stl.graph
  let groups := (c.flow.flows.filterMap (fun e => if e.2.pixels then none else some e.2.group)).dedup
  need (groups.all (fun k =>
    let fx := packFixtures c.flow k
    g.tasks.all (fun d => !(fx.any (fun f => (argsOf c.stl d.task).holds f))
      || decide ((true, 4352 + k) ∈ g.reach d.succ)))) .badParam

/-- The output blocks lie below the variant's fixture count and do not overlap (R274, R287). -/
def blocksOk (nFix : Nat) (args : List ArgRec) : Bool :=
  let a := args.filter (fun x => decide (0 < x.count))
  a.all (fun x => decide (x.first + x.count ≤ nFix))
    && a.Pairwise (fun x y => x.first + x.count ≤ y.first ∨ y.first + y.count ≤ x.first)

/-- A fixture record (R284). -/
def fixtureOk (f : Fixture) : Bool :=
  decide (1 ≤ f.slots) && decide (f.slots ≤ 64) && decide (f.init.length ≤ 64)
    && (f.init.drop f.slots).all (fun v => decide (v = 0))

end Sys2Proof.Machine
end

