-- ==== Sys2Proof/Machine/Params.lean ====
section
/-! DEFINITION. Machine/Params.lean: the fixture parameter store (R273 to R276): its two banks, static
fixtures, fresh fixtures and the seal of an output block. -/
namespace Sys2Proof.Machine
open Sys2Proof

/-- The Stall configuration an instance runs under. -/
def State.stlOf (s : State) (i : Inst) : StlCfg := tget s.pdk.held i.ver s.cfg.stl

/-- INIT of a slot; 0 without a record (R284). -/
def initOf (c : StlCfg) (f slot : Nat) : Half := ((tget c.fixtures f {}).init[slot]?).getD 0

/-- A fixture lies in no output block of the effective graph (R274). -/
def isStatic (c : StlCfg) (f : Nat) : Bool :=
  (c.tack.args.take c.graph.tasks.length).all (fun a => !a.holds f)

/-- The task whose block holds a fixture (R274). -/
def writerOf (c : StlCfg) (f : Nat) : Option Nat :=
  (c.tack.args.take c.graph.tasks.length).findIdx? (fun a => a.holds f)

/-- Bank n mod 2, which holds content n (R273). -/
def Pdk.bank (p : Pdk) (n : Nat) : Tab Half := if n % 2 = 0 then p.bank0 else p.bank1

/-- A slot of a written fixture in the bank of content n, as it stands. -/
def Pdk.slotAt (p : Pdk) (n f slot : Nat) : Half := tget (p.bank n) (64 * f + slot) 0

/-- A fixture is fresh for content n (R276). -/
def Pdk.isFresh (p : Pdk) (n f : Nat) : Bool := decide (f ∈ tget p.fresh n [])

/-- What an instance of content n reads with BANK 1 (R274, R276). -/
def prevSlot (s : State) (c : StlCfg) (n f slot : Nat) : Half :=
  if isStatic c f || s.pdk.isFresh n f then initOf c f slot else s.pdk.slotAt (n + 1) f slot

/-- The slots of a fixture's INIT that are not 0, by their place in a bank. -/
def initSlots (c : StlCfg) (f : Nat) : Tab Half :=
  ((List.range (slotsOf c f)).map (fun k => (64 * f + k, initOf c f k))).filter (fun e => e.2 ≠ 0)

/-- The seal of a block for content n (R275): every slot takes its BANK 1 value, and, where the instance
completed, the slots it wrote take what it wrote. A slot of 0 is not listed. -/
def sealBank (c : StlCfg) (a : ArgRec) (fresh : List Nat) (prev cur : Tab Half) (writes : Tab Half) : Tab Half :=
  let inside (e : Nat × Half) : Bool := a.holds (e.1 / 64)
  let carried := (prev.filter (fun e => inside e && decide (e.1 / 64 ∉ fresh)))
    ++ (fresh.filter (fun f => a.holds f)).flatMap (initSlots c)
  let base := carried.foldl (fun t e => tset t e.1 e.2) (cur.filter (fun e => !inside e))
  writes.foldl (fun t e => if e.2 = 0 then tdel t e.1 else tset t e.1 e.2) base

/-- The seal of an instance's block (R275). -/
def sealInst (i : Inst) (done : Bool) (s : State) : State :=
  let c := s.stlOf i
  let a := argsOf c i.task
  if a.count = 0 then s
  else
    let w : Tab Half := if done then i.writes else []
    let b := sealBank c a (tget s.pdk.fresh i.content []) (s.pdk.bank (i.content + 1)) (s.pdk.bank i.content) w
    if i.content % 2 = 0 then { s with pdk := { s.pdk with bank0 := b } }
    else { s with pdk := { s.pdk with bank1 := b } }

/-- What a reader outside the Stalls finds in a slot for content n (R274): the packer, the mapper. -/
def paramSlot (s : State) (n f slot : Nat) : Half :=
  if isStatic s.cfg.stl f then initOf s.cfg.stl f slot else s.pdk.slotAt n f slot

end Sys2Proof.Machine
end

