-- ==== Sys2Proof/Machine/Paddock.lean ====
section
/-! DEFINITION. Machine/Paddock.lean: the Paddock (chapter 09): instances, release, the decrement unit,
cancellation, ready lists, dispatch, displacement, the Loft, and its commands. -/
namespace Sys2Proof.Machine
open Sys2Proof

/-! ## Instances and Stalls -/

/-- The instance of a task for a content. -/
def State.inst? (s : State) (t c : Nat) : Option Inst := s.pdk.insts.find? (fun i => i.task = t ∧ i.content = c)

/-- The writer instance of a fixture for content n has ended; an instance no longer held has (R274, log 22). -/
def writerEnded (s : State) (t n : Nat) : Bool :=
  match s.inst? t n with
  | some i => decide (i.st = .ended)
  | none => match s.pdk.content with | some c => decide (n + 1 < c) | none => false

/-- An instance put in place. -/
def State.setInst (s : State) (i : Inst) : State :=
  { s with pdk := { s.pdk with
      insts := s.pdk.insts.map (fun x => if x.task = i.task ∧ x.content = i.content then i else x) } }

/-- Stall k. -/
def State.stall (s : State) (k : Nat) : StallRec := tget s.pdk.stalls k {}

/-- Stall k put in place. -/
def State.setStall (s : State) (k : Nat) (r : StallRec) : State :=
  { s with pdk := { s.pdk with stalls := tset s.pdk.stalls k r } }

/-- The instance a Stall runs. -/
def State.running? (s : State) (k : Nat) : Option Inst :=
  match (s.stall k).run with | some (t, c) => s.inst? t c | none => none

/-- The descriptor of an instance's task. -/
def State.descOf (s : State) (i : Inst) : TaskDesc :=
  ((s.stlOf i).graph.task? i.task).getD { task := i.task }

/-- PDK_CORE_CFG of Stall k. -/
def State.coreCfg (s : State) (k : Nat) : Word := tget s.cfg.stl.cores k 4

/-- Slots that are not FREE (R241): live instances on die and primed tasks. -/
def State.slotsUsed (s : State) : Nat :=
  (s.pdk.insts.filter (fun i => decide (i.st ≠ .ended) && !i.loft && !i.noSlot)).length + s.pdk.primed.length

/-- A later READY moment (R245): the commands of the model fall in cycles of their own (log 20). -/
def State.cycle (s : State) : State := { s with pdk := { s.pdk with seq := s.pdk.seq + 1 } }

/-- An instance becomes READY. -/
def makeReady (i : Inst) (s : State) : State :=
  s.setInst { i with st := .ready, seq := s.pdk.seq, readyNs := s.elt }

/-- An instance whose counter has reached 0 (R242): READY, or DELAYED; one without a slot still waits. -/
def settleInst (i : Inst) (s : State) : State :=
  if i.dep ≠ 0 ∨ i.noSlot ∨ i.st ≠ .waiting then s.setInst i
  else if i.delayMet ∨ (s.descOf i).delayUs = 0 then makeReady i s
  else s.setInst { i with st := .delayed }

/-- A Stall task's counter is decremented (R243). -/
def decTask (t c : Nat) (s : State) : State :=
  match s.inst? t c with
  | some i => if i.st = .waiting then settleInst { i with dep := i.dep - 1 } s else s
  | none => s

/-- A hardware task's counter of the content released latest is decremented; at 0 the task may run (R239, R243). -/
def decHw (h c : Nat) (s : State) : State :=
  let v := tget s.pdk.hw h 0
  if s.pdk.content = some c ∧ v ≠ 0 then
    { s with pdk := { s.pdk with
        hw := tset s.pdk.hw h (v - 1), ready := if v = 1 then s.pdk.ready ++ [(c, h)] else s.pdk.ready } }
  else s

/-- One successor is decremented. -/
def decSucc (c : Nat) (x : Bool × Nat) (s : State) : State := if x.1 then decHw x.2 c s else decTask x.2 c s

/-- The uncorrectable word that a slot or fan-out entry of the Paddock holds. -/
def Pdk.badWord (p : Pdk) (w : PdkWord) : Option Hit := (p.bad.find? (fun e => e.1 = w)).map (·.2)

/-- The successors that references reach through at most n nested fan-out entries, each with the uncorrectable word that
strikes it: of an entry on its way, else of its own slot (R257). -/
def struckSuccs (p : Pdk) (g : Graph) (c : Nat) : Nat → Option Hit → List Word → List ((Bool × Nat) × Option Hit)
  | 0, _, _ => []
  | n + 1, h, refs => refs.flatMap (fun w =>
      if refValid w then
        if refKind w = 0 then [((false, refIndex w), h.or (p.badWord (.slot (refIndex w) c)))]
        else if refKind w = 1 then [((true, refIndex w), h)]
        else match g.fan[refIndex w]? with
          | some e => struckSuccs p g c n (h.or (p.badWord (.fan (refIndex w)))) (e.succ ++ [e.link])
          | none => []
      else [])

/-- LOFT_ERROR at the home Stall of a struck Stall task (R257). -/
def tellStruck (g : Graph) (x : (Bool × Nat) × Option Hit) (s : State) : State :=
  match g.task? x.1.2, x.2, x.1.1 with
  | some d, some _, false => s.raiseCause (.pdk d.home) 1
  | _, _, _ => s

/-- The Paddock serves the successors of a list of references for content c (R243, R257): those that pass `soft` are
decremented, and the Stall tasks that do not pass it, or that an uncorrectable word strikes, are the ones to cancel. A
hardware task is always decremented. -/
def serve (g : Graph) (c : Nat) (soft : Bool × Nat → Bool) (refs : List Word) (s : State) : State × List (Nat × Nat) :=
  let xs := struckSuccs s.pdk g c (g.fan.length + 1) none refs
  let cut (x : (Bool × Nat) × Option Hit) : Bool := !x.1.1 && (x.2.isSome || !soft x.1)
  let s1 := (xs.filter (fun x => !cut x)).foldl (fun s x => decSucc c x.1 s) s
  let s2 := (xs.foldl (fun s x => tellStruck g x s) s1).eccAll (xs.filterMap (·.2)).dedup
  (s2, (xs.filter cut).map (fun x => (x.1.2, c)))

/-- A Stall task without TOLERANT is cancelled with the instance it depends on (R253). -/
def softSucc (g : Graph) (x : Bool × Nat) : Bool :=
  x.1 || (match g.task? x.2 with | some e => e.tolerant | none => true)

/-- The layer buffer that content n draws: n mod 3 (R277). -/
def drawBuf (n : Nat) : Nat := n % 3

/-- A layer's finishing task has completed (R165): its buffer becomes READY and an older READY one FREE, unless
the content's writes were discarded (R277). -/
def finishLayer (l n : Nat) (s : State) : State :=
  if (l, n) ∈ s.pdk.noBuf ∨ (layerOf s.cfg.comp l).kind ≠ 2 ∨ (layerOf s.cfg.comp l).on = false then s
  else
    let r := s.comp.layer l
    let r1 := r.freeAll (r.bufsIn (fun b => decide (b.st = .ready)))
    { s with comp := s.comp.setLayer l (r1.setBuf (drawBuf n) { r1.buf (drawBuf n) with st := .ready }) }

/-- The next released instance of the same task no longer waits for this one (R254). -/
def endCarry (i : Inst) (s : State) : State :=
  match s.pdk.insts.find? (fun j => decide (j.task = i.task) && decide (i.content < j.content) && j.carry) with
  | some j => settleInst { j with carry := false, dep := j.dep - 1 } s
  | none => s

/-- The Stall of an instance no longer runs it. -/
def releaseStall (i : Inst) (s : State) : State :=
  match i.stall with
  | some k =>
    let r := s.stall k
    if r.run = some (i.task, i.content) then
      s.setStall k { r with run := none, runtime := false, switching := false, wait := .none, sealing := none }
    else s
  | none => s

/-- An instance ends and its block is sealed (R275); its successors are not served here. -/
def closeInst (i : Inst) (e : TaskEnd) (s : State) : State :=
  let s1 := releaseStall i (sealInst i (decide (e = .completed)) s)
  endCarry i (s1.setInst { i with st := .ended, fin := some e, loft := false, noSlot := false, writes := [] })

/-- The cascade of R253, at most n steps: each instance of the list that has not ended is cancelled; a successor
that is a Stall task without TOLERANT, or that an uncorrectable word strikes, joins the list, the others are decremented.
Gives the number cancelled. -/
def cancelWork : Nat → List (Nat × Nat) → Nat → State → Nat × State
  | 0, _, k, s => (k, s)
  | _ + 1, [], k, s => (k, s)
  | n + 1, (t, c) :: rest, k, s =>
    match s.inst? t c with
    | none => cancelWork n rest k s
    | some i =>
      if i.st = .ended then cancelWork n rest k s
      else
        let d := s.descOf i
        let g := (s.stlOf i).graph
        let s1 := closeInst i .cancelled s
        let s2 := (s1.bump (.pdkCancel d.home)).raiseCause (.pdk d.home) 0
        let (s3, more) := serve g c (softSucc g) d.succ s2
        cancelWork n (rest ++ more) (k + 1) s3

/-- Enough steps for any cascade: each instance ends once and adds at most 96 successors. -/
def State.cascadeSteps (s : State) : Nat := 97 * (s.pdk.insts.length + 1)

/-- An instance is cancelled with its cascade (R251 to R253). -/
def cancelInst (t c : Nat) (s : State) : Nat × State := cancelWork s.cascadeSteps [(t, c)] 0 s

/-- The successors of a completed task are served: decremented, and those that an uncorrectable word strikes cancelled
with their cascade (R243, R257). -/
def serveDone (g : Graph) (c : Nat) (refs : List Word) (s : State) : State :=
  let (s1, struck) := serve g c (fun _ => true) refs s
  (cancelWork s1.cascadeSteps struck 0 s1).2

/-- An instance ends completed or terminated (R243, R275, R280): sealed, its layer finished, its successors
decremented. -/
def endInst (i : Inst) (e : TaskEnd) (s : State) : State :=
  let d := s.descOf i
  let s1 := closeInst i e s.cycle
  let s2 := if d.layerFinish ∧ e = .completed then finishLayer d.layer i.content s1 else s1
  serveDone (s.stlOf i).graph i.content d.succ s2

/-- A hardware task of content c completes (R239, R240, R243): its linked tasks are decremented, and for a stripe the
segments whose ROW_MAX lies in it. -/
def hwComplete (h c : Nat) (s : State) : State :=
  let s0 := s.cycle
  let s1 : State := { s0 with pdk := { s0.pdk with ready := s0.pdk.ready.filter (· ≠ (c, h)) } }
  let segs := if h < 256 then
      ((List.range s.cfg.map.map.segs.length).filter (fun j =>
        match s.cfg.map.map.segs[j]? with
        | some g => decide (segStripe s.cfg.comp g = h)
        | none => false)).map (fun j => (true, 256 + j))
    else []
  let link := match s.cfg.stl.graph.links.find? (fun l => l.hw = h) with | some l => l.succ | none => []
  segs.foldl (fun s x => decSucc c x s) (serveDone s.cfg.stl.graph c link s1)

/-! ## Release -/

/-- The order in which tasks are primed (R241). -/
def Graph.primeOrder (g : Graph) : List TaskDesc :=
  g.tasks.filter (fun d => decide (0 < d.dep) || decide (d.delayUs ≠ 0))
    ++ g.tasks.filter (fun d => !(decide (0 < d.dep) || decide (d.delayUs ≠ 0)))

/-- The counters of the hardware tasks at release (R239): the references that reach each, and for a segment its
stripe. -/
def hwInit (c : Cfg) : Tab Nat :=
  let g := c.stl.graph
  let t0 := (List.range c.map.map.segs.length).foldl
    (fun t j => if canvasOn c.comp then tset t (256 + j) 1 else t) ([] : Tab Nat)
  (g.tasks.flatMap (fun d => g.reach d.succ)).foldl
    (fun t x => if x.1 && hwExists c x.2 then tset t x.2 (tget t x.2 0 + 1) else t) t0

/-- What release makes of one task for content n (R241, R242, R254, R257): on die while a slot is free, else in
the Loft when it waits for nothing, else without a slot. -/
def releaseTask (n fbNs : Nat) (be : Bool) (d : TaskDesc) (s : State) : State :=
  let old := match s.pdk.released with | some k => s.inst? d.task k | none => none
  let carried := match old with | some o => decide (o.st ≠ .ended) | none => false
  let prim := decide (d.task ∈ s.pdk.primed)
  let s0 : State := { s with pdk := { s.pdk with primed := s.pdk.primed.filter (· ≠ d.task) } }
  let i0 : Inst := { task := d.task, content := n, dep := d.dep + (if carried then 1 else 0), carry := carried
                     relNs := fbNs, ver := s.pdk.ver }
  if be && !d.guaranteed then
    { s0 with pdk := { s0.pdk with
        insts := s0.pdk.insts ++ [{ i0 with st := .ended, fin := some .cancelled, unreleased := true }] } }
  else
    let free := prim || decide (s0.slotsUsed < 4096)
    let still := decide (0 < i0.dep) || decide (d.delayUs ≠ 0)
    let i1 : Inst := { i0 with loft := !free && !still, noSlot := !free && still }
    let s1 : State := { s0 with pdk := { s0.pdk with insts := s0.pdk.insts ++ [i1] } }
    settleInst i1 s1

/-- An unreleased best-effort task is handled toward its successors as a cancelled one (R256), and its block is
sealed in the terminate form (log 21). -/
def shedTask (n : Nat) (d : TaskDesc) (s : State) : State :=
  match s.inst? d.task n with
  | none => s
  | some i =>
    let g := s.cfg.stl.graph
    let (s2, more) := serve g n (softSucc g) d.succ ((sealInst i false s).bump .ymBeLate)
    (cancelWork s2.cascadeSteps more 0 s2).2

/-- Instances of content n - 1 that have not ended carry over (R254). -/
def raiseCarry (n : Nat) (s : State) : State :=
  (s.pdk.insts.filter (fun i => decide (i.content + 1 = n) && decide (i.st ≠ .ended))).foldl
    (fun s i => s.raiseCause (.pdk (s.descOf i).home) 3) s

/-- A Stall-drawn layer's buffer for content n that an unfinished task of content n - 3 left FILLING holds nothing
to be lit any more, and is FREE at FB(n - 1) (R165, R277; log 47). Its bytes stay. -/
def freeUndrawn (n : Nat) (s : State) (l : Nat) : State :=
  let r := s.comp.layer l
  if (layerOf s.cfg.comp l).on && decide ((layerOf s.cfg.comp l).kind = 2)
      && decide ((r.buf (drawBuf n)).st = .filling) then
    { s with comp := s.comp.setLayer l (r.setBuf (drawBuf n) { r.buf (drawBuf n) with st := .free }) }
  else s

/-- The Stall-drawn layers whose buffer for content n is not FREE, its composition having overrun: its writes will
be discarded (R277). -/
def drawCheck (n : Nat) (s : State) : State :=
  let s := (List.range 8).foldl (freeUndrawn n) s
  let busy := (List.range 8).filter (fun l => (layerOf s.cfg.comp l).on
    && decide ((layerOf s.cfg.comp l).kind = 2)
    && decide (((s.comp.layer l).buf (drawBuf n)).st ≠ .free))
  { s with pdk := { s.pdk with
      noBuf := s.pdk.noBuf.filter (fun e => n ≤ e.2 + 2) ++ busy.map (fun l => (l, n))
      noBufTold := s.pdk.noBufTold.filter (fun e => n ≤ e.2 + 2) } }

/-- The packing groups of a configuration, rising (R294). -/
def packGroups (f : FlowCfg) : List Nat :=
  tkeys (f.flows.foldl (fun (t : Tab Unit) e => if e.2.pixels then t else tset t e.2.group ()) [])

/-- The hardware tasks of a configuration that start at release: SEGMENT and PACK tasks whose counter is 0 (R239). -/
def hwStart (c : Cfg) (hw : Tab Nat) : List Nat :=
  ((List.range c.map.map.segs.length).map (256 + ·) ++ (packGroups c.flow).map (4352 + ·)).filter
    (fun h => hwExists c h && decide (tget hw h 0 = 0))

/-- The SEGMENT and PACK tasks in progress of the content before stay; those of content n that start join (R239). -/
def startHw (n : Nat) (hs : List Nat) (s : State) : State :=
  { s with pdk := { s.pdk with
      content := some n
      ready := s.pdk.ready.filter (fun e => decide (some e.1 = s.pdk.content)) ++ hs.map (fun h => (n, h)) } }

/-- At a boundary under a hold no graph is released, and the mapping and packing tasks of content n start at once over
the held content's data (R444). -/
def holdGraph (n : Nat) (s : State) : State :=
  let s1 := startHw n (hwStart s.cfg []) (raiseCarry n s)
  { s1 with pdk := { s1.pdk with hw := [] } }

/-- At FB(n - 1), fbNs its instant, the graph of content n is released (R16, R241, R254, R256); ended instances
of contents before n - 1 are no longer held (log 22). `level` is the Bridle level. -/
def releaseGraph (n fbNs level : Nat) (s : State) : State :=
  let s0 := drawCheck n (raiseCarry n s.cycle)
  let hw := hwInit s0.cfg
  let s1 := startHw n (hwStart s0.cfg hw) s0
  let s2 : State := { s1 with pdk := { s1.pdk with
      hw := hw
      insts := s1.pdk.insts.filter (fun i => decide (n ≤ i.content + 1) || decide (i.st ≠ .ended))
      fresh := s1.pdk.fresh.filter (fun e => n ≤ e.1 + 2)
      bad := s1.pdk.bad.filter (fun e => match e.1 with
        | .slot t c => decide (n ≤ c) || (match s1.inst? t c with | some i => decide (i.st ≠ .ended) | none => false)
        | .fan _ => true) } }
  let order := s2.cfg.stl.graph.primeOrder
  let be := decide (2 ≤ level)
  let s2b := order.foldl (fun s d => releaseTask n fbNs be d s) s2
  let s3 : State := { s2b with pdk := { s2b.pdk with released := some n } }
  if be then
    let shed := s2.cfg.stl.graph.tasks.filter (fun d => !d.guaranteed)
    let s4 := shed.foldl (fun s d => shedTask n d s) s3
    if shed.isEmpty then s4 else s4.raiseCause .ym 4
  else s3

/-- The fixtures that are fresh at a commit (R276): added or changed records, and fixtures moved into or out of
an output block. -/
def freshOf (old new : StlCfg) : List Nat :=
  let recs := ((old.fixtures.map (·.1)) ++ (new.fixtures.map (·.1))).dedup.filter
    (fun f => tfind? old.fixtures f ≠ tfind? new.fixtures f)
  let spans := (old.tack.args ++ new.tack.args).flatMap (fun a => (List.range a.count).map (· + a.first))
  (recs ++ spans.dedup.filter (fun f => writerOf old f ≠ writerOf new f)).dedup

/-- The instance's seal is in progress: nothing interrupts it (R275). -/
def State.sealing (s : State) (i : Inst) : Bool :=
  match i.stall with
  | some k => decide ((s.stall k).run = some (i.task, i.content)) && (s.stall k).sealing.isSome
  | none => false

/-- What a commit effective at frame m does to the Stalls (R255, R276, R288): with a changed graph every instance
that has not ended is cancelled, but one whose seal is in progress, which completes it (R275); the instances that remain
keep the configuration they run under. Fixtures that two commits at the same frame make fresh are fresh together.
Descriptors and fan-out entries are loaded anew. `s` holds the new configuration, `old` the one before. -/
def commitStalls (m : Nat) (old : StlCfg) (s : State) : State :=
  let new := s.cfg.stl
  if old = new then s
  else
    let s1 : State := { s with pdk := { s.pdk with
        held := tset s.pdk.held s.pdk.ver old, ver := s.pdk.ver + 1
        fresh := tset s.pdk.fresh (m + 1) (tget s.pdk.fresh (m + 1) [] ++ freshOf old new).dedup } }
    if old.graph = new.graph then s1
    else
      let s2 := (s1.pdk.insts.filter (fun i => !s1.sealing i)).foldl (fun s i => (cancelInst i.task i.content s).2) s1.cycle
      { s2 with pdk := { s2.pdk with bad := s2.pdk.bad.filter (fun e => match e.1 with | .fan _ => false | _ => true) } }

/-! ## Ready lists, dispatch and displacement -/

/-- A precedes b on the ready lists: higher priority, then earlier READY, then lower task (R245, R246). -/
def before (s : State) (a b : Inst) : Bool :=
  let pa := (s.descOf a).prio; let pb := (s.descOf b).prio
  decide (pb < pa) || (decide (pa = pb) && (decide (a.seq < b.seq) ||
    (decide (a.seq = b.seq) && decide (a.task < b.task))))

/-- The first of a list in that order. -/
def firstOf (s : State) : List Inst → Option Inst
  | [] => none
  | x :: r => match firstOf s r with
    | none => some x
    | some y => if before s y x then some y else some x

/-- A Stall is in standby or withdrawn (R246). -/
def StallRec.out (r : StallRec) : Bool := r.slice || r.withdrawn

/-- A Stall is idle (R246): in service and running nothing. -/
def StallRec.idle (r : StallRec) : Bool := r.run.isNone && !r.out

/-- The READY instances that Stall k may take (R246). -/
def State.candidates (s : State) (k : Nat) : List Inst :=
  s.pdk.insts.filter (fun i => decide (i.st = .ready) &&
    (let d := s.descOf i
     decide (d.home = k) || ((s.stall d.home).out && bitOf d.affinity k)))

/-- The READY instance Stall k takes (R246). -/
def State.best (s : State) (k : Nat) : Option Inst := firstOf s (s.candidates k)

/-- The SUSPENDED instance of highest priority on Stall k. -/
def State.bestSuspended (s : State) (k : Nat) : Option Inst :=
  firstOf s (s.pdk.insts.filter (fun i => decide (i.st = .suspended) && decide (i.stall = some k)))

/-- Cycles of a save, a dispatch or a restore: at most 32, else free (R248). -/
def switchCycles (k : Nat) (s : State) : State :=
  let r := s.stall k
  (s.setStall k { r with busyAcc := r.busyAcc + Config.freeNat s.freeCtr % 33 }).takeFree

/-- The wait-time histogram's bucket (R258). -/
def waitBucket (ns : Nat) : Nat :=
  if ns < 1000 then 0 else if ns < 2000 then 1 else if ns < 5000 then 2 else if ns < 20000 then 3
  else if ns < 100000 then 4 else if ns < 500000 then 5 else if ns < 2000000 then 6 else 7

/-- The first dispatch of an instance on Stall k (R246, R258, R263, R265, R279): registers 0, the entry point,
the budget BOUND - X_t, the priority's scratch area invalid, the errors in code, constants and that area gone
(R266). -/
def dispatchNew (k : Nat) (i : Inst) (s : State) : State :=
  let d := s.descOf i
  let r := s.stall k
  let area (a : Nat) : Bool :=
    decide (0x10000 + 0x12000 + d.prio * 0x1800 ≤ a) && decide (a < 0x10000 + 0x12000 + (d.prio + 1) * 0x1800)
  let wait := s.elt - i.readyNs
  let core : Core :=
    { pc := entryPoint d.entry
      budget := if d.bound = 0 then none else some (d.bound.toNat - sealTime (s.stlOf i) i.task) }
  let r' : StallRec := { r with
    core := core, run := some (i.task, i.content), switching := false, wait := .none
    scratch := tdel r.scratch d.prio
    bad := r.bad.filter (fun a => decide (0x22000 ≤ a) && !area a) }
  let s1 := (s.setStall k r').setInst
    { i with st := .running, stall := some k, started := true, loft := false, waitNs := wait }
  let s2 := (s1.bump (.pdkDispatch k)).bump (.pdkWaitHist k (waitBucket wait))
  let s3 := if k = d.home then s2 else (s2.bump (.pdkMigrate k)).raiseCause (.pdk k) 4
  switchCycles k (s3.pauseAt k 1280)

/-- What a save by the switch handler leaves of the context: registers outside SAVE_MASK read 0 after it is restored
(R248, R283). -/
def Core.masked (c : Core) (m : Half) : Core :=
  { c with
    s := c.s.filter (fun e => if e.1 < 16 then bitOf m 0 else bitOf m 1)
    v := c.v.filter (fun e => if e.1 < 8 then bitOf m 2 else bitOf m 3) }

/-- A displaced instance resumes on its Stall from the frame of its priority, as it was saved (R248). -/
def resume (k : Nat) (i : Inst) (s : State) : State :=
  let d := s.descOf i
  let r := s.stall k
  let s1 := (s.setStall k { r with core := tget r.frames d.prio {}, run := some (i.task, i.content), switching := false }).setInst
    { i with st := .running }
  switchCycles k s1

/-- Stall k could take instance i now and a lower-numbered idle Stall could not (R246). -/
def State.takesFirst (s : State) (k : Nat) (i : Inst) : Bool :=
  (List.range k).all (fun j => !((s.stall j).idle
    && (match s.best j with | some x => decide (x.task = i.task) && decide (x.content = i.content)
                            | none => false)))

/-- The slot, Loft entry or fan-out entry of a task reads uncorrectable: the task is cancelled with its cascade and
LOFT_ERROR is raised at its home Stall (R257); its slot holds it no longer. -/
def loftError (i : Inst) (h : Hit) (s : State) : State :=
  let s1 : State := { s with pdk := { s.pdk with bad := s.pdk.bad.filter (fun e => e.1 ≠ .slot i.task i.content) } }
  ((cancelInst i.task i.content s1.cycle).2.raiseCause (.pdk (s.descOf i).home) 1).eccData h

/-- TASK_DISPATCH: idle Stall k takes the best candidate, or resumes its suspended instance where no candidate
outranks it (R242, R246, R248); `bad` is an uncorrectable read of the candidate's slot, which its slot may also hold from
an earlier read (R257). -/
def taskDispatchEffect (k : Nat) (bad : Option Hit) (s : State) : State :=
  let start (y : Inst) : State := match bad.or (s.pdk.badWord (.slot y.task y.content)) with
    | some h => loftError y h s
    | none => dispatchNew k y s
  if k < s.nStalls ∧ (s.stall k).idle ∧ DbgCore.stall k ∉ s.sec.halted then
    match s.bestSuspended k, s.best k with
    | some x, some y =>
      if (s.descOf x).prio < (s.descOf y).prio then (if s.takesFirst k y then start y else s)
      else resume k x s
    | some x, none => resume k x s
    | none, some y => if s.takesFirst k y then start y else s
    | none, none => s
  else s

/-- A displaced instance's context, or what the switch handler saves of it, goes into the frame of its priority (R248). -/
def saveContext (k : Nat) (i : Inst) (c : Core) (s : State) : State :=
  let r := s.stall k
  let s1 := (s.setStall k { r with
    frames := tset r.frames (s.descOf i).prio c, run := none, runtime := false, switching := true
    core := {} }).setInst { i with st := .suspended }
  switchCycles k s1

/-- TASK_PREEMPT: a READY task that outranks the running one displaces it at an instruction boundary (R246,
R248): in PREEMPT mode the hardware saves the context, in INTERRUPT mode the switch handler opens (R283). -/
def taskPreemptEffect (k : Nat) (s : State) : State :=
  let r := s.stall k
  match s.running? k, s.best k with
  | some i, some y =>
    if k < s.nStalls ∧ r.sealing = none ∧ r.wait = .none ∧ ¬ r.runtime ∧ (s.descOf i).prio < (s.descOf y).prio
    then
      let s1 := s.bump (.pdkSwitch k)
      if bitOf (s.coreCfg k) 0 then s1.setStall k { r with runtime := true } else saveContext k i r.core s1
    else s
  | _, _ => s

/-- SWITCH_HANDLER_TIMEOUT: a save still open after 32 cycles is completed in hardware (R248, R283). -/
def switchHandlerTimeoutEffect (k : Nat) (s : State) : State :=
  match s.running? k with
  | some i => if (s.stall k).runtime then saveContext k i (s.stall k).core s else s
  | none => s

/-- DELAY_MET: the tick at or after FB + DELAY_US (R242, R244) of the latest live instance of task t. -/
def delayMetEffect (t : Nat) (s : State) : State :=
  match s.pdk.insts.reverse.find? (fun i => decide (i.task = t) && decide (i.st ≠ .ended) && !i.delayMet) with
  | none => s
  | some i =>
    let d := s.descOf i
    if d.delayUs = 0 ∨ s.elt < i.relNs + 1000 * d.delayUs.toNat then s
    else
      let s' := s.cycle
      let i' : Inst := { i with delayMet := true }
      if i.st = .delayed then makeReady i' s' else s'.setInst i'

/-- The graph of the next content: of a commit that takes effect at the next boundary, else in effect (R255). -/
def State.nextGraph (s : State) : Graph :=
  match (s.sched.filter (fun c => c.frame ≤ s.ym.next)).getLast? with
  | some c => c.cfg.stl.graph
  | none => s.cfg.stl.graph

/-- Slots primed from a graph that is no longer the next content's are given back (R255). -/
def dropPrimed (g : Graph) (s : State) : State :=
  if s.pdk.primed = [] ∨ s.nextGraph = g then s else { s with pdk := { s.pdk with primed := [] } }

/-- SLOT_PRIME: a released task that found no slot takes the free slot (R257), else the next task in priming
order is primed for the next content (R241). -/
def slotPrimeEffect (s : State) : State :=
  if s.slotsUsed < 4096 then
    match s.pdk.insts.find? (fun i => i.noSlot && decide (i.st ≠ .ended)) with
    | some i =>
      settleInst { i with noSlot := false } (s.cycle.raiseCause (.pdk (s.descOf i).home) 2)
    | none =>
      match s.nextGraph.primeOrder.find? (fun d => decide (d.task ∉ s.pdk.primed)) with
      | some d => { s with pdk := { s.pdk with primed := s.pdk.primed ++ [d.task] } }
      | none => s
  else s

/-- READY instances on die at a Stall. -/
def State.onDieReady (s : State) (k : Nat) : Nat :=
  (s.pdk.insts.filter (fun i => decide (i.st = .ready) && !i.loft && decide ((s.descOf i).home = k))).length

/-- The Loft entries of a Stall. -/
def State.loftOf (s : State) (k : Nat) : List Inst :=
  s.pdk.insts.filter (fun i => i.loft && decide (i.st = .ready) && decide ((s.descOf i).home = k))

/-- The Stall with the fewest READY tasks on die among those with Loft entries, ties to the lower number. -/
def State.refillStall (s : State) : Option Nat :=
  ((List.range s.nStalls).filter (fun k => !(s.loftOf k).isEmpty)).foldl
    (fun a k => match a with
      | none => some k
      | some j => if s.onDieReady k < s.onDieReady j then some k else some j) none

/-- LOFT_REFILL: a freed slot takes the head of a Loft list (R250); `bad` is an uncorrectable read of it (R257). -/
def loftRefillEffect (bad : Option Hit) (s : State) : State :=
  if s.slotsUsed < 4096 then
    match s.refillStall with
    | some k => match firstOf s (s.loftOf k) with
      | some i => match bad with
        | some h => loftError i h s
        | none => s.setInst { i with loft := false }
      | none => s
    | none => s
  else s

/-- Farrier requests a grant for Stall k (R479): a slice of it waits, no other runs, the Stall has slack, the guarantee
holds, the Bridle level is below 2 and no hold is in progress. -/
def State.farWants (s : State) (k : Nat) : Option Slice :=
  if s.far.active = none ∧ bitOf s.far.slack k ∧ s.ym.holds ∧ s.brd.level < 2 ∧ s.brd.hold = none then
    s.far.want.find? (fun x => x.stall = k)
  else none

/-- FARRIER_GRANT: an idle Stall with STANDBY_OK and no READY task on its lists is granted for a slice that Farrier
requests (R247, R478, R479); its registers and context frames are cleared. -/
def farrierGrantEffect (k : Nat) (s : State) : State :=
  let r := s.stall k
  match s.farWants k with
  | some x =>
    if k < s.nStalls ∧ bitOf (s.coreCfg k) 2 ∧ r.idle ∧ (s.bestSuspended k).isNone
        ∧ s.pdk.insts.all (fun i => !(decide (i.st = .ready) && decide ((s.descOf i).home = k))) then
      let s1 := s.setStall k { r with slice := true, core := {}, frames := [] }
      { s1 with far := { s1.far with
          want := s1.far.want.erase x, active := some { x with sinceNs := s1.elt } } }
    else s
  | none => s

/-- PDK_BUSY_WINDOW: a 1 ms window of device time has ended and PDK_BUSY takes its cycles (R258). -/
def pdkBusyWindowEffect (s : State) : State :=
  if s.pdk.winMs < s.elt / 1000000 then
    { s with pdk := { s.pdk with
        winMs := s.elt / 1000000
        stalls := s.pdk.stalls.map (fun e => (e.1, { e.2 with busy := min 1280000 e.2.busyAcc, busyAcc := 0 })) } }
  else s

/-! ## Commands -/

/-- Object ids of the fixtures, Tack and graph sections and of PDK_CORE_SET (R536). -/
def objFixtures : Nat := 0x00010000
/-- The Tack section's object. -/
def objTack : Nat := 0x00070000
/-- The task graph section's object. -/
def objGraph : Nat := 0x00080000
/-- The object of PDK_CORE_SET. -/
def objCores : Nat := 0x08810000

/-- PDK_GRAPH_SET (R238 to R240, R259, R260; R537): section 0x0008, by descriptors or in the staging object `obj`. -/
def pdkGraphSetEffect (m obj : Nat) (s : State) : State :=
  stage m 0x0880#16 [objGraph] s (fun _ t c => do
    let g ← t.bulkAs m obj readGraph
    graphRules t.nStalls g
    let c' := { c with stl := { c.stl with graph := g } }
    graphTackCross c'.stl false
    graphHwCross c' false
    if c'.flow.flows ≠ [] ∧ c'.stl.tack.args ≠ [] then packCross c'
    pure c')
    (fun _ t => match t.bulkAs m obj readGraph with
      | .ok g => need (graphFits t.nStalls g) .variantUnsupported
      | .error _ => .ok ()) (some obj)

/-- PDK_CORE_SET: images for Stalls 0 to 15 (R259); bits 31:3 are ignored (R13). -/
def pdkCoreSetEffect (m : Nat) (images : List Word) (s : State) : State :=
  stage m 0x0881#16 [objCores] s (fun _ _ c => do
    need (decide (images.length = 16)) .badParam
    let c' : Cfg := { c with stl := { c.stl with cores := (List.range 16).zip (images.map (· &&& 7#32)) } }
    coreRules c'
    pure c')

/-- The most recently released instance of a task: one that the Bridle kept back was not released (R256). -/
def State.lastInst (s : State) (t : Nat) : Option Inst :=
  s.pdk.insts.reverse.find? (fun i => decide (i.task = t) && !i.unreleased)

/-- PDK_CANCEL (R251 to R253, R259). -/
def pdkCancelEffect (m : Nat) (task flags : Nat) (fn : Word) (s : State) : State :=
  cmdNow m 0x0882#16 s (fun _ t =>
    let i? := if flags % 2 = 1 then t.lastInst task
      else t.pdk.insts.find? (fun i => decide (i.task = task) && decide (fnOf i.content = fn) && !i.unreleased)
    match i? with
    | none => (reply .badParam, t)
    | some i =>
      if t.cfg.stl.graph.tasks.length ≤ task then (reply .badParam, t)
      else if i.st = .ended then
        (if i.fin = some .cancelled then okWith (le 4 0) else reply .alreadyDone, t)
      else if t.sealing i then (reply .alreadyDone, t)
      else
        let (n, u) := cancelInst i.task i.content t.cycle
        (okWith (le 4 n), u))

/-- The STATE field (R242). -/
def TaskSt.code : TaskSt → Nat
  | .waiting => 2 | .delayed => 3 | .ready => 4 | .running => 5 | .suspended => 6 | .ended => 7

/-- The END field (R242). -/
def TaskEnd.code : TaskEnd → Nat
  | .completed => 0 | .terminated => 1 | .cancelled => 2

/-- LIVE_STATE (R236). -/
def Inst.live (i : Inst) : Nat :=
  i.st.code * 2 ^ 29 + ((i.fin.map TaskEnd.code).getD 0) * 2 ^ 27 + (if i.delayMet then 2 ^ 26 else 0)
    + i.dep % 4096

/-- One task's answer to PDK_TASK_STATUS: LIVE_FN, LIVE_STATE, the Stall or all ones, the wait in ns (log 9). -/
def taskStatus (s : State) (t : Nat) : List Byte :=
  match s.lastInst t with
  | none => le 4 0 ++ le 4 (if t ∈ s.pdk.primed then 2 ^ 29 else 0) ++ le 4 0xFFFFFFFF ++ le 4 0
  | some i =>
    let k := if i.st = .running then i.stall.getD 0xFFFFFFFF else 0xFFFFFFFF
    let w := if i.st = .ready then s.elt - i.readyNs else i.waitNs
    le 4 (fnOf i.content).toNat ++ le 4 i.live ++ le 4 k ++ le 4 w

/-- PDK_TASK_STATUS (R259). -/
def pdkTaskStatusEffect (m : Nat) (first count : Nat) (s : State) : State :=
  cmdRead m 0x0883#16 s (fun _ t =>
    if count < 1 ∨ 63 < count ∨ t.cfg.stl.graph.tasks.length < first + count then reply .badParam
    else okWith ((List.range count).flatMap (fun j => taskStatus t (first + j))))

/-- PDK_EVT_CAUSE_READ: the register is returned and cleared (R11, R261). -/
def pdkEvtCauseReadEffect (p : Path) (k : Nat) (s : State) : State :=
  if k < s.nStalls then (s.returns p (s.cause (.pdk k))).clearCause (.pdk k) 0xFFFFFFFF#32 else s

/-- PDK_CNT_CTRL.SNAPSHOT (R261). -/
def pdkSnapshotEffect (s : State) : State := s.captureKeys 0x400000 0x500000

/-- PDK_CNT_CTRL.CLEAR: every counter but PDK_BUSY, which is none of the counters here (R261). -/
def pdkClearEffect (s : State) : State := s.clearKeys 0x400000 0x500000

-- The meanings of this family's rows: the effect, with the queue and the identity kept.

/-- SLOT_PRIME (R241). -/
def execSlotPrime (s : State) : Host.Outcome State Fault Refusal :=
  commit s (slotPrimeEffect s)
/-- DELAY_MET (R244). -/
def execDelayMet (t : Nat) (s : State) : Host.Outcome State Fault Refusal :=
  commit s (delayMetEffect t s)
/-- TASK_DISPATCH (R246). -/
def execTaskDispatch (k : Nat) (bad : Option Hit) (s : State) : Host.Outcome State Fault Refusal :=
  commit s (taskDispatchEffect k bad s)
/-- TASK_PREEMPT (R248). -/
def execTaskPreempt (k : Nat) (s : State) : Host.Outcome State Fault Refusal :=
  commit s (taskPreemptEffect k s)
/-- SWITCH_HANDLER_TIMEOUT (R283). -/
def execSwitchHandlerTimeout (k : Nat) (s : State) : Host.Outcome State Fault Refusal :=
  commit s (switchHandlerTimeoutEffect k s)
/-- LOFT_REFILL (R250). -/
def execLoftRefill (bad : Option Hit) (s : State) : Host.Outcome State Fault Refusal :=
  commit s (loftRefillEffect bad s)
/-- FARRIER_GRANT (R247). -/
def execFarrierGrant (k : Nat) (s : State) : Host.Outcome State Fault Refusal :=
  commit s (farrierGrantEffect k s)
/-- PDK_BUSY_WINDOW (R258). -/
def execPdkBusyWindow (s : State) : Host.Outcome State Fault Refusal :=
  commit s (pdkBusyWindowEffect s)
/-- PDK_GRAPH_SET (R238). -/
def execPdkGraphSet (m obj : Nat) (s : State) : Host.Outcome State Fault Refusal :=
  commit s (pdkGraphSetEffect m obj s)
/-- PDK_CORE_SET (R259). -/
def execPdkCoreSet (m : Nat) (images : List Word) (s : State) : Host.Outcome State Fault Refusal :=
  commit s (pdkCoreSetEffect m images s)
/-- PDK_CANCEL (R251). -/
def execPdkCancel (m : Nat) (task flags : Nat) (fn : Word) (s : State) : Host.Outcome State Fault Refusal :=
  commit s (pdkCancelEffect m task flags fn s)
/-- PDK_TASK_STATUS (R259). -/
def execPdkTaskStatus (m : Nat) (first count : Nat) (s : State) : Host.Outcome State Fault Refusal :=
  commit s (pdkTaskStatusEffect m first count s)
/-- PDK_EVT_CAUSE_READ (R261). -/
def execPdkEvtCauseRead (p : Path) (k : Nat) (s : State) : Host.Outcome State Fault Refusal :=
  commit s (pdkEvtCauseReadEffect p k s)
/-- PDK_SNAPSHOT (R261). -/
def execPdkSnapshot (s : State) : Host.Outcome State Fault Refusal :=
  commit s (pdkSnapshotEffect s)
/-- PDK_CLEAR (R261). -/
def execPdkClear (s : State) : Host.Outcome State Fault Refusal :=
  commit s (pdkClearEffect s)

end Sys2Proof.Machine
end

