-- ==== Sys2Proof/Machine/TackWord.lean ====
section
/-! DEFINITION. Machine/TackWord.lean: what every Tack instruction shares: the fields of its word and the words
staging accepts (R267 to R269, R538), fetch, guard, cost and budget (R263, R267, R279), termination (R280, R281). -/
namespace Sys2Proof.Machine
open Sys2Proof

/-! ## Fields and valid words -/

/-- OP. -/
def tOp (w : Word) : Nat := fld w 31 26
/-- rd. -/
def tRd (w : Word) : Nat := fld w 21 17
/-- ra. -/
def tRa (w : Word) : Nat := fld w 16 12
/-- rb. -/
def tRb (w : Word) : Nat := fld w 11 7
/-- FN of formats R, P and V. -/
def tFn (w : Word) : Nat := fld w 6 0
/-- vd. -/
def tVd (w : Word) : Nat := fld w 20 17
/-- va. -/
def tVa (w : Word) : Nat := fld w 15 12
/-- vb. -/
def tVb (w : Word) : Nat := fld w 10 7
/-- IMM of formats I and M, zero-extended. -/
def tImm (w : Word) : Nat := fld w 11 0
/-- pd of format P. -/
def tPd (w : Word) : Nat := fld w 21 19
/-- SLOT of format S. -/
def tSlot (w : Word) : Nat := fld w 11 6
/-- BANK of format S. -/
def tBank (w : Word) : Nat := fld w 5 5
/-- LAYER of format L. -/
def tLayer (w : Word) : Nat := fld w 2 0

/-- sext of an n-bit field. -/
def sextN (n v : Nat) : Int := if v < 2 ^ (n - 1) then (v : Int) else (v : Int) - (2 ^ n : Nat)

/-- IMM sign-extended. -/
def tImmS (w : Word) : Int := sextN 12 (tImm w)
/-- The branch offset in words. -/
def tOff (w : Word) : Int := sextN 16 (fld w 15 0)

/-- Bits hi:lo of a word are zero. -/
def z (w : Word) (hi lo : Nat) : Bool := decide (fld w hi lo = 0)

/-- The word passes the staging checks of R287 on its own bits: a defined OP, no reserved FN or selector, and
zero in every bit its format (R267, R269) or R538 marks zero. -/
def validWord (w : Word) : Bool :=
  let op := tOp w
  let fn := tFn w
  if op < 0x05 then z w 6 0
  else if op ≤ 0x07 then z w 6 6 && (if bitOf w 5 then z w 11 7 else z w 4 0)
  else if op < 0x0F then z w 6 0
  else if op = 0x0F then z w 11 0
  else if op = 0x10 then z w 6 0
  else if op = 0x11 then z w 6 3
  else if op ≤ 0x16 then true
  else if op = 0x17 then z w 16 16
  else if op ≤ 0x1A then z w 18 17 && z w 6 0
  else if op = 0x1B then z w 18 17 && z w 16 15 && z w 11 10 && z w 6 3
  else if op ≤ 0x1D then z w 21 16
  else if op = 0x1E then z w 21 17 && z w 11 0
  else if op = 0x1F then z w 16 16
  else if op = 0x20 then z w 21 0
  else if op = 0x21 then z w 11 0
  else if op = 0x22 then z w 21 8
  else if op = 0x23 then z w 16 12 && decide (tImm w ≤ 0x00D)
  else if op ≤ 0x27 then true
  else if op ≤ 0x29 then z w 21 21
  else if op ≤ 0x2B then z w 4 0
  else if op ≤ 0x2D then z w 21 21 && z w 8 6 && z w 4 0
  else if op = 0x2E then z w 11 3
  else if op = 0x2F then z w 21 21 && z w 11 3
  else if op = 0x30 then z w 11 0
  else if op = 0x38 then
    (if fn / 32 < 2 then z w 21 21 && z w 11 7 else z w 16 16 && z w 11 7)
      && decide (fn / 32 ≠ 3) && z w 4 3
  else if op ≤ 0x39 then
    z w 21 21 && z w 16 16 && z w 11 11 &&
      (if op = 0x39 then z w 6 0
       else if op = 0x35 then decide (fn / 32 ≠ 3) && (if bitOf w 4 then z w 3 0 else z w 10 7)
       else z w 6 2 && (decide (op = 0x34) || decide (op = 0x36) || decide (fn ≠ 3)))
  else false

/-- A branch of a word at offset n stays inside its code (R287). -/
def branchOk (len n : Nat) (w : Word) : Bool :=
  if tOp w = 0x1C ∨ tOp w = 0x1D ∨ tOp w = 0x1F then
    decide (0 ≤ (n : Int) + tOff w) && decide ((n : Int) + tOff w < len)
  else true

/-! ## Registers -/

/-- s[i]: s0 reads 0 (R263). -/
def Core.sr (c : Core) (i : Nat) : Word := if i = 0 then 0 else tget c.s i 0
/-- Writes s[i]: a write to s0 is discarded. -/
def Core.setS (c : Core) (i : Nat) (v : Word) : Core := if i = 0 then c else { c with s := tset c.s i v }
/-- v[i]. -/
def Core.vr (c : Core) (i : Nat) : BitVec 128 := tget c.v i 0
/-- Writes v[i]. -/
def Core.setV (c : Core) (i : Nat) (v : BitVec 128) : Core := { c with v := tset c.v i v }
/-- p[i]: p0 reads 1. -/
def Core.pr (c : Core) (i : Nat) : Bool := decide (i = 0) || c.p.getLsbD i
/-- Writes p[i]: a write to p0 is discarded. -/
def Core.setP (c : Core) (i : Nat) (b : Bool) : Core :=
  if i = 0 then c else { c with p := if b then c.p ||| bitMask 8 i else c.p &&& ~~~(bitMask 8 i) }

/-- Lane i of a vector: bits 16i + 15 to 16i. -/
def lane (v : BitVec 128) (i : Nat) : Half := v.extractLsb' (16 * i) 16
/-- The vector of eight lanes. -/
def vec8 (f : Nat → Half) : BitVec 128 :=
  f 7 ++ f 6 ++ f 5 ++ f 4 ++ f 3 ++ f 2 ++ f 1 ++ f 0

/-! ## Placement -/

/-- The instruction word address of a binary's first word (R264, R288). -/
def codeBase (c : StlCfg) (b : Nat) : Nat := (tget c.tack.place b (0x400, 0x2000)).1

/-- CONST_BASE of a binary (R264, R288). -/
def constBase (c : StlCfg) (b : Nat) : Nat := (tget c.tack.place b (0x400, 0x2000)).2

/-- A binary in its place: BINARY, the binary, its code word address, its CONST_BASE. -/
structure Placed where
  num   : Nat
  bin   : Binary
  code  : Nat
  const : Nat
  deriving DecidableEq, Repr

/-- The binaries of a Tack section, placed. -/
def TackCfg.placed (x : TackCfg) : List Placed :=
  x.bins.map (fun e => { num := e.1, bin := e.2, code := (tget x.place e.1 (0x400, 0x2000)).1
                         const := (tget x.place e.1 (0x400, 0x2000)).2 })

/-- The binaries whose space is not free (R288): of the effective configuration, of the scheduled ones, and of those that
an instance which has not ended still runs under. -/
def State.resident (s : State) : List Placed :=
  ((s.cfg :: s.sched.map (·.cfg)).flatMap (fun c => c.stl.tack.placed)
    ++ (s.pdk.held.filter (fun e => s.pdk.insts.any (fun i => decide (i.ver = e.1) && decide (i.st ≠ .ended)))).flatMap
      (fun e => e.2.tack.placed)).dedup

/-- The starts in [lo, hi), `step` apart, at which n units lie apart from every range taken. -/
def openStarts (taken : List (Nat × Nat)) (lo hi step n : Nat) : List Nat :=
  ((List.range ((hi - lo) / step)).map (fun j => lo + step * j)).filter
    (fun a => decide (a + n ≤ hi) && taken.all (fun t => decide (a + n ≤ t.1) || decide (t.1 + t.2 ≤ a)))

/-- One of a list's members, by a free choice. -/
def chosen (choice : Nat) (l : List Nat) : Option Nat := l[choice % l.length]?

/-- A binary joins those placed: where it stands unchanged already, else in free space, of which the spec leaves the
choice to Groom as a function of the configuration (R288; log 19). Code lies in instruction words 0x400 to 0x3FFF, constants
on a 64-byte boundary in bytes 0x2000 to 0x11FFF (R264). -/
def placeOne (x : TackCfg) (ps : List Placed) (e : Nat × Binary) : Except Status (List Placed) :=
  if ps.any (fun p => decide (p.num = e.1) && decide (p.bin = e.2)) then .ok ps
  else
    let codes := openStarts (ps.map (fun p => (p.code, p.bin.code.length))) 0x400 0x4000 1 e.2.code.length
    let consts := openStarts (ps.map (fun p => (p.const, p.bin.consts.length))) 0x2000 0x12000 64 e.2.consts.length
    match chosen (Config.placeCode x.bins e.1) codes, chosen (Config.placeConst x.bins e.1) consts with
    | some a, some b => .ok (ps ++ [{ num := e.1, bin := e.2, code := a, const := b }])
    | _, _ => .error .noResource

/-- A Tack section with the places of its binaries, beside those that are resident (R288). -/
def placeTack (s : State) (x : TackCfg) : Except Status TackCfg := do
  let ps ← x.bins.foldlM (placeOne x) s.resident
  pure { x with place := x.bins.filterMap (fun e =>
    (ps.find? (fun p => decide (p.num = e.1) && decide (p.bin = e.2))).map (fun p => (e.1, p.code, p.const))) }

/-- The BINARY of an instance. -/
def State.binOf (s : State) (i : Inst) : Nat := entryBin (s.descOf i).entry

/-- The code and constants of an instance's binary. -/
def State.codeOf (s : State) (i : Inst) : Binary := tget (s.stlOf i).tack.bins (s.binOf i) { code := [] }

/-! ## Execution -/

/-- What an instruction does: a new context with its cost in cycles and the rest of the state; a fault code of
R281; or a wait. -/
inductive TRes where
  | next (c : Core) (cost : Nat) (s : State)
  | fault (code : Nat)
  | wait (w : StallWait)

/-- An instance's program has ended: its seal begins, or, with an empty block, it ends at once (R275). -/
def finishRun (k : Nat) (i : Inst) (e : TaskEnd) (s : State) : State :=
  if (argsOf (s.stlOf i) i.task).count = 0 then endInst i e s
  else s.setStall k { s.stall k with sealing := some e, wait := .none }

/-- A termination (R280, R281): code 0 is an overrun. The cause, the counter, the last-fault record, the log
entry of severity WARNING; MEM also raises MEM_UNCORR and fails FAULT_OK (R266). -/
def terminate (k : Nat) (i : Inst) (code : Nat) (s : State) : State :=
  let pc := codeBase (s.stlOf i) (s.binOf i) + (s.stall k).core.pc
  let s1 := s.setStall k { s.stall k with
    fault := BitVec.ofNat 32 (code * 2 ^ 28 + i.task), faultPc := BitVec.ofNat 32 (pc % 2 ^ 14)
    faultFn := fnOf i.content }
  let s2 := if code = 0 then (s1.bump (.stlOverrun k)).raiseCause (.stl k) 0
            else (s1.bump (.stlFault k)).raiseCause (.stl k) 1
  let s3 := if code = 9 then (s2.raiseCause (.stl k) 3).failCond 0 else s2
  finishRun k i .terminated (s3.logEvent 3 (48 + k) (BitVec.ofNat 16 code) i.task)

/-- The word at the PC (R264, R266, R281): outside the binary's code RANGE, an uncorrectable error MEM, a word
that fails decoding ILLEGAL. -/
def fetch (k : Nat) (i : Inst) (s : State) : Except Nat Word :=
  let c := (s.stall k).core
  match (s.codeOf i).code[c.pc]? with
  | none => .error 3
  | some w =>
    if codeBase (s.stlOf i) (s.binOf i) + c.pc ∈ (s.stall k).bad then .error 9
    else if validWord w then .ok w else .error 1

/-- The guard of R267. -/
def guardOn (c : Core) (w : Word) : Bool := Bool.xor (c.pr (fld w 24 22)) (bitOf w 25)

/-- An instruction retires: the context with its cost taken from the budget (R279), the counts. -/
def retire (k : Nat) (c : Core) (cost : Nat) (s : State) : State :=
  let r := s.stall k
  (s.setStall k { r with core := { c with budget := c.budget.map (· - cost) }, wait := .none
                         busyAcc := r.busyAcc + cost }).bump (.stlRetired k)

/-- The next instruction's context. -/
def Core.adv (c : Core) : Core := { c with pc := c.pc + 1 }

/-- What an instruction's result leaves. -/
def applyRes (k : Nat) (i : Inst) (s : State) : TRes → State
  | .next c cost t => retire k c cost t
  | .fault code => terminate k i code s
  | .wait w => s.setStall k { s.stall k with wait := w }

/-- Stall k can execute an instruction of its running instance: nothing waits, seals or switches, and the budget
has not run out (R280). -/
def StallRec.live (r : StallRec) : Bool :=
  decide (r.wait = .none) && decide (r.sealing = none) && !r.runtime && !r.out && decide (r.core.budget ≠ some 0)

/-- A Tack row: Stall k executes the instruction at its PC, which is this row's (log 3); a fetch that faults ends
the instance under any row. A halted Stall executes none (R499). -/
def tack (k op : Nat) (s : State) (f : Inst → Core → Word → State → TRes) : State :=
  let r := s.stall k
  match s.running? k with
  | none => s
  | some i =>
    if k < s.nStalls ∧ r.live ∧ DbgCore.stall k ∉ s.sec.halted then
      match fetch k i s with
      | .error code => terminate k i code s
      | .ok w =>
        if tOp w ≠ op then s
        else if guardOn r.core w then applyRes k i s (f i r.core w s)
        else retire k r.core.adv 1 s
    else s

/-- A row that writes one scalar register (formats R, I, U). -/
def tackS (k op cost : Nat) (s : State) (f : Core → Word → Word) : State :=
  tack k op s (fun _ c w t => .next (c.setS (tRd w) (f c w)).adv cost t)

/-- A row of format R on a = s[ra] and b = s[rb]. -/
def tackR (k op cost : Nat) (s : State) (f : Word → Word → Word) : State :=
  tackS k op cost s (fun c w => f (c.sr (tRa w)) (c.sr (tRb w)))

/-- A row of format I on a and IMM zero-extended. -/
def tackI (k op : Nat) (s : State) (f : Word → Nat → Word) : State :=
  tackS k op 1 s (fun c w => f (c.sr (tRa w)) (tImm w))

/-- A row of format P on a and b. -/
def tackP (k op : Nat) (s : State) (f : Word → Word → Bool) : State :=
  tack k op s (fun _ c w t => .next (c.setP (tPd w) (f (c.sr (tRa w)) (c.sr (tRb w)))).adv 1 t)

/-- A lane-wise row of format V on va, vb and FN. -/
def tackV (k op cost : Nat) (s : State) (f : Nat → Half → Half → Half) : State :=
  tack k op s (fun _ c w t =>
    .next (c.setV (tVd w) (vec8 (fun j => f (tFn w) (lane (c.vr (tVa w)) j) (lane (c.vr (tVb w)) j)))).adv cost t)

end Sys2Proof.Machine
end

