-- ==== Sys2Proof/Machine/Stall.lean ====
section
/-! DEFINITION. Machine/Stall.lean: the Stalls' own events (R266, R275, R280) and the TACK commands with the
registers of the STALL block (R284 to R290). -/
namespace Sys2Proof.Machine
open Sys2Proof

/-- BUDGET_EXHAUSTED: the counter is 0 before ENDT has issued and the instance is terminated at the instruction
boundary (R280). -/
def budgetExhaustedEffect (k : Nat) (s : State) : State :=
  let r := s.stall k
  match s.running? k with
  | some i =>
    if r.core.budget = some 0 ∧ r.wait = .none ∧ r.sealing = none ∧ ¬ r.runtime then terminate k i 0 s else s
  | none => s

/-- The cycles of a seal, at most X_t, in which the Stall still runs its task (R258, R275): how many is free. -/
def sealCycles (k : Nat) (i : Inst) (s : State) : State :=
  let r := s.stall k
  (s.setStall k { r with
    busyAcc := r.busyAcc + Config.freeNat s.freeCtr % (sealTime (s.stlOf i) i.task + 1) }).takeFree

/-- SEAL_COMPLETE: the seal of the block completes and the instance is ENDED (R275). -/
def sealCompleteEffect (k : Nat) (s : State) : State :=
  match s.running? k, (s.stall k).sealing with
  | some i, some e => endInst i e (sealCycles k i s)
  | _, _ => s

/-- STALL_SCRUB_READ: the word numbered `a`, as `bad` numbers words, is read with this outcome, by the scrubber or by the
fetch or load of the command that follows, whose own row carries no outcome: a corrected error is counted, raises MEM_CORR
and is written back; an uncorrectable one stays until the word is rewritten, raises MEM_UNCORR, and ends a task that fetches
or loads the word (R266; log 70). -/
def stallScrubReadEffect (k a : Nat) (e : Ecc) (s : State) : State :=
  if s.nStalls ≤ k then s
  else match e with
    | .clean => s
    | .corrected => (s.bump (.stlMemCorr k)).raiseCause (.stl k) 2
    | .uncorrectable =>
      let r := s.stall k
      (s.setStall k { r with bad := r.bad ++ [a] }).raiseCause (.stl k) 3

/-! ## Commands -/

/-- The fixtures lie within the variant (R4, R289). -/
def fixturesFit (n : Nat) (fx : Tab Fixture) : Bool := fx.all (fun e => decide (e.1 < n))

/-- TACK_FIXTURE_SET: section 0x0001, by descriptors or in the staging object `obj`; its records replace those staged
before (R284, R289). -/
def tackFixtureSetEffect (m obj : Nat) (s : State) : State :=
  stage m 0x0801#16 [objFixtures] s (fun _ t c => do
    let fx ← t.bulkAs m obj readFixtures
    need (fixturesFit t.nFixtures fx) .variantUnsupported
    need (rising (fx.map (·.1)) && fx.all (fun e => fixtureOk e.2)) .badParam
    pure { c with stl := { c.stl with fixtures := fx } })
    (fun _ t => match t.bulkAs m obj readFixtures with
      | .ok fx => need (fixturesFit t.nFixtures fx) .variantUnsupported
      | .error _ => .ok ()) (some obj)

/-- A directory entry and its code (R285, R287). -/
def binaryOk (e : Nat × Binary) : Bool :=
  let n := e.2.code.length
  decide (e.1 ≤ 255) && decide (1 ≤ n) && decide (n ≤ 15360) && decide (e.2.consts.length ≤ 65536)
    && decide (e.2.consts.length % 64 = 0) && e.2.code.all validWord
    && ((List.range n).zip e.2.code).all (fun x => branchOk n x.1 x.2)

/-- An argument record's fields (R285). -/
def argOk (a : ArgRec) : Bool :=
  decide (a.first < 2 ^ 17) && decide (a.count ≤ 131072) && decide (a.args.length ≤ 4)

/-- Code words and constant bytes that a Tack section takes beside every resident version (R288). -/
def bothVersions (old : List Placed) (new : Tab Binary) : Nat × Nat :=
  let added := new.filter (fun e => old.all (fun p => decide (p.num ≠ e.1) || decide (p.bin ≠ e.2)))
  ((old.map (fun p => p.bin.code.length)).sum + (added.map (fun e => e.2.code.length)).sum,
   (old.map (fun p => p.bin.consts.length)).sum + (added.map (fun e => e.2.consts.length)).sum)

/-- The Tack section's own rules (R287, R288). -/
def tackRules (s : State) (x : TackCfg) : Except Status Unit := do
  need (rising (x.bins.map (·.1)) && x.bins.all binaryOk) .tackBadBinary
  need (x.args.all argOk && blocksOk s.nFixtures x.args) .badParam
  need (decide ((bothVersions s.resident x.bins).1 ≤ 15360)
    && decide ((bothVersions s.resident x.bins).2 ≤ 65536)) .noResource

/-- TACK_LOAD: section 0x0007, by descriptors or in the staging object `obj`; the binaries are placed, and the answer is
how many (R287 to R289). -/
def tackLoadEffect (m obj : Nat) (s : State) : State :=
  stageCmd m 0x0802#16 [objTack] s (fun _ t c => do
    let x ← t.bulkAs m obj readTack
    tackRules t x
    let y ← placeTack t x
    let c' := { c with stl := { c.stl with tack := y } }
    if c'.stl.graph.tasks ≠ [] then graphTackCross c'.stl false
    if c'.flow.flows ≠ [] ∧ c'.stl.graph.tasks ≠ [] then packCross c'
    pure (c', le 4 y.bins.length)) noCheck (some obj)

/-- STL_STATUS of Stall k (R290). -/
def stlStatus (s : State) (k : Nat) : Nat :=
  let r := s.stall k
  match s.running? k with
  | none => 0
  | some i =>
    if r.runtime then 2 ^ 31 + 0x10 else (codeBase (s.stlOf i) (s.binOf i) + r.core.pc) % 2 ^ 14

/-- One Stall's answer to TACK_STATUS (R290; order and widths: log 9). -/
def tackStatusOf (s : State) (k : Nat) : List Byte :=
  let r := s.stall k
  le 4 (stlStatus s k) ++ le 4 (r.core.budget.getD 0) ++ le 4 r.fault.toNat ++ le 4 r.faultPc.toNat
    ++ le 4 r.faultFn.toNat ++ le 4 (s.captured (.stlOverrun k)) ++ le 4 (s.captured (.stlFault k))
    ++ le 4 (s.captured (.stlMemCorr k)) ++ le 4 (s.captured (.stlSoftEvt k))
    ++ le 8 (s.captured (.stlRetired k))

/-- TACK_STATUS of the Stalls in a mask, which names none beyond the variant (R4). -/
def tackStatusEffect (m : Nat) (mask : Word) (s : State) : State :=
  cmdRead m 0x0803#16 s (fun _ t =>
    if 2 ^ t.nStalls ≤ mask.toNat then reply .variantUnsupported
    else okWith (((List.range t.nStalls).filter (fun k => bitOf mask k)).flatMap (fun k => tackStatusOf (t.shown (stallDomain k)) k)))

/-- The slots of one fixture for content n in 128 bytes (R289). -/
def paramBytes (s : State) (n f : Nat) : List Byte :=
  (List.range 64).flatMap (fun j =>
    le 2 (if j < slotsOf s.cfg.stl f then (paramSlot s n f j).toNat else 0))

/-- The banks hold what the latest lit content was packed from: between its PT and the next boundary (R289). -/
def State.paramWindow (s : State) : Bool := s.ym.lit.isSome && decide (s.ym.lit = s.ym.latest)

/-- The answer of TACK_PARAM_READ: FN, then 128 bytes per fixture, as they were packed: under the configuration of the
content they are read from. -/
def paramAnswer (s : State) (first count : Nat) : Reply :=
  let t : State := { s with cfg := s.cfgFor s.ym.litFrom }
  okWith (le 4 (fnOf s.ym.litFrom).toNat
    ++ (List.range count).flatMap (fun j => paramBytes t s.ym.litFrom (first + j)))

/-- TACK_PARAM_READ (R289): outside the window it waits for the next content's Gate. A fixture beyond the variant is
VARIANT_UNSUPPORTED (R4). -/
def tackParamReadEffect (m : Nat) (first count : Nat) (s : State) : State :=
  cmd m 0x0804#16 s (fun _ t =>
    if t.nFixtures < first + count then (some (reply .variantUnsupported), t)
    else if count < 1 ∨ 31 < count then (some (reply .badParam), t)
    else if t.paramWindow then (some (paramAnswer t first count), t)
    else (none, { t with mbx := { t.mbx with paramReads := t.mbx.paramReads ++ [(m, first, count)] } }))

/-- The waiting TACK_PARAM_READs are answered once a Gate has fired. -/
def answerParamReads (s : State) : State :=
  s.mbx.paramReads.foldl (fun s x => endWait x.1 0x0804#16 s (paramAnswer s x.2.1 x.2.2))
    { s with mbx := { s.mbx with paramReads := [] } }

/-- STL_EVT_CAUSE_READ: the register is returned and cleared (R11, R290). -/
def stlEvtCauseReadEffect (p : Path) (k : Nat) (s : State) : State :=
  if k < s.nStalls then (s.returns p (s.cause (.stl k))).clearCause (.stl k) 0xFFFFFFFF#32 else s

/-- STL_CNT_CTRL.SNAPSHOT (R290). -/
def stlSnapshotEffect (s : State) : State := s.captureKeys 0x500000 0x600000

/-- STL_CNT_CTRL.CLEAR (R290). -/
def stlClearEffect (s : State) : State := s.clearKeys 0x500000 0x600000

-- The meanings of this family's rows: the effect, with the queue and the identity kept.

/-- BUDGET_EXHAUSTED (R280). -/
def execBudgetExhausted (k : Nat) (s : State) : Host.Outcome State Fault Refusal :=
  commit s (budgetExhaustedEffect k s)
/-- SEAL_COMPLETE (R275). -/
def execSealComplete (k : Nat) (s : State) : Host.Outcome State Fault Refusal :=
  commit s (sealCompleteEffect k s)
/-- STALL_SCRUB_READ (R266). -/
def execStallScrubRead (k a : Nat) (e : Ecc) (s : State) : Host.Outcome State Fault Refusal :=
  commit s (stallScrubReadEffect k a e s)
/-- TACK_FIXTURE_SET (R284). -/
def execTackFixtureSet (m obj : Nat) (s : State) : Host.Outcome State Fault Refusal :=
  commit s (tackFixtureSetEffect m obj s)
/-- TACK_LOAD (R287). -/
def execTackLoad (m obj : Nat) (s : State) : Host.Outcome State Fault Refusal :=
  commit s (tackLoadEffect m obj s)
/-- TACK_STATUS (R289). -/
def execTackStatus (m : Nat) (mask : Word) (s : State) : Host.Outcome State Fault Refusal :=
  commit s (tackStatusEffect m mask s)
/-- TACK_PARAM_READ (R289). -/
def execTackParamRead (m : Nat) (first count : Nat) (s : State) : Host.Outcome State Fault Refusal :=
  commit s (tackParamReadEffect m first count s)
/-- STL_EVT_CAUSE_READ (R290). -/
def execStlEvtCauseRead (p : Path) (k : Nat) (s : State) : Host.Outcome State Fault Refusal :=
  commit s (stlEvtCauseReadEffect p k s)
/-- STL_SNAPSHOT (R290). -/
def execStlSnapshot (s : State) : Host.Outcome State Fault Refusal :=
  commit s (stlSnapshotEffect s)
/-- STL_CLEAR (R290). -/
def execStlClear (s : State) : Host.Outcome State Fault Refusal :=
  commit s (stlClearEffect s)

end Sys2Proof.Machine
end

