-- ==== Sys2Proof/Machine/Flows.lean ====
section
/-! DEFINITION. Machine/Flows.lean: the flow table and its staging rules (R292 to R295), the messages of a flow
and their frames (R299 to R305, R320), and the FLOW commands that need no port. -/
namespace Sys2Proof.Machine
open Sys2Proof

/-! ## Flow records -/

/-- The value width B in bits (R292). -/
def FlowRec.bits (r : FlowRec) : Nat := if r.width = 0 then 8 else if r.width = 1 then 12 else 16

/-- A flow leaves by an Ethernet port. -/
def FlowRec.onEth (r : FlowRec) : Bool := decide (r.kind = 0) || decide (r.kind = 1) || decide (r.kind = 4)
/-- A flow leaves by a line port. -/
def FlowRec.onLine (r : FlowRec) : Bool := decide (r.kind = 2) || decide (r.kind = 3)

/-- The entries of a parameter-fed flow. -/
def flowEntries (c : FlowCfg) (r : FlowRec) : List Word := (c.params.drop r.first).take r.count

/-- Bytes an entry contributes (R294). -/
def entryLen (w : Word) : Nat := if fld w 24 23 = 0 then 2 else 1

/-- VALUE_LEN of a flow (R305). -/
def valueLen (c : FlowCfg) (r : FlowRec) : Nat :=
  if r.pixels then ceilDiv (r.count * r.emitters * r.bits) 8 else ((flowEntries c r).map entryLen).sum

/-- The fields of a TILE flow (R395). -/
def tileFlowOk (r : FlowRec) : Bool :=
  decide (r.stream.toNat < 8) && decide (r.count = 1) && !r.pixels && !r.dither && decide (r.width = 2)
    && decide (r.group = 0xFFFF) && decide (r.dst ≠ 0) && decide (r.dstPort ≠ 0)

/-- A record's own fields (R292, R293). -/
def flowFieldsOk (c : FlowCfg) (e : Nat × FlowRec) : Bool :=
  let r := e.2
  decide (e.1 ≤ 65535) && decide (r.kind ≤ 4) && decide (r.width ≤ 2) && decide (1 ≤ r.emitters) && decide (r.emitters ≤ 8)
    && decide (r.stream.toNat < 2 ^ 24) && decide (1 ≤ r.count) && decide (r.count ≤ 16384)
    && (if r.kind = 4 then tileFlowOk r
        else if r.pixels then decide (r.group = 0xFFFF) && decide (r.first = 0)
        else decide (r.group ≤ 3839) && decide (r.kind ≠ 3))
    && (!r.pixels || decide (r.kind = 0) || decide (r.kind = 3) || decide (r.kind = 4) || decide (r.width ≠ 1))
    && (if r.kind = 1 then decide (r.prio ≤ 200) else decide (r.prio = 0))
    && (if r.kind = 2 then decide (1 ≤ r.divisor) && decide (r.divisor ≤ 16) && decide (r.phase < r.divisor)
        else decide (r.divisor = 1) && decide (r.phase = 0))
    && (if r.kind = 0 then decide (r.stream ≠ c.set.gate) && decide (r.stream ≠ c.set.gate + 1) else true)
    && (if r.kind = 1 then decide (1 ≤ r.stream.toNat) && decide (r.stream.toNat ≤ 63999) else true)

/-- Payload limits (R293). -/
def flowPayloadOk (c : FlowCfg) (r : FlowRec) : Bool :=
  if r.kind = 1 ∨ r.kind = 2 then decide (valueLen c r ≤ 512)
  else if r.kind = 0 ∧ ¬ r.pixels then decide (valueLen c r ≤ 32768) else true

/-- Streams, universes and line ports named once (R293). -/
def flowsApart (t : Tab FlowRec) : Bool :=
  noDup ((t.filter (fun e => e.2.kind = 0)).map (·.2.stream))
    && noDup ((t.filter (fun e => e.2.kind = 1)).map (·.2.stream))
    && noDup ((t.filter (fun e => e.2.onLine)).map (·.2.port))

/-- The bytes of each packing group for any one port stay within 32,768 (R295). -/
def groupBytesOk (c : FlowCfg) : Bool :=
  let ps := c.flows.filter (fun e => !e.2.pixels)
  ps.all (fun e => decide
    (((ps.filter (fun x => decide (x.2.group = e.2.group) && decide (x.2.port = e.2.port)
        && decide (x.2.onEth = e.2.onEth))).map (fun x => valueLen c x.2)).sum ≤ 32768))

/-- The flow settings (R301, R320, R327). -/
def flowSetOk (x : FlowSet) : Bool :=
  x.sync.all (fun e => decide (e.1 < 16) && decide (e.2 ≤ 63999))

/-- Every flow's port lies within the variant (R4, R293). -/
def flowsFit (nEth nLine : Nat) (c : FlowCfg) : Bool :=
  c.flows.all (fun e => decide (e.2.port < if e.2.onEth then nEth else nLine))

/-- The flows object's own rules (R293 to R295); entries beyond the parameter map only where one stands or at a
commit (R537). The variant comes first (R50). -/
def flowRules (nEth nLine : Nat) (atCommit : Bool) (c : FlowCfg) : Except Status Unit := do
  need (flowsFit nEth nLine c) .variantUnsupported
  need (flowSetOk c.set) .badParam
  need (decide (c.params.length ≤ 1048576)) .noResource
  need (c.params.all (fun w => decide (fld w 31 25 = 0) && decide (fld w 24 23 ≠ 3))) .badParam
  need (rising (c.flows.map (·.1)) && c.flows.all (flowFieldsOk c)) .badParam
  need (flowsApart c.flows) .badParam
  if atCommit ∨ c.params ≠ [] then
    need (c.flows.all (fun e => e.2.pixels || decide (e.2.kind = 4)
      || decide (e.2.first + e.2.count ≤ c.params.length))) .badParam
  need (c.flows.all (fun e => flowPayloadOk c e.2)) .badParam
  need (groupBytesOk c) .badParam

/-- Every parameter map entry names a fixture record and a slot below its SLOTS (R294, R537). -/
def paramCross (c : Cfg) (atCommit : Bool) : Except Status Unit :=
  need (c.flow.params.all (fun w =>
    match tfind? c.stl.fixtures (fld w 16 0) with
    | some f => decide (fld w 22 17 < f.slots)
    | none => !atCommit)) .badParam

/-- A port that carries a guaranteed flow has CUT_THROUGH clear (R345). -/
def cutThroughCross (c : Cfg) : Except Status Unit :=
  need (c.flow.flows.all (fun e => !(e.2.onEth && e.2.guaranteed && e.2.enable)
    || !bitOf (tget c.eth.ports e.2.port {}).cfg 26)) .badParam

/-! ## Messages and frames -/

/-- The sequence number S(N) (R299). -/
def State.seqOf (s : State) (n : Nat) : Word := fnOf n + s.ym.seqOff

/-- The 32-byte Yardline header (R302). -/
def ylHeader (type : Nat) (stream : Nat) (flags : Byte) (format : Half) (seq : Word) (pt : Nat)
    (off count len proofs total : Nat) : List Byte :=
  [1#8, BitVec.ofNat 8 type] ++ be 3 stream ++ [flags] ++ be 2 format.toNat ++ be 4 seq.toNat
    ++ be 4 (pt / 1000000000 % 4294967296) ++ be 4 (pt % 1000000000) ++ be 4 off ++ be 2 count ++ be 2 len
    ++ be 4 (proofs * 2 ^ 20 + total)

/-- FORMAT of a pixel-fed flow's PIXEL and ARM messages. -/
def FlowRec.format (r : FlowRec) : Half :=
  if r.pixels then BitVec.ofNat 16 (r.width * 2 ^ 14 + (r.emitters - 1) * 2 ^ 11) else 0

/-- IP_MTU of an Ethernet port. -/
def ipMtu (c : Cfg) (p : Nat) : Nat := fld (tget c.eth.ports p {}).cfg 13 0

/-- Octets of a frame from the destination address to the FCS (R331, R343). -/
def FlowRec.octets (r : FlowRec) (body : Nat) : Nat :=
  max 64 (14 + (if r.vlan then 4 else 0) + (if r.ipv6 then 40 else 20) + 8 + body + 4)

/-- m: payload bytes of every fragment but the last (R304). -/
def fragSize (c : Cfg) (r : FlowRec) : Nat :=
  let room := ipMtu c r.port - (if r.ipv6 then 40 else 20) - 8 - 32
  let unit := if r.pixels then 2 * r.emitters * r.bits / 8 else 1
  room / unit * unit

/-- Frames of a flow's data message of `total` payload bytes. -/
def fragCount (c : Cfg) (r : FlowRec) (total : Nat) : Nat :=
  if r.kind = 0 then max 1 (ceilDiv total (fragSize c r)) else 1

/-- An IPv4 address in the destination field. -/
def ip4 (a : Nat) : BitVec 128 := BitVec.ofNat 128 (a * 2 ^ 96)

/-- The destination of a flow: DST_ADDR or the default of the kind (R292). -/
def FlowRec.dest (r : FlowRec) : BitVec 128 :=
  if r.dst ≠ 0 then r.dst
  else if r.kind = 1 then
    (if r.ipv6 then 0xFF180000000000000000000083000000#128 + r.stream.setWidth 128
     else ip4 (0xEFFF0000 + r.stream.toNat))
  else if r.ipv6 then 0xFF020000000000000000000000000001#128 else ip4 0xFFFFFFFF

/-- The UDP port of a flow (R292). -/
def flowUdp (c : FlowCfg) (r : FlowRec) : Nat :=
  if r.dstPort ≠ 0 then r.dstPort.toNat
  else if r.kind = 1 then 5568 else fld c.set.ylCfg 15 0

/-- Bytes of a 512-bit name, first byte first. -/
def nameBytes (n : BitVec 512) : List Byte := be 64 n.toNat

/-- The ACN root layer of an E1.31 packet that carries n further bytes (R320; log 23). -/
def acnRoot (cid : BitVec 128) (vector n : Nat) : List Byte :=
  be 2 0x0010 ++ be 2 0 ++ be 12 0x4153432D45312E3137000000 ++ be 2 (0x7000 + (22 + n)) ++ be 4 vector
    ++ be 16 cid.toNat

/-- An E1.31 data packet (R320; log 23). -/
def sacnPacket (x : FlowSet) (r : FlowRec) (syncUni : Nat) (seq : Word) (ended : Bool) (vals : List Byte) : List Byte :=
  let dmp := be 2 (0x7000 + (11 + vals.length)) ++ [0x02#8, 0xA1#8] ++ be 2 0 ++ be 2 1 ++ be 2 (1 + vals.length)
    ++ [0x00#8] ++ vals
  let framing := be 2 (0x7000 + (77 + dmp.length)) ++ be 4 2 ++ nameBytes x.name ++ be 1 r.prio
    ++ be 2 syncUni ++ be 1 (seq.toNat % 256) ++ be 1 (if ended then 0x40 else 0) ++ be 2 r.stream.toNat ++ dmp
  acnRoot x.cid 4 framing.length ++ framing

/-- An E1.31 synchronisation packet (R321; log 23). -/
def sacnSync (x : FlowSet) (uni : Nat) (seq : Word) : List Byte :=
  acnRoot x.cid 8 11 ++ be 2 (0x7000 + 11) ++ be 4 1 ++ be 1 (seq.toNat % 256) ++ be 2 uni ++ be 2 0

/-- The sync universe of a flow's packets (R320). -/
def syncOf (x : FlowSet) (r : FlowRec) : Nat := if r.sync then tget x.sync r.port 0 else 0

/-- One frame of the data message of content n of a flow: fragment g of a payload, with its flags (R303, R304,
R343). -/
def dataFrame (s : State) (f : Nat) (r : FlowRec) (n g : Nat) (flags : Byte) (proofs : Nat) (payload : List Byte) :
    TxFrame :=
  let c := s.cfg
  if r.kind = 1 then
    let b := sacnPacket c.flow.set r (syncOf c.flow.set r) (s.seqOf n) false payload
    { kind := .data f n 0 1, body := b, dst := r.dest, udp := flowUdp c.flow r, octets := r.octets b.length
      guar := r.guaranteed }
  else
    let m := fragSize c r
    let part := (payload.drop (g * m)).take m
    let h := ylHeader (if r.pixels then 1 else 2) r.stream.toNat flags r.format (s.seqOf n) (c.ym.ptAt n)
      (g * m) (fragCount c r payload.length) part.length proofs payload.length
    { kind := .data f n g (fragCount c r payload.length), body := h ++ part, dst := r.dest, udp := flowUdp c.flow r
      octets := r.octets (32 + part.length), guar := r.guaranteed }

/-- The destinations of the YARDLINE flows of a port, each address once (R301). -/
def portDests (c : Cfg) (p : Nat) : List FlowRec :=
  (c.flow.flows.filter (fun e => e.2.enable && decide (e.2.kind = 0) && decide (e.2.port = p))).foldl
    (fun acc e => if acc.any (fun r => r.dest = e.2.dest) then acc else acc ++ [e.2]) []

/-- A message that is no data message, in one frame to the destination of a flow (R301, R302). -/
def ylFrame (c : Cfg) (r : FlowRec) (kind : TxKind) (type stream : Nat) (flags : Byte) (format : Half) (seq : Word)
    (pt : Nat) (payload : List Byte) : TxFrame :=
  { kind := kind
    body := ylHeader type stream flags format seq pt 0 1 payload.length 0 payload.length ++ payload
    dst := r.dest, udp := fld c.flow.set.ylCfg 15 0, octets := r.octets (32 + payload.length), guar := true }

/-- The gate stream (R301). -/
def gateStream (c : Cfg) : Nat := fld c.flow.set.gate 23 0

/-- The HOLD messages of a port (R307): S(N + 1) after the latest Gate N. -/
def holdFrames (s : State) (p : Nat) : List TxFrame :=
  let seq := s.seqOf (match s.ym.lit with | some n => n + 1 | none => s.frameNow + 1)
  (portDests s.cfg p).map (fun r =>
    ylFrame s.cfg r .hold 0x0A (gateStream s.cfg) 0 0 seq 0 ([0x01#8] ++ List.replicate 7 0))

/-- The bytes of a parameter-fed flow for content n (R294). -/
def paramPayload (s : State) (n : Nat) (r : FlowRec) : List Byte :=
  (flowEntries s.cfg.flow r).flatMap (fun w =>
    let v := (paramSlot s n (fld w 16 0) (fld w 22 17)).toNat
    if fld w 24 23 = 0 then be 2 v else if fld w 24 23 = 1 then be 1 (v / 256) else be 1 (v % 256))

/-- The values of a flow's positions, B bits each from the most significant bit of byte 0 (R202): whole bytes
when two values at a time are taken. -/
def packValues (bits : Nat) : Nat → (Nat → Nat) → List Byte
  | 0, _ => []
  | n + 1, v =>
    if bits = 16 then be 2 (v 0) ++ packValues bits n (fun k => v (k + 1))
    else if bits = 8 then be 1 (v 0) ++ packValues bits n (fun k => v (k + 1))
    else be 3 (v 0 * 4096 + v 1) ++ packValues bits n (fun k => v (k + 2))

/-- The place of a content's values of a flow. -/
def pixKey (f n : Nat) : Nat := n % 4 * 65536 + f

/-- The payload values of a pixel-fed flow for content n, VALUE_LEN bytes (R202, R305). -/
def pixelPayload (s : State) (f n : Nat) (r : FlowRec) : List Byte :=
  let t := tget s.flw.pix (pixKey f n) []
  let len := valueLen s.cfg.flow r
  let n := r.count * r.emitters
  (packValues r.bits (if r.bits = 12 then (n + 1) / 2 else n) (fun v => tget t v 0)).take len

/-- The entries of a flow name only static fixtures (R303). -/
def allStatic (s : State) (r : FlowRec) : Bool :=
  !r.pixels && (flowEntries s.cfg.flow r).all (fun w => isStatic s.cfg.stl (fld w 16 0))

/-- STALE, REPEAT and PROOF of a flow's data message of content n (R303): a STALE message repeats the one before, unless
that carried a proof list. -/
def dataFlags (s : State) (f : Nat) (r : FlowRec) (n : Nat) (stale : Bool) (proofs : Nat) : Byte :=
  let l := tget s.flw.live f {}
  let before := ((l.proofs.filter (fun e => e.1 < n)).getLast?.map (·.2)).getD 0
  let rep := (stale && decide (before = 0)) || (allStatic s r && decide (l.since < n))
  BitVec.ofNat 8 ((if stale then 128 else 0) + (if rep then 64 else 0) + (if 0 < proofs then 32 else 0))

/-- A hold of a cut covers content n: all until the content that releases it is known, then those before it (R123). -/
def CutHold.covers (h : CutHold) (n : Nat) : Bool := match h.release with | some k => decide (n < k) | none => true

/-- Content n of a flow is held by a cut (R123). -/
def State.cutHoldsLine (s : State) (p n : Nat) : Bool :=
  s.ym.holding.any (fun h => bitOf h.lines p && h.covers n)

/-- A cut holds a flow for content n (R123). -/
def State.cutHolds (s : State) (f n : Nat) : Bool := s.ym.holding.any (fun h => decide (f ∈ h.flows) && h.covers n)

/-- A cut holds content n of its flows and line ports (R123). -/
def State.cutShows (s : State) (c n : Nat) : Bool := s.ym.holding.any (fun h => decide (h.cut = c) && h.covers n)

/-! ## Misses -/

/-- The conditions that failed in a content's work window, as far as it has run (R116). -/
def State.failsOf (s : State) (n : Nat) : BitVec 6 :=
  match s.ym.flights.find? (fun x => x.n = n) with
  | some x => x.fail
  | none => if s.ym.lit = some n then s.ym.litFail else 0

/-- The cause of a miss: the first failed condition, 0 where none failed (R116). -/
def missCause (fail : BitVec 6) : Nat :=
  match (List.range 6).find? (fun i => bitOf fail i) with | some i => i + 1 | none => 0

/-- A guaranteed flow misses content n (R116, R126, R292); none is counted while a change of rate or alignment waits for
its first content (R89). -/
def countMiss (f n : Nat) (fail : BitVec 6) (s : State) : State :=
  if s.ym.noRelease then s else
  let c := missCause fail
  let l := tget s.flw.live f {}
  let l' : FlowLive := { l with miss := satInc l.miss, missFn := fnOf n, cause := BitVec.ofNat 4 c }
  let s1 : State := { s with
    flw := { s.flw with live := tset s.flw.live f l' }
    ym := { s.ym with missCause := BitVec.ofNat 4 c, missFlow := BitVec.ofNat 16 f, missFn := fnOf n } }
  let s2 := (s1.bump (.ymMiss c)).raiseCause .ym 0
  if c = 0 then (s2.raiseCause .ym 7).logEvent 4 31 0 (f + (fnOf n).toNat * 4294967296) else s2

/-- A tile flow misses a content, once, by the conditions that failed (R399). -/
def tileMissAs (f n : Nat) (fail : BitVec 6) (s : State) : State :=
  let r := tget s.cfg.flow.flows f {}
  if (f, n) ∈ s.rst.missed then s
  else
    let s1 : State := { s with rst := { s.rst with missed := (s.rst.missed ++ [(f, n)]).filter (fun e => n ≤ e.2 + 1) } }
    let s2 := s1.raiseCause (.rst (fld r.stream 2 2)) 5
    if r.guaranteed then countMiss f n fail s2 else s2

/-- A tile flow misses a content, once (R399). -/
def tileMiss (f n : Nat) (s : State) : State := tileMissAs f n (s.failsOf n) s

/-! ## Commands -/

/-- The flows section's object (R536). -/
def objFlows : Nat := 0x00090000

/-- A staging command of the flows object with its rules across objects (R537); the variant comes first (R50). -/
def stageFlow (m : Nat) (op : Half) (s : State) (f : State → FlowCfg → Except Status FlowCfg)
    (src : Option Nat := none) : State :=
  stage m op [objFlows] s (fun _ t c => do
    let x ← f t c.flow
    flowRules t.nEth t.nLine false x
    let c' := { c with flow := x }
    paramCross c' false
    cutThroughCross c'
    if c'.stl.graph.tasks ≠ [] ∧ c'.stl.tack.args ≠ [] then packCross c'
    if c'.stl.graph.tasks ≠ [] then graphHwCross c' false
    pure c')
    (fun q t => match f t (t.standing q).flow with
      | .ok x => need (flowsFit t.nEth t.nLine x) .variantUnsupported
      | .error _ => .ok ()) src

/-- FLOW_LOAD: section 0x0009, by descriptors or in the staging object `obj` (R326, R327). -/
def flowLoadEffect (m obj : Nat) (s : State) : State :=
  stageFlow m 0x0401#16 s (fun t _ => t.bulkAs m obj readFlows) (some obj)

/-- FLOW_SET: up to 63 records (R293). -/
def flowSetEffect (m : Nat) (rs : List (Nat × FlowRec)) (s : State) : State :=
  stageFlow m 0x0402#16 s (fun _ x => do
    need (decide (rs.length ≤ 63)) .badParam
    pure { x with flows := rs.foldl (fun t e => tset t e.1 e.2) x.flows })

/-- The parameter map with entries put from `first` on; a gap beyond its end is filled with zeros (log 24). -/
def putParams (ps : List Word) (first : Nat) (es : List Word) : List Word :=
  ps.take first ++ List.replicate (first - ps.length) 0 ++ es ++ ps.drop (first + es.length)

/-- FLOW_PARAM_SET (R294, R326). -/
def flowParamSetEffect (m first : Nat) (es : List Word) (s : State) : State :=
  stageFlow m 0x0403#16 s (fun _ x => do
    need (decide (es.length ≤ 1015)) .badParam
    need (decide (first + es.length ≤ 1048576)) .noResource
    pure { x with params := putParams x.params first es })

/-- FLOW_SETTINGS (R327); reserved bits of the register images are ignored (R13). -/
def flowSettingsEffect (m : Nat) (b : FlowSet) (s : State) : State :=
  stageFlow m 0x0404#16 s (fun _ x => .ok { x with set := b.masked })

/-- FLOW_STATUS: the LIVE fields of each flow (R292, R326). -/
def flowStatusEffect (m first count : Nat) (s : State) : State :=
  cmdRead m 0x0405#16 s (fun _ t =>
    if count < 1 ∨ 250 < count ∨ 65536 < first + count then reply .badParam
    else okWith ((List.range count).flatMap (fun j =>
      let l := tget t.flw.live (first + j) {}
      le 4 l.miss.toNat ++ le 4 l.missFn.toNat ++ le 4 l.sentFn.toNat ++ le 4 l.cause.toNat)))

/-- FLW_TX_EVT_CAUSE_READ (R11, R328). -/
def flwTxEvtCauseReadEffect (q : Path) (p : Nat) (s : State) : State :=
  if p < s.nEth then (s.returns q (s.cause (.flwTx p))).clearCause (.flwTx p) 0xFFFFFFFF#32 else s

/-- YL_RX_EVT_CAUSE_READ (R11, R328). -/
def ylRxEvtCauseReadEffect (q : Path) (p : Nat) (s : State) : State :=
  if p < s.nEth then (s.returns q (s.cause (.ylRx p))).clearCause (.ylRx p) 0xFFFFFFFF#32 else s

-- The meanings of this family's rows: the effect, with the queue and the identity kept.

/-- FLOW_LOAD (R327). -/
def execFlowLoad (m obj : Nat) (s : State) : Host.Outcome State Fault Refusal :=
  commit s (flowLoadEffect m obj s)
/-- FLOW_SET (R293). -/
def execFlowSet (m : Nat) (rs : List (Nat × FlowRec)) (s : State) : Host.Outcome State Fault Refusal :=
  commit s (flowSetEffect m rs s)
/-- FLOW_PARAM_SET (R294). -/
def execFlowParamSet (m first : Nat) (es : List Word) (s : State) : Host.Outcome State Fault Refusal :=
  commit s (flowParamSetEffect m first es s)
/-- FLOW_SETTINGS (R327). -/
def execFlowSettings (m : Nat) (b : FlowSet) (s : State) : Host.Outcome State Fault Refusal :=
  commit s (flowSettingsEffect m b s)
/-- FLOW_STATUS (R326). -/
def execFlowStatus (m first count : Nat) (s : State) : Host.Outcome State Fault Refusal :=
  commit s (flowStatusEffect m first count s)
/-- FLW_TX_EVT_CAUSE_READ (R328). -/
def execFlwTxEvtCauseRead (q : Path) (p : Nat) (s : State) : Host.Outcome State Fault Refusal :=
  commit s (flwTxEvtCauseReadEffect q p s)
/-- YL_RX_EVT_CAUSE_READ (R328). -/
def execYlRxEvtCauseRead (q : Path) (p : Nat) (s : State) : Host.Outcome State Fault Refusal :=
  commit s (ylRxEvtCauseReadEffect q p s)

end Sys2Proof.Machine
end

