-- ==== Sys2Proof/Machine/Ethernet.lean ====
section
/-! DEFINITION. Machine/Ethernet.lean: the Ethernet ports (chapter 12): link, the calendar's transmission (R298),
reception, rings, PAUSE, cut-through, LPI, transmit stamps, through pairs, and their commands. -/
namespace Sys2Proof.Machine
open Sys2Proof

/-! ## Ports -/

/-- Port p. -/
def State.port (s : State) (p : Nat) : PortSt := tget s.eth p {}
/-- Port p put in place. -/
def State.setPort (s : State) (p : Nat) (r : PortSt) : State := { s with eth := tset s.eth p r }
/-- The registers of port p in effect. -/
def State.portRegs (s : State) (p : Nat) : PortRegs := tget s.cfg.eth.ports p {}
/-- ETH_CFG of port p. -/
def State.ethCfg (s : State) (p : Nat) : Word := (s.portRegs p).cfg
/-- ENABLE. -/
def State.portOn (s : State) (p : Nat) : Bool := decide (p < s.nEth) && bitOf (s.ethCfg p) 31

/-- The time in ns that octets take on the wire of port p, rounded up. -/
def wireNs (s : State) (p octets : Nat) : Nat := ceilDiv (octets * 8) (if bitOf (s.ethCfg p) 30 then 25 else 10)

/-- The largest frame of a port (R332). -/
def largestFrame (c : Cfg) (p : Nat) : Nat :=
  ipMtu c p + (if c.flow.flows.any (fun e => e.2.enable && e.2.onEth && decide (e.2.port = p) && e.2.vlan)
               then 30 else 26)

/-- The Gate guard q_p in ns (R91). -/
def gateGuard (c : Cfg) (p : Nat) : Nat :=
  ceilDiv ((largestFrame c p + 20) * 8) (if bitOf (tget c.eth.ports p {}).cfg 30 then 25 else 10)

/-- The content in transmission: the earliest in flight, else the one after the latest lit. -/
def State.txContent (s : State) : Nat :=
  match s.ym.flights with
  | x :: _ => x.n
  | [] => match s.ym.lit with | some n => n + 1 | none => s.frameNow + 1

/-- Nothing waits and nothing is in transmission on a port. -/
def PortSt.quiet (r : PortSt) : Bool := r.gates.isEmpty && r.guar.isEmpty && r.be.isEmpty && r.cur.isNone

/-- Frames enter the queues of a port (R298, R351): a port without link takes none, a port in LPI leaves it. -/
def enqueue (p : Nat) (f : PortSt → PortSt) (s : State) : State :=
  let r := s.port p
  if !r.link || !s.portOn p then s
  else
    let r1 : PortSt := if r.lpi then { r with lpi := false, noLpi := some s.txContent } else r
    s.setPort p (f r1)

/-- A best-effort, Groom's or forwarded frame joins the best-effort queue. -/
def enqueueBe (p : Nat) (x : TxFrame) (s : State) : State := enqueue p (fun r => { r with be := r.be ++ [x] }) s

/-- A Gate or cut frame waits to go first; a cut GATE precedes Gate frames (R120). -/
def enqueueGate (p : Nat) (x : TxFrame) (s : State) : State :=
  enqueue p (fun r => match x.kind with
    | .cutGate _ => { r with gates := r.gates.filter (fun y => match y.kind with | .cutGate _ => true | _ => false)
                        ++ [x] ++ r.gates.filter (fun y => match y.kind with | .cutGate _ => false | _ => true) }
    | _ => { r with gates := r.gates ++ [x] }) s

/-- A complete frame of a flow joins the queue of its class (R298); a port that came up during a content sends
from the next one (R333), and a held flow sends nothing (R123). Best-effort frames are dropped at Bridle level 2: the
Gate counts what was not sent (R117). -/
def enqueueData (p : Nat) (x : TxFrame) (s : State) : State :=
  match x.kind with
  | .data f n _ _ =>
    if n < (s.port p).since ∨ s.cutHolds f n ∨ !s.netOn n then s
    else if x.guar then enqueue p (fun r => { r with guar := r.guar ++ [x] }) s
    else if 2 ≤ s.brd.level then s
    else enqueueBe p x s
  | _ => s

/-- A complete packet of a tile flow joins the queue of its class; one that cannot is not sent (R398, R399), and a
best-effort one dropped at Bridle level 2 is counted (R117). -/
def enqueueTile (p f n : Nat) (x : TxFrame) (s : State) : State :=
  if !s.netOn n then s
  else if !(s.port p).link || !s.portOn p then tileMiss f n s
  else if x.guar then enqueue p (fun r => { r with guar := r.guar ++ [x] }) s
  else if 2 ≤ s.brd.level then s.shed
  else enqueueBe p x s

/-! ## The PTP port's settings -/

/-- TIME_PTP_CFG.ENABLE, SLAVE_ONLY, TWO_STEP, PORT. -/
def State.ptpOn (s : State) : Bool := bitOf s.cfg.time.ptp 25
def State.ptpSlaveOnly (s : State) : Bool := bitOf s.cfg.time.ptp 26
def State.ptpTwoStep (s : State) : Bool := bitOf s.cfg.time.ptp 27
def State.ptpPort (s : State) : Nat := fld s.cfg.time.ptp 23 20

/-- Nanoseconds of an interval given as a logarithm to base 2 of seconds. -/
def intervalNs (l : Int) : Nat := if 0 ≤ l then 1000000000 * 2 ^ l.toNat else 1000000000 / 2 ^ (-l).toNat

/-- The profile's defaults (R139): Sync, Announce and Delay_Req intervals, receipt timeout. -/
def profileLogs (p : Nat) : Int × Int × Int × Nat :=
  if p = 1 then (-3, -2, -3, 3) else if p = 2 then (-3, 1, 0, 3) else (0, 1, 0, 3)

/-- The intervals in force, the overrides of TIME_SET_PTP first (R139). -/
def State.syncLog (s : State) : Int := s.cfg.time.syncLog.getD (profileLogs (fld s.cfg.time.ptp 31 28)).1
def State.annLog (s : State) : Int := s.cfg.time.annLog.getD (profileLogs (fld s.cfg.time.ptp 31 28)).2.1
def State.receipt (s : State) : Nat := s.cfg.time.receipt.getD (profileLogs (fld s.cfg.time.ptp 31 28)).2.2.2
def State.delayLog (s : State) : Int := s.cfg.time.delayLog.getD (profileLogs (fld s.cfg.time.ptp 31 28)).2.2.1

/-! ## Transmission -/

/-- A frame of a content may start: the content in transmission (R298). -/
def mayStart (s : State) (x : TxFrame) : Bool :=
  match x.kind with
  | .data _ n _ _ => decide (n ≤ s.txContent)
  | _ => true

/-- The next PT, where a content is in flight. -/
def State.nextPt (s : State) : Option Nat :=
  match s.ym.flights with | x :: _ => some ((s.cfgFor x.n).ym.ptAt x.n) | [] => none

/-- A frame may start now under the Gate guard (R91). -/
def beforeGate (s : State) (p : Nat) (x : TxFrame) : Bool :=
  match s.nextPt with
  | none => true
  | some t => !(decide (t ≤ s.elt + gateGuard s.cfg p) && decide (s.elt < t))
      && (x.guar || decide (t ≤ s.elt) || decide (s.elt + wireNs s p (x.octets + 8) ≤ t))

/-- The frame a port starts next, and the port without it (R298). -/
def pickFrame (s : State) (p : Nat) : Option (TxFrame × PortSt) :=
  let r := s.port p
  match r.gates with
  | x :: rest => some (x, { r with gates := rest })
  | [] =>
    match r.guar.find? (mayStart s) with
    | some x => if beforeGate s p x then some (x, { r with guar := r.guar.erase x }) else none
    | none =>
      match r.be.find? (mayStart s) with
      | some x => if beforeGate s p x then some (x, { r with be := r.be.erase x }) else none
      | none => none

/-- A unicast destination: no IPv4 group or broadcast, no IPv6 group. -/
def isUnicast (dst : BitVec 128) : Bool :=
  let b := dst.toNat / 2 ^ 120
  if dst.setWidth 96 = 0#96 then !(decide (0xE0 ≤ b) && decide (b ≤ 0xEF)) && decide (dst ≠ ip4 0xFFFFFFFF)
  else decide (b ≠ 0xFF)

/-- ELT in units of 2^-16 ns. -/
def State.fineElt (s : State) : Nat := s.elt * 65536 + fld s.tim.frac 31 16

/-- The alignment term of a frame under RS-FEC, from 0 to 37.50 ns in units of 2^-16 ns: where the SFD falls within the
codeword is free (R143; log 5). -/
def State.fecTerm (s : State) (p : Nat) : Nat :=
  if bitOf (s.ethCfg p) 30 ∧ bitOf (s.ethCfg p) 29 then Config.freeNat s.freeCtr % 2457601 else 0

/-- One of three latencies by the speed of port p: 10GBASE-R, 25GBASE-R, 25GBASE-R with RS-FEC. -/
def State.bySpeed (s : State) (p a b c : Nat) : Nat :=
  if bitOf (s.ethCfg p) 30 then (if bitOf (s.ethCfg p) 29 then c else b) else a

/-- The instant at the medium of an SFD that passes the stamp point now, outward: 368.75, 318.75, 368.75 ns later (R143). -/
def State.txInstant (s : State) (p : Nat) : Nat := s.fineElt + s.bySpeed p 24166400 20889600 24166400 + s.fecTerm p

/-- The same inward: 395.00, 336.25, 436.25 ns earlier. -/
def State.rxInstant (s : State) (p : Nat) : Nat := s.fineElt - s.bySpeed p 25886720 22036480 28590080 - s.fecTerm p

/-- A 16-bit field of a frame put in place, most significant byte first. -/
def putBe (off n v : Nat) (bs : List Byte) : List Byte := bs.take off ++ be n v ++ bs.drop (off + n)

/-- The ones' complement sum of 16-bit words. -/
def onesSum : Nat → List Byte → Nat
  | acc, a :: b :: r => onesSum (acc + a.toNat * 256 + b.toNat) r
  | acc, [a] => acc + a.toNat * 256
  | acc, [] => acc

/-- A sum folded to 16 bits. -/
def fold16 (n : Nat) : Nat := let a := n % 65536 + n / 65536; a % 65536 + a / 65536

/-- The UDP checksum over IPv6 (RFC 8200): addresses, length, protocol 17, the datagram with its checksum as 0. -/
def udpSum6 (addrs udp : List Byte) : Nat :=
  let v := 65535 - fold16 (onesSum (udp.length + 17) (addrs ++ putBe 6 2 0 udp))
  if v = 0 then 65535 else v

/-- A forwarded PTP event message with its residence time, in 2^-16 ns, added to the correctionField (R141), which stands
at byte 8 of the PTP message (IEEE 1588-2019; PRESUMED, log 66): over IPv4 the UDP checksum is 0, over IPv6 it is
recomputed. -/
def addResidence (bs : List Byte) (r : Nat) : List Byte :=
  let ip := if slice bs 12 2 = [0x81#8, 0x00#8] then 18 else 14
  let v6 := decide (slice bs (ip - 2) 2 = [0x86#8, 0xDD#8])
  let udp := if v6 then ip + 40 else ip + 4 * (num bs ip 1 % 16)
  let ptp := udp + 8
  let b1 := putBe (ptp + 8) 8 (unbe (slice bs (ptp + 8) 8) + r) bs
  putBe (udp + 6) 2 (if v6 then udpSum6 (slice b1 (ip + 8) 32) (b1.drop udp) else 0) b1

/-- The body and the message of a frame as they leave: the originTimestamp of a one-step Sync (R140), the correctionField
of a forwarded event message (R141). -/
def atSfd (s : State) (p : Nat) (x : TxFrame) : TxFrame :=
  match x.kind, x.ingress with
  | .ptp (.sync q _), _ => if x.tag.isNone then { x with kind := .ptp (.sync q (toPtp (s.txInstant p / 65536))) } else x
  | .forward, some t => { x with body := addResidence x.body (s.txInstant p - t), corr := (s.txInstant p - t) / 65536 }
  | _, _ => x

/-- A frame of port p that starts now: the stamp of its SFD at the medium (R143), LT and the fraction in 2^-16 ns; whether
its unicast destination has not yet resolved, so that it goes to every station (R333). -/
def stampNow (s : State) (p : Nat) (x : TxFrame) : TxFrame :=
  { atSfd s p x with
    toAll := decide (x.dst ≠ 0) && isUnicast x.dst && decide (x.dst ∉ (s.port p).resolved)
    sfdLt := BitVec.ofNat 32 (s.txInstant p / 65536), sfdFrac := BitVec.ofNat 16 (s.txInstant p) }

/-- ETH_FRAME_TX_START: the port starts the head frame (R298), unless it is sending, paused or without link or
root clock; a cut-through frame only where streaming is on (R345). -/
def ethFrameTxStartEffect (p : Nat) (s : State) : State :=
  let r := s.port p
  if !s.portOn p || !r.link || r.paused || r.cur.isSome || !s.glb.clk.rootLock || s.glb.faulted || s.brd.txStop then s
  else match pickFrame s p with
    | none => s
    | some (x, r') =>
      let x' := stampNow s p { x with stream := x.stream && bitOf (s.ethCfg p) 26 }
      (s.setPort p { r' with cur := some x', lpi := false }).takeFree

/-- A transmit stamp joins the queue, or is lost when all 64 entries are full (R352, R353); the flag says
whether it was kept. -/
def pushStamp (p : Nat) (x : TxFrame) (aborted : Bool) (s : State) : Bool × State :=
  match x.tag with
  | none => (false, s)
  | some tag =>
    let r := s.port p
    if 64 ≤ r.tsq.length then
      (false, ((s.setPort p { r with lostTag := tag }).bump (.eth p 11)).raiseCause (.ethTx p) 2)
    else
      let mb := match x.kind with | .ethTx m => some m | _ => none
      let sync : Bool := match x.kind with | .ptp (.sync _ _) => true | _ => false
      (true, s.setPort p { r with
        tsq := r.tsq ++ [{ tag := tag, mailbox := mb, sync := sync, lt := x.sfdLt, frac := x.sfdFrac, aborted := aborted }] })

/-- The answer of ETH_TX. -/
def ethTxAnswer (valid : Bool) (lt : Word) (frac : Half) : Reply :=
  okWith (le 4 (if valid then 1 else 0) ++ le 4 lt.toNat ++ le 2 frac.toNat)

/-- What a frame that has left means to its sender: a data message's LIVE fields and count (R292, R328), the
ETH_TX that waits, which a queued stamp answers later (R352, R360), the Delay_Req, whose exchange a lost stamp discards
(R140). -/
def frameLeft (p : Nat) (x : TxFrame) (stamped : Bool) (s : State) : State :=
  match x.kind with
  | .data f n _ count =>
    let l := tget s.flw.live f {}
    let k := if l.fragsOf = n ∧ l.frags ≠ 0 then l.frags + 1 else 1
    let whole := decide (k = count)
    let l' : FlowLive := { l with
      frags := k, fragsOf := n
      sent := if whole then some n else l.sent, sentFn := if whole then fnOf n else l.sentFn }
    let s1 : State := { s with flw := { s.flw with live := tset s.flw.live f l' } }
    if whole then s1.bump (.flwTxMsg p) else s1
  | .ethTx m => if stamped then s else endWait m 0x0444#16 s (ethTxAnswer false 0 0)
  | .tile f n h due =>
    if due + 2 * gateGuard s.cfg p + 1000 < s.elt then tileMiss f n (s.bump (.rst h 2)) else s
  | .ptp (.delayReq q) => { s with tim := { s.tim with delayOut := if stamped then some q else none } }
  | _ => s

/-- The current frame of a port has left it (R298, R353, R361). -/
def leave (p : Nat) (x : TxFrame) (s : State) : State :=
  let r := s.port p
  let r' : PortSt := { r with cur := none }
  let s0 := s.setPort p (if r'.quiet then { r' with idleAt := s.elt } else r')
  let s1 := ((s0.bump (.eth p 2)).bumpBy (.eth p 0) x.octets).emit (.frame p s.elt x)
  let (kept, s2) := pushStamp p x x.broken s1
  frameLeft p x kept s2

/-- ETH_FRAME_TX_DONE: the frame's last bit leaves the port. -/
def ethFrameTxDoneEffect (p : Nat) (s : State) : State :=
  let r := s.port p
  match r.cur with
  | none => s
  | some x =>
    let s1 := leave p x s
    if x.stream then s1.setPort p { s1.port p with ctGood := (s1.port p).ctGood + 1 } else s1

/-- CT_UNDERRUN: a cut-through frame runs out of data and ends with an inverted FCS; the threshold rises (R346). -/
def ctUnderrunEffect (p : Nat) (s : State) : State :=
  match (s.port p).cur with
  | some x =>
    if x.stream then
      let s1 := leave p { x with broken := true } s
      let r := s1.port p
      let s2 := s1.setPort p { r with ctThr := min 9216 (r.ctThr + 256), ctGood := 0 }
      (s2.bump (.eth p 10)).raiseCause (.ethTx p) 3
    else s
  | none => s

/-- CT_THRESHOLD_DECAY: after 4,096 cut-through frames without an underrun (R346). -/
def ctThresholdDecayEffect (p : Nat) (s : State) : State :=
  let r := s.port p
  if 4096 ≤ r.ctGood then
    s.setPort p { r with ctThr := max (fld (s.portRegs p).ct 13 0) (r.ctThr - 256), ctGood := 0 }
  else s

/-- Octets of a PTP frame over IPv4 or IPv6 with so many bytes of message. -/
def ptpOctets (v6 : Bool) (n : Nat) : Nat := 14 + (if v6 then 40 else 20) + 8 + n + 4

/-- A PTP message goes to the best-effort queue of its port (R139, R140; log 45). -/
def sendPtp (p : Nat) (msg : PtpMsg) (tag : Option Half) (s : State) : State :=
  let n := match msg with | .announce _ _ _ => 64 | .delayResp _ _ _ => 54 | _ => 44
  enqueueBe p { kind := .ptp msg, octets := ptpOctets (bitOf s.cfg.time.ptp 24) n, tag := tag } s

/-- TSQ_DRAIN: Groom drains the oldest stamp; that of an ETH_TX answers it (R352), that of a Sync goes out in a
Follow_Up, extended to device time (R129, R140). -/
def tsqDrainEffect (p : Nat) (s : State) : State :=
  match (s.port p).tsq with
  | [] => s
  | t :: rest =>
    let s1 := s.setPort p { s.port p with tsq := rest }
    match t.mailbox with
    | some m => endWait m 0x0444#16 s1 (ethTxAnswer (!t.aborted) t.lt t.frac)
    | none =>
      if t.sync && !t.aborted then sendPtp p (.followUp t.tag (toPtp (extendLt t.lt s.elt)) t.frac) none s1 else s1

/-! ## Link -/

/-- ETH_LINK_UP: with the port's SerDes reference present (R22), LINK_UP is raised and the port sends from the next content
onward (R333). -/
def ethLinkUpEffect (p : Nat) (s : State) : State :=
  let r := s.port p
  if s.portOn p ∧ ¬ r.link ∧ s.serRef p then
    ((s.setPort p { r with link := true, since := s.txContent + 1, idleAt := s.elt, lldpAt := none,
                           agreed := false, tlvSent := false, tlvHeard := false }).raiseCause (.ethTx p) 1).noteCond
  else s

/-- The port's link is down: the calendar is dropped, LINK_DOWN raised; a frame in transmission is lost and its
stamp flagged ABORTED (R333, R353); an ETH_TX whose frame is dropped answers BAD_STATE. -/
def dropLink (p : Nat) (s : State) : State :=
  let r := s.port p
  if r.link then
    let r' : PortSt := { r with
      link := false, lpi := false, agreed := false, paused := false, gates := [], guar := [], be := [], cur := none }
    let s1 := s.setPort p r'
    let s2 := match r.cur with | some x => (pushStamp p x true s1).2 | none => s1
    let s3 := r.be.foldl (fun s x => match x.kind with
      | .ethTx m => endWait m 0x0444#16 s (reply .badState)
      | _ => s) s2
    let s4 := match r.cur with
      | some x => (match x.kind with
        | .ethTx m => if x.tag.isSome then s3 else endWait m 0x0444#16 s3 (ethTxAnswer false 0 0)
        | _ => s3)
      | none => s3
    let s5 := (r.guar ++ r.be ++ r.cur.toList).foldl (fun s x => match x.kind with
      | .tile f n _ _ => tileMiss f n s
      | _ => s) s4
    (s5.raiseCause (.ethTx p) 0).noteCond
  else s

/-- ETH_LINK_DOWN. -/
def ethLinkDownEffect (p : Nat) (s : State) : State := dropLink p s

/-- ARP_REFRESH: every 60 s each unicast flow destination is resolved again (R333). -/
def arpRefreshEffect (p : Nat) (s : State) : State :=
  let r := s.port p
  if s.portOn p ∧ r.link ∧ r.arpAt + 60000000000 ≤ s.elt then
    let ds := ((s.cfg.flow.flows.filter (fun e => e.2.enable && e.2.onEth && decide (e.2.port = p)
      && decide (e.2.dst ≠ 0))).map (fun e => e.2.dst)).dedup
    ds.foldl (fun s d => enqueueBe p { kind := .resolve d } s) (s.setPort p { r with arpAt := s.elt })
  else s

/-- EEE is agreed once the TLVs are exchanged and the partner asks for no more than TW_NS (R350); a port without the
agreement is not in LPI. -/
def reagree (regs : PortRegs) (r : PortSt) : PortSt :=
  let ok := r.tlvSent && r.tlvHeard && decide (r.partner.toNat * 1000 ≤ fld regs.eee 15 0)
  { r with agreed := ok, lpi := r.lpi && ok }

/-- LLDP_TX: every 30 s, and after a link-up or a commit, Groom sends LLDP with the EEE TLV (R350). -/
def lldpTxEffect (p : Nat) (s : State) : State :=
  let r := s.port p
  let due : Bool := match r.lldpAt with | none => true | some t => decide (t + 30000000000 ≤ s.elt)
  if s.portOn p ∧ r.link ∧ due then
    enqueueBe p { kind := .lldp } (s.setPort p (reagree (s.portRegs p) { r with lldpAt := some s.elt, tlvSent := true }))
  else s

/-! ## LPI and PAUSE -/

/-- A guaranteed flow of port p has not yet sent content n. -/
def guarLeft (s : State) (p n : Nat) : Bool :=
  s.cfg.flow.flows.any (fun e => e.2.enable && e.2.guaranteed && e.2.onEth && decide (e.2.port = p)
    && decide ((tget s.flw.live e.1 {}).sent ≠ some n))

/-- From PT(N) - TW_NS - 100 ns until the Gate of content N has fired the port stays out of LPI (R351). -/
def gateNear (s : State) (p : Nat) : Bool :=
  match s.nextPt with
  | some t => decide (t ≤ s.elt + fld (s.portRegs p).eee 15 0 + 100)
  | none => false

/-- The port is the PTP port and its next Delay_Req, one interval after the latest, is due within 10 us (R351;
log 45). -/
def delayReqNear (s : State) (p : Nat) : Bool :=
  s.ptpOn && decide (s.ptpPort = p) && decide (s.tim.port = .slave)
    && decide (s.tim.delayAt + intervalNs s.delayLog ≤ s.elt + 10000)

/-- LPI_ENTER (R351): EEE agreed, the queues empty for LPI_IDLE_NS, no guaranteed frame of the content due, no
flow of an armed cut on the port, neither the Gate nor a Delay_Req near. -/
def lpiEnterEffect (p : Nat) (s : State) : State :=
  let r := s.port p
  let cutHere := s.cfg.ym.cuts.any (fun c => decide (c.index ∈ s.ym.armed)
    && c.flows.any (fun f => let x := tget s.cfg.flow.flows f {}; x.onEth && decide (x.port = p)))
  let held : Bool := match r.noLpi with | some n => guarLeft s p n && decide (n = s.txContent) | none => false
  if s.portOn p ∧ r.link ∧ ¬ r.lpi ∧ r.agreed ∧ bitOf (s.ethCfg p) 27 ∧ r.quiet
      ∧ r.idleAt + fld (s.portRegs p).eee 31 16 ≤ s.elt ∧ ¬ cutHere ∧ ¬ held ∧ ¬ gateNear s p
      ∧ ¬ delayReqNear s p then
    (s.setPort p { r with lpi := true, noLpi := none }).bump (.eth p 15)
  else s

/-- LPI_GATE_WAKE: at PT(N) - TW_NS - 100 ns the port leaves LPI (R351). -/
def lpiGateWakeEffect (p : Nat) (s : State) : State :=
  let r := s.port p
  match s.nextPt with
  | some t => if r.lpi ∧ t ≤ s.elt + fld (s.portRegs p).eee 15 0 + 100 then s.setPort p { r with lpi := false } else s
  | none => s

/-- A PAUSE frame arrives (R348, R361): it is counted, and where it is honoured holds the port for its time; one of
zero quanta stops nothing. -/
def pauseFrame (p quanta : Nat) (s : State) : State :=
  let s0 := s.bump (.eth p 12)
  if bitOf (s.ethCfg p) 28 then
    let ns := ceilDiv (quanta * 512) (if bitOf (s.ethCfg p) 30 then 25 else 10)
    let s1 := s0.setPort p { s0.port p with paused := decide (quanta ≠ 0), pauseEnd := s.elt + ns }
    (if quanta = 0 then s1 else s1.raiseCause (.ethTx p) 4).noteCond
  else s0

/-- PAUSE_EXPIRE (R348). -/
def pauseExpireEffect (p : Nat) (s : State) : State :=
  let r := s.port p
  if r.paused ∧ r.pauseEnd ≤ s.elt then (s.setPort p { r with paused := false }).noteCond else s

/-! ## Reception -/

/-- ETH_RXQ_CFG of a queue (not listed: 0x00A00000). -/
def rxqCfg (c : EthCfg) (p q : Nat) : Word := ((tget c.filters p {}).rxq[q]?).getD 0x00A00000#32

/-- The index of the first filter a frame matches (R337). -/
def filterFor (c : EthCfg) (p : Nat) (f : RxFrame) : Option Nat :=
  (tget c.filters p {}).filters.findIdx? (fun e =>
    bitOf e.1 31
      && (bitOf e.1 27 || (f.vid.isNone && bitOf e.1 26) || decide (f.vid = some (fld e.1 11 0)))
      && (bitOf e.1 25 || decide (f.etype.toNat = fld e.2 15 0)))

/-- A queue of port p put in place. -/
def setRxq (p q : Nat) (x : RxQ) (s : State) : State :=
  s.setPort p { s.port p with rxq := tset (s.port p).rxq q x }

/-- A frame goes to a ring (R338 to R341, R358): it needs ceil(length / 2,048) owned buffers, else it is dropped
and HEAD stays. -/
def deliverRing (p q i : Nat) (f : RxFrame) (s : State) : State :=
  let cfg := rxqCfg s.cfg.eth p q
  let x := tget (s.port p).rxq q {}
  let size := 2 ^ fld cfg 3 0
  let n := max 1 (ceilDiv f.bytes.length 2048)
  let used := (x.stored.map (fun y => max 1 (ceilDiv y.bytes.length 2048))).sum
  let owned := if fld cfg 31 30 = 2 then size - used else if x.restart then 0 else f.owned
  if owned < n then
    ((setRxq p q { x with discard := true, waitOwn := decide (owned = 0), pollAt := s.elt } s).bump
      (.eth p 4)).raiseCause (.ethRx p) 0
  else
    let x' : RxQ := { x with head := (x.head + n) % size, seq := x.seq + 1, discard := false, waitOwn := false }
    let lt : Word := BitVec.ofNat 32 (s.rxInstant p / 65536)
    let frac : Half := BitVec.ofNat 16 (s.rxInstant p)
    if fld cfg 31 30 = 2 then
      let y : RxStored := { filter := i, tagged := f.vid.isSome, lt := lt, frac := frac, seq := x.seq, bytes := f.bytes }
      (setRxq p q { x' with stored := x.stored ++ [y] } s).takeFree
    else ((setRxq p q x' s).emit (.ring p q x.head f.vid.isSome i x.seq lt frac f.bytes)).takeFree

/-- The filter table's frames (R337). -/
def toFilter (p : Nat) (f : RxFrame) (s : State) : State :=
  let s0 := match f.body with | .sacn => s.bump (.eth p 9) | _ => s
  match filterFor s.cfg.eth p f with
  | none => s0.bump (.eth p 7)
  | some i =>
    let q := fld ((((tget s.cfg.eth.filters p {}).filters[i]?).map (·.1)).getD 0) 30 28
    if fld (rxqCfg s.cfg.eth p q) 31 30 = 0 then s0.bump (.eth p 7) else deliverRing p q i f s0

/-- The partner of a port in a through pair (R354). -/
def partner (s : State) (p : Nat) : Option Nat :=
  let e := p / 2 * 2
  if bitOf (s.ethCfg e) 25 ∧ s.portOn e ∧ s.portOn (e + 1) then some (if p = e then e + 1 else e) else none

/-- Forwarding on a through pair (R141, R347, R354, R355); a full forward queue drops the newest frame. -/
def forwardFrame (p : Nat) (f : RxFrame) (s : State) : State :=
  match partner s p with
  | none => s
  | some q =>
    let ptp := match f.body with | .ptp _ => true | _ => false
    let ev := match f.body with | .ptp e => e | _ => false
    if ptp || (f.yl && (!f.own || f.group)) then
      let queued := ((s.port q).be.filter (fun x => match x.kind with | .forward => true | _ => false)).map (·.octets)
      let n := f.bytes.length + 4
      if 65536 < queued.sum + n then (s.bump (.eth q 14)).raiseCause (.ethTx q) 6
      else
        let x : TxFrame := { kind := .forward, body := f.bytes, octets := n, stream := !(ev && decide (f.etype = 0x86DD#16))
                             ingress := if ev then some (s.rxInstant p) else none }
        if (s.port q).link then ((enqueueBe q x s).bump (.eth q 13)).takeFree else s
    else s

/-- An address is one of the port's own (R333). -/
def ownAddress (r : PortRegs) (ip : BitVec 128) : Bool :=
  decide (ip ≠ 0) && (decide (ip = ip4 r.ipv4.toNat) || decide (ip = r.ipv6))

/-- A frame that reaches its consumer (R334 to R336). A consumer's own handling of the frame is a command of its
own (log 25). -/
def classify (p : Nat) (f : RxFrame) (s : State) : State :=
  match f.body with
  | .pause q => pauseFrame p q s
  | .control => s
  | .lldp tw =>
    match tw with
    | none => s
    | some us =>
      let r := s.port p
      let s1 := s.setPort p (reagree (s.portRegs p) { r with partner := BitVec.ofNat 16 us, tlvHeard := true })
      if us * 1000 ≤ fld (s.portRegs p).eee 15 0 ∨ ¬ bitOf (s.ethCfg p) 27 then s1 else s1.raiseCause (.ethTx p) 5
  | .ptp _ =>
    if fld s.cfg.time.ptp 23 20 = p ∧ bitOf s.cfg.time.ptp 25 ∧ ¬ f.csumOk then s.bump (.eth p 8) else s
  | .udp g n =>
    let input := s.cfg.comp.inputs.any (fun e => e.2.enable && decide (e.2.port = p) && decide (e.2.group = g)
      && decide (e.2.udp.toNat = n))
    if input ∨ n = fld s.cfg.flow.set.ylCfg 15 0 then (if f.csumOk then s else s.bump (.eth p 8))
    else toFilter p f s
  | .resolve ip =>
    let r := s.port p
    s.setPort p { r with resolved := if ip ∈ r.resolved then r.resolved else r.resolved ++ [ip] }
  | .ask ip => if ownAddress (s.portRegs p) ip then enqueueBe p { kind := .answer ip } s else s
  | .query => (s.port p).groups.foldl (fun s g => enqueueBe p { kind := .report g } s) s
  | .sacn => toFilter p f s
  | .other => toFilter p f s

/-- ETH_FRAME_RX (R331, R334, R341, R354, R357). -/
def ethFrameRxEffect (p : Nat) (f : RxFrame) (s : State) : State :=
  if !s.portOn p || !(s.port p).link then s
  else if !f.fcsOk then (s.bump (.eth p 5)).raiseCause (.ethRx p) 1
  else if 9216 < f.bytes.length + 4 then (s.bump (.eth p 6)).raiseCause (.ethRx p) 2
  else match f.staging with
  | some e => (s.raiseCause (.ethRx p) 3).eccData e
  | none =>
    let s1 := (s.bump (.eth p 3)).bumpBy (.eth p 1) (f.bytes.length + 4)
    classify p f (forwardFrame p f s1)

/-- RX_DESC_POLL: a queue that waits for OWN reads the descriptor at HEAD again; `own` is what it finds (R339). -/
def rxDescPollEffect (p q : Nat) (own : Bool) (s : State) : State :=
  let x := tget (s.port p).rxq q {}
  if x.waitOwn ∧ ¬ x.restart ∧ x.pollAt + 1000 * fld (rxqCfg s.cfg.eth p q) 29 20 ≤ s.elt then
    setRxq p q { x with waitOwn := !own, pollAt := s.elt } s
  else s

/-! ## Commands -/

/-- ETH_CFG, ETH_EEE, ETH_CT, ETH_THRU and ETH_SACN_MON of a port (R330, R331, R360, R361). -/
def portRegsOk (p : Nat) (r : PortRegs) : Bool :=
  let mtu := fld r.cfg 13 0
  !(bitOf r.cfg 29 && !bitOf r.cfg 30)
    && decide (1280 ≤ mtu) && decide (mtu ≤ 9198) && !(bitOf r.cfg 25 && decide (p % 2 = 1))
    && decide (100 ≤ fld r.eee 31 16) && decide (64 ≤ fld r.ct 13 0)
    && decide (fld r.ct 13 0 ≤ 9216) && decide (fld r.ct 13 0 % 64 = 0) 
    && decide (fld r.sacn 31 16 ≤ 512) && decide (r.pfx ≤ 32)

/-- The images of a port with their reserved bits clear (R13, R361). -/
def PortRegs.masked (r : PortRegs) : PortRegs :=
  { r with cfg := r.cfg &&& 0xFE003FFF#32, ct := r.ct &&& 0x3FFF#32, thru := r.thru &&& 0xFFFF#32 }

/-- The MTU leaves room for the tag of the port's tagged flows (R331). -/
def mtuCross (c : Cfg) : Except Status Unit :=
  need (c.flow.flows.all (fun e => !(e.2.enable && e.2.onEth && e.2.vlan) || decide (ipMtu c e.2.port + 22 ≤ 9216)))
    .badParam

/-- The rules of the ports' registers on a whole configuration (R360; R537). -/
def ethPortRules (t : State) (c : Cfg) : Except Status Unit := do
  need (c.eth.ports.all (fun e => decide (e.1 < t.nEth))) .variantUnsupported
  need (c.eth.ports.all (fun e => portRegsOk e.1 e.2)) .badParam
  cutThroughCross c
  mtuCross c

/-- The check of a command that names port p: the variant has it (R4, R360). -/
def ethPortHere (p : Nat) (_ : Req) (t : State) : Except Status Unit := need (decide (p < t.nEth)) .variantUnsupported

/-- ETH_PORT_SET. -/
def ethPortSetEffect (m p : Nat) (r : PortRegs) (s : State) : State :=
  stage m 0x0440#16 [0x04400000 + p] s (fun _ _ c => do
    need (portRegsOk p r) .badParam
    let c' := { c with eth := { c.eth with ports := tset c.eth.ports p r.masked } }
    cutThroughCross c'
    mtuCross c'
    pure c') (ethPortHere p)

/-- The transport of a mailbox is PCIe. -/
def State.onPcie (s : State) (m : Nat) : Bool := decide (s.mbxTransport m = some .pcie)

/-- An ETH_RXQ_CFG image (R338, R339, R361). -/
def rxqOk (w : Word) : Bool :=
  let t := fld w 31 30
  decide (t ≠ 3) && decide (1 ≤ fld w 29 20) && decide (fld w 29 20 ≤ 1000)
    && (if t = 0 then decide (fld w 3 0 = 0) else decide (6 ≤ fld w 3 0) && decide (fld w 3 0 ≤ 12))

/-- The filters and queues of a port. -/
def filtersOk (r : FilterRegs) : Bool :=
  decide (r.filters.length = 16) && decide (r.rxq.length = 8) && r.rxq.all rxqOk

/-- The images of the filters and queues with their reserved bits clear (R13, R361). -/
def FilterRegs.masked (r : FilterRegs) : FilterRegs :=
  { filters := r.filters.map (fun e => (e.1 &&& 0xFE000FFF#32, e.2 &&& 0xFFFF#32))
    rxq := r.rxq.map (· &&& 0xFFF0000F#32) }

/-- The rules of the filters on a whole configuration (R360; R537). Whether a host ring's transport is PCIe concerns the
session that stages it. -/
def filterRules (t : State) (c : Cfg) : Except Status Unit := do
  need (c.eth.filters.all (fun e => decide (e.1 < t.nEth))) .variantUnsupported
  need (c.eth.filters.all (fun e => filtersOk e.2)) .badParam

/-- ETH_FILTER_SET. -/
def ethFilterSetEffect (m p : Nat) (r : FilterRegs) (s : State) : State :=
  stage m 0x0441#16 [0x04410000 + p] s (fun _ t c => do
    need (filtersOk r) .badParam
    need (t.onPcie m || r.rxq.all (fun w => decide (fld w 31 30 ≠ 1))) .badParam
    pure { c with eth := { c.eth with filters := tset c.eth.filters p r.masked } }) (ethPortHere p)

/-- The rules of the ring bases on a whole configuration (R338, R360; R537). -/
def ringRules (t : State) (c : Cfg) : Except Status Unit := do
  need (c.eth.bases.all (fun e => decide (e.1 / 8 < t.nEth))) .variantUnsupported
  need (c.eth.bases.all (fun e => decide (e.2.toNat % 64 = 0))) .badParam

/-- ETH_RING_SET (R338): the base is aligned to 64 bytes. -/
def ethRingSetEffect (m p q : Nat) (base : DWord) (s : State) : State :=
  stage m 0x0442#16 [0x04420000 + p] s (fun _ t c => do
    need (decide (q < 8) && decide (base.toNat % 64 = 0)) .badParam
    need (t.onPcie m || decide (fld (rxqCfg c.eth p q) 31 30 ≠ 1)) .badParam
    pure { c with eth := { c.eth with bases := tset c.eth.bases (8 * p + q) base } }) (ethPortHere p)

/-- ETH_RING_RESTART: host rings are fetched again from HEAD 0 (R358). -/
def ethRingRestartEffect (m p : Nat) (mask : Byte) (s : State) : State :=
  cmdNow m 0x0443#16 s (fun _ t =>
    if t.nEth ≤ p then (reply .variantUnsupported, t)
    else
      (reply .ok, (List.range 8).foldl (fun t q =>
        if bitOf mask q then setRxq p q { tget (t.port p).rxq q {} with restart := false } t else t) t))

/-- ETH_TX: the frame joins the management queue and the command completes when it has left (R360). `frame` is the
payload's; descriptors bring it in its place. -/
def ethTxEffect (m p : Nat) (stamp : Bool) (tag : Half) (frame : List Byte) (s : State) : State :=
  cmd m 0x0444#16 s (fun _ t =>
    let b := match (t.box m).dma with | some d => d.obj.whole.getD [] | none => frame
    if t.nEth ≤ p then (some (reply .variantUnsupported), t)
    else if b.length < 60 ∨ 9212 < b.length ∨ ((t.box m).dma.isNone ∧ 4000 < b.length) then (some (reply .badParam), t)
    else if !(t.port p).link then (some (reply .badState), t)
    else
      let x : TxFrame := { kind := .ethTx m, body := b, octets := b.length + 4
                           tag := if stamp then some tag else none, stream := (t.box m).dma.isSome }
      (none, enqueueBe p x t))

/-- A stored frame as ETH_RX_READ returns it: the descriptor of R338 and the bytes (log 9). -/
def rxStoredBytes (x : RxStored) : List Byte :=
  le 8 0 ++ le 2 (min 2048 x.bytes.length) ++ le 2 (2 + 4 + (if x.tagged then 8 else 0)) ++ le 4 x.bytes.length
    ++ le 4 x.lt.toNat ++ le 2 x.frac.toNat ++ le 1 x.filter ++ le 1 0 ++ le 4 x.seq.toNat ++ le 4 0 ++ x.bytes

/-- ETH_RX_READ (R360). -/
def ethRxReadEffect (m p q count : Nat) (s : State) : State :=
  cmdNow m 0x0445#16 s (fun _ t =>
    if t.nEth ≤ p then (reply .variantUnsupported, t)
    else if 8 ≤ q ∨ count < 1 ∨ 16 < count then (reply .badParam, t)
    else if fld (rxqCfg t.cfg.eth p q) 31 30 ≠ 2 then (reply .badState, t)
    else
      let x := tget (t.port p).rxq q {}
      (okWith ((x.stored.take count).flatMap rxStoredBytes),
       setRxq p q { x with stored := x.stored.drop count } t))

/-- ETH_STATUS of port p (R361). -/
def ethStatusWord (s : State) (p : Nat) : Nat :=
  let r := s.port p
  (if r.link then 2 ^ 31 else 0) + (if r.lpi then 2 ^ 30 else 0) + (if r.agreed then 2 ^ 29 else 0)
    + (if r.paused then 2 ^ 28 else 0) + (if r.link && bitOf (s.ethCfg p) 29 then 2 ^ 27 else 0) + r.ctThr

/-- ETH_STATUS: per port of the mask, three words. -/
def ethStatusEffect (m : Nat) (mask : Half) (s : State) : State :=
  cmdRead m 0x0446#16 s (fun _ t =>
    if 2 ^ t.nEth ≤ mask.toNat then reply .variantUnsupported else okWith (((List.range t.nEth).filter (fun p => bitOf mask p)).flatMap (fun p =>
      let r := t.port p
      le 4 (ethStatusWord t p) ++ le 4 (r.tsq.length * 65536 + r.lostTag.toNat) ++ le 4 r.partner.toNat)))

/-- ETH_TX_EVT_CAUSE_READ (R11, R361). -/
def ethTxEvtCauseReadEffect (q : Path) (p : Nat) (s : State) : State :=
  if p < s.nEth then (s.returns q (s.cause (.ethTx p))).clearCause (.ethTx p) 0xFFFFFFFF#32 else s

/-- ETH_RX_EVT_CAUSE_READ (R11, R361). -/
def ethRxEvtCauseReadEffect (q : Path) (p : Nat) (s : State) : State :=
  if p < s.nEth then (s.returns q (s.cause (.ethRx p))).clearCause (.ethRx p) 0xFFFFFFFF#32 else s

/-- ETH_CNT_CTRL.SNAPSHOT: the port's counters, flow counters included (R328, R361). -/
def ethSnapshotEffect (p : Nat) (s : State) : State := s.captureKeys (0x600000 + 64 * p) (0x600040 + 64 * p)

/-- ETH_CNT_CTRL.CLEAR. -/
def ethClearEffect (p : Nat) (s : State) : State := s.clearKeys (0x600000 + 64 * p) (0x600040 + 64 * p)

/-! ## Commits and resets -/

/-- The groups a port needs (R336): enabled inputs and the monitored universes. -/
def neededGroups (c : Cfg) (p : Nat) : List (BitVec 128) :=
  let mon := (tget c.eth.ports p {}).sacn
  ((c.comp.inputs.filter (fun e => e.2.enable && decide (e.2.port = p))).map (·.2.group)
    ++ (List.range (fld mon 31 16)).map (fun k => ip4 (0xEFFF0000 + fld mon 15 0 + k))).dedup

/-- What a commit does to the ports at its effective boundary: a changed ETH_CT sets the current threshold
(R346), a changed ring starts anew (R342), groups are reported (R336), LLDP is due (R350). -/
def commitEth (old : Cfg) (s : State) : State :=
  (List.range s.nEth).foldl (fun s p =>
    let r := s.port p
    let new := s.cfg
    let thr := if (tget old.eth.ports p {}).ct ≠ (tget new.eth.ports p {}).ct
      then fld (tget new.eth.ports p {}).ct 13 0 else r.ctThr
    let rxq := (List.range 8).foldl (fun t q =>
      if rxqCfg old.eth p q ≠ rxqCfg new.eth p q ∨ tget old.eth.bases (8 * p + q) 0 ≠ tget new.eth.bases (8 * p + q) 0
      then tdel t q else t) r.rxq
    let gs := neededGroups new p
    let s1 := s.setPort p (reagree (tget new.eth.ports p {}) { r with ctThr := thr, rxq := rxq, groups := gs, lldpAt := none })
    gs.foldl (fun s g => enqueueBe p { kind := .report g } s) s1) s

/-- A PCIe reset stops the fetches from host rings (R358). -/
def stopHostRings (s : State) : State :=
  (List.range s.nEth).foldl (fun s p => (List.range 8).foldl (fun s q =>
    if fld (rxqCfg s.cfg.eth p q) 31 30 = 1 then
      setRxq p q { tget (s.port p).rxq q {} with head := 0, restart := true } s else s) s) s

-- The meanings of this family's rows: the effect, with the queue and the identity kept.

/-- ETH_FRAME_TX_START (R298). -/
def execEthFrameTxStart (p : Nat) (s : State) : Host.Outcome State Fault Refusal :=
  commit s (ethFrameTxStartEffect p s)
/-- ETH_FRAME_TX_DONE (R298). -/
def execEthFrameTxDone (p : Nat) (s : State) : Host.Outcome State Fault Refusal :=
  commit s (ethFrameTxDoneEffect p s)
/-- ETH_LINK_UP (R333). -/
def execEthLinkUp (p : Nat) (s : State) : Host.Outcome State Fault Refusal :=
  commit s (ethLinkUpEffect p s)
/-- ETH_LINK_DOWN (R333). -/
def execEthLinkDown (p : Nat) (s : State) : Host.Outcome State Fault Refusal :=
  commit s (ethLinkDownEffect p s)
/-- ETH_FRAME_RX (R334). -/
def execEthFrameRx (p : Nat) (f : RxFrame) (s : State) : Host.Outcome State Fault Refusal :=
  commit s (ethFrameRxEffect p f s)
/-- RX_DESC_POLL (R339). -/
def execRxDescPoll (p q : Nat) (own : Bool) (s : State) : Host.Outcome State Fault Refusal :=
  commit s (rxDescPollEffect p q own s)
/-- ARP_REFRESH (R333). -/
def execArpRefresh (p : Nat) (s : State) : Host.Outcome State Fault Refusal :=
  commit s (arpRefreshEffect p s)
/-- PAUSE_EXPIRE (R348). -/
def execPauseExpire (p : Nat) (s : State) : Host.Outcome State Fault Refusal :=
  commit s (pauseExpireEffect p s)
/-- CT_UNDERRUN (R346). -/
def execCtUnderrun (p : Nat) (s : State) : Host.Outcome State Fault Refusal :=
  commit s (ctUnderrunEffect p s)
/-- CT_THRESHOLD_DECAY (R346). -/
def execCtThresholdDecay (p : Nat) (s : State) : Host.Outcome State Fault Refusal :=
  commit s (ctThresholdDecayEffect p s)
/-- LPI_ENTER (R351). -/
def execLpiEnter (p : Nat) (s : State) : Host.Outcome State Fault Refusal :=
  commit s (lpiEnterEffect p s)
/-- LPI_GATE_WAKE (R351). -/
def execLpiGateWake (p : Nat) (s : State) : Host.Outcome State Fault Refusal :=
  commit s (lpiGateWakeEffect p s)
/-- LLDP_TX (R350). -/
def execLldpTx (p : Nat) (s : State) : Host.Outcome State Fault Refusal :=
  commit s (lldpTxEffect p s)
/-- TSQ_DRAIN (R352). -/
def execTsqDrain (p : Nat) (s : State) : Host.Outcome State Fault Refusal :=
  commit s (tsqDrainEffect p s)
/-- ETH_PORT_SET (R360). -/
def execEthPortSet (m p : Nat) (r : PortRegs) (s : State) : Host.Outcome State Fault Refusal :=
  commit s (ethPortSetEffect m p r s)
/-- ETH_FILTER_SET (R360). -/
def execEthFilterSet (m p : Nat) (r : FilterRegs) (s : State) : Host.Outcome State Fault Refusal :=
  commit s (ethFilterSetEffect m p r s)
/-- ETH_RING_SET (R360). -/
def execEthRingSet (m p q : Nat) (base : DWord) (s : State) : Host.Outcome State Fault Refusal :=
  commit s (ethRingSetEffect m p q base s)
/-- ETH_RING_RESTART (R358). -/
def execEthRingRestart (m p : Nat) (mask : Byte) (s : State) : Host.Outcome State Fault Refusal :=
  commit s (ethRingRestartEffect m p mask s)
/-- ETH_TX (R360). -/
def execEthTx (m p : Nat) (stamp : Bool) (tag : Half) (frame : List Byte) (s : State) :
    Host.Outcome State Fault Refusal :=
  commit s (ethTxEffect m p stamp tag frame s)
/-- ETH_RX_READ (R360). -/
def execEthRxRead (m p q count : Nat) (s : State) : Host.Outcome State Fault Refusal :=
  commit s (ethRxReadEffect m p q count s)
/-- ETH_STATUS (R360). -/
def execEthStatus (m : Nat) (mask : Half) (s : State) : Host.Outcome State Fault Refusal :=
  commit s (ethStatusEffect m mask s)
/-- ETH_TX_EVT_CAUSE_READ (R361). -/
def execEthTxEvtCauseRead (q : Path) (p : Nat) (s : State) : Host.Outcome State Fault Refusal :=
  commit s (ethTxEvtCauseReadEffect q p s)
/-- ETH_RX_EVT_CAUSE_READ (R361). -/
def execEthRxEvtCauseRead (q : Path) (p : Nat) (s : State) : Host.Outcome State Fault Refusal :=
  commit s (ethRxEvtCauseReadEffect q p s)
/-- ETH_SNAPSHOT (R361). -/
def execEthSnapshot (p : Nat) (s : State) : Host.Outcome State Fault Refusal :=
  commit s (ethSnapshotEffect p s)
/-- ETH_CLEAR (R361). -/
def execEthClear (p : Nat) (s : State) : Host.Outcome State Fault Refusal :=
  commit s (ethClearEffect p s)

end Sys2Proof.Machine
end

