-- ==== Sys2Proof/Machine/Line.lean ====
section
/-! DEFINITION. Machine/Line.lean: the line ports (chapter 13): drive enable, frames and packets, RDM, the
Manger, trigger output, shorts, and their commands. -/
namespace Sys2Proof.Machine
open Sys2Proof

/-! ## Ports -/

/-- Line port n. -/
def State.lp (s : State) (n : Nat) : LineSt := tget s.line n {}
/-- Line port n put in place. -/
def State.setLp (s : State) (n : Nat) (r : LineSt) : State := { s with line := tset s.line n r }

/-- LP_MODE.ENABLE. -/
def LineRegs.on (r : LineRegs) : Bool := bitOf r.mode 31
/-- LP_MODE.MODE. -/
def LineRegs.kind (r : LineRegs) : Nat := fld r.mode 30 28
/-- LP_MODE.ENERGY_LIMITED. -/
def LineRegs.limited (r : LineRegs) : Bool := bitOf r.mode 25

/-- The conditions of the drive enable (R363). -/
def driveCond (s : State) (n : Nat) : Bool :=
  (s.lp n).regs.on && s.halter && !(s.lp n).shortOff && s.glb.clk.rootLock && !s.glb.faulted && s.brd.trip.isNone

/-- The flow of a line port (R293: at most one). -/
def lineFlow (c : Cfg) (n : Nat) : Option (Nat × FlowRec) :=
  c.flow.flows.find? (fun e => e.2.enable && e.2.onLine && decide (e.2.port = n))

/-- ns of a number of 2.5 ns steps, rounded up. -/
def stepsNs (k : Nat) : Nat := ceilDiv (5 * k) 2

/-- The bit time in steps (R372, R373). -/
def bitSteps (r : LineRegs) : Nat :=
  if r.kind = 1 then fld r.clk 25 16 else fld r.sym0 27 16 + fld r.sym0 11 0

/-- The bits of a pixel-line frame of a flow (R371). -/
def frameBits (r : LineRegs) (f : FlowRec) : Nat :=
  fld r.frame 12 0 + f.count * (fld r.clk 9 5 + f.emitters * f.bits + fld r.clk 4 0) + fld r.frame 28 16

/-- t_bits in ns (R371). -/
def frameNs (r : LineRegs) (f : FlowRec) : Nat := stepsNs (bitSteps r * frameBits r f)

/-- The packet time of a DMX packet of S slots in ns (R366): the mark after the last slot is not part of it. -/
def packetNs (r : LineRegs) (slots : Nat) : Nat :=
  1000 * (fld r.dmx 31 16 + fld r.dmx 15 8 + 44 + slots * (44 + fld r.dmx 7 0))

/-- n bits of a number, most significant first. -/
def bitsOf : Nat → Nat → List Bool
  | 0, _ => []
  | n + 1, v => decide (v / 2 ^ n % 2 = 1) :: bitsOf n v

/-- n bits of a pattern repeated from bit 31 (R371). -/
def patBits (pat : Word) (n : Nat) : List Bool := (List.range n).map (fun k => bitOf pat (31 - k % 32))

/-- The bits of a pixel-line frame (R371). -/
def lineBits (r : LineRegs) (f : FlowRec) (payload : List Byte) : List Bool :=
  let all := payload.flatMap (fun b => bitsOf 8 b.toNat)
  let w := f.emitters * f.bits
  patBits r.headPat (fld r.frame 12 0)
    ++ (List.range f.count).flatMap (fun i =>
        bitsOf (fld r.clk 9 5) (fld r.wordVal 31 16) ++ (all.drop (i * w)).take w
          ++ bitsOf (fld r.clk 4 0) (fld r.wordVal 15 0))
    ++ patBits r.tailPat (fld r.frame 28 16)

/-- What a port that drives puts on the wire. -/
def putLine (n : Nat) (f : FlowRec) (t : LineTx) (s : State) : State :=
  if !(s.lp n).drive then s
  else if f.kind = 2 then s.emit (.dmxPacket n t.content (0#8 :: t.payload))
  else s.emit (.lineFrame n t.content (lineBits (s.lp n).regs f t.payload))

/-- The bytes of a frame with its failing words sent as zeros (R387). -/
def zeroWords (bad : List LineBad) (p : List Byte) : List Byte :=
  (List.range p.length).map (fun i => if bad.any (fun b => b.word = i / 8) then 0 else (p[i]?).getD 0)

/-- The frame that a port sends again where none is packed in time: the previous one (R367, R374), or, before any, what
its frame buffer holds (log 50). -/
def lastFrame (s : State) (n content : Nat) (f : FlowRec) : List Byte :=
  let r := s.lp n
  if r.last.isEmpty then (List.range (valueLen (s.cfgFor content).flow f)).map (Config.priorByte n) else r.last

/-- A port whose drivers were off tries again, and has its link again (R379). -/
def retryShort (n : Nat) (s : State) : State :=
  if (s.lp n).shortOff then (s.setLp n { s.lp n with shortOff := false }).noteCond else s

/-- A frame or packet starts: the packed one of content n, or, where it is not ready, the previous one again,
counted and raised (R115, R367, R374); a cut's frame while the cut holds the port (R123, R375). `errs` are the
uncorrectable words that the ports meet (R387). -/
def startLine (n content : Nat) (f : FlowRec) (dur : Nat) (errs : List LineBad) (s0 : State) : State :=
  let bad := errs.filter (fun b => b.port = n)
  let s := retryShort n (bad.foldl (fun s b => (s.raiseCause (.lp n) 6).eccData b.hit) s0)
  let r := s.lp n
  match (r.cutShown.filter (fun c => s.cutShows c content)).bind (fun c => (tfind? r.cuts c).map (fun p => (c, p))) with
  | some (c, p) =>
    let t : LineTx := { content := content, payload := p, cut := some c, start := s.elt, dur := dur }
    (putLine n f { t with payload := zeroWords bad p } (s.setLp n { r with tx := some t, idle := false })).bump (.lp n 0)
  | none =>
    let ready := (tfind? r.next content).isSome
    let p := tget r.next content (lastFrame s n content f)
    let t : LineTx := { content := content, payload := p, again := !ready, start := s.elt, dur := dur }
    let s1 := (putLine n f { t with payload := zeroWords bad p } (s.setLp n { r with
      tx := some t, last := p, idle := false
      next := r.next.filter (fun e => content < e.1) })).bump (.lp n 0)
    if ready then s1 else (s1.bump (.lp n 1)).raiseCause (.lp n) 0

/-- A port may start its next frame: nothing is on the wire, or a cut's frame whose latch gap has ended (R122, R123). -/
def LineSt.clear (r : LineSt) (now : Nat) : Bool :=
  match r.tx with
  | none => true
  | some t => t.cut.isSome && decide (t.start + t.dur + stepsNs (fld r.regs.gap 19 0) ≤ now)

/-- LINE_FRAME_START: a pixel-line port starts the frame of the content in transmission at PT(N) - t_bits
(R374). -/
def lineFrameStartEffect (n : Nat) (errs : List LineBad) (s : State) : State :=
  let r := s.lp n
  match lineFlow (s.cfgFor s.txContent) n, s.nextPt with
  | some (_, f), some t =>
    if n < s.nLine ∧ r.regs.on ∧ (r.regs.kind = 1 ∨ r.regs.kind = 2) ∧ f.kind = 3 ∧ r.clear s.elt
        ∧ t ≤ s.elt + frameNs r.regs f ∧ s.elt < t then
      startLine n s.txContent f (frameNs r.regs f) errs s
    else s
  | _, _ => s

/-- DMX_PACKET_END: the packet's last slot ends and the idle span begins (R366, R368). -/
def dmxPacketEndEffect (n : Nat) (s : State) : State :=
  let r := s.lp n
  match r.tx with
  | some t => if r.regs.kind = 0 ∧ t.start + t.dur ≤ s.elt then s.setLp n { r with tx := none, idle := true } else s
  | none => s

/-! ## RDM -/

/-- The next break of a DMX port: the PT of the next content its flow's phase selects; none without a flow. -/
def nextBreak (s : State) (n : Nat) : Option Nat :=
  match lineFlow s.cfg n with
  | none => none
  | some (_, f) =>
    let k := s.txContent
    let d := max 1 f.divisor
    let j := k + (f.phase + d - k % d) % d
    some ((s.cfgFor j).ym.ptAt j)

/-- A broadcast destination (ANSI E1.20). -/
def RdmReq.broadcast (q : RdmReq) : Bool := decide (fld q.dest 31 0 = 0xFFFFFFFF)

/-- Bytes of a request (ANSI E1.20): 26 and the parameter data. -/
def RdmAsk.bytes : RdmAsk → Nat
  | .user q => 26 + q.data.length
  | .unmute => 26
  | .branch _ _ => 38
  | .mute _ => 26

/-- A request that draws no response. -/
def RdmAsk.silent : RdmAsk → Bool
  | .user q => q.broadcast
  | .unmute => true
  | _ => false

/-- t_req in us (R368). -/
def reqUs (r : LineRegs) (a : RdmAsk) : Nat := fld r.rdmT 8 0 + fld r.dmx 15 8 + 44 * a.bytes

/-- t_wait in us (R368). -/
def waitUs (r : LineRegs) : RdmAsk → Nat
  | .branch _ _ => fld r.rdmT 31 16
  | _ => fld r.rdm 15 0

/-- W in us (R368). -/
def windowUs (r : LineRegs) (a : RdmAsk) : Nat :=
  let rmax := match a with | .branch _ _ => 24 | .user q => if q.rmax = 0 then 257 else q.rmax | _ => 257
  if a.silent then reqUs r a else reqUs r a + waitUs r a + (440 + 44 * rmax)

/-- What a discovery asks next (R370). -/
def Disc.ask (d : Disc) : Option RdmAsk :=
  if d.unmute then some .unmute
  else match d.toMute with
    | some u => some (.mute u)
    | none => match d.ranges with
      | (lo, hi) :: _ => some (.branch lo hi)
      | [] => none

/-- The discovery that the head of a port's queue asks for, as it stands or as it begins (R370). -/
def LineSt.discFor (r : LineSt) (x : RdmItem) : Disc :=
  r.disc.getD { unmute := x.full, ranges := [(0, 0xFFFFFFFFFFFE)] }

/-- What the head of a port's queue asks. -/
def headAsk (r : LineSt) : Option (Nat × RdmAsk) :=
  match r.queue with
  | [] => none
  | x :: _ => match x.req with
    | some q => some (x.mailbox, .user q)
    | none => (r.discFor x).ask.map (fun a => (x.mailbox, a))

/-- The port with the head's discovery begun: FULL clears the table and unmutes first (R370). -/
def LineSt.beginDisc (r : LineSt) : LineSt :=
  match r.queue, r.disc with
  | x :: _, none =>
    if x.req.isNone then { r with disc := some (r.discFor x), uids := if x.full then [] else r.uids } else r
  | _, _ => r

/-- A request of LINE_RDM ends with a result and response bytes (R369). -/
def endRdm (n m res : Nat) (bytes : List Byte) (s : State) : State :=
  let r := s.lp n
  let s1 := s.setLp n { r with queue := r.queue.filter (fun x => x.mailbox ≠ m) }
  let s2 := if res = 1 then s1.bump (.lp n 3) else s1
  endWait m 0x0461#16 s2 (okWith (le 4 res ++ bytes))

/-- A discovery ends with a result and the number of UIDs in the table (R370). -/
def endDisc (n m res : Nat) (s : State) : State :=
  let r := s.lp n
  let s1 := s.setLp n { r with queue := r.queue.filter (fun x => x.mailbox ≠ m), disc := none, txn := none }
  endWait m 0x0462#16 s1 (okWith (le 4 res ++ le 4 r.uids.length))

/-- An abort is sampled between transactions: the UIDs found so far are kept (R370, R47). -/
def dropDisc (n m : Nat) (s : State) : State :=
  let r := s.lp n
  let s1 := s.setLp n { r with queue := r.queue.filter (fun x => x.mailbox ≠ m), disc := none, txn := none }
  endWait m 0x0462#16 (s1.setBox m { s1.box m with abortReq := false, abortRes := 1 }) (reply .aborted)

/-- A discovery goes on after a transaction, or ends once nothing is left to search. -/
def stepDisc (n m : Nat) (d : Disc) (s : State) : State :=
  let s1 := s.setLp n { s.lp n with disc := some d, txn := none }
  if (s.box m).abortReq then dropDisc n m s1
  else if d.ask.isNone then endDisc n m 0 s1 else s1

/-- A range split in two (R370); one UID alone is muted instead. -/
def splitRange (d : Disc) (lo hi : Nat) : Disc :=
  let rest := d.ranges.drop 1
  if lo = hi then { d with ranges := rest, toMute := some lo }
  else { d with ranges := (lo, (lo + hi) / 2) :: ((lo + hi) / 2 + 1, hi) :: rest }

/-- RDM_TXN_START: the head request starts when the idle span leaves at least W (R368, R369); a request that
draws no response ends when it has been sent. -/
def rdmTxnStartEffect (n : Nat) (s : State) : State :=
  let r := s.lp n
  match headAsk r with
  | none => s
  | some (m, a) =>
    let fits : Bool := match nextBreak s n with | some t => decide (s.elt + 1000 * windowUs r.regs a ≤ t) | none => true
    if n < s.nLine ∧ r.drive ∧ r.regs.kind = 0 ∧ r.tx = none ∧ r.txn = none ∧ fits then
      let num := r.txnNum
      let dl := s.elt + 1000 * (reqUs r.regs a + waitUs r.regs a)
      let r1 : LineSt := { r.beginDisc with
        txnNum := num + 1, txn := some { mailbox := m, num := num, ask := a, deadline := dl } }
      let s1 := ((s.setLp n r1).bump (.lp n 2)).emit (.rdm n num a)
      if a.silent then
        match a with
        | .user _ => endRdm n m 0 [] (s1.setLp n { r1 with txn := none })
        | _ => (match r1.disc with
          | some d => stepDisc n m { d with unmute := false } s1
          | none => s1)
      else s1
    else s

/-- The bytes in use of the Manger (R380). -/
def LineSt.inUse (r : LineSt) : Nat := (r.write - r.read).toNat

/-- A pointer rounded up to a multiple of 32. -/
def align32 (p : BitVec 13) : BitVec 13 := BitVec.ofNat 13 ((p.toNat + 31) / 32 * 32)

/-- A whole response, whose break began at LT `brk`, is committed to the Manger, or, where it does not fit, rewound and dropped (R380 to R382);
the flag says which. -/
def mangerCommit (n : Nat) (brk : Word) (kind : Byte) (num : Byte) (bytes : List Byte) (s : State) : Bool × State :=
  let r := s.lp n
  let pkt := le 4 brk.toNat ++ le 2 bytes.length ++ [kind, num] ++ bytes
  if 4096 < (r.commit - r.read).toNat + pkt.length then
    (false, ((s.setLp n { r with write := r.commit }).bump (.lp n 5)).raiseCause (.lp n) 2)
  else
    let put := ((List.range pkt.length).zip pkt).foldl
      (fun m e => mset m ((r.commit.toNat + e.1) % 4096) e.2) r.mem
    let w := align32 (r.commit + BitVec.ofNat 13 pkt.length)
    (true, s.setLp n { r with mem := put, write := w, commit := w })

/-- The UID of a discovery response (ANSI E1.20): after the separator 0xAA each byte is sent twice, masked. -/
def discUid (bytes : List Byte) : Nat :=
  let e := (bytes.dropWhile (· ≠ 0xAA#8)).drop 1
  unbe ((List.range 6).map (fun k => (e[2 * k]?).getD 0 &&& (e[2 * k + 1]?).getD 0))

/-- RDM_RESPONSE: a response, whose break began at LT `brk`, arrives whole; `good` says whether its checksum and framing
are (R369, R380, R382). -/
def rdmResponseEffect (n : Nat) (brk : Word) (bytes : List Byte) (good : Bool) (s : State) : State :=
  let r := s.lp n
  match r.txn with
  | none => s
  | some t =>
    if !r.drive || decide (257 < bytes.length) || bytes.isEmpty then s
    else
      let kind : Byte := match t.ask with | .branch _ _ => 2 | _ => 1
      let (kept, s1) := if good then mangerCommit n brk kind t.num bytes s
        else (false, (s.bump (.lp n 4)).raiseCause (.lp n) 1)
      match t.ask with
      | .user _ =>
        let s2 := s1.setLp n { s1.lp n with txn := none }
        if kept then s2.setLp n { s2.lp n with
          queue := (s2.lp n).queue.filter (fun x => x.mailbox ≠ t.mailbox)
          owed := (s2.lp n).owed ++ [(t.num, t.mailbox)] }
        else if good then endRdm n t.mailbox (Config.freeNat s2.freeCtr % 7) [] s2.takeFree
        else endRdm n t.mailbox 2 [] s2
      | .branch lo hi =>
        (match r.disc with
        | some d =>
          if good then stepDisc n t.mailbox { d with toMute := some (discUid bytes) } s1
          else stepDisc n t.mailbox (splitRange d lo hi) s1
        | none => s1)
      | .mute u =>
        (match r.disc with
        | some d =>
          let d' := { d with toMute := none }
          if !good || decide (u ∈ r.uids) then stepDisc n t.mailbox d' s1
          else if 512 ≤ r.uids.length then endDisc n t.mailbox 6 s1
          else stepDisc n t.mailbox d' (s1.setLp n { s1.lp n with uids := r.uids ++ [u] })
        | none => s1)
      | .unmute => s1

/-- RDM_RESPONSE_TIMEOUT: no response's break began within t_wait (R369). -/
def rdmResponseTimeoutEffect (n : Nat) (s : State) : State :=
  let r := s.lp n
  match r.txn with
  | none => s
  | some t =>
    if s.elt < t.deadline then s
    else match t.ask, r.disc with
      | .branch _ _, some d => stepDisc n t.mailbox { d with ranges := d.ranges.drop 1 } (s.bump (.lp n 3))
      | .mute _, some d => stepDisc n t.mailbox { d with toMute := none } (s.bump (.lp n 3))
      | _, _ => endRdm n t.mailbox 1 [] (s.setLp n { r with txn := none })

/-- RDM_NO_WINDOW: no idle span held W within 1 s (R369). -/
def rdmNoWindowEffect (n : Nat) (s : State) : State :=
  let r := s.lp n
  match r.queue, r.txn with
  | x :: _, none =>
    if x.atNs + 1000000000 ≤ s.elt then
      (match x.req with | some _ => endRdm n x.mailbox 3 [] s | none => endDisc n x.mailbox 3 s)
    else s
  | _, _ => s

/-- MANGER_READ: Groom reads the word at READ with its tag (R381); the last word of a response answers its
LINE_RDM. -/
def mangerReadEffect (n : Nat) (s : State) : State :=
  let r := s.lp n
  if r.read = r.commit then s
  else
    let word := (List.range 32).map (fun k => mget r.mem ((r.read.toNat + k) % 4096))
    let acc := r.reading ++ word
    let len := 8 + unle ((acc.drop 4).take 2)
    let r1 : LineSt := { r with read := r.read + 32 }
    if acc.length < len then s.setLp n { r1 with reading := acc }
    else
      let num := (acc[7]?).getD 0
      let bytes := (acc.take len).drop 8
      let s1 := s.setLp n { r1 with reading := [], owed := r.owed.filter (fun e => e.1 ≠ num) }
      match r.owed.find? (fun e => e.1 = num) with
      | some e => endRdm n e.2 0 bytes s1
      | none => s1

/-- The word and tag that a read of the Manger returns: bytes, VALID, FIRST, LAST (R380, R381). -/
def mangerWord (r : LineSt) : List Byte × Nat × Bool × Bool :=
  let word := (List.range 32).map (fun k => mget r.mem ((r.read.toNat + k) % 4096))
  let len := 8 + unle (((r.reading ++ word).drop 4).take 2)
  let left := len - r.reading.length
  (word, min 32 left, r.reading.isEmpty, decide (left ≤ 32))

/-- Reception stops because of a cut (R369, R382, R383): the packet is rewound and the transaction ends
PREEMPTED. -/
def preemptRdm (n : Nat) (s : State) : State :=
  let r := s.lp n
  match r.txn with
  | none => s
  | some t =>
    let s1 := s.setLp n { r with write := r.commit, txn := none }
    match t.ask with
    | .user _ => endRdm n t.mailbox 5 [] s1
    | _ => endDisc n t.mailbox 5 s1

/-! ## Drive enable, triggers, shorts -/

/-- DRIVE_ENABLE_COLLAPSE (R363, R369, R383): queued and running transactions end HALTER_LOST. -/
def driveEnableCollapseEffect (n : Nat) (s : State) : State :=
  let r := s.lp n
  if r.drive ∧ ¬ driveCond s n then
    let s1 := (s.setLp n { r with drive := false, write := r.commit, txn := none }).raiseCause (.lp n) 5
    r.queue.foldl (fun s x => match x.req with
      | some _ => endRdm n x.mailbox 4 [] s
      | none => endDisc n x.mailbox 4 s) s1
  else s

/-- DRIVE_ENABLE_RETURN (R364): in the middle of a frame or packet the port restarts it where it can still end
in time, else it stays idle and the content misses under cause "pair". -/
def driveEnableReturnEffect (n : Nat) (s : State) : State :=
  let r := s.lp n
  if n < s.nLine ∧ ¬ r.drive ∧ driveCond s n then
    let s1 := s.setLp n { r with drive := true }
    match r.tx, r.tx.bind (fun t => lineFlow (s.cfgFor t.content) n) with
    | some t, some (_, f) =>
      let limit := if f.kind = 2 then nextBreak s n else s.nextPt
      let fits : Bool := match limit with | some e => decide (s.elt + t.dur ≤ e) | none => true
      if fits then
        let t' := { t with start := s.elt }
        putLine n f t' (s1.setLp n { r with drive := true, tx := some t' })
      else (s1.setLp n { r with drive := true, tx := none, skip := some t.content }).failCond 2
    | _, _ => s1
  else s

/-- An event of a trigger-output source (R377): 0 the time trigger, 1 a PT, 2 a boundary, 3 a cut. -/
def trigOut (src : Nat) (s : State) : State :=
  (List.range s.nLine).foldl (fun s n =>
    let r := s.lp n
    if r.regs.on && decide (r.regs.kind = 4) && decide (fld r.regs.trig 27 24 = src) then
      let s1 := (retryShort n s).setLp n { r with pulse := some (s.elt + stepsNs (fld r.regs.trig 19 0)), shortOff := false }
      if r.drive then s1.emit (.linePulse n s.elt) else s1
    else s) s

/-- TRIGGER_PULSE_END. -/
def triggerPulseEndEffect (n : Nat) (s : State) : State :=
  let r := s.lp n
  match r.pulse with
  | some t => if t ≤ s.elt then s.setLp n { r with pulse := none } else s
  | none => s

/-- SHORT_DETECT: a conductor has been 10 us at its current limit (R379). -/
def shortDetectEffect (n : Nat) (s : State) : State :=
  let r := s.lp n
  if n < s.nLine ∧ r.drive then
    ((s.setLp n { r with short := true, shortAt := s.elt }).bump (.lp n 6)).raiseCause (.lp n) 4
  else s

/-- SHORT_SHUTOFF: 100 us at the limit outside energy-limited mode (R379). -/
def shortShutoffEffect (n : Nat) (s : State) : State :=
  let r := s.lp n
  if r.short ∧ ¬ r.regs.limited ∧ r.shortAt + 90000 ≤ s.elt then
    (s.setLp n { r with shortOff := true, short := false }).noteCond
  else s

/-! ## Commands -/

/-- The settings of a line port (R366, R371 to R378, R385, R386). -/
def lineRegsOk (r : LineRegs) : Bool :=
  let hi (w : Word) : Nat := fld w 27 16
  let lo (w : Word) : Nat := fld w 11 0
  let self := decide (r.kind = 2)
  let clocked := decide (r.kind = 1)
  decide (r.kind ≤ 4) && decide (fld r.mode 27 26 ≠ 3) && (!self || decide (1 ≤ fld r.gap 19 0))
    && decide (10 ≤ fld r.clk 25 16) && decide (fld r.clk 25 16 ≤ 800)
    && decide (fld r.clk 9 5 ≤ 16) && decide (fld r.clk 4 0 ≤ 16)
    && decide (fld r.frame 28 16 ≤ 4096) && decide (fld r.frame 12 0 ≤ 4096)
    && (!self || (decide (1 ≤ hi r.sym0) && decide (1 ≤ lo r.sym0) && decide (1 ≤ hi r.sym1)
        && decide (1 ≤ lo r.sym1) && decide (hi r.sym0 + lo r.sym0 = hi r.sym1 + lo r.sym1)))
    && decide (92 ≤ fld r.dmx 31 16) && decide (12 ≤ fld r.dmx 15 8)
    && decide (176 ≤ fld r.rdm 15 0) && decide (fld r.rdm 15 0 ≤ 10000)
    && decide (176 ≤ fld r.rdmT 31 16) && decide (fld r.rdmT 31 16 ≤ 10000)
    && decide (176 ≤ fld r.rdmT 8 0) && decide (fld r.rdmT 8 0 ≤ 352)
    && decide (fld r.trig 31 30 ≠ 3) && decide (fld r.trig 27 24 ≤ 3)
    && (decide (r.kind ≠ 4) || decide (1 ≤ fld r.trig 19 0))
    && (!r.limited || (decide (fld r.mode 27 26 ≠ 2) && (!clocked || decide (20 ≤ fld r.clk 25 16))
        && (!self || [hi r.sym0, lo r.sym0, hi r.sym1, lo r.sym1].all (fun x => decide (40 ≤ x)))))

/-- The images of a port with their reserved bits clear (R13, R386). -/
def LineRegs.masked (r : LineRegs) : LineRegs :=
  { r with mode := r.mode &&& 0xFFC00000#32, gap := r.gap &&& 0xFFFFF#32, clk := r.clk &&& 0x03FF03FF#32
           frame := r.frame &&& 0x1FFF1FFF#32, sym0 := r.sym0 &&& 0x0FFF0FFF#32, sym1 := r.sym1 &&& 0x0FFF0FFF#32
           rdmT := r.rdmT &&& 0xFFFF01FF#32, trig := r.trig &&& 0xCF0FFFFF#32 }

/-- The pixel words of a port's frame fit its frame buffer (R371). -/
def lineCross (c : Cfg) : Except Status Unit :=
  need (c.flow.flows.all (fun e =>
    let r := tget c.line e.2.port {}
    decide (e.2.kind ≠ 3)
      || decide (ceilDiv (e.2.count * (fld r.clk 9 5 + e.2.emitters * e.2.bits + fld r.clk 4 0)) 8 ≤ 16384)))
    .badParam

/-- The rules of the line ports on a whole configuration (R385; R537). -/
def linePortRules (t : State) (c : Cfg) : Except Status Unit := do
  need (c.line.all (fun e => decide (e.1 < t.nLine))) .variantUnsupported
  need (c.line.all (fun e => lineRegsOk e.2)) .badParam
  lineCross c

/-- LINE_PORT_SET. -/
def linePortSetEffect (m n : Nat) (r : LineRegs) (s : State) : State :=
  stage m 0x0460#16 [0x04600000 + n] s (fun _ _ c => do
    need (lineRegsOk r) .badParam
    let c' := { c with line := tset c.line n r.masked }
    lineCross c'
    pure c') (fun _ t => need (decide (n < t.nLine)) .variantUnsupported)

/-- An RDM command's port is served (R385). -/
def rdmPort (t : State) (n : Nat) : Except Status Unit := do
  need (decide (n < t.nLine)) .variantUnsupported
  need (decide ((t.lp n).regs.kind = 0)) .badParam
  need ((t.lp n).regs.on && t.halter) .badState
  need (decide ((t.lp n).queue.length < 16)) .noResource

/-- LINE_RDM: the request joins the port's queue (R368). -/
def lineRdmEffect (m n : Nat) (q : RdmReq) (s : State) : State :=
  cmd m 0x0461#16 s (fun _ t =>
    if n < t.nLine ∧ (231 < q.data.length ∨ 257 < q.rmax) then (some (reply .badParam), t)
    else match rdmPort t n with
      | .error e => (some (reply e), t)
      | .ok _ =>
        let r := t.lp n
        (none, t.setLp n { r with queue := r.queue ++ [{ mailbox := m, req := some q, atNs := t.elt }] }))

/-- LINE_RDM_DISCOVER (R370). -/
def lineRdmDiscoverEffect (m n : Nat) (full : Bool) (s : State) : State :=
  cmd m 0x0462#16 s (fun _ t =>
    match rdmPort t n with
    | .error e => (some (reply e), t)
    | .ok _ =>
      let r := t.lp n
      (none, t.setLp n { r with queue := r.queue ++ [{ mailbox := m, req := none, full := full, atNs := t.elt }] }))

/-- LINE_RDM_UIDS. -/
def lineRdmUidsEffect (m n first count : Nat) (s : State) : State :=
  cmdRead m 0x0463#16 s (fun _ t =>
    if t.nLine ≤ n then reply .variantUnsupported
    else if count < 1 ∨ 512 < count then reply .badParam
    else okWith ((((t.lp n).uids.drop first).take count).flatMap (fun u => be 6 u)))

/-- LP_STATUS (R386). -/
def lpStatus (s : State) (n : Nat) : Nat :=
  let r := s.lp n
  (if r.drive then 2 ^ 31 else 0) + (if r.regs.on && !s.halter then 2 ^ 30 else 0)
    + (if r.short then 2 ^ 29 else 0) + (if r.shortOff then 2 ^ 28 else 0)
    + (if r.tx.isSome || r.txn.isSome then 2 ^ 27 else 0) + r.queue.length

/-- LINE_STATUS: per port of the mask LP_STATUS, LP_MGR and the eight counters. -/
def lineStatusEffect (m : Nat) (mask : DWord) (s : State) : State :=
  cmdRead m 0x0464#16 s (fun _ t =>
    if 2 ^ t.nLine ≤ mask.toNat then reply .variantUnsupported
    else okWith (((List.range t.nLine).filter (fun n => bitOf mask n)).flatMap (fun n =>
      let t := t.shown (lineDomain n)
      let r := t.lp n
      le 4 (lpStatus t n) ++ le 4 (r.commit.toNat * 65536 + r.read.toNat)
        ++ (List.range 8).flatMap (fun w => le 4 (t.captured (.lp n w))))))

/-- LP_EVT_CAUSE_READ (R11, R386). -/
def lpEvtCauseReadEffect (q : Path) (n : Nat) (s : State) : State :=
  if n < s.nLine then (s.returns q (s.cause (.lp n))).clearCause (.lp n) 0xFFFFFFFF#32 else s

/-- LP_CNT_CTRL.SNAPSHOT. -/
def lpSnapshotEffect (s : State) : State := s.captureKeys 0x700000 0x800000

/-- LP_CNT_CTRL.CLEAR. -/
def lpClearEffect (s : State) : State := s.clearKeys 0x700000 0x800000

/-! ## What the Gate does to line ports -/

/-- At PT(content) the settings of the commits effective by then take over on a port (R365, R384). -/
def takeRegs (n content : Nat) (s : State) : State :=
  let r := s.lp n
  let new := tget (s.cfgFor (content + 1)).line n {}
  if r.regs = new then s
  else if r.regs.kind ≠ new.kind then
    s.setLp n { r with regs := new, write := 0, commit := 0, read := 0, mem := [], reading := [] }
  else s.setLp n { r with regs := new }

/-- At PT(N) the content of a port's flow has left as its own frame (R374): not repeated, not skipped. -/
def lineSent (s : State) (n content : Nat) : Bool :=
  let r := s.lp n
  match r.tx with
  | some t => decide (t.content = content) && !t.again && decide (r.skip ≠ some content)
  | none => false

/-- At PT(N) a pixel-line port begins its gap; a DMX port whose flow's phase selects N begins its packet (R367), which
stops a response still arriving (R369); settings of a commit take over, on a DMX port once its packet has ended
(R365). -/
def gateLine (n content : Nat) (errs : List LineBad) (s : State) : State :=
  let r := s.lp n
  match lineFlow (s.cfgFor content) n with
  | none => if r.regs.kind = 0 ∧ r.tx.isSome then s else takeRegs n content (s.setLp n { r with tx := none })
  | some (_, f) =>
    if r.regs.kind = 0 then
      let s1 := if r.tx.isNone then takeRegs n content s else s
      if (s1.lp n).regs.on ∧ f.kind = 2 ∧ content % max 1 f.divisor = f.phase ∧ (s1.lp n).tx = none then
        startLine n content f (packetNs (s1.lp n).regs (valueLen (s1.cfgFor content).flow f)) errs (preemptRdm n s1)
      else s1
    else takeRegs n content (s.setLp n { r with tx := none })

-- The meanings of this family's rows: the effect, with the queue and the identity kept.

/-- LINE_FRAME_START (R374). -/
def execLineFrameStart (n : Nat) (errs : List LineBad) (s : State) : Host.Outcome State Fault Refusal :=
  commit s (lineFrameStartEffect n errs s)
/-- DMX_PACKET_END (R366). -/
def execDmxPacketEnd (n : Nat) (s : State) : Host.Outcome State Fault Refusal :=
  commit s (dmxPacketEndEffect n s)
/-- RDM_TXN_START (R368). -/
def execRdmTxnStart (n : Nat) (s : State) : Host.Outcome State Fault Refusal :=
  commit s (rdmTxnStartEffect n s)
/-- RDM_RESPONSE (R369). -/
def execRdmResponse (n : Nat) (brk : Word) (bytes : List Byte) (good : Bool) (s : State) :
    Host.Outcome State Fault Refusal :=
  commit s (rdmResponseEffect n brk bytes good s)
/-- RDM_RESPONSE_TIMEOUT (R369). -/
def execRdmResponseTimeout (n : Nat) (s : State) : Host.Outcome State Fault Refusal :=
  commit s (rdmResponseTimeoutEffect n s)
/-- RDM_NO_WINDOW (R369). -/
def execRdmNoWindow (n : Nat) (s : State) : Host.Outcome State Fault Refusal :=
  commit s (rdmNoWindowEffect n s)
/-- MANGER_READ (R381). -/
def execMangerRead (n : Nat) (s : State) : Host.Outcome State Fault Refusal :=
  commit s (mangerReadEffect n s)
/-- DRIVE_ENABLE_COLLAPSE (R363). -/
def execDriveEnableCollapse (n : Nat) (s : State) : Host.Outcome State Fault Refusal :=
  commit s (driveEnableCollapseEffect n s)
/-- DRIVE_ENABLE_RETURN (R364). -/
def execDriveEnableReturn (n : Nat) (s : State) : Host.Outcome State Fault Refusal :=
  commit s (driveEnableReturnEffect n s)
/-- TRIGGER_PULSE_END (R377). -/
def execTriggerPulseEnd (n : Nat) (s : State) : Host.Outcome State Fault Refusal :=
  commit s (triggerPulseEndEffect n s)
/-- SHORT_DETECT (R379). -/
def execShortDetect (n : Nat) (s : State) : Host.Outcome State Fault Refusal :=
  commit s (shortDetectEffect n s)
/-- SHORT_SHUTOFF (R379). -/
def execShortShutoff (n : Nat) (s : State) : Host.Outcome State Fault Refusal :=
  commit s (shortShutoffEffect n s)
/-- LINE_PORT_SET (R365). -/
def execLinePortSet (m n : Nat) (r : LineRegs) (s : State) : Host.Outcome State Fault Refusal :=
  commit s (linePortSetEffect m n r s)
/-- LINE_RDM (R368). -/
def execLineRdm (m n : Nat) (q : RdmReq) (s : State) : Host.Outcome State Fault Refusal :=
  commit s (lineRdmEffect m n q s)
/-- LINE_RDM_DISCOVER (R370). -/
def execLineRdmDiscover (m n : Nat) (full : Bool) (s : State) : Host.Outcome State Fault Refusal :=
  commit s (lineRdmDiscoverEffect m n full s)
/-- LINE_RDM_UIDS (R370). -/
def execLineRdmUids (m n first count : Nat) (s : State) : Host.Outcome State Fault Refusal :=
  commit s (lineRdmUidsEffect m n first count s)
/-- LINE_STATUS (R385). -/
def execLineStatus (m : Nat) (mask : DWord) (s : State) : Host.Outcome State Fault Refusal :=
  commit s (lineStatusEffect m mask s)
/-- LP_EVT_CAUSE_READ (R386). -/
def execLpEvtCauseRead (q : Path) (n : Nat) (s : State) : Host.Outcome State Fault Refusal :=
  commit s (lpEvtCauseReadEffect q n s)
/-- LP_SNAPSHOT (R386). -/
def execLpSnapshot (s : State) : Host.Outcome State Fault Refusal :=
  commit s (lpSnapshotEffect s)
/-- LP_CLEAR (R386). -/
def execLpClear (s : State) : Host.Outcome State Fault Refusal :=
  commit s (lpClearEffect s)

end Sys2Proof.Machine
end

