-- ==== Sys2Proof/Machine/Raster.lean ====
section
/-! DEFINITION. Machine/Raster.lean: the raster heads (chapter 14): timing, codes, scan-out, tiles, DisplayPort,
the freeze detector, changes on a running head, and their commands. -/
namespace Sys2Proof.Machine
open Sys2Proof

/-! ## Register fields -/

def HeadRegs.on (r : HeadRegs) : Bool := bitOf r.ctrl 31
def HeadRegs.lock (r : HeadRegs) : Bool := bitOf r.ctrl 30
/-- HEAD_MUL as a number of head frames. -/
def HeadRegs.mul (r : HeadRegs) : Nat := fld r.ctrl 29 28 + 1
def HeadRegs.zx (r : HeadRegs) : Nat := if bitOf r.ctrl 27 then 2 else 1
def HeadRegs.zy (r : HeadRegs) : Nat := if bitOf r.ctrl 26 then 2 else 1
def HeadRegs.dp (r : HeadRegs) : Bool := bitOf r.ctrl 25
/-- Bits per component of the DisplayPort stream. -/
def HeadRegs.bpc (r : HeadRegs) : Nat := if bitOf r.ctrl 24 then 10 else 8
def HeadRegs.full (r : HeadRegs) : Bool := bitOf r.ctrl 21
def HeadRegs.ht (r : HeadRegs) : Nat := fld r.h 31 16
def HeadRegs.ha (r : HeadRegs) : Nat := fld r.h 15 0
def HeadRegs.vt (r : HeadRegs) : Nat := fld r.v 31 16
def HeadRegs.va (r : HeadRegs) : Nat := fld r.v 15 0
def HeadRegs.frzOn (r : HeadRegs) : Bool := bitOf r.frzCtrl 31
/-- The HORIZONTAL field of a position or size. -/
def horz (w : Word) : Nat := fld w 30 16
/-- The VERTICAL field. -/
def vert (w : Word) : Nat := fld w 14 0
def TileRegs.on (r : TileRegs) : Bool := bitOf r.ctrl 31
def TileRegs.rgb (r : TileRegs) : Bool := bitOf r.ctrl 30
def TileRegs.perPkt (r : TileRegs) : Nat := fld r.ctrl 11 0
/-- Pixels and octets of a pgroup (R396). -/
def TileRegs.pgroup (r : TileRegs) : Nat × Nat := if r.rgb then (4, 15) else (2, 5)
/-- Pgroups of a line of the tile. -/
def TileRegs.linePg (r : TileRegs) : Nat := horz r.size / r.pgroup.1
/-- Packets of a line (R396). -/
def TileRegs.linePkts (r : TileRegs) : Nat := ceilDiv r.linePg r.perPkt
/-- P: packets of a head frame (R397). -/
def TileRegs.pkts (r : TileRegs) : Nat := r.linePkts * vert r.size

/-- Head h. -/
def State.head (s : State) (h : Nat) : HeadSt := tget s.rst.heads h {}
/-- Head h put in place. -/
def State.setHead (s : State) (h : Nat) (r : HeadSt) : State :=
  { s with rst := { s.rst with heads := tset s.rst.heads h r } }
/-- The registers of head h in a configuration. -/
def headOf (c : Cfg) (h : Nat) : HeadRegs := tget c.rst.heads h {}
/-- Tile t of head h in a configuration. -/
def tileOf (c : Cfg) (h t : Nat) : TileRegs := tget c.rst.tiles (4 * h + t) {}

/-! ## Timing (R388 to R390) -/

/-- The instant of line y of head frame j of content n, in ns exactly. -/
def lineAt (y : YmCfg) (r : HeadRegs) (n j line : Nat) : Rat :=
  ((n * r.mul + j : Nat) : Rat) * y.tNum / (y.num * r.mul : Nat) + r.delay.toNat
    + (line : Rat) * y.tNum / (y.num * r.mul * r.vt : Nat)

/-- An instant has come. -/
def State.reached (s : State) (t : Rat) : Bool := decide (t ≤ (s.elt : Rat))

/-- The raster terms of LP(n) (R94, R389): line V_ACTIVE of the last head frame of content n. -/
def rasterLatch (c : Cfg) (n : Nat) : List Rat :=
  (c.rst.heads.filter (fun e => e.2.on)).map (fun e => lineAt c.ym e.2 n (e.2.mul - 1) e.2.va)

/-! ## Codes (R391, R392) -/

/-- The n-bit code of a component (R392). -/
def videoCode (n : Nat) (full : Bool) (e : Rat) : Nat :=
  let v : Rat := max 0 (min 1 e)
  (rne (if full then v * (2 ^ n - 1 : Nat) else (16 * 2 ^ (n - 8) : Nat) + v * (219 * 2 ^ (n - 8) : Nat))).toNat

/-- A 10-bit chroma code. -/
def chromaCode (full : Bool) (c : Rat) : Nat :=
  let v := (rne (512 + c * (if full then 1023 else 896))).toNat
  if v ≤ 1023 then v else Config.chromaTop % 1024

/-- Y, C_B, C_R codes of R, G, B (R392). -/
def yccCodes (prim : Nat) (full : Bool) (r g b : Rat) : Nat × Nat × Nat :=
  let (kr, kb) := lumaWeights prim
  let k (e : Rat) : Rat := max 0 (min 1 e)
  let y := kr * k r + (1 - kr - kb) * k g + kb * k b
  (videoCode 10 full y, chromaCode full ((k b - y) / (2 * (1 - kb))), chromaCode full ((k r - y) / (2 * (1 - kr))))

/-- CANVAS_CTRL.PRIMARIES and TF of a configuration. -/
def canvasPrim (c : Cfg) : Nat := fld c.comp.ctrl 2 2
def canvasTf (c : Cfg) : Nat := fld c.comp.ctrl 1 0

/-- The background of a head as canvas components. -/
def headBg (r : HeadRegs) : Rat × Rat × Rat :=
  ((fld r.bg 29 20 : Nat) / 1023, (fld r.bg 19 10 : Nat) / 1023, (fld r.bg 9 0 : Nat) / 1023)

/-- The configuration under which the canvas of the present head frame's content was composed. -/
def headCfg (s : State) (h : Nat) : Cfg := s.cfgFor (s.head h).content

/-- The components of output pixel (x, y) of the present head frame (R391, R393, R394, R403). -/
def headPixel (s : State) (h x y : Nat) : Rat × Rat × Rat :=
  let st := s.head h
  let r := st.regs
  let late := st.under.any (fun u => decide (u.line = y) && decide (u.px ≤ x))
  if st.bg || late || decide (canvasW (headCfg s h).comp = 0) then headBg r
  else
    let b := tget s.comp.canvas ((s.rst.hold.getD st.content) % 3) {}
    let w := tget b.words ((vert r.winPos + y / r.zy) * 16384 + horz r.winPos + x / r.zx) 0
    let (cr, cg, cb) := unpackCanvas w
    (unhalf cr, unhalf cg, unhalf cb)

/-- The RGB codes of a pixel. -/
def headRgb (s : State) (h n x y : Nat) : Nat × Nat × Nat :=
  let (r, g, b) := headPixel s h x y
  let f := (s.head h).regs.full
  (videoCode n f r, videoCode n f g, videoCode n f b)

/-- The YCbCr codes of a pixel. -/
def headYcc (s : State) (h x y : Nat) : Nat × Nat × Nat :=
  let (r, g, b) := headPixel s h x y
  yccCodes (canvasPrim (headCfg s h)) (s.head h).regs.full r g b

/-! ## Tiles (R395 to R399) -/

/-- A number of n bits from codes, most significant first, as octets. -/
def packCodes (codes : List Nat) : List Byte :=
  be (ceilDiv (codes.length * 10) 8) (codes.foldl (fun a c => a * 1024 + c) 0)

/-- A pgroup of a tile, its first pixel at (x, y) of the raster (ST 2110-20; log 16). -/
def pgroupBytes (s : State) (h : Nat) (r : TileRegs) (x y : Nat) : List Byte :=
  if r.rgb then packCodes ((List.range 4).flatMap (fun i => let (a, b, c) := headRgb s h 10 (x + i) y; [a, b, c]))
  else
    let (y0, cb, cr) := headYcc s h x y
    packCodes [cb, y0, cr, (headYcc s h (x + 1) y).1]

/-- The flow of an enabled tile (R395). -/
def tileFlow (c : Cfg) (h t : Nat) : Option (Nat × FlowRec) :=
  c.flow.flows.find? (fun e => e.2.enable && decide (e.2.kind = 4) && decide (e.2.stream.toNat = 4 * h + t))

/-- The UDP payload of packet i of the present head frame (R396, R397; log 16). -/
def tilePacket (s : State) (h t i : Nat) : List Byte :=
  let st := s.head h
  let r := tileOf s.cfg h t
  let j := st.begun - 1
  let row := i / r.linePkts
  let first := i % r.linePkts * r.perPkt
  let n := min r.perPkt (r.linePg - first)
  let p := r.pkts
  let f := st.regs.mul * st.content + j
  let seq := (f * p + i) % 4294967296
  let ts := ((lineAt s.rst.ym st.regs st.content j 0) * 90000 / 1000000000).floor.toNat % 4294967296
  let marker := decide (i + 1 = p)
  [0x80#8, BitVec.ofNat 8 ((if marker then 128 else 0) + fld r.ctrl 28 22)] ++ be 2 (seq % 65536) ++ be 4 ts
    ++ be 4 r.ssrc.toNat ++ be 2 (seq / 65536) ++ be 2 (n * r.pgroup.2) ++ be 2 row ++ be 2 (first * r.pgroup.1)
    ++ (List.range n).flatMap (fun k =>
        pgroupBytes s h r (horz r.pos + (first + k) * r.pgroup.1) (vert r.pos + row))

/-- The due instant of packet k of the present head frame (R398). -/
def tileDue (s : State) (h t k : Nat) : Rat :=
  let st := s.head h
  let y := s.rst.ym
  lineAt y st.regs st.content (st.begun - 1) 0
    + (k * st.regs.va * y.tNum : Nat) / ((y.num * st.regs.mul * st.regs.vt * (tileOf s.cfg h t).pkts : Nat) : Rat)

/-- TILE_PACKET_DUE: the next packet of a tile falls due and enters the queue of its flow's class (R398). -/
def tilePacketDueEffect (h t : Nat) (s : State) : State :=
  let st := s.head h
  let r := tileOf s.cfg h t
  let k := tget st.sent t 0
  match tileFlow s.cfg h t with
  | some (f, fr) =>
    if h < s.nHeads ∧ t < 4 ∧ r.on ∧ st.run ∧ st.begun ≠ 0 ∧ k < r.pkts ∧ s.reached (tileDue s h t k) then
      let body := tilePacket s h t k
      let x : TxFrame := { kind := .tile f st.content h (tileDue s h t k).ceil.toNat, body := body, dst := fr.dst
                           udp := fr.dstPort.toNat, octets := fr.octets body.length, guar := fr.guaranteed }
      enqueueTile fr.port f st.content x (s.setHead h { st with sent := tset st.sent t (k + 1) })
    else s
  | none => s

/-! ## Head frames (R388, R389, R393, R394) -/

/-- The next head frame of a head: its content and number. -/
def nextFrame (s : State) (h : Nat) : Option (Nat × Nat) :=
  let st := s.head h
  match s.ym.latest with
  | none => none
  | some n =>
    let j := if st.content = n then st.begun else 0
    let r := if j = 0 then st.shadow else st.regs
    if j < r.mul then some (n, j) else none

/-- Underrun lines of a head frame: each is counted and raised, an uncorrectable error too (R394), and the tiles
they strike miss (R399). -/
def noteUnder (h n : Nat) (us : List Underrun) (s : State) : State :=
  let s1 := us.foldl (fun s u =>
    let s' := (s.bump (.rst h 1)).raiseCause (.rst h) 0
    match u.error with
    | some e => (s'.raiseCause (.rst h) 6).eccData e
    | none => s') s
  [0, 1, 2, 3].foldl (fun s t =>
    let r := tileOf s.cfg h t
    match tileFlow s.cfg h t with
    | some (f, _) =>
      if r.on && us.any (fun u => decide (vert r.pos ≤ u.line) && decide (u.line < vert r.pos + vert r.size))
      then tileMiss f n s else s
    | none => s) s1

/-- The head's frame as it leaves a trained DisplayPort (R400, R401). -/
def dpOut (s : State) (h : Nat) : State :=
  let st := s.head h
  let c := headCfg s h
  if st.regs.dp && st.link then
    let px := (List.range st.regs.va).flatMap (fun y =>
      (List.range st.regs.ha).map (fun x => headRgb s h st.regs.bpc x y))
    s.emit (.dpFrame h st.content (st.begun - 1) px
      (decide (canvasPrim c = 1) || decide (canvasTf c = 1) || decide (canvasTf c = 2)) (decide (canvasTf c = 1)))
  else s

/-- The lines of a head frame of content n whose canvas row is not visible as the frame begins (R393, R394; log 71). -/
def unseenLines (s : State) (r : HeadRegs) (n : Nat) : List Underrun :=
  ((List.range r.va).filter (fun y => !rowVisible s (s.rst.hold.getD n) (vert r.winPos + y / r.zy))).map
    (fun y => { line := y, px := 0, error := none })

/-- HEAD_FRAME_START: head frame j of the content that the latest boundary opened begins at its instant (R388);
`us` are the lines whose data comes too late (R394), beside those of rows that are not visible. -/
def headFrameStartEffect (h : Nat) (us : List Underrun) (s : State) : State :=
  let st := s.head h
  match nextFrame s h with
  | none => s
  | some (n, j) =>
    let r := if j = 0 then st.shadow else st.regs
    if h < s.nHeads ∧ st.run ∧ s.glb.clk.rootLock ∧ !s.glb.faulted ∧ s.reached (lineAt s.rst.ym r n j 0) then
      let bg := decide (st.restart = some n)
      let lines := if bg || decide (canvasW (s.cfgFor n).comp = 0) then []
        else
          let un := unseenLines s r n
          us.filter (fun u => decide (u.line < r.va) && un.all (fun v => decide (v.line ≠ u.line))) ++ un
      let st' : HeadSt := { st with
        content := n, begun := j + 1, bg := bg, regs := r, under := lines, sent := [] }
      let s1 := (s.setHead h st').bump (.rst h 0)
      let s2 := if bg then s1.bump (.rst h 4) else s1
      dpOut (noteUnder h n lines s2) h
    else s

/-- HEAD_SHADOW_TAKE: at line V_ACTIVE of the last head frame the head takes the settings in effect from the next
boundary (R389). -/
def headShadowTakeEffect (h : Nat) (s : State) : State :=
  let st := s.head h
  if st.run ∧ st.begun = st.regs.mul
      ∧ s.reached (lineAt s.rst.ym st.regs st.content (st.begun - 1) st.regs.va) then
    let due := (s.sched.filter (fun c => c.frame ≤ s.ym.next)).getLast?
    s.setHead h { st with shadow := headOf (match due with | some c => c.cfg | none => s.cfg) h }
  else s

/-! ## Freeze detector (R405) -/

/-- One bit of the reflected CRC-32 (R405, R464). -/
def crc32Bit (c : Word) : Word := if c.getLsbD 0 then (c >>> 1) ^^^ 0xEDB88320#32 else c >>> 1

/-- One byte of the reflected CRC-32. -/
def crc32Byte (c : Word) (b : Byte) : Word := (List.range 8).foldl (fun c _ => crc32Bit c) (c ^^^ b.setWidth 32)

/-- CRC-32 of IEEE 802.3. -/
def crc32 (bs : List Byte) : Word := (bs.foldl crc32Byte 0xFFFFFFFF#32) ^^^ 0xFFFFFFFF#32

/-- The bytes of the freeze window of the present head frame. -/
def frzBytes (s : State) (h : Nat) : List Byte :=
  let r := (s.head h).regs
  (List.range (vert r.frzSize)).flatMap (fun j => (List.range (horz r.frzSize)).flatMap (fun i =>
    let x := horz r.frzPos + i
    let y := vert r.frzPos + j
    let (a, b, c) := if Config.sigYcc h then headYcc s h x y else headRgb s h 10 x y
    le 2 a ++ le 2 b ++ le 2 c))

/-- A layer's destination meets the canvas area under the freeze window. -/
def meetsFreeze (r : HeadRegs) (l : LayerRegs) : Bool :=
  let x0 := horz r.winPos + horz r.frzPos / r.zx
  let y0 := vert r.winPos + vert r.frzPos / r.zy
  let x1 := horz r.winPos + (horz r.frzPos + horz r.frzSize - 1) / r.zx
  let y1 := vert r.winPos + (vert r.frzPos + vert r.frzSize - 1) / r.zy
  decide (horz r.frzSize ≠ 0) && decide (vert r.frzSize ≠ 0) && decide (l.x ≤ x1) && decide (x0 < l.x + l.dw)
    && decide (l.y ≤ y1) && decide (y0 < l.y + l.dh)

/-- The content is changed at source. -/
def changedAtSource (s : State) (h n : Nat) : Bool :=
  (tget s.rst.fresh n []).any (fun l =>
    let r := layerOf (s.cfgFor n).comp l
    r.on && decide (r.kind ≠ 3) && meetsFreeze (s.head h).regs r)

/-- HEAD_SIGNATURE_DONE: the freeze window of the first head frame of a content ends. -/
def headSignatureDoneEffect (h : Nat) (s : State) : State :=
  let st := s.head h
  let r := st.regs
  if st.run ∧ r.frzOn ∧ st.begun = 1 ∧ st.sigDone ≠ some st.content
      ∧ s.reached (lineAt s.rst.ym r st.content 0 (vert r.frzPos + vert r.frzSize)) then
    let sig := crc32 (frzBytes s h)
    let same := decide (st.sigDone = some (st.content - 1)) && decide (st.sig = sig)
    let count : Byte :=
      if same && changedAtSource s h st.content && !st.bg then satInc st.frzCount else 0
    let s1 := s.setHead h { st with
      sig := sig, sigFn := fnOf st.content, sigDone := some st.content, frzCount := count }
    if st.frzCount.toNat < fld r.frzCtrl 23 16 ∧ fld r.frzCtrl 23 16 ≤ count.toNat then
      (s1.bump (.rst h 3)).raiseCause (.rst h) 1
    else s1
  else s

/-! ## DisplayPort (R400, R401, R408) -/

/-- DP_HOTPLUG: Groom reads the sink's EDID and trains the link; `trained` says whether training succeeds. Hot-plug
is ignored until DP_EN is effective. -/
def dpHotplugEffect (h : Nat) (edid : List Byte) (trained : Bool) (s : State) : State :=
  if h < s.nHeads ∧ (headOf s.cfg h).dp then
    let up := trained && s.glb.clk.serRef1
    let s1 := s.setHead h { s.head h with hpd := true, edid := edid, link := up }
    if up then s1.raiseCause (.rst h) 4 else s1
  else s

/-- The DisplayPort link of a head goes down. -/
def dropDp (h : Nat) (s : State) : State :=
  if (s.head h).link then (s.setHead h { s.head h with link := false }).raiseCause (.rst h) 3 else s

/-- DP_LINK_LOSS; `unplugged` says that the sink is gone too. -/
def dpLinkLossEffect (h : Nat) (unplugged : Bool) (s : State) : State :=
  let s1 := dropDp h s
  if unplugged ∧ (s.head h).hpd then s1.setHead h { s1.head h with hpd := false, edid := [] } else s1

/-! ## Staging rules -/

/-- The payload of the configured DisplayPort rate in Mb/s (R400): 4 lanes, 8b/10b. -/
def dpPayload (r : HeadRegs) : Nat :=
  if fld r.ctrl 23 22 = 0 then 5184 else if fld r.ctrl 23 22 = 1 then 8640 else if fld r.ctrl 23 22 = 2 then 17280
  else 25920

/-- f_px in units of 10^9 / tNum (R390). -/
def HeadRegs.pxRate (r : HeadRegs) (y : YmCfg) : Nat := r.ht * r.vt * r.mul * y.num

/-- The images of a head with their reserved bits clear (R13, R407). -/
def HeadRegs.masked (r : HeadRegs) : HeadRegs :=
  { r with ctrl := r.ctrl &&& 0xFFE00000#32, hsync := r.hsync &&& 0xFFFF7FFF#32, vsync := r.vsync &&& 0xFFFF7FFF#32
           winPos := r.winPos &&& 0x7FFF7FFF#32, winSize := r.winSize &&& 0x7FFF7FFF#32
           frzPos := r.frzPos &&& 0x7FFF7FFF#32, frzSize := r.frzSize &&& 0x7FFF7FFF#32
           bg := r.bg &&& 0x3FFFFFFF#32, frzCtrl := r.frzCtrl &&& 0x80FF0000#32 }

/-- The images of a tile with their reserved bits clear (R13, R407). -/
def TileRegs.masked (r : TileRegs) : TileRegs :=
  { r with ctrl := r.ctrl &&& 0xFFC00FFF#32, pos := r.pos &&& 0x7FFF7FFF#32, size := r.size &&& 0x7FFF7FFF#32 }

/-- The rules of an enabled head (R389 to R391, R400, R406). -/
def headOk (c : Cfg) (h : Nat) (r : HeadRegs) : Bool :=
  let y := c.ym
  let cw := canvasW c.comp
  !(decide (h = 1) && r.lock) && decide (2 ≤ fld r.frzCtrl 23 16)
    && (!r.on ||
      (decide (r.ha ≤ 7680) && decide (r.va ≤ 4320) && decide (r.ha + 8 ≤ r.ht) && decide (r.va + 2 ≤ r.vt)
        && decide (r.mul * y.num * 1000000000 ≤ 240 * y.tNum)
        && decide (r.pxRate y * 10 ≤ 24 * y.tNum)
        && decide (r.delay.toNat * (y.num * r.mul * r.vt) ≤ (r.vt - r.va) * y.tNum)
        && decide (r.ha = horz r.winSize * r.zx) && decide (r.va = vert r.winSize * r.zy)
        && (decide (cw = 0) || (decide (horz r.winPos + horz r.winSize ≤ cw)
            && decide (vert r.winPos + vert r.winSize ≤ canvasH c.comp)))
        && (!r.dp || decide (r.pxRate y * 3000 * r.bpc ≤ dpPayload r * y.tNum))
        && decide (horz r.frzPos + horz r.frzSize ≤ r.ha) && decide (vert r.frzPos + vert r.frzSize ≤ r.va)))

/-- The rules of an enabled tile against its head, and against its flow's port where the flow stands (R395,
R396). -/
def tileOk (c : Cfg) (h t : Nat) (r : TileRegs) : Bool :=
  let hd := headOf c h
  let udp := 20 + min r.perPkt r.linePg * r.pgroup.2
  !r.on ||
      (decide (1 ≤ r.perPkt) && decide (1 ≤ horz r.size) && decide (1 ≤ vert r.size)
        && decide (horz r.pos % r.pgroup.1 = 0) && decide (horz r.size % r.pgroup.1 = 0)
        && decide (udp ≤ if bitOf r.ctrl 29 then 8960 else 1460)
        && (!hd.on || (decide (horz r.pos + horz r.size ≤ hd.ha) && decide (vert r.pos + vert r.size ≤ hd.va)))
        && (match tileFlow c h t with
            | some (_, f) => decide (udp + 8 + (if f.ipv6 then 40 else 20) ≤ ipMtu c f.port)
            | none => true))

/-- Locked heads (R402). -/
def lockOk (c : Cfg) : Bool :=
  let a := headOf c 0
  let b := headOf c 1
  !a.lock ||
    (a.on && b.on && decide (fld a.ctrl 29 21 = fld b.ctrl 29 21) && decide (a.delay = b.delay) && decide (a.h = b.h)
      && decide (a.v = b.v) && decide (a.hsync = b.hsync) && decide (a.vsync = b.vsync)
      && decide (horz b.winPos = horz a.winPos + horz a.winSize) && decide (vert b.winPos = vert a.winPos)
      && decide (vert b.winSize = vert a.winSize))

/-- Every rule of the raster objects; tiles and TILE flows name each other at a commit (R395, R406). -/
def rasterRules (nHeads : Nat) (atCommit : Bool) (c : Cfg) : Except Status Unit := do
  need (c.rst.heads.all (fun e => decide (e.1 < nHeads) || !e.2.on)) .variantUnsupported
  need (decide (1 < nHeads) || !(headOf c 0).lock) .variantUnsupported
  need (c.rst.heads.all (fun e => headOk c e.1 e.2)) .badParam
  need (c.rst.tiles.all (fun e => tileOk c (e.1 / 4) (e.1 % 4) e.2)) .badParam
  need (lockOk c) .badState
  if atCommit then
    need (c.rst.tiles.all (fun e => !e.2.on || ((headOf c (e.1 / 4)).on && (tileFlow c (e.1 / 4) (e.1 % 4)).isSome)))
      .badParam
    need (c.flow.flows.all (fun e => !(e.2.enable && decide (e.2.kind = 4))
      || (tget c.rst.tiles e.2.stream.toNat {}).on)) .badParam
    let streams := (c.flow.flows.filter (fun e => e.2.enable && decide (e.2.kind = 4))).map (fun e => e.2.stream)
    need (noDup streams) .badParam

/-- The rules of the tiles' objects: those of the heads, and no tile of a head beyond the variant (R406; R537). -/
def tileRules (nHeads : Nat) (atCommit : Bool) (c : Cfg) : Except Status Unit := do
  need (c.rst.tiles.all (fun e => decide (e.1 / 4 < nHeads))) .variantUnsupported
  rasterRules nHeads atCommit c

/-! ## Commands -/

/-- RASTER_HEAD_SET: the images of each head named. -/
def rasterHeadSetEffect (m : Nat) (hs : List (Nat × HeadRegs)) (s : State) : State :=
  stage m 0x0540#16 (hs.map (fun e => 0x05400000 + e.1)) s (fun _ t c => do
    let c' := { c with rst := { c.rst with heads := hs.foldl (fun x e => tset x e.1 e.2.masked) c.rst.heads } }
    rasterRules t.nHeads false c'
    pure c')
    (fun _ t => need (decide (t.nHeads ≠ 0) && hs.all (fun e => decide (e.1 < t.nHeads))
      && (decide (1 < t.nHeads) || hs.all (fun e => !e.2.lock))) .variantUnsupported)

/-- RASTER_TILE_SET. -/
def rasterTileSetEffect (m h t : Nat) (r : TileRegs) (s : State) : State :=
  stage m 0x0541#16 [0x05410000 + 4 * h + t] s (fun _ u c => do
    need (decide (t < 4)) .badParam
    let c' := { c with rst := { c.rst with tiles := tset c.rst.tiles (4 * h + t) r.masked } }
    rasterRules u.nHeads false c'
    pure c') (fun _ u => need (decide (h < u.nHeads)) .variantUnsupported)

/-- The current output line of a running head. -/
def headLine (s : State) (h : Nat) : Nat :=
  let st := s.head h
  let y := s.rst.ym
  if st.begun = 0 then 0
  else
    let d := (s.elt : Rat) - lineAt y st.regs st.content (st.begun - 1) 0
    (d * (y.num * st.regs.mul * st.regs.vt : Nat) / y.tNum).floor.toNat % (max 1 st.regs.vt)

/-- RST_STATUS (R407). -/
def rstStatus (s : State) (h : Nat) : Nat :=
  let st := s.head h
  (if st.run then 2 ^ 31 else 0) + (if st.run && st.bg then 2 ^ 30 else 0) + (if st.link then 2 ^ 29 else 0)
    + (if st.hpd then 2 ^ 28 else 0) + (if st.run then headLine s h else 0) % 65536

/-- RASTER_STATUS: per head of the mask RST_STATUS, RST_FN, signature, its FN and count, five counters. -/
def rasterStatusEffect (m : Nat) (mask : Word) (s : State) : State :=
  cmdRead m 0x0542#16 s (fun _ t =>
    if t.nHeads = 0 ∨ 2 ^ t.nHeads ≤ mask.toNat then reply .variantUnsupported
    else okWith (((List.range t.nHeads).filter (fun h => bitOf mask h)).flatMap (fun h =>
      let t := t.shown 7
      let st := t.head h
      le 4 (rstStatus t h) ++ le 4 (fnOf st.content).toNat ++ le 4 st.sig.toNat ++ le 4 st.sigFn.toNat
        ++ le 4 st.frzCount.toNat ++ (List.range 5).flatMap (fun w => le 4 (t.captured (.rst h w))))))

/-- RASTER_DP_EDID: blocks of 128 bytes; what lies beyond the sink's EDID is free (log 5). -/
def rasterDpEdidEffect (m h first count : Nat) (s : State) : State :=
  cmdNow m 0x0543#16 s (fun _ t =>
    if t.nHeads ≤ h then (reply .variantUnsupported, t)
    else if count < 1 ∨ 4 < count then (reply .badParam, t)
    else if !(t.head h).hpd then (reply .badState, t)
    else
      let e := ((t.head h).edid.drop (128 * first)).take (128 * count)
      let rest := le (128 * count - e.length) (Config.freeNat t.freeCtr)
      (okWith (e ++ rest), if e.length < 128 * count then t.takeFree else t))

/-- RST_EVT_CAUSE_READ (R11, R407). -/
def rstEvtCauseReadEffect (q : Path) (h : Nat) (s : State) : State :=
  if h < s.nHeads then (s.returns q (s.cause (.rst h))).clearCause (.rst h) 0xFFFFFFFF#32 else s

/-- RST_CNT_CTRL.SNAPSHOT. -/
def rstSnapshotEffect (s : State) : State := s.captureKeys 0x800000 0x900000

/-- RST_CNT_CTRL.CLEAR. -/
def rstClearEffect (s : State) : State := s.clearKeys 0x800000 0x900000

/-! ## Boundaries and commits (R403 to R405) -/

/-- A head restarts: content m is background. -/
def restartHead (h m : Nat) (s : State) : State :=
  (s.setHead h { s.head h with run := true, restart := some m, frzCount := 0 }).raiseCause (.rst h) 2

/-- A change that is a restart (R403). -/
def restarts (old new : HeadRegs) : Bool :=
  decide (fld old.ctrl 29 22 ≠ fld new.ctrl 29 22) || decide (old.delay ≠ new.delay) || decide (old.h ≠ new.h)
    || decide (old.v ≠ new.v) || decide (old.hsync ≠ new.hsync) || decide (old.vsync ≠ new.vsync)

/-- What a commit effective at FB(m) does to the heads (R403, R404). -/
def commitRaster (m : Nat) (old : Cfg) (s : State) : State :=
  let hit (h : Nat) : Bool := (headOf s.cfg h).on &&
    (!(headOf old h).on || restarts (headOf old h) (headOf s.cfg h) || decide (old.comp.size ≠ s.cfg.comp.size))
  let all := (headOf s.cfg 0).lock && (hit 0 || hit 1)
  (List.range s.nHeads).foldl (fun s h =>
    let o := headOf old h
    let n := headOf s.cfg h
    let st := s.head h
    let frz := decide (o.frzCtrl ≠ n.frzCtrl) || decide (o.frzPos ≠ n.frzPos) || decide (o.frzSize ≠ n.frzSize)
    let st' : HeadSt := { st with
      shadow := n, frzCount := if frz then 0 else st.frzCount, run := st.run && n.on, link := st.link && n.dp
      hpd := st.hpd && n.dp, edid := if n.dp then st.edid else [] }
    let s1 := s.setHead h st'
    if hit h || all then restartHead h m s1 else s1) s

/-- The first boundary of a new rate begins a restart of every head (R404). -/
def restartHeads (m : Nat) (s : State) : State :=
  (List.range s.nHeads).foldl (fun s h => if (s.head h).run then restartHead h m s else s) s

/-- The layers that latched a new buffer at FB(m) for content m + 1 (R405). -/
def noteFresh (m : Nat) (s : State) : State :=
  let ls := (List.range 9).filter (fun l =>
    (s.comp.layer l).latched.isSome && decide ((s.comp.layer l).latchFn = fnOf m))
  { s with rst := { s.rst with fresh := tset (s.rst.fresh.filter (fun e => m ≤ e.1 + 1)) (m + 1) ls } }

-- The meanings of this family's rows: the effect, with the queue and the identity kept.

/-- HEAD_FRAME_START (R388). -/
def execHeadFrameStart (h : Nat) (us : List Underrun) (s : State) : Host.Outcome State Fault Refusal :=
  commit s (headFrameStartEffect h us s)
/-- HEAD_SHADOW_TAKE (R389). -/
def execHeadShadowTake (h : Nat) (s : State) : Host.Outcome State Fault Refusal :=
  commit s (headShadowTakeEffect h s)
/-- HEAD_SIGNATURE_DONE (R405). -/
def execHeadSignatureDone (h : Nat) (s : State) : Host.Outcome State Fault Refusal :=
  commit s (headSignatureDoneEffect h s)
/-- TILE_PACKET_DUE (R398). -/
def execTilePacketDue (h t : Nat) (s : State) : Host.Outcome State Fault Refusal :=
  commit s (tilePacketDueEffect h t s)
/-- DP_HOTPLUG (R401). -/
def execDpHotplug (h : Nat) (edid : List Byte) (trained : Bool) (s : State) :
    Host.Outcome State Fault Refusal :=
  commit s (dpHotplugEffect h edid trained s)
/-- DP_LINK_LOSS (R401). -/
def execDpLinkLoss (h : Nat) (unplugged : Bool) (s : State) : Host.Outcome State Fault Refusal :=
  commit s (dpLinkLossEffect h unplugged s)
/-- RASTER_HEAD_SET (R406). -/
def execRasterHeadSet (m : Nat) (hs : List (Nat × HeadRegs)) (s : State) :
    Host.Outcome State Fault Refusal :=
  commit s (rasterHeadSetEffect m hs s)
/-- RASTER_TILE_SET (R406). -/
def execRasterTileSet (m h t : Nat) (r : TileRegs) (s : State) : Host.Outcome State Fault Refusal :=
  commit s (rasterTileSetEffect m h t r s)
/-- RASTER_STATUS (R406). -/
def execRasterStatus (m : Nat) (mask : Word) (s : State) : Host.Outcome State Fault Refusal :=
  commit s (rasterStatusEffect m mask s)
/-- RASTER_DP_EDID (R406). -/
def execRasterDpEdid (m h first count : Nat) (s : State) : Host.Outcome State Fault Refusal :=
  commit s (rasterDpEdidEffect m h first count s)
/-- RST_EVT_CAUSE_READ (R407). -/
def execRstEvtCauseRead (q : Path) (h : Nat) (s : State) : Host.Outcome State Fault Refusal :=
  commit s (rstEvtCauseReadEffect q h s)
/-- RST_SNAPSHOT (R407). -/
def execRstSnapshot (s : State) : Host.Outcome State Fault Refusal :=
  commit s (rstSnapshotEffect s)
/-- RST_CLEAR (R407). -/
def execRstClear (s : State) : Host.Outcome State Fault Refusal :=
  commit s (rstClearEffect s)

end Sys2Proof.Machine
end

