-- ==== Sys2Proof/Machine/Pair.lean ====
section
/-! DEFINITION. Machine/Pair.lean: the two feeds of each rail (R409 to R414) and the pair (R415 to R433): lanes,
heartbeats, the Halter, forming, frame hashes, takeover, role swaps, and their commands. -/
namespace Sys2Proof.Machine
open Sys2Proof

/-! ## Feeds -/

/-- A rail's state. -/
def State.rail (s : State) : Rail → RailSt
  | .core => s.feeds.core
  | .aon => s.feeds.aon

/-- A rail's state put in place. -/
def State.setRail (s : State) (k : Rail) (r : RailSt) : State :=
  match k with
  | .core => { s with feeds := { s.feeds with core := r } }
  | .aon => { s with feeds := { s.feeds with aon := r } }

/-- A feed of a rail, B where `b` is set. -/
def RailSt.feed (r : RailSt) (b : Bool) : Feed := if b then r.b else r.a
/-- A feed put in place. -/
def RailSt.setFeed (r : RailSt) (b : Bool) (f : Feed) : RailSt := if b then { r with b := f } else { r with a := f }

/-- The fault limits and the tolerance window of a rail in tenths of a mV (R409). -/
def Rail.limits : Rail → Nat × Nat × Nat × Nat
  | .core => (7000, 8000, 7125, 7875)
  | .aon => (7400, 8600, 7600, 8400)

/-- A rail's switch counter (R433). -/
def Rail.ctr : Rail → Ctr
  | .core => .pair 5
  | .aon => .pair 6

/-- The rail changes to its other feed (R410, R414): `old` is what the feed it leaves becomes. -/
def switchRail (k : Rail) (old : FeedSt) (s : State) : State :=
  let r := s.rail k
  let r1 := r.setFeed r.onB { r.feed r.onB with st := old }
  let r2 := r1.setFeed (!r.onB) { r1.feed (!r.onB) with st := .active }
  ((s.setRail k { r2 with onB := !r.onB }).bump k.ctr).raiseCause .pair 11

/-- FEED_FAULT: a sample of a feed, in tenths of a mV, lies outside the fault limits (R410, R413). -/
def feedFaultEffect (k : Rail) (b : Bool) (sample : Nat) (s : State) : State :=
  let (lo, hi, _, _) := k.limits
  if lo ≤ sample ∧ sample ≤ hi then s
  else
    let r := s.rail k
    let f := r.feed b
    let s1 := s.setRail k (r.setFeed b { f with st := .fault, mv := sample / 10 })
    if f.st = .fault then s1
    else
      let s2 := (s1.bump (.pair 7)).raiseCause .pair 10
      let s3 :=
        if r.onB = b ∧ (r.feed (!b)).st = .standby then (switchRail k .fault s2).logEvent 4 187 0 0
        else if !(s2.rail k).ok then s2.raiseCause .pair 13
        else s2
      s3.noteCond

/-- FEED_IN_WINDOW: a sample of a feed lies in the tolerance window; a feed in FAULT enters RESYNC, and one in
RESYNC whose window broke counts anew (R412). -/
def feedInWindowEffect (k : Rail) (b : Bool) (sample : Nat) (s : State) : State :=
  let (_, _, lo, hi) := k.limits
  let r := s.rail k
  let f := r.feed b
  if lo ≤ sample ∧ sample ≤ hi ∧ (f.st = .fault ∨ f.st = .resync) then
    (s.setRail k (r.setFeed b { f with st := .resync, since := s.elt })).noteCond
  else s

/-- FEED_RESYNC_COMPLETE: 500 ms in window (R412); the feed that supplies the rail becomes ACTIVE again. -/
def feedResyncCompleteEffect (k : Rail) (b : Bool) (s : State) : State :=
  let r := s.rail k
  let f := r.feed b
  if f.st = .resync ∧ f.since + 500000000 ≤ s.elt then
    (s.setRail k (r.setFeed b { f with st := if r.onB = b then .active else .standby })).raiseCause .pair 12
  else s

/-- The standby feed of a rail can take over. -/
def RailSt.ready (r : RailSt) : Bool := decide ((r.feed (!r.onB)).st = .standby)

/-- A swap of a rail's feeds, skipped where the standby feed is not STANDBY (R414). -/
def swapRail (k : Rail) (s : State) : State :=
  let r := s.rail k
  if r.ready then switchRail k (if (r.feed r.onB).st = .active then .standby else (r.feed r.onB).st) s
  else s.raiseCause .pair 14

/-- FEED_PERIODIC_SWAP. -/
def feedPeriodicSwapEffect (s : State) : State :=
  let n := fld s.feeds.cfg 10 0
  if n ≠ 0 ∧ s.feeds.swapAt + n * 60000000000 ≤ s.elt then
    swapRail .core { s with feeds := { s.feeds with swapAt := s.elt, aonDue := some (s.elt + 1000000000) } }
  else s

/-- FEED_AON_SWAP: one second later. -/
def feedAonSwapEffect (s : State) : State :=
  match s.feeds.aonDue with
  | some t => if t ≤ s.elt then swapRail .aon { s with feeds := { s.feeds with aonDue := none } } else s
  | none => s

/-- FEED_SET (R414, R432); reserved bits of the image are ignored (R13). -/
def feedSetEffect (m : Nat) (image : Word) (s : State) : State :=
  cmdNow m 0x0A04#16 s (fun _ t =>
    if 1440 < fld image 10 0 then (reply .badParam, t)
    else (reply .ok, { t with feeds := { t.feeds with cfg := image &&& 0x7FF#32 } }))

/-- FEED_SWAP (R414, R432). -/
def feedSwapEffect (m : Nat) (mask : Word) (s : State) : State :=
  cmdNow m 0x0A05#16 s (fun _ t =>
    if (bitOf mask 0 && !t.feeds.core.ready) || (bitOf mask 1 && !t.feeds.aon.ready) then (reply .badState, t)
    else
      let t1 := if bitOf mask 0 then swapRail .core t else t
      (reply .ok, if bitOf mask 1 then swapRail .aon t1 else t1))

/-- The code of a feed state (R409). -/
def FeedSt.code : FeedSt → Nat
  | .active => 0 | .standby => 1 | .fault => 2 | .resync => 3

/-- FEED_STATUS (R433). -/
def feedStatusWord (f : Feeds) : Nat :=
  (if f.aon.onB then 4096 else 0) + f.aon.b.st.code * 1024 + f.aon.a.st.code * 256
    + (if f.core.onB then 16 else 0) + f.core.b.st.code * 4 + f.core.a.st.code

/-- FEED_STATUS: the register, the three counters, the latest fault sample of each feed in mV. -/
def feedStatusEffect (m : Nat) (s : State) : State :=
  cmdRead m 0x0A06#16 s (fun _ t =>
    okWith (le 4 (feedStatusWord t.feeds)
      ++ [5, 6, 7].flatMap (fun w => le 4 (t.captured (.pair w)))
      ++ le 4 t.feeds.core.a.mv ++ le 4 t.feeds.core.b.mv ++ le 4 t.feeds.aon.a.mv ++ le 4 t.feeds.aon.b.mv))

/-! ## Lanes and heartbeats (R415, R416) -/

/-- PAIR_CFG.ENABLE. -/
def State.pairOn (s : State) : Bool := bitOf s.cfg.pair.cfg 31

/-- The first content whose work window begins after this instant (R426, R428). -/
def State.freshContent (s : State) : Nat := s.ym.next + 1

/-- LANE_DOWN. -/
def laneDownEffect (k : Nat) (s : State) : State :=
  let up := if k = 0 then s.pair.lane0 else s.pair.lane1
  if k < 2 ∧ up then
    let p := s.pair
    let p' : Pair := if k = 0 then { p with lane0 := false } else { p with lane1 := false }
    { s with pair := p' }.raiseCause .pair 6
  else s

/-- LANE_UP: the lane trains where its reference is present. -/
def laneUpEffect (k : Nat) (s : State) : State :=
  let p := s.pair
  if s.isP ∧ k < 2 ∧ s.glb.clk.serRef0 then
    let p' : Pair := if k = 0 then { p with lane0 := true, syncAt := s.elt } else { p with lane1 := true, syncAt := s.elt }
    { s with pair := p' }
  else s

/-- HEARTBEAT_TX: every 2 us the hardware sends a heartbeat. -/
def heartbeatTxEffect (s : State) : State :=
  if s.pairOn ∧ s.pair.hbTx + 2000 ≤ s.elt then
    { s with pair := { s.pair with hbTx := s.elt } }.emit .heartbeat
  else s

/-- HEARTBEAT_RX: a heartbeat arrives on a lane that is up; a device that was alone, or refused and had lost
heartbeats, finds a peer (R420). -/
def heartbeatRxEffect (s : State) : State :=
  if s.pairOn ∧ (s.pair.lane0 ∨ s.pair.lane1) then
    let st := if s.pair.st = .alone then PairSt.forming else s.pair.st
    { s with pair := { s.pair with hbRx := some s.elt, missed := 0, st := st } }
  else s

/-- HEARTBEAT_MISSED: none within 2.1 us of the previous one; a missed one counts as previous 2 us on (R416). -/
def heartbeatMissedEffect (s : State) : State :=
  match s.pair.hbRx with
  | some t =>
    if s.pairOn ∧ t + 2100 ≤ s.elt then
      { s with pair := { s.pair with hbRx := some (t + 2000), missed := s.pair.missed + 1 } }.bump (.pair 3)
    else s
  | none => s

/-! ## Role swaps (R429 to R431) -/

/-- The swaps waiting are answered. -/
def answerSwap (r : Reply) (s : State) : State :=
  match s.pair.swap with
  | some w => w.boxes.foldl (fun s m => endWait m 0x0A02#16 s r) { s with pair := { s.pair with swap := none } }
  | none => s

/-- A role swap completes on either device: both are IN_SYNC again. -/
def swapDone (role : Role) (s : State) : State :=
  let n := (s.pair.swap.bind (·.began)).getD s.frameNow
  let s1 : State := { s with tim := { s.tim with peerRef := false }, pair := { s.pair with
    role := role, st := .inSync, taking := .no, swapTs := none, swapAt := s.elt, syncAt := s.elt } }
  (answerSwap (okWith (le 4 (fnOf n).toNat)) ((s1.bump (.pair 1)).raiseCause .pair 3)).noteCond

/-- A swap can be requested: IN_SYNC and the SHADOW not muted (R429). -/
def State.swappable (s : State) : Bool := decide (s.pair.st = .inSync) && !s.pair.muted

/-- A swap is requested where none is. -/
def requestSwap (s : State) : State :=
  if s.pair.role = .lead ∧ s.swappable ∧ s.pair.swap.isNone then
    { s with pair := { s.pair with swap := some { atNs := s.elt, lit := s.ym.lit, auto := true } } }
  else s

/-- PAIR_SWAP (R429, R430, R423). -/
def pairSwapEffect (m : Nat) (s : State) : State :=
  cmd m 0x0A02#16 s (fun q t =>
    if !t.mirrored q then (some (reply .badState), t)
    else if !t.swappable then (some (reply .pairNotPaired), t)
    else
      let w := t.pair.swap.getD { atNs := t.elt, lit := t.ym.lit }
      (none, { t with pair := { t.pair with
        swap := some { w with boxes := w.boxes ++ [m], force := w.force || q.force } } }))

/-- The next 14 us are idle on every line port (R429). -/
def lineGap (s : State) : Bool :=
  let e := s.elt + 14000
  (List.range s.nLine).all (fun n =>
    let r := s.lp n
    !r.regs.on || (r.tx.isNone && r.txn.isNone && r.pulse.isNone
      && (match lineFlow s.cfg n with
          | none => true
          | some (_, f) =>
            if f.kind = 2 then (match nextBreak s n with | some t => decide (e ≤ t) | none => true)
            else (match s.nextPt with | some t => decide (e + frameNs r.regs f ≤ t) | none => true))))

/-- SWAP_GAP_START: the LEAD lowers HALTER_OUT and becomes SHADOW, in a gap of a content whose work window began
at least 1 ms after the request, or with FORCE at the next PT (R429, R430). -/
def swapGapStartEffect (s : State) : State :=
  match s.pair.swap with
  | none => s
  | some w =>
    let due := if w.force then decide (s.ym.lit ≠ w.lit) else lineGap s && decide (w.atNs + 1000000 ≤ s.ym.fbNs)
    if s.pair.role = .lead ∧ s.pair.st = .inSync ∧ w.began = none ∧ due then
      { s with pair := { s.pair with
        role := .shadow, st := .handover, out := false, bad := s.pair.bad || w.force
        swap := some { w with began := some s.frameNow } } }.noteCond
    else s

/-- At a PT a forced swap takes place (R430). -/
def forcedSwap (s : State) : State :=
  match s.pair.swap with
  | some w => if w.force then swapGapStartEffect s else s
  | none => s

/-- SWAP_GAP_NOTICE: the SHADOW learns t_s, at least 100 us ahead. -/
def swapGapNoticeEffect (ts : Nat) (s : State) : State :=
  if s.pair.role = .shadow ∧ s.pair.st = .inSync ∧ s.elt + 100000 ≤ ts then
    { s with pair := { s.pair with swapTs := some ts } }
  else s

/-- SWAP_POSTPONE: no qualifying gap within 10 s (R430). -/
def swapPostponeEffect (s : State) : State :=
  match s.pair.swap with
  | some w =>
    if w.force = false ∧ w.began = none ∧ w.atNs + 10000000000 ≤ s.elt then
      (answerSwap (reply .pairSwapPostponed) s).raiseCause .pair 4
    else s
  | none => s

/-- SWAP_INTERVAL_EXPIRE (R429). -/
def swapIntervalExpireEffect (s : State) : State :=
  let n := s.cfg.pair.swap.toNat
  if s.pair.role = .lead ∧ n ≠ 0 ∧ s.pair.swapAt + n * 1000000000 ≤ s.elt then
    requestSwap { s with pair := { s.pair with swapAt := s.elt } }
  else s

/-- PREFERRED_REVERSION (R431). -/
def preferredReversionEffect (s : State) : State :=
  let p := s.pair
  let want := if p.side then 1 else 2
  if p.role = .lead ∧ p.st = .inSync ∧ fld s.cfg.pair.cfg 30 29 = want ∧ p.lane0 ∧ p.lane1 ∧ ¬ p.muted
      ∧ p.syncAt + 30000000000 ≤ s.elt then requestSwap s
  else s

/-! ## Takeover and the Halter (R417 to R419, R426 to R428) -/

/-- A takeover begins (R426); a swap that was in progress ends with PAIR_NOT_PAIRED (R430). -/
def takeover (s : State) : State :=
  let p := s.pair
  let quiet := p.muted || decide (p.role = .solo)
  let s1 : State := { s with tim := { s.tim with peerRef := false }, pair := { p with
    st := .handover, taking := .takeover, bad := true, swapTs := none, muted := false
    txFrom := if quiet then s.freshContent else p.txFrom } }
  (answerSwap (reply .pairNotPaired) ((s1.bump (.pair 0)).raiseCause .pair 2)).noteCond

/-- HEARTBEAT_LOSS: three consecutive missed heartbeats. A SHADOW that sees HALTER_IN low takes over; any other
device is alone, and a holder whose peer may be alive raises ISOLATED (R426, R427). -/
def heartbeatLossEffect (s : State) : State :=
  let p := s.pair
  if s.pairOn ∧ 3 ≤ p.missed ∧ p.hbRx.isSome then
    let s1 : State := { s with pair := { p with hbRx := none } }
    if p.role = .shadow ∧ ¬ p.inp ∧ p.taking ≠ .takeover then takeover s1
    else if p.taking ≠ .no then s1
    else
      let s2 : State := { s1 with tim := { s1.tim with peerRef := false }, pair := { s1.pair with
        role := .solo, st := .alone, swapTs := none, muted := false } }
      let s3 := answerSwap (reply .pairNotPaired) s2
      (if p.role = .lead ∨ p.role = .shadow then s3.raiseCause .pair 1 else s3).noteCond
  else s

/-- HALTER_IN_LOW: the peer's signal falls. On the SHADOW at or after t_s, or in a forced swap, that is the swap's
step 3; else a SHADOW, or a silent device, takes over (R426, R427, R429). -/
def halterInLowEffect (s : State) : State :=
  let p := s.pair
  if !p.inp then s
  else
    let s1 : State := { s with pair := { p with inp := false, lowAt := s.elt } }
    let swapping : Bool := (match p.swapTs with | some t => decide (t ≤ s.elt) | none => false)
      || (match p.swap with | some w => w.force | none => false)
    if !s.pairOn then s1
    else if p.role = .shadow ∧ p.st = .inSync ∧ swapping then
      { s1 with pair := { s1.pair with
        st := .handover, taking := .swap
        bad := p.bad || (match p.swap with | some w => w.force | none => false) } }.noteCond
    else if (p.role = .shadow ∧ p.st ≠ .handover) ∨ (p.role = .solo ∧ ¬ p.out) then takeover s1
    else s1

/-- HALTER_IN_HIGH: with the own signal high both devices collapse and side 1 yields (R418); after a swap's
release it says that the peer is LEAD (R429 step 4). -/
def halterInHighEffect (s : State) : State :=
  let p := s.pair
  if p.inp ∨ ¬ s.isP then s
  else
    let s1 : State := { s with pair := { p with inp := true } }
    if !s.pairOn then s1
    else if p.out then
      ({ s1 with pair := { s1.pair with conflict := true, out := !p.side } }.bump (.pair 4)).raiseCause .pair 7
    else if p.role = .shadow ∧ p.st = .handover ∧ p.taking = .no then swapDone .shadow s1
    else s1

/-- HALTER_RAISE: HALTER_IN has been low for 5.0 us (R418). -/
def halterRaiseEffect (s : State) : State :=
  let p := s.pair
  if s.pairOn ∧ ¬ p.inp ∧ p.lowAt + 5000 ≤ s.elt ∧ (¬ p.out ∨ p.conflict) ∧ s.glb.clk.rootLock ∧ ¬ s.glb.faulted
      ∧ (p.role = .solo ∨ p.role = .lead ∨ p.taking ≠ .no) then
    let s1 : State := { s with pair := { p with out := true, conflict := false, taking := .no } }
    if p.taking = .no then s1
    else if p.taking = .takeover then
      { s1 with pair := { s1.pair with role := .solo, st := if p.hbRx.isSome then .forming else .alone } }.noteCond
    else swapDone .lead s1
  else s

/-- HALTER_WATCHDOG: the AON watchdog sees the own generator miss three heartbeats and lowers HALTER_OUT (R418). -/
def halterWatchdogEffect (s : State) : State :=
  if s.pairOn ∧ s.pair.out ∧ s.pair.hbTx + 6000 ≤ s.elt then { s with pair := { s.pair with out := false } } else s

/-! ## Forming (R420, R422) -/

/-- The peer is refused. -/
def refusePeer (st : Status) (s : State) : State :=
  ({ s with pair := { s.pair with st := .refused, role := .solo }, tim := { s.tim with peerRef := false } }.raiseCause .pair 8).logEvent 4 184 st.code 0

/-- PAIR_FORM: the devices exchange variants and versions, the holder becomes LEAD, and the SHADOW takes the
LEAD's configuration and sequence numbers (R420 steps 1 to 4). -/
def pairFormEffect (x : PeerShows) (s : State) : State :=
  if s.pairOn ∧ s.pair.st = .forming ∧ s.pair.role = .solo then
    let s1 : State := { s with pair := { s.pair with variant := x.variant, proto := x.proto, version := x.version } }
    if x.variant ≠ s.vcode then refusePeer .pairVariantMismatch s1
    else if x.proto ≠ s.sec.running.pairProto then refusePeer .pairProtoMismatch s1
    else if !x.auth then refusePeer .authFailed s1
    else if s.halter then { s1 with pair := { s1.pair with role := .lead } }
    else if x.holds then
      { s1 with
        pair := { s1.pair with role := .shadow }
        tim := { s1.tim with peerRef := false, peerBad := 0 }
        sched := x.sched
        ym := { s1.ym with seqOff := x.seqOff, cutSeq := x.cutSeq, ctrlSeq := x.ctrlSeq } }
    else s1
  else s

/-- PAIR_IN_SYNC: the hashes are equal and the SHADOW's time is within 4 ns of the LEAD's (R420 step 5); on the
LEAD `peerOk` is what the SHADOW reports. -/
def pairInSyncEffect (hash : Digest) (peerOk : Bool) (s : State) : State :=
  let timed := if s.pair.role = .shadow then s.tim.peerRef && decide (s.tim.offset.natAbs ≤ 4) else peerOk
  if s.pair.st = .forming ∧ (s.pair.role = .lead ∨ s.pair.role = .shadow) ∧ hash = s.configHash s.cfg ∧ timed then
    { s with pair := { s.pair with
      st := .inSync, syncAt := s.elt, swapAt := s.elt, divRun := 0, goodRun := 0, muted := false, compared := s.ym.lit
      txFrom := if s.pair.role = Role.shadow then s.freshContent else s.pair.txFrom } }.raiseCause .pair 0
  else s

/-! ## Frame hashes (R424, R425) -/

/-- The key of a flow's hash of a content. -/
def hashKey (f n : Nat) : Nat := n * 65536 + f

/-- CRC-32C seeded with a flow index: the start value folded with it (R424, R466). -/
def flowHash (f : Nat) (bytes : List Byte) : Word :=
  (bytes.foldl crcByte (0xFFFFFFFF#32 ^^^ BitVec.ofNat 32 f)) ^^^ 0xFFFFFFFF#32

/-- A flow's content has been packed whole: the device computes H(f, N) and sends it to its peer (R424). -/
def noteHash (f n : Nat) (bytes : List Byte) (s : State) : State :=
  if s.pair.role = .lead ∨ s.pair.role = .shadow then
    let h := flowHash f bytes
    let own := s.pair.own.filter (fun e => e.1 ≠ hashKey f n ∧ hashKey 0 n ≤ e.1 + 524288) ++ [(hashKey f n, h)]
    { s with pair := { s.pair with own := own } }.emit (.frameHash f n h)
  else s

/-- FRAME_HASH_RX: a hash of the peer arrives over the lanes. -/
def frameHashRxEffect (f n : Nat) (h : Word) (s : State) : State :=
  if (s.pair.role = .lead ∨ s.pair.role = .shadow) ∧ (s.pair.lane0 ∨ s.pair.lane1) ∧ f < 65536 then
    let peer := s.pair.peer.filter (fun e => e.1 ≠ hashKey f n ∧ hashKey 0 n ≤ e.1 + 524288) ++ [(hashKey f n, h)]
    { s with pair := { s.pair with peer := peer } }
  else s

/-- A flow carries content n to the wire at or before PT(n) (R115): tile flows follow the heads instead (R399), a DMX flow
sends in its phase only. -/
def FlowRec.carries (r : FlowRec) (n : Nat) : Bool :=
  r.enable && decide (r.kind ≠ 4) && (decide (r.kind ≠ 2) || decide (n % max 1 r.divisor = r.phase))

/-- The enabled flows of content n whose hashes of it differ or are missing. -/
def differing (s : State) (n : Nat) : List Nat :=
  (((s.cfgFor n).flow.flows.filter (fun e => e.2.carries n)).filter (fun e =>
    let a := s.pair.own.find? (fun x => x.1 = hashKey e.1 n)
    let b := s.pair.peer.find? (fun x => x.1 = hashKey e.1 n)
    match a, b with
    | some x, some y => decide (x.2 ≠ y.2)
    | _, _ => true)).map (·.1)

/-- Contents in ceil(rate x 1 s) (R425). -/
def YmCfg.perSecond (y : YmCfg) : Nat := ceilDiv (y.num * 1000000000) y.tNum

/-- The content whose hashes are compared next: the one after the latest compared, where it has been lit. -/
def State.hashNext (s : State) : Option Nat :=
  match s.ym.lit, s.pair.compared with
  | some l, some c => if c < l then some (if l ≤ c + 8 then c + 1 else l) else none
  | some l, none => some l
  | none, _ => none

/-- HASH_COMPARE_DEADLINE: PT(N) + 2 ms. The LEAD counts and reports a divergence; the SHADOW is muted after
DIVERGE_LIMIT consecutive ones and resumes after a second without (R424, R425). -/
def hashCompareDeadlineEffect (s : State) : State :=
  match s.hashNext with
  | none => s
  | some n =>
    if s.pair.st = .inSync ∧ (s.cfgFor n).ym.ptAt n + 2000000 ≤ s.elt then
      let ds := differing s n
      let p : Pair := { s.pair with
        compared := some n
        own := s.pair.own.filter (fun e => hashKey 0 (n + 1) ≤ e.1)
        peer := s.pair.peer.filter (fun e => hashKey 0 (n + 1) ≤ e.1)
        divRun := if ds = [] then 0 else s.pair.divRun + 1
        goodRun := if ds = [] then s.pair.goodRun + 1 else 0 }
      let s1 : State := { s with pair := p }
      let s2 :=
        if ds ≠ [] ∧ p.role = .lead then
          (({ s1 with pair := { p with divFlow := BitVec.ofNat 16 (ds.headD 0), divFn := fnOf n } }.bump
            (.pair 2)).raiseCause .pair 5).logEvent 4 181 0 (ds.headD 0 + (fnOf n).toNat * 4294967296)
        else s1
      if ¬ p.muted ∧ fld s.cfg.pair.cfg 23 16 ≤ p.divRun then
        let s3 : State := { s2 with pair := { s2.pair with muted := true } }
        if p.role = .shadow then s3.raiseCause .pair 9 else s3
      else if p.muted ∧ s.cfg.ym.perSecond ≤ p.goodRun then
        { s2 with pair := { s2.pair with
          muted := false, syncAt := s.elt, txFrom := if p.role = .shadow then n + 1 else p.txFrom } }
      else s2
    else s

/-! ## Commands -/

/-- Pairing can be enabled on a P variant only (R432). -/
def pairFits (t : State) (x : PairCfg) : Except Status Unit := need (t.isP || !bitOf x.cfg 31) .variantUnsupported

/-- The rules of the pair's registers (R432; R537). -/
def pairRules (t : State) (c : Cfg) : Except Status Unit := do
  let x := c.pair
  pairFits t x
  need (decide (fld x.cfg 30 29 ≠ 3) && decide (fld x.cfg 23 16 ≠ 0)
    && (decide (x.swap = 0) || (decide (3600 ≤ x.swap.toNat) && decide (x.swap.toNat ≤ 604800)))) .badParam

/-- PAIR_SET (R432); reserved bits of the image are ignored (R13). -/
def pairSetEffect (m : Nat) (x : PairCfg) (s : State) : State :=
  stage m 0x0A01#16 [0x0A010000] s (fun _ t c => do
    let c' : Cfg := { c with pair := { x with cfg := x.cfg &&& 0xE0FF0000#32 } }
    pairRules t c'
    pure c') (fun _ t => pairFits t x)

def Role.code : Role → Nat
  | .unpaired => 0 | .lead => 1 | .shadow => 2 | .solo => 3

def PairSt.code : PairSt → Nat
  | .off => 0 | .forming => 1 | .inSync => 2 | .handover => 3 | .alone => 4 | .refused => 5

/-- PAIR_STATUS (R433). -/
def pairStatusWord (s : State) : Nat :=
  let p := s.pair
  p.role.code * 2 ^ 30 + p.st.code * 2 ^ 27 + (if s.halter then 2 ^ 26 else 0) + (if p.out then 2 ^ 25 else 0)
    + (if p.inp then 2 ^ 24 else 0) + (if p.side then 2 ^ 23 else 0) + (if p.lane1 then 2 ^ 22 else 0)
    + (if p.lane0 then 2 ^ 21 else 0) + (if p.muted && decide (p.role = .shadow) then 2 ^ 20 else 0)
    + p.proto.toNat * 256 + s.sec.running.pairProto.toNat

/-- PAIR_STATUS: the register, the peer's variant and protocol version, the pair's five counters. -/
def pairStatusEffect (m : Nat) (s : State) : State :=
  cmdRead m 0x0A03#16 s (fun _ t =>
    okWith (le 4 (pairStatusWord t) ++ le 4 t.pair.variant.toNat ++ le 4 t.pair.proto.toNat
      ++ (List.range 5).flatMap (fun w => le 4 (t.captured (.pair w)))))

/-- PAIR_EVT_CAUSE_READ (R11, R433). -/
def pairEvtCauseReadEffect (q : Path) (s : State) : State :=
  (s.returns q (s.cause .pair)).clearCause .pair 0xFFFFFFFF#32

/-- PAIR_CNT_CTRL.SNAPSHOT. -/
def pairSnapshotEffect (s : State) : State := s.captureKeys 0x900000 0xA00000

/-- PAIR_CNT_CTRL.CLEAR. -/
def pairClearEffect (s : State) : State := s.clearKeys 0x900000 0xA00000

/-! ## Boundaries, commits, credentials -/

/-- What a commit does to the pair: ENABLE turns pairing on or off, and a changed PAIR_CFG lifts a refusal (R420). -/
def commitPair (old : Cfg) (s : State) : State :=
  let was := bitOf old.pair.cfg 31
  let p := s.pair
  if s.pairOn ∧ ¬ was then
    { s with pair := { p with role := .solo, st := .alone, hbTx := s.elt, lowAt := s.elt } }.noteCond
  else if ¬ s.pairOn ∧ was then
    let fresh : Pair := { side := p.side, inp := p.inp, lane0 := p.lane0, lane1 := p.lane1 }
    (answerSwap (reply .pairNotPaired) { s with pair := { fresh with swap := p.swap }, tim := { s.tim with peerRef := false } }).noteCond
  else if old.pair.cfg ≠ s.cfg.pair.cfg ∧ p.st = .refused then
    { s with pair := { p with st := if p.hbRx.isSome then .forming else .alone } }
  else s

/-- A credential change lets a refused pair form again (R422). -/
def retryPair (s : State) : State :=
  if s.pair.st = .refused then
    { s with pair := { s.pair with st := if s.pair.hbRx.isSome then .forming else .alone } }
  else s

/-- At a boundary PAIR_OK holds again once HANDOVER has ended (R428). -/
def pairBoundary (s : State) : State :=
  if s.pair.bad ∧ s.pair.st ≠ .handover then { s with pair := { s.pair with bad := false } } else s

/-- The device releases the Halter for a fault (R24, R413). -/
def releaseHalter (s : State) : State := { s with pair := { s.pair with out := false, taking := .no } }

-- The meanings of this family's rows: the effect, with the queue and the identity kept.

/-- FEED_FAULT (R410). -/
def execFeedFault (k : Rail) (b : Bool) (sample : Nat) (s : State) : Host.Outcome State Fault Refusal :=
  commit s (feedFaultEffect k b sample s)
/-- FEED_IN_WINDOW (R412). -/
def execFeedInWindow (k : Rail) (b : Bool) (sample : Nat) (s : State) : Host.Outcome State Fault Refusal :=
  commit s (feedInWindowEffect k b sample s)
/-- FEED_RESYNC_COMPLETE (R412). -/
def execFeedResyncComplete (k : Rail) (b : Bool) (s : State) : Host.Outcome State Fault Refusal :=
  commit s (feedResyncCompleteEffect k b s)
/-- FEED_PERIODIC_SWAP (R414). -/
def execFeedPeriodicSwap (s : State) : Host.Outcome State Fault Refusal :=
  commit s (feedPeriodicSwapEffect s)
/-- FEED_AON_SWAP (R414). -/
def execFeedAonSwap (s : State) : Host.Outcome State Fault Refusal :=
  commit s (feedAonSwapEffect s)
/-- HEARTBEAT_TX (R416). -/
def execHeartbeatTx (s : State) : Host.Outcome State Fault Refusal :=
  commit s (heartbeatTxEffect s)
/-- HEARTBEAT_RX (R416). -/
def execHeartbeatRx (s : State) : Host.Outcome State Fault Refusal :=
  commit s (heartbeatRxEffect s)
/-- HEARTBEAT_MISSED (R416). -/
def execHeartbeatMissed (s : State) : Host.Outcome State Fault Refusal :=
  commit s (heartbeatMissedEffect s)
/-- HEARTBEAT_LOSS (R427). -/
def execHeartbeatLoss (s : State) : Host.Outcome State Fault Refusal :=
  commit s (heartbeatLossEffect s)
/-- HALTER_WATCHDOG (R418). -/
def execHalterWatchdog (s : State) : Host.Outcome State Fault Refusal :=
  commit s (halterWatchdogEffect s)
/-- HALTER_IN_LOW (R426). -/
def execHalterInLow (s : State) : Host.Outcome State Fault Refusal :=
  commit s (halterInLowEffect s)
/-- HALTER_IN_HIGH (R418). -/
def execHalterInHigh (s : State) : Host.Outcome State Fault Refusal :=
  commit s (halterInHighEffect s)
/-- HALTER_RAISE (R418). -/
def execHalterRaise (s : State) : Host.Outcome State Fault Refusal :=
  commit s (halterRaiseEffect s)
/-- LANE_DOWN (R415). -/
def execLaneDown (k : Nat) (s : State) : Host.Outcome State Fault Refusal :=
  commit s (laneDownEffect k s)
/-- LANE_UP (R415). -/
def execLaneUp (k : Nat) (s : State) : Host.Outcome State Fault Refusal :=
  commit s (laneUpEffect k s)
/-- PAIR_FORM (R420). -/
def execPairForm (x : PeerShows) (s : State) : Host.Outcome State Fault Refusal :=
  commit s (pairFormEffect x s)
/-- PAIR_IN_SYNC (R420). -/
def execPairInSync (hash : Digest) (peerOk : Bool) (s : State) : Host.Outcome State Fault Refusal :=
  commit s (pairInSyncEffect hash peerOk s)
/-- FRAME_HASH_RX (R424). -/
def execFrameHashRx (f n : Nat) (h : Word) (s : State) : Host.Outcome State Fault Refusal :=
  commit s (frameHashRxEffect f n h s)
/-- HASH_COMPARE_DEADLINE (R424). -/
def execHashCompareDeadline (s : State) : Host.Outcome State Fault Refusal :=
  commit s (hashCompareDeadlineEffect s)
/-- SWAP_GAP_START (R429). -/
def execSwapGapStart (s : State) : Host.Outcome State Fault Refusal :=
  commit s (swapGapStartEffect s)
/-- SWAP_POSTPONE (R430). -/
def execSwapPostpone (s : State) : Host.Outcome State Fault Refusal :=
  commit s (swapPostponeEffect s)
/-- SWAP_INTERVAL_EXPIRE (R429). -/
def execSwapIntervalExpire (s : State) : Host.Outcome State Fault Refusal :=
  commit s (swapIntervalExpireEffect s)
/-- PREFERRED_REVERSION (R431). -/
def execPreferredReversion (s : State) : Host.Outcome State Fault Refusal :=
  commit s (preferredReversionEffect s)
/-- PAIR_SET (R432). -/
def execPairSet (m : Nat) (x : PairCfg) (s : State) : Host.Outcome State Fault Refusal :=
  commit s (pairSetEffect m x s)
/-- PAIR_SWAP (R429). -/
def execPairSwap (m : Nat) (s : State) : Host.Outcome State Fault Refusal :=
  commit s (pairSwapEffect m s)
/-- PAIR_STATUS (R432). -/
def execPairStatus (m : Nat) (s : State) : Host.Outcome State Fault Refusal :=
  commit s (pairStatusEffect m s)
/-- FEED_SET (R414). -/
def execFeedSet (m : Nat) (image : Word) (s : State) : Host.Outcome State Fault Refusal :=
  commit s (feedSetEffect m image s)
/-- FEED_SWAP (R414). -/
def execFeedSwap (m : Nat) (mask : Word) (s : State) : Host.Outcome State Fault Refusal :=
  commit s (feedSwapEffect m mask s)
/-- FEED_STATUS (R432). -/
def execFeedStatus (m : Nat) (s : State) : Host.Outcome State Fault Refusal :=
  commit s (feedStatusEffect m s)
/-- PAIR_EVT_CAUSE_READ (R433). -/
def execPairEvtCauseRead (q : Path) (s : State) : Host.Outcome State Fault Refusal :=
  commit s (pairEvtCauseReadEffect q s)
/-- PAIR_SNAPSHOT (R433). -/
def execPairSnapshot (s : State) : Host.Outcome State Fault Refusal :=
  commit s (pairSnapshotEffect s)
/-- PAIR_CLEAR (R433). -/
def execPairClear (s : State) : Host.Outcome State Fault Refusal :=
  commit s (pairClearEffect s)
/-- SWAP_GAP_NOTICE (R429). -/
def execSwapGapNotice (ts : Nat) (s : State) : Host.Outcome State Fault Refusal :=
  commit s (swapGapNoticeEffect ts s)

end Sys2Proof.Machine
end

