-- ==== Sys2Proof/Machine/Admission.lean ====
section
/-! DEFINITION. Machine/Admission.lean: the admission model (R101 to R113, R244, R297): the demands of a
configuration on every resource, exactly, and the first refusal. -/
namespace Sys2Proof.Machine
open Sys2Proof

/-- A refusal (R113). -/
structure Refuse where
  reason : Nat
  kind   : Nat
  index  : Nat
  demand : Nat
  cap    : Nat
  deriving DecidableEq, Repr

/-- The resource map after self-test (R102, R112). -/
structure Pool where
  nStalls : Nat := 16
  nDram   : Nat := 3
  nEth    : Nat := 16
  nLine   : Nat := 40
  banks   : Nat := 48
  noStall : List Nat := []
  noEth   : List Nat := []
  noLine  : List Nat := []
  noHead  : List Nat := []
  noPixel : Bool := false
  noComp  : Bool := false
  deriving DecidableEq, Repr

/-- A demand rounded up to a whole unit. -/
def up (q : Rat) : Nat := q.ceil.toNat
/-- A capacity rounded down. -/
def down (q : Rat) : Nat := q.floor.toNat

/-- The two tests of R101. -/
def caps (kind idx : Nat) (g be c : Rat) : Option Refuse :=
  let g80 := down (c * 80 / 100)
  let t95 := down (c * 95 / 100)
  if g80 < up g then some { reason := 1, kind := kind, index := idx, demand := up g, cap := g80 }
  else if t95 < up (g + be) then some { reason := 2, kind := kind, index := idx, demand := up (g + be), cap := t95 }
  else none

/-- A deadline test. -/
def deadline (kind idx : Nat) (d c : Rat) : Option Refuse :=
  if c < d then some { reason := 3, kind := kind, index := idx, demand := up d, cap := down c } else none

/-- The first refusal of a list of tests. -/
def firstRefusal : List (Option Refuse) → Option Refuse
  | [] => none
  | some r :: _ => some r
  | none :: rest => firstRefusal rest

/-! ## Rate, Gate offset, counted resources (R86, R92, R112, R171) -/

/-- The rate lies between 24,000 / 1,001 Hz and 240 Hz. DESIGN CHOICE: R113 does not say which numbers RATE, GATE_OFFSET
and PRIORITY_ORDER report as DEMAND and CAPACITY: NUM and the greatest NUM, G and the greatest G, and zeros (log 64). -/
def rateTest (y : YmCfg) : Option Refuse :=
  if 24000 * y.tNum ≤ 1001000000000 * y.num ∧ y.num * 1000000000 ≤ 240 * y.tNum ∧ y.num ≠ 0 then none
  else some { reason := 7, kind := 13, index := 0, demand := y.num, cap := 240 * y.tNum / 1000000000 }

/-- G lies between 200,000 ns and T - 200,000 ns; what is reported is the model's choice (log 64). -/
def gateTest (y : YmCfg) : Option Refuse :=
  let g := y.gateNs.toNat
  if 200000 ≤ g ∧ (g + 200000) * y.num ≤ y.tNum then none
  else some { reason := 6, kind := 12, index := 0, demand := g, cap := y.tNum / y.num - 200000 }

/-- The flows that are enabled. -/
def enabledFlows (c : Cfg) : List (Nat × FlowRec) := c.flow.flows.filter (fun e => e.2.enable)

/-- Line banks: the protected layer first, then layers 0 to 7. -/
def bankTest (c : Cfg) (pool : Nat) : Nat → List Nat → Option Refuse
  | _, [] => none
  | used, l :: rest =>
    let n := used + lineBanks (layerOf c.comp l)
    if pool < n then some { reason := 5, kind := 9, index := l, demand := n, cap := pool }
    else bankTest c pool n rest

def countedTests (c : Cfg) (p : Pool) : List (Option Refuse) :=
  let n := (enabledFlows c).length
  let t := c.stl.graph.tasks.length
  [ if 65536 < n then some { reason := 4, kind := 8, index := 0, demand := n, cap := 65536 } else none
  , bankTest c p.banks 0 [8, 0, 1, 2, 3, 4, 5, 6, 7]
  , if 1052672 < t then some { reason := 4, kind := 10, index := 0, demand := t, cap := 1052672 } else none ]

/-! ## DRAM (R104) -/

/-- A requester's lines in a region over a window in us. -/
structure DramReq where
  who    : Nat
  region : Nat
  guar   : Bool
  lines  : Nat
  start  : Rat
  stop   : Rat
  deriving DecidableEq

/-- G in us. -/
def gUs (y : YmCfg) : Rat := (y.gateNs.toNat : Rat) / 1000
/-- T in us. -/
def tUs (y : YmCfg) : Rat := y.period / 1000

/-- The rows the mapper samples: the distinct canvas rows of each segment, summed over the segments (R190). -/
def rowsSampled (c : Cfg) : Nat :=
  let h : Int := (canvasH c.comp - 1 : Nat)
  (c.map.map.segs.map (fun g =>
    let rs := (segRecs c.map.map g).map (fun r => (clampI r.rows.1 0 h, clampI r.rows.2 0 h))
    ((List.range (canvasH c.comp)).filter (fun y =>
      rs.any (fun e => decide (e.1 ≤ (y : Int)) && decide ((y : Int) ≤ e.2)))).length)).sum

/-- The bytes of one source frame of a layer. -/
def srcBytes (c : Cfg) (l : Nat) : Nat :=
  let r := layerOf c.comp l
  frameBytes r.format r.sw r.sh

/-- The rate of an input against the frame rate, as frames per T (R104). -/
def inputPerT (c : Cfg) (l : Nat) : Rat :=
  let i := tget c.comp.inputs (layerOf c.comp l).index {}
  (i.rateNum : Rat) * c.ym.period / (if i.den1001 then 1001000000000 else 1000000000000)

/-- Every requester with a demand. -/
def dramReqs (c : Cfg) : List DramReq :=
  let y := c.ym
  let t := tUs y
  let g := gUs y
  let tasks (late : Bool) (guar : Bool) : Nat :=
    ((c.stl.graph.tasks.filter (fun d => d.late = late ∧ d.guaranteed = guar)).map (fun d => ceilDiv d.dataBytes.toNat 64)).sum
  let fixturesOf (guar : Bool) : List Nat :=
    (((enabledFlows c).filter (fun e => !e.2.pixels && decide (e.2.kind ≠ 4) && decide (e.2.guaranteed = guar))).flatMap
      (fun e => (flowEntries c.flow e.2).map (fun w => fld w 16 0))).dedup
  let gf := fixturesOf true
  let bf := (fixturesOf false).filter (· ∉ gf)
  let pack (fs : List Nat) : Nat := (fs.map (fun f => ceilDiv (2 * slotsOf c.stl f) 64)).sum
  let w := canvasW c.comp
  let layers := (List.range 9).filter (fun l => (layerOf c.comp l).on)
  let read := blendOrder c.comp
  let writes (l : Nat) : Nat :=
    let r := layerOf c.comp l
    if r.kind = 0 then up ((srcBytes c l : Rat) * inputPerT c l / 64)
    else if r.kind = 3 then 0 else ceilDiv (srcBytes c l) 64
  let heads := c.rst.heads.filter (fun e => e.2.on)
  let all : List DramReq :=
   [ ⟨0, 0, true, tasks false true, 0, g⟩, ⟨0, 0, false, tasks false false, 0, g⟩
   , ⟨1, 0, true, tasks true true, 0, t⟩, ⟨1, 0, false, tasks true false, 0, t⟩
   , ⟨2, 0, true, pack gf, g, t + g⟩, ⟨2, 0, false, pack bf, g, t + g⟩
   , ⟨3, 1, true, ceilDiv (16 * c.map.map.recs.length) 64, g, t + g - 50⟩
   , ⟨3, 2, true, ceilDiv (4 * w * rowsSampled c) 64, g, t + g - 50⟩
   , ⟨3, 0, true, (c.map.map.recs.map (fun r => r.fixture)).dedup.length, g, t + g - 50⟩
   , ⟨4, 2, true, ceilDiv (4 * w * canvasH c.comp) 64, 0, t⟩ ]
  ++ read.map (fun l => ⟨4, 8 + l, !(layerOf c.comp l).bestEffort, ceilDiv (srcBytes c l) 64, 0, t⟩)
  ++ layers.map (fun l => ⟨5, 8 + l, !(layerOf c.comp l).bestEffort, writes l, 0, t⟩)
  ++ [ ⟨6, 2, true, (heads.map (fun e => ceilDiv (4 * horz e.2.winSize * vert e.2.winSize * e.2.mul) 64)).sum, 0, t⟩
     , ⟨7, 3, true, 2 * (c.stl.graph.tasks.length - 4096), 0, t⟩ ]
  all.filter (fun r => r.lines ≠ 0)

/-- The requesters of a channel of n. -/
def channelReqs (c : Cfg) (n k : Nat) : List DramReq :=
  (dramReqs c).filter (fun r => decide (Config.channelOf r.region % max 1 n = k))

/-- Reservations in slots per us: the lines of one requester in one window and class together. -/
def reservations (rs : List DramReq) : List (DramReq × Nat) :=
  let heads := (rs.map (fun r => { r with region := 0, lines := 0 })).dedup
  heads.map (fun h =>
    let l := ((rs.filter (fun r => { r with region := 0, lines := 0 } = h)).map (·.lines)).sum
    (h, up ((l : Rat) / (h.stop - h.start))))

/-- A window, modulo T, covers an instant. -/
def covers (t : Rat) (r : DramReq) (x : Rat) : Bool :=
  let off := r.start - t * ((r.start / t).floor : Rat)
  let d := x - off - t * (((x - off) / t).floor : Rat)
  decide (d < r.stop - r.start)

/-- The peak of the reservations over the frame. -/
def peakOf (t : Rat) (rs : List (DramReq × Nat)) : Nat :=
  (rs.map (fun p => ((rs.filter (fun r => covers t r.1 p.1.start)).map (·.2)).sum)).foldl max 0

/-- The reservations at an instant, in us from a boundary. -/
def atInstant (t x : Rat) (rs : List (DramReq × Nat)) : Nat := ((rs.filter (fun r => covers t r.1 x)).map (·.2)).sum

def dramTests (c : Cfg) (p : Pool) : List (Option Refuse) :=
  (List.range p.nDram).map (fun k =>
    let rs := reservations (channelReqs c p.nDram k)
    let t := tUs c.ym
    let g := peakOf t (rs.filter (fun r => r.1.guar))
    let a := peakOf t rs
    if 640 < g then some { reason := 1, kind := 1, index := k, demand := g, cap := 640 }
    else if 760 < a then some { reason := 2, kind := 1, index := k, demand := a, cap := 760 } else none)

/-! ## Compositor and pixels (R105 to R107) -/

/-- The PIXCLK cycles of a layer for n of its destination rows: rows in which it is composed. -/
def layerCycles (c : Cfg) (l rows : Nat) : Nat :=
  let r := layerOf c.comp l
  ceilDiv (r.dw * rows) 4 * max 1 (ceilDiv r.sw (2 * r.dw)) + 24 * rows

/-- The compositor cycles of rows 0 to y, of the layers it composes (R172) that are not best-effort, which count in the
total test only (R175). -/
def cyclesTo (c : Cfg) (y : Nat) : Nat :=
  ceilDiv (canvasW c.comp * (y + 1)) 4
    + (((blendOrder c.comp).filter (fun l => !(layerOf c.comp l).bestEffort)).map (fun l =>
      let r := layerOf c.comp l
      layerCycles c l (min r.dh (y + 1 - r.y)))).sum

/-- The lane-cycles of a pixel record. -/
def laneCost (r : PixRec) : Nat := if r.sample ≤ 1 then 1 else ceilDiv (2 ^ r.areaW * 2 ^ r.areaH) 4

/-- The lane-cycles of a segment. -/
def segCost (c : Cfg) (g : MapSeg) : Nat := 64 + ((segRecs c.map.map g).map laneCost).sum

/-- A segment holds pixels of a line-port flow (R203). -/
def segLine (c : Cfg) (g : MapSeg) : Bool :=
  (segRecs c.map.map g).any (fun r => match tfind? c.flow.flows r.flow with
    | some f => f.enable && f.onLine
    | none => false)

/-- The segments in the mapper's order: those of line-port flows first. -/
def segOrder (c : Cfg) : List (Nat × MapSeg) :=
  let all := (List.range c.map.map.segs.length).zip c.map.map.segs
  all.filter (fun e => segLine c e.2) ++ all.filter (fun e => !segLine c e.2)

/-- Each segment with the lane-cycles of all before it. -/
def withBefore (c : Cfg) : Nat → List (Nat × MapSeg) → List (Nat × MapSeg × Nat)
  | _, [] => []
  | p, (j, g) :: rest => (j, g, p) :: withBefore c (p + segCost c g) rest

/-- The highest canvas row a segment samples. -/
def segTop (c : Cfg) (g : MapSeg) : Nat := min g.rowMax (canvasH c.comp - 1)

/-- The two sides of the ahead rule, in ns. -/
def aheadSides (c : Cfg) (e : Nat × MapSeg × Nat) : Rat × Rat :=
  ((cyclesTo c (segTop c e.2.1) : Rat) * 1000 / 512, (c.ym.gateNs.toNat : Rat) + (e.2.2 : Rat) * 1000 / 2048)

def composeTests (c : Cfg) (p : Pool) : List (Option Refuse) :=
  if canvasW c.comp = 0 then []
  else
    let ls := blendOrder c.comp
    let cost (l : Nat) : Nat := layerCycles c l (layerOf c.comp l).dh
    let g := ceilDiv (canvasW c.comp * canvasH c.comp) 4
      + ((ls.filter (fun l => !(layerOf c.comp l).bestEffort)).map cost).sum
    let be := ((ls.filter (fun l => (layerOf c.comp l).bestEffort)).map cost).sum
    let cap : Rat := if p.noComp then 0 else c.ym.period * 64 / 100
    caps 3 0 g be cap :: ((withBefore c 0 (segOrder c)).mergeSort (fun a b => a.1 ≤ b.1)).map (fun e =>
      let (l, r) := aheadSides c e
      deadline 4 e.1 l r)

/-- A pixel takes its flow's class: guaranteed where an enabled guaranteed flow carries it, else best-effort. DESIGN
CHOICE: R105 gives the lane-cycles no class; the 64 of each segment count as guaranteed (log 64). -/
def pixGuar (c : Cfg) (r : PixRec) : Bool :=
  match tfind? c.flow.flows r.flow with | some f => f.enable && f.guaranteed | none => false

def pixelTest (c : Cfg) (p : Pool) : Option Refuse :=
  let be := ((c.map.map.recs.filter (fun r => !pixGuar c r)).map laneCost).sum
  let g := ((c.map.map.recs.filter (pixGuar c)).map laneCost).sum + 64 * c.map.map.segs.length
  caps 2 0 g be (if p.noPixel then 0 else (c.ym.period - 50000) * 256 / 100)

/-! ## Stalls (R108, R244) -/

/-- c_t in CORECLK cycles. -/
def taskCost (c : Cfg) (d : TaskDesc) : Nat :=
  d.bound.toNat + 96 + (if 4096 < c.stl.graph.tasks.length then 2560 else 0)

/-- CORECLK cycles of a time in ns. -/
def coreCycles (ns : Rat) : Rat := ns * 128 / 100

/-- D_t in ns. -/
def taskDeadline (c : Cfg) (d : TaskDesc) : Rat := if d.late then c.ym.period else (c.ym.gateNs.toNat : Rat)

/-- When the hardware predecessors of a task end: the close of their windows (R90). -/
def hwEnds (c : Cfg) (t : Nat) : List Rat :=
  (c.stl.graph.links.filter (fun l => (false, t) ∈ c.stl.graph.links? l.hw)).map (fun l =>
    coreCycles (if l.hw < 256 then c.ym.period else c.ym.period + c.ym.gateNs.toNat - 50000))

/-- f(t) of every task, in the topological order of R238: ascending task numbers; the guaranteed tasks homed on the
Stall `extra` are charged 230,400 cycles more (R479). -/
def finishesWith (c : Cfg) (extra : Option Nat) : List (Nat × Rat) :=
  let g := c.stl.graph
  g.tasks.foldl (fun acc d =>
    let preds := (acc.filter (fun e => (false, d.task) ∈ g.succs e.1)).map (·.2)
    let start := (preds ++ hwEnds c d.task ++ [((d.delayUs.toNat * 1280 : Nat) : Rat)]).foldl max 0
    let others := ((g.tasks.filter (fun u => u.guaranteed && decide (u.task ≠ d.task) && decide (u.home = d.home)
      && decide (d.prio ≤ u.prio))).map (taskCost c)).sum
    let more : Rat := if d.guaranteed ∧ some d.home = extra then 230400 else 0
    acc ++ [(d.task, 160 + start + (others : Rat) + (taskCost c d : Rat) + more)]) []

/-- f(t) of R108. -/
def finishes (c : Cfg) : List (Nat × Rat) := finishesWith c none

/-- The tests of R108 on the Stalls. -/
def stallTestsWith (c : Cfg) (p : Pool) (extra : Option Nat) : List (Option Refuse) :=
  let g := c.stl.graph
  let fin := finishesWith c extra
  (List.range p.nStalls).flatMap (fun k =>
    let mine := g.tasks.filter (fun d => d.home = k)
    if mine = [] then []
    else
      let sum (l : List TaskDesc) : Nat := (l.map (taskCost c)).sum
      let cap : Rat := if k ∈ p.noStall then 0 else coreCycles c.ym.period
      let bad := mine.any (fun a => a.late && mine.any (fun b => !b.late && decide (b.prio < a.prio)))
      [ caps 5 k (sum (mine.filter (·.guaranteed))) (sum (mine.filter (fun d => !d.guaranteed))) cap
      , if bad then some { reason := 8, kind := 5, index := k, demand := 0, cap := 0 } else none ]
      ++ mine.map (fun d =>
        let dl := taskDeadline c d
        if d.delayUs ≠ 0 ∧ dl ≤ (d.delayUs.toNat * 1000 : Nat) then
          some { reason := 3, kind := 5, index := d.task, demand := d.delayUs.toNat * 1280, cap := down (coreCycles dl) }
        else if d.guaranteed then
          deadline 5 d.task ((fin.find? (fun e => e.1 = d.task)).map (·.2) |>.getD 0) (coreCycles dl * 80 / 100)
        else none))

/-- The tests of R108. -/
def stallTests (c : Cfg) (p : Pool) : List (Option Refuse) := stallTestsWith c p none

/-- Stall k has slack for a slice: the tests still hold with its guaranteed tasks charged 180 us more (R479). -/
def hasSlack (c : Cfg) (p : Pool) (k : Nat) : Bool := (firstRefusal (stallTestsWith c p (some k))).isNone

/-! ## Ethernet ports (R109, R297, R398) -/

/-- Bytes per ns of port p. -/
def bytesPerNs (c : Cfg) (p : Nat) : Rat := if bitOf (tget c.eth.ports p {}).cfg 30 then 3125 / 1000 else 1250 / 1000

/-- The wire bytes of a flow per frame. -/
def flowWire (c : Cfg) (r : FlowRec) : Nat :=
  if r.kind = 4 then
    let h := r.stream.toNat / 4
    let t := tileOf c h (r.stream.toNat % 4)
    let pay := min t.perPkt t.linePg * t.pgroup.2
    (headOf c h).mul * t.pkts * (pay + 86 + (if r.vlan then 4 else 0) + (if r.ipv6 then 20 else 0))
  else if r.kind = 1 then r.octets (126 + valueLen c.flow r) + 20
  else
    let total := valueLen c.flow r
    let n := fragCount c r total
    let m := fragSize c r
    (n - 1) * (r.octets (32 + m) + 20) + (r.octets (32 + (total - (n - 1) * m)) + 20)

/-- A parameter-fed flow fed by a LATE task (R295): its packing group waits for one. -/
def lateFed (c : Cfg) (r : FlowRec) : Bool :=
  !r.pixels && decide (r.kind ≠ 4) &&
    (enabledFlows c).any (fun e => !e.2.pixels && decide (e.2.group = r.group)
      && (flowEntries c.flow e.2).any (fun w => match writerOf c.stl (fld w 16 0) with
          | some t => (match c.stl.graph.task? t with | some d => d.late | none => false)
          | none => false))

/-- B_j,p: what a segment packs for a port, with 128 bytes for each frame it begins (R297). -/
def ringBytes (c : Cfg) (p : Nat) (g : MapSeg) : Nat :=
  let fs := (enabledFlows c).filter (fun e => e.2.pixels && decide (e.2.kind = 0) && decide (e.2.port = p))
  (fs.map (fun e =>
    let w := e.2.emitters * e.2.bits
    let rs := (segRecs c.map.map g).filter (fun r => decide (r.flow = e.1) && decide (r.offset < e.2.count))
    let m := 8 * fragSize c e.2
    let starts := (rs.filter (fun r => decide (r.offset * w % max 1 m = 0))).length
    ceilDiv (rs.length * w) 8 + 128 * starts)).sum

def ethTests (c : Cfg) (p : Pool) : List (Option Refuse) :=
  let named := c.ym.cuts.flatMap (·.flows)
  (List.range p.nEth).flatMap (fun k =>
    let mine := (enabledFlows c).filter (fun e => e.2.onEth && decide (e.2.port = k))
    let regs := tget c.eth.ports k {}
    let q : Rat := (gateGuard c k : Nat)
    let v := bytesPerNs c k
    let wire (l : List (Nat × FlowRec)) : Nat := (l.map (fun e => flowWire c e.2)).sum
    let gs := mine.filter (fun e => e.2.guaranteed)
    let v6 := mine.any (fun e => e.2.ipv6)
    let tag := mine.any (fun e => e.2.vlan)
    let gate := max 64 (14 + (if tag then 4 else 0) + (if v6 then 40 else 20) + 8 + 32 + 8 + 4) + 20
    let cut : Nat := if mine.any (fun e => e.1 ∈ named)
      then fld c.ym.cutCtrl 3 0 * (gate + largestFrame c k + 20) else 0
    let eee : Rat := if bitOf regs.cfg 27 then v * (fld regs.eee 15 0 : Nat) else 0
    let even := tget c.eth.ports (k / 2 * 2) {}
    let thru : Nat := if bitOf even.cfg 25 then 64 * fld even.thru 15 0 else 0
    if mine = [] ∧ thru = 0 ∧ eee = 0 then []
    else
      let cap : Rat := if k ∈ p.noEth then 0 else (v * (c.ym.period - q - 4000)).floor
      [ caps 6 k ((wire gs : Nat) + eee + (cut : Nat)) ((wire (mine.filter (fun e => !e.2.guaranteed)) + thru : Nat)) cap
      , deadline 6 k (wire (mine.filter (fun e => lateFed c e.2)) : Nat)
          (v * (c.ym.gateNs.toNat - q - 50000) * 80 / 100) ]
      ++ c.map.map.segs.map (fun g =>
        deadline 6 k (ringBytes c k g : Nat) (min 65536 (v * (segCost c g : Nat) * 100 / 256).floor)))

/-! ## Line ports (R110, R111) -/

def lineTests (c : Cfg) (p : Pool) : List (Option Refuse) :=
  let mapNs : Rat := (((segOrder c).filter (fun e => segLine c e.2)).map (fun e => segCost c e.2)).sum * 1000 / 2048
  (List.range p.nLine).flatMap (fun n =>
    let r := tget c.line n {}
    match lineFlow c n with
    | none => []
    | some (_, f) =>
      if !r.on then []
      else
        let g := f.guaranteed
        if f.kind = 3 then
          let t : Rat := 5 * ((fld r.gap 19 0 : Nat) + (bitSteps r * frameBits r f : Nat)) / 2
          [ caps 7 n (if g then t else 0) (if g then 0 else t) (if n ∈ p.noLine then 0 else c.ym.period)
          , deadline 7 n (t + mapNs) c.ym.period ]
        else
          let t : Rat := (packetNs r (valueLen c.flow f) : Nat)
          let rdm : Rat := 1000 * (fld r.rdm 31 16 : Nat)
          [ caps 7 n (if g then t else 0) (rdm + if g then 0 else t)
              (if n ∈ p.noLine then 0 else c.ym.period * (max 1 f.divisor : Nat)) ])

/-- A committed head that self-test withdrew has capacity 0 (R477). No resource kind of R113 names a head: kind 0
(log 27). -/
def headTests (c : Cfg) (p : Pool) : List (Option Refuse) :=
  p.noHead.map (fun h =>
    if (headOf c h).on then some { reason := 1, kind := 0, index := h, demand := 1, cap := 0 } else none)

/-! ## The model (R103) -/

/-- Admission of a whole configuration: the first failure in the order of the resource kinds. -/
def admission (c : Cfg) (p : Pool) : Option Refuse :=
  firstRefusal ([rateTest c.ym, gateTest c.ym] ++ countedTests c p ++ dramTests c p ++ composeTests c p
    ++ [pixelTest c p] ++ stallTests c p ++ ethTests c p ++ lineTests c p ++ headTests c p)

/-! ## Pause budgets (R443) -/

/-- The smallest of margins, at least 0. -/
def leastMargin (ms : List Rat) : Nat := match ms with | [] => 0 | m :: r => down (max 0 (r.foldl min m))

/-- P_r of Stall k: the margins of its deadline and total tests with the factor 1.00, in CORECLK cycles. -/
def stallBudget (c : Cfg) (k : Nat) : Nat :=
  let g := c.stl.graph
  let fin := finishes c
  let mine := g.tasks.filter (fun d => d.home = k ∧ d.guaranteed = true)
  leastMargin ((if mine = [] then [] else [coreCycles c.ym.period - ((mine.map (taskCost c)).sum : Nat)])
    ++ mine.map (fun d => coreCycles (taskDeadline c d) - ((fin.find? (fun e => e.1 = d.task)).map (·.2) |>.getD 0)))

/-- P_r of the mapper, in PIXCLK cycles: the margins of R105, R107, R110 and R297. -/
def mapperBudget (c : Cfg) : Nat :=
  let cost : Nat := (c.map.map.segs.map (segCost c)).sum
  let px (ns : Rat) : Rat := ns * 64 / 100
  let mapNs : Rat := ((((segOrder c).filter (fun e => segLine c e.2)).map (fun e => segCost c e.2)).sum : Nat) * 1000 / 2560
  let lines := (c.flow.flows.filter (fun e => e.2.enable && decide (e.2.kind = 3))).map (fun e =>
    let r := tget c.line e.2.port {}
    px (c.ym.period - (5 * ((fld r.gap 19 0 : Nat) + (bitSteps r * frameBits r e.2 : Nat)) / 2 : Rat) - mapNs))
  if c.map.map.segs = [] then 0
  else leastMargin ([px (c.ym.period - 50000) - (cost : Rat) / 4] ++ lines)

/-- P_r of the compositor, in PIXCLK cycles: the margins of R106 and R107. -/
def composeBudget (c : Cfg) : Nat :=
  if canvasW c.comp = 0 then 0
  else leastMargin ([c.ym.period * 64 / 100 - (cyclesTo c (canvasH c.comp - 1) : Nat)]
    ++ (withBefore c 0 (segOrder c)).map (fun e =>
      ((c.ym.gateNs.toNat : Rat) + (e.2.2 : Rat) * 1000 / 2560
        - (cyclesTo c (segTop c e.2.1) : Rat) * 1000 / 640) * 64 / 100))

/-- The pause budgets of a configuration, by BRD_PAUSE_BUDGET index. -/
def pauseBudgets (c : Cfg) (nStalls : Nat) : Tab Nat :=
  (List.range nStalls).map (fun k => (k, stallBudget c k)) ++ [(16, mapperBudget c), (17, composeBudget c)]

end Sys2Proof.Machine
end

