-- ==== Sys2Proof/Machine/Bridle.lean ====
section
/-! DEFINITION. Machine/Bridle.lean: the Bridle (R434 to R447), holds, the trip, calibration (R448 to R455), and
their commands. -/
namespace Sys2Proof.Machine
open Sys2Proof

/-! ## Sensors (R434 to R438) -/

/-- The neighbours of a sensor in the grid of 4 rows and 6 columns. -/
def neighbours (i : Nat) : List Nat :=
  (List.range 24).filter (fun j =>
    (decide (i / 6 = j / 6) && (decide (i = j + 1) || decide (j = i + 1)))
      || (decide (i % 6 = j % 6) && (decide (i = j + 6) || decide (j = i + 6))))

/-- The median of rationals, the mean of the two middle ones for an even count. -/
def median (l : List Rat) : Rat :=
  let s := l.mergeSort (fun a b => decide (a ≤ b))
  let n := s.length
  if n % 2 = 1 then s.getD (n / 2) 0 else (s.getD (n / 2 - 1) 0 + s.getD (n / 2) 0) / 2

/-- A reading of a sample. -/
def reading (raws : List (Option Int)) (i : Nat) : Option Int := (raws[i]?).join

/-- The readings of the unfailed sensors of a list. -/
def goodReadings (failed : BitVec 24) (raws : List (Option Int)) (l : List Nat) : List Int :=
  l.filterMap (fun j => if bitOf failed j then none else reading raws j)

/-- Sensor i deviates by more than 8.0 C from the median of its neighbours' predictions (R436). -/
def deviates (failed : BitVec 24) (raws : List (Option Int)) (power i : Nat) : Bool :=
  let ps : List Rat := (neighbours i).filterMap (fun j =>
    if bitOf failed j then none
    else (reading raws j).map (fun t => (t : Rat) + (Config.gradient i j * power : Int) / 65536))
  match reading raws i with
  | none => false
  | some t => decide (ps ≠ []) && decide (128 < max ((t : Rat) - median ps) (median ps - t))

/-- The greatest of a list. -/
def topOf : List Int → Option Int
  | [] => none
  | x :: r => match topOf r with | none => some x | some y => some (max x y)

/-- The value of a sensor (R437); with no unfailed sensor at all the spec states none, and it is free. -/
def sensorValue (compat : Bool) (failed : BitVec 24) (raws : List (Option Int)) (free : Nat) (i : Nat) : Int :=
  if !bitOf failed i then (reading raws i).getD 0
  else if compat then 1824
  else
    let near := goodReadings failed raws (neighbours i)
    let pool := if near.length < 2 then goodReadings failed raws (List.range 24) else near
    match topOf pool with | some t => t + 64 | none => (Config.freeNat free : Int)

/-! ## Levels (R439 to R441) -/

/-- The Bridle level changes: it is raised, counted and logged, every BRIDLE_WAIT completes (R441), the grace
timer starts or stops (R440), and THERMAL_OK follows. -/
def setLevel (l : Nat) (s : State) : State :=
  let b := s.brd
  if l = b.level then s
  else
    let b' : Brd := { b with
      level := l, waits := []
      grace := if l = 0 then none else if b.level = 0 ∧ l = 1 then some s.elt else b.grace
      expired := if l = 0 then false else b.expired }
    let s1 := { s with brd := b' }.raiseCause .brd (if b.level < l then 0 else 1)
    let s2 := if 1 ≤ l ∧ l ≤ 3 then s1.bump (.brd (l - 1)) else s1
    let s3 := s2.logEvent 3 192 0 l
    (b.waits.foldl (fun s w => endWait w.1 0x0B03#16 s (okWith (le 4 l ++ leInt 4 s.brd.tmax))) s3).noteCond

/-- The level that the entry conditions of R439 and R438 give; 0 where none holds. -/
def entryLevel (b : Brd) : Nat :=
  let t := b.tmax
  let byTemp := if 1840 ≤ t then 4 else if 1760 ≤ t then 3 else if 1600 ≤ t then 2
    else if 1520 ≤ t then (if b.expired ∧ 1 ≤ b.level then 2 else 1) else 0
  max byTemp (if b.low then 3 else 0)

/-- The level after a sample (R439, R440). -/
def nextLevel (b : Brd) : Nat :=
  let e := entryLevel b
  if b.level < e then e
  else if b.fallAt.isSome ∨ b.level = 4 then b.level
  else if b.level = 3 then
    (if b.low = false ∧ b.tmax < 1712 then (if 1472 ≤ b.tmax then 2 else 0) else 3)
  else if b.tmax < 1472 then 0 else b.level

/-- Sampling at 10 kHz (R435). -/
def Brd.fast (b : Brd) : Bool :=
  (decide (1472 ≤ b.tmax) && decide (b.tmax ≤ 1648)) || (decide (1712 ≤ b.tmax) && decide (b.tmax ≤ 1888))

/-- The trip (R447): HALTER_OUT falls and every drive enable collapses, as its condition fails from now on. -/
def tripNow (s : State) : State := releaseHalter { s with brd := { s.brd with trip := some s.elt } }

/-! ## Calibration runs (R448 to R450) -/

/-- The calibration groups of a device (R448): RC, FEED, DDR channels, SERDES lanes, LINE ports. A SERDES lane is
an Ethernet port's, then the two pairing lanes', the management lane's, the DisplayPort lanes', the PCIe lanes'. -/
def calGroups (s : State) : List (Nat × Nat) :=
  [(0, 0), (1, 0)] ++ (List.range s.nDram).map (fun c => (2, c))
    ++ (List.range (s.nEth + 3 + 4 * s.nHeads + 8)).map (fun l => (3, l))
    ++ (List.range s.nLine).map (fun n => (4, n))

/-- The number of a group. -/
def groupKey (g : Nat × Nat) : Nat := 256 * g.1 + g.2

/-- The mean of sensors, exact. -/
def meanOf (used : List Int) (l : List Nat) : Rat :=
  if l = [] then 0 else ((l.map (fun i => used.getD i 0)).sum : Rat) / (l.length : Rat)

/-- The reference temperature of a group (R449). -/
def refTemp (s : State) (g : Nat × Nat) : Rat := meanOf s.brd.used (Config.calSensors g.1 g.2)

/-- A run starts (R450 step 1): reference temperatures are captured. -/
def startRun (groups : List (Nat × Nat)) (box : Option Nat) (restored : Option (List CalVal)) (s : State) : State :=
  let c := s.brd.cal
  let refs := groups.foldl (fun t g => tset t (groupKey g) (refTemp s g)) c.refs
  { s with brd := { s.brd with cal := { c with
      run := some { groups := groups, box := box, restored := restored }, refs := refs } } }

/-- Groups whose reference has moved by more than DELTA_T since their last run (R449). -/
def drifted (s : State) : List (Nat × Nat) :=
  if !bitOf s.cfg.brd.cal 31 then []
  else (calGroups s).filter (fun g => match tfind? s.brd.cal.refs (groupKey g) with
    | some t => decide (((16 * fld s.cfg.brd.cal 5 0 : Nat) : Rat) < max (refTemp s g - t) (t - refTemp s g))
    | none => false)

/-- Drifted groups start a run, or wait for the next one (R449, R453). -/
def driftCheck (s : State) : State :=
  match drifted s with
  | [] => s
  | gs =>
    if s.brd.cal.run.isNone then startRun gs none none s
    else { s with brd := { s.brd with cal := { s.brd.cal with
      next := s.brd.cal.next ++ gs.filter (· ∉ s.brd.cal.next) } } }

/-- SENSOR_SAMPLE: the 24 readings (none: no count) and the power estimate in 1/16 W (R435 to R440, R447). -/
def sensorSampleEffect (raws : List (Option Int)) (power : Nat) (s : State) : State :=
  let b := s.brd
  let due := match b.sampleAt with
    | none => true
    | some t => decide (t + (if b.fast then 100000 else 1000000) ≤ s.elt)
  if raws.length ≠ 24 || !due || b.dark || s.brd.level = 4 then s
  else
    let streak := (List.range 24).map (fun i =>
      if !bitOf b.failed i && deviates b.failed raws power i then b.streak.getD i 0 + 1 else 0)
    let newly := (List.range 24).filter (fun i =>
      !bitOf b.failed i && ((reading raws i).isNone || decide (3 ≤ streak.getD i 0)))
    let failed := newly.foldl (fun f i => f ||| bitMask 24 i) b.failed
    let good := ((List.range 24).filter (fun i => !bitOf failed i)).length
    let used := (List.range 24).map (sensorValue (bitOf s.cfg.brd.brd 31) failed raws s.freeCtr)
    let tmax := (topOf used).getD 0
    let low := decide (good < 12)
    let b1 : Brd := { b with
      raw := raws, used := used, failed := failed, streak := streak, sampleAt := some s.elt, tmax := tmax
      hottest := (used.findIdx? (· = tmax)).getD 0, low := low
      fallAt := if newly = [] then b.fallAt else some (s.elt + 2000000000) }
    let s1 : State := { s with brd := b1, freeCtr := s.freeCtr + 1 }
    let s2 := newly.foldl (fun s i => ((s.bump (.brd 3)).raiseCause .brd 2).logEvent 4 194 0 i) s1
    let s3 := if low ∧ ¬ b.low then s2.raiseCause .brd 3 else s2
    let l := nextLevel b1
    let s4 := setLevel l s3
    if l = 4 then tripNow s4
    else
      let s5 := if 3 ≤ l ∧ b.level < 3 then requestSwap s4 else s4
      driftCheck s5

/-- GRACE_EXPIRE (R440): at Tmax of 95.0 C or more level 2 follows at once. -/
def graceExpireEffect (s : State) : State :=
  match s.brd.grace with
  | some t =>
    if ¬ s.brd.expired ∧ t + fld s.cfg.brd.brd 8 0 * 100000000 ≤ s.elt then
      let s1 : State := { s with brd := { s.brd with expired := true } }
      if s.brd.level = 1 ∧ 1520 ≤ s.brd.tmax then setLevel 2 s1 else s1
    else s
  | none => s

/-- HOLD_FALL_EXPIRE (R440): two seconds after a sensor was marked failed. -/
def holdFallExpireEffect (s : State) : State :=
  match s.brd.fallAt with
  | some t => if t ≤ s.elt then { s with brd := { s.brd with fallAt := none } } else s
  | none => s

/-! ## Trip (R447) -/

/-- TRIP_HOLD_MESSAGE: at 1, 11 and 21 us after the trip. -/
def tripHoldMessageEffect (s : State) : State :=
  match s.brd.trip with
  | some t =>
    let k := s.brd.tripMsgs
    if k < 3 ∧ ¬ s.brd.txStop ∧ t + 1000 + 10000 * k ≤ s.elt then
      let s1 : State := { s with brd := { s.brd with tripMsgs := k + 1 } }
      (List.range s.nEth).foldl (fun s p => (holdFrames s p).foldl (fun s x => enqueueGate p x s) s) s1
    else s
  | none => s

/-- TRIP_TX_STOP: at 30 us every Ethernet transmitter stops; a frame in progress is cut short. -/
def tripTxStopEffect (s : State) : State :=
  match s.brd.trip with
  | some t =>
    if ¬ s.brd.txStop ∧ t + 30000 ≤ s.elt then
      let s1 : State := { s with brd := { s.brd with txStop := true } }
      (List.range s.nEth).foldl (fun s p => s.setPort p { s.port p with cur := none }) s1
    else s
  | none => s

/-- TRIP_DOMAINS_OFF: by 100 us every domain except AON and HOST is off. -/
def tripDomainsOffEffect (s : State) : State :=
  if s.brd.txStop ∧ ¬ s.brd.dark then
    { s with glb := { s.glb with domain := s.glb.domain &&& 0x30000003#32 }
             brd := { s.brd with dark := true } }
  else s

/-- TRIP_HOST_OFF: Groom logs the trip at FATAL, its flash copy included, and HOST is switched off. -/
def tripHostOffEffect (s : State) : State :=
  if s.brd.dark ∧ fld s.glb.domain 29 28 ≠ 0 then
    let s1 := s.logEvent 6 192 0 s.brd.hottest
    { s1 with glb := { s1.glb with domain := s1.glb.domain &&& 0xCFFFFFFF#32 } }
  else s

/-! ## Applying calibration (R450 to R452) -/

/-- A quiet at PT(m) has slack (R451): 20 x s_heads at most (800 - R_tot) x 100 on every channel, R_tot being the
peak over the 100 us before the quiet, which ends 25 us before PT(m). -/
def quietSlack (s : State) : Bool :=
  let c := s.cfg
  let t := tUs c.ym
  let q := gUs c.ym - 45
  (List.range s.nDram).all (fun k =>
    let rs := reservations (channelReqs c s.nDram k)
    let heads := ((rs.filter (fun r => r.1.who = 6)).map (·.2)).sum
    let points := [q - 100, q] ++ (rs.map (fun r => r.1.start)).filter (fun x => decide (q - 100 ≤ x) && decide (x ≤ q))
    let tot := (points.map (fun x => atInstant t x rs)).foldl max 0
    decide (20 * heads + tot * 100 ≤ 80000))

/-- A commit of R89 lies within a hold that would begin at boundary m. -/
def rateChangeNear (s : State) : Bool := s.sched.any (fun x =>
  decide (x.cfg.ym.rate ≠ s.cfg.ym.rate) || decide (x.cfg.time.align ≠ s.cfg.time.align))

/-- The groups of kind 2 still to apply. -/
def CalRun.ddr (r : CalRun) : Bool := r.left.any (fun g => g.1 = 2)

/-- A quiet is scheduled at boundary m, or the DDR groups are deferred to the next content (R451); the SHADOW of a
formed pair asks the LEAD instead (R452). -/
def scheduleQuiet (m : Nat) (s : State) : State :=
  let c := s.brd.cal
  if s.pair.role = .shadow ∧ s.pair.st = .inSync then s.emit (.ddrRequest m)
  else if (quietSlack s && !rateChangeNear s) || s.brd.hold.isSome then
    let s1 : State := { s with brd := { s.brd with cal := { c with quiet := some m, deferred := c.deferred &&& 0x1B#5 } } }
    if s.pair.role = .lead ∧ s.pair.st = .inSync then s1.emit (.ddrRequest m) else s1
  else
    ({ s with brd := { s.brd with cal := { c with deferred := c.deferred ||| 4 } } }.bump (.brd 6)).raiseCause .brd 5

/-- The calibration values with new ones put in place. -/
def putVals (old new : List CalVal) : List CalVal :=
  old.filter (fun v => new.all (fun w => w.kind ≠ v.kind ∨ w.index ≠ v.index ∨ w.item ≠ v.item)) ++ new

/-- A run whose groups have all been applied ends (R450 step 5), and the next one starts. -/
def settleRun (s : State) : State :=
  match s.brd.cal.run with
  | some r =>
    if r.measured ∧ r.left = [] then
      let c := s.brd.cal
      let s1 : State := { s with brd := { s.brd with cal := { c with run := none, next := [] } } }
      let s2 := (s1.bump (.brd 4)).raiseCause .brd 4
      let again := if r.restored.isSome then calGroups s else c.next
      if again = [] then s2 else startRun again none none s2
    else s
  | none => s

/-- CAL_MEASURE_DONE: step 2 ends with the values found; M is the first boundary at least 120 us ahead and answers
CAL_RUN or CAL_RESTORE (R450, R455). A run of restored values takes those. -/
def calMeasureDoneEffect (vals : List CalVal) (s : State) : State :=
  match s.brd.cal.run with
  | some r =>
    if r.measured then s
    else
      let m := s.boundaryIn120
      let mine := (r.restored.getD vals).filter (fun v => decide ((v.kind, v.index) ∈ r.groups))
      let r' : CalRun := { r with measured := true, left := r.groups, vals := mine, box := none }
      let s1 : State := { s with brd := { s.brd with cal := { s.brd.cal with
        run := some r', applyFn := fnOf m, applyAt := m } } }
      let s2 := match r.box with
        | some b => endWait b (s.box b).req.opcode s1 (okWith (le 4 (fnOf m).toNat))
        | none => s1
      settleRun (if r'.ddr then scheduleQuiet m s2 else s2)
  | none => s

/-- The apply point of a group has come (R448). -/
def applyPoint (s : State) (g : Nat × Nat) : Bool :=
  let reached := match s.ym.latest with | some n => decide (s.brd.cal.applyAt ≤ n) | none => false
  if g.1 ≤ 1 then true
  else if g.1 = 2 then false
  else if g.1 = 3 then reached && (decide (s.nEth ≤ g.2) || (s.port g.2).cur.isNone)
  else
    let r := s.lp g.2
    let off := !r.regs.on || decide (r.regs.kind = 3)
    off || (reached && r.tx.isNone && r.txn.isNone && r.pulse.isNone)

/-- The values of a group come into force. -/
def applyGroup (g : Nat × Nat) (r : CalRun) (s : State) : State :=
  let c := s.brd.cal
  { s with brd := { s.brd with cal := { c with
      run := some { r with left := r.left.filter (· ≠ g) }
      vals := putVals c.vals (r.vals.filter (fun v => (v.kind, v.index) = g)) } } }

/-- CAL_APPLY: a group is applied at its apply point. In SERDES and LINE groups the spare cell becomes active,
unless self-test has withdrawn a cell of it, `spare` false, which is reported once (R450). -/
def calApplyEffect (kind index : Nat) (spare : Bool) (s : State) : State :=
  match s.brd.cal.run with
  | some r =>
    let g := (kind, index)
    if r.measured ∧ g ∈ r.left ∧ applyPoint s g then
      let s1 := applyGroup g r s
      let c := s1.brd.cal
      let k := groupKey g
      let s2 :=
        if kind = 3 ∨ kind = 4 then
          if spare then { s1 with brd := { s1.brd with cal := { c with cells := tset c.cells k (!(tget c.cells k false)) } } }
          else if k ∈ c.lost then s1
          else { s1 with brd := { s1.brd with cal := { c with lost := c.lost ++ [k] } } }.raiseCause .brd 7
        else s1
      settleRun s2
    else s
  | none => s

/-- DDR_QUIET: the 20 us stop that ends 25 us before PT(M) applies the DDR groups (R451). -/
def ddrQuietEffect (s : State) : State :=
  match s.brd.cal.quiet with
  | some m =>
    if s.ym.latest = some m ∧ (s.cfgFor m).ym.ptAt m ≤ s.elt + 45000 ∧ s.elt < (s.cfgFor m).ym.ptAt m then
      let waiting : List (Nat × Nat) := match s.brd.cal.run with | some r => r.left.filter (fun g => g.1 = 2) | none => []
      let s1 := waiting.foldl (fun (s : State) g => match s.brd.cal.run with
        | some r => applyGroup g r s
        | none => s) s
      settleRun { s1 with brd := { s1.brd with cal := { s1.brd.cal with quiet := none } } }
    else s
  | none => s

/-- DDR_APPLY_REQUEST: on the LEAD the SHADOW's request, for which it chooses one M for both; on the SHADOW the M
that the LEAD has chosen (R452). -/
def ddrApplyRequestEffect (frame : Nat) (s : State) : State :=
  if s.pair.st ≠ .inSync then s
  else if s.pair.role = .lead then
    let m := max frame s.boundaryIn120
    let c := s.brd.cal
    if quietSlack s && !rateChangeNear s then
      { s with brd := { s.brd with cal := { c with
          quiet := some m, deferred := c.deferred &&& 0x1B#5 } } }.emit (.ddrRequest m)
    else s
  else if s.pair.role = .shadow then
    { s with brd := { s.brd with cal := { s.brd.cal with quiet := some frame, deferred := s.brd.cal.deferred &&& 0x1B#5 } } }
  else s

/-! ## Holds (R444 to R446) -/

/-- The cause of a hold has ended at boundary k, and the boundary can resume (R445). -/
def holdEnds (s : State) (k : Nat) : Bool :=
  match s.brd.hold with
  | none => false
  | some h =>
    let d := k - h.content
    decide (s.brd.level < 3) && decide (s.brd.cal.quiet ≠ some k) && decide (4 ≤ d) && (decide (d % 6 = 0) || decide (d % 6 = 4))

/-- What boundary FB(m) does to holds (R445, R446, R451): one ends, or one begins with held content m, which the
raster heads then keep showing. -/
def holdBoundary (m : Nat) (s : State) : State :=
  match s.brd.hold with
  | some _ =>
    if holdEnds s m then { s with brd := { s.brd with hold := none }, rst := { s.rst with hold := none } } else s
  | none =>
    if 3 ≤ s.brd.level ∨ s.brd.cal.quiet = some m then
      { s with brd := { s.brd with hold := some { content := m, cal := decide (s.brd.level < 3) } }
               rst := { s.rst with hold := some m } }
    else s

/-- DDR groups that wait with no quiet set are scheduled again at each boundary, a SHADOW's by asking again (R451, R452). -/
def retryQuiet (m : Nat) (s : State) : State :=
  match s.brd.cal.run with
  | some r =>
    if r.measured ∧ r.ddr ∧ s.brd.cal.quiet = none then scheduleQuiet (m + 1) s else s
  | none => s

/-! ## Commands -/

/-- The rule of BRD_CFG (R456, R457). -/
def bridleRules (c : Cfg) : Except Status Unit :=
  need (decide (1 ≤ fld c.brd.brd 8 0) && decide (fld c.brd.brd 8 0 ≤ 300)) .badParam

/-- BRIDLE_SET (R456); reserved bits of the image are ignored (R13). -/
def bridleSetEffect (m : Nat) (image : Word) (s : State) : State :=
  stage m 0x0B01#16 [0x0B010000] s (fun _ _ c => do
    let c' : Cfg := { c with brd := { c.brd with brd := image &&& 0x800001FF#32 } }
    bridleRules c'
    pure c')

/-- The rule of CAL_CFG (R456, R457). -/
def calRules (c : Cfg) : Except Status Unit :=
  need (decide (2 ≤ fld c.brd.cal 5 0) && decide (fld c.brd.cal 5 0 ≤ 32)) .badParam

/-- CAL_SET (R456); reserved bits of the image are ignored (R13). -/
def calSetEffect (m : Nat) (image : Word) (s : State) : State :=
  stage m 0x0C01#16 [0x0C010000] s (fun _ _ c => do
    let c' : Cfg := { c with brd := { c.brd with cal := image &&& 0x8000003F#32 } }
    calRules c'
    pure c')

/-- BRD_STATUS (R457). -/
def brdStatusWord (b : Brd) : Nat :=
  b.level * 2 ^ 29 + (if b.grace.isSome && !b.expired then 2 ^ 28 else 0) + (if b.fallAt.isSome then 2 ^ 27 else 0)
    + (if b.fast then 2 ^ 26 else 0) + b.hottest * 2 ^ 21 + (b.tmax % 65536).toNat

/-- BRIDLE_STATUS: BRD_STATUS; per sensor its raw and used values and whether it has failed. -/
def bridleStatusEffect (m : Nat) (s : State) : State :=
  cmdRead m 0x0B02#16 s (fun _ t =>
    okWith (le 4 (brdStatusWord t.brd) ++ (List.range 24).flatMap (fun i =>
      leInt 2 ((reading t.brd.raw i).getD 0) ++ leInt 2 (t.brd.used.getD i 0)
        ++ le 4 (if bitOf t.brd.failed i then 1 else 0))))

/-- BRIDLE_WAIT (R441, R456). -/
def bridleWaitEffect (m timeoutMs : Nat) (s : State) : State :=
  cmd m 0x0B03#16 s (fun _ t =>
    if timeoutMs < 1 ∨ 60000 < timeoutMs then (some (reply .badParam), t)
    else (none, { t with brd := { t.brd with waits := t.brd.waits ++ [(m, t.elt + timeoutMs * 1000000)] } }))

/-- BRIDLE_WAIT_TIMEOUT: the timeout expires; the answer is OK with the level and Tmax. -/
def bridleWaitTimeoutEffect (m : Nat) (s : State) : State :=
  match s.brd.waits.find? (fun w => w.1 = m) with
  | some w =>
    if w.2 ≤ s.elt then
      endWait m 0x0B03#16 { s with brd := { s.brd with waits := s.brd.waits.filter (fun x => x.1 ≠ m) } }
        (okWith (le 4 s.brd.level ++ leInt 4 s.brd.tmax))
    else s
  | none => s

/-- BRIDLE_SENSOR_CLEAR (R436). -/
def bridleSensorClearEffect (m : Nat) (mask : BitVec 24) (s : State) : State :=
  cmdNow m 0x0B04#16 s (fun _ t =>
    (reply .ok, { t with brd := { t.brd with
      failed := t.brd.failed &&& ~~~mask
      streak := (List.range 24).map (fun i => if bitOf mask i then 0 else t.brd.streak.getD i 0) } }))

/-- CAL_RUN (R449, R453). -/
def calRunEffect (m : Nat) (kinds : Word) (s : State) : State :=
  cmd m 0x0C02#16 s (fun _ t =>
    if 3 ≤ t.brd.level then (some (reply .bridleLevel), t)
    else if t.brd.cal.run.isSome then (some (reply .calBusy), t)
    else (none, startRun ((calGroups t).filter (fun g => bitOf kinds g.1)) (some m) none t))

/-- An entry of the calibration record (R454). -/
def calEntry (v : CalVal) : List Byte := le 2 v.value.toNat ++ [v.item, Config.calCode v.kind v.index]

/-- The calibration record with a SEQ (R454); the spec gives TEMP no rounding, so which neighbour it takes is free. -/
def calRecord (s : State) (seq : Word) : List Byte :=
  let es := s.brd.cal.vals.take 1000
  let mean := meanOf s.brd.used (List.range 24)
  let temp := if Config.tempRoundsUp mean then mean.ceil else mean.floor
  let head (crc : Nat) : List Byte :=
    le 4 0x4C435848 ++ le 2 1 ++ le 2 es.length ++ le 4 seq.toNat ++ le 4 crc ++ le 8 Config.dieSerial.toNat
      ++ leInt 2 temp ++ le 6 0
  let body := es.flatMap calEntry
  head (crc32 (head 0 ++ body)).toNat ++ body

/-- CAL_READ. -/
def calReadEffect (m : Nat) (seq : Word) (s : State) : State :=
  cmdRead m 0x0C03#16 s (fun _ t => okWith (calRecord t seq))

/-- The entries of a record's bytes: unknown ones are none (R455). -/
def recordEntries : Nat → List Byte → List (Option CalVal)
  | 0, _ => []
  | n + 1, bs =>
    let e := bs.take 4
    let w := BitVec.ofNat 32 (unle e)
    let v := (Config.calGroup (BitVec.ofNat 8 (fld w 31 24))).bind (fun g =>
      if Config.calInRange w then
        some { kind := g.1, index := g.2, item := BitVec.ofNat 8 (fld w 23 16), value := BitVec.ofNat 16 (fld w 15 0) }
      else none)
    v :: recordEntries n (bs.drop 4)

/-- CAL_RESTORE: the checks of R455, then a run of the record's values, then a fresh run of every group. -/
def calRestoreEffect (m : Nat) (bytes : List Byte) (s : State) : State :=
  cmd m 0x0C04#16 s (fun _ t =>
    let at_ (o n : Nat) : Nat := unle ((bytes.drop o).take n)
    let zeroed := bytes.take 12 ++ le 4 0 ++ bytes.drop 16
    let n := at_ 6 2
    if 3 ≤ t.brd.level then (some (reply .bridleLevel), t)
    else if t.brd.cal.run.isSome then (some (reply .calBusy), t)
    else if at_ 0 4 ≠ 0x4C435848 ∨ at_ 4 2 ≠ 1 ∨ at_ 12 4 ≠ (crc32 zeroed).toNat then (some (reply .calBadCheck), t)
    else if at_ 16 8 ≠ Config.dieSerial.toNat then (some (reply .badParam), t)
    else
      let es := recordEntries n (bytes.drop 32)
      if n < 1 ∨ 1000 < n ∨ bytes.length ≠ 32 + 4 * n ∨ es.any Option.isNone then (some (reply .calRange), t)
      else
        let vs := es.filterMap id
        (none, startRun ((vs.map (fun v => (v.kind, v.index))).dedup) (some m) (some vs) t))

/-- BRD_EVT_CAUSE_READ (R11, R457). -/
def brdEvtCauseReadEffect (q : Path) (s : State) : State :=
  (s.returns q (s.cause .brd)).clearCause .brd 0xFFFFFFFF#32

/-- BRD_CNT_CTRL.SNAPSHOT. -/
def brdSnapshotEffect (s : State) : State := s.captureKeys 0xA00000 0xB00000

/-- BRD_CNT_CTRL.CLEAR. -/
def brdClearEffect (s : State) : State := s.clearKeys 0xA00000 0xB00000

-- The meanings of this family's rows: the effect, with the queue and the identity kept.

/-- SENSOR_SAMPLE (R435). -/
def execSensorSample (raws : List (Option Int)) (power : Nat) (s : State) :
    Host.Outcome State Fault Refusal :=
  commit s (sensorSampleEffect raws power s)
/-- TRIP_HOLD_MESSAGE (R447). -/
def execTripHoldMessage (s : State) : Host.Outcome State Fault Refusal :=
  commit s (tripHoldMessageEffect s)
/-- TRIP_TX_STOP (R447). -/
def execTripTxStop (s : State) : Host.Outcome State Fault Refusal :=
  commit s (tripTxStopEffect s)
/-- TRIP_DOMAINS_OFF (R447). -/
def execTripDomainsOff (s : State) : Host.Outcome State Fault Refusal :=
  commit s (tripDomainsOffEffect s)
/-- TRIP_HOST_OFF (R447). -/
def execTripHostOff (s : State) : Host.Outcome State Fault Refusal :=
  commit s (tripHostOffEffect s)
/-- GRACE_EXPIRE (R440). -/
def execGraceExpire (s : State) : Host.Outcome State Fault Refusal :=
  commit s (graceExpireEffect s)
/-- HOLD_FALL_EXPIRE (R440). -/
def execHoldFallExpire (s : State) : Host.Outcome State Fault Refusal :=
  commit s (holdFallExpireEffect s)
/-- CAL_MEASURE_DONE (R450). -/
def execCalMeasureDone (vals : List CalVal) (s : State) : Host.Outcome State Fault Refusal :=
  commit s (calMeasureDoneEffect vals s)
/-- CAL_APPLY (R450). -/
def execCalApply (kind index : Nat) (spare : Bool) (s : State) : Host.Outcome State Fault Refusal :=
  commit s (calApplyEffect kind index spare s)
/-- DDR_QUIET (R451). -/
def execDdrQuiet (s : State) : Host.Outcome State Fault Refusal :=
  commit s (ddrQuietEffect s)
/-- BRIDLE_SET (R456). -/
def execBridleSet (m : Nat) (image : Word) (s : State) : Host.Outcome State Fault Refusal :=
  commit s (bridleSetEffect m image s)
/-- BRIDLE_STATUS (R457). -/
def execBridleStatus (m : Nat) (s : State) : Host.Outcome State Fault Refusal :=
  commit s (bridleStatusEffect m s)
/-- BRIDLE_WAIT (R441). -/
def execBridleWait (m timeoutMs : Nat) (s : State) : Host.Outcome State Fault Refusal :=
  commit s (bridleWaitEffect m timeoutMs s)
/-- BRIDLE_WAIT_TIMEOUT (R456). -/
def execBridleWaitTimeout (m : Nat) (s : State) : Host.Outcome State Fault Refusal :=
  commit s (bridleWaitTimeoutEffect m s)
/-- BRIDLE_SENSOR_CLEAR (R436). -/
def execBridleSensorClear (m : Nat) (mask : BitVec 24) (s : State) : Host.Outcome State Fault Refusal :=
  commit s (bridleSensorClearEffect m mask s)
/-- CAL_SET (R456). -/
def execCalSet (m : Nat) (image : Word) (s : State) : Host.Outcome State Fault Refusal :=
  commit s (calSetEffect m image s)
/-- CAL_RUN (R450). -/
def execCalRun (m : Nat) (kinds : Word) (s : State) : Host.Outcome State Fault Refusal :=
  commit s (calRunEffect m kinds s)
/-- CAL_READ (R454). -/
def execCalRead (m : Nat) (seq : Word) (s : State) : Host.Outcome State Fault Refusal :=
  commit s (calReadEffect m seq s)
/-- CAL_RESTORE (R455). -/
def execCalRestore (m : Nat) (bytes : List Byte) (s : State) : Host.Outcome State Fault Refusal :=
  commit s (calRestoreEffect m bytes s)
/-- BRD_EVT_CAUSE_READ (R457). -/
def execBrdEvtCauseRead (q : Path) (s : State) : Host.Outcome State Fault Refusal :=
  commit s (brdEvtCauseReadEffect q s)
/-- BRD_SNAPSHOT (R457). -/
def execBrdSnapshot (s : State) : Host.Outcome State Fault Refusal :=
  commit s (brdSnapshotEffect s)
/-- BRD_CLEAR (R457). -/
def execBrdClear (s : State) : Host.Outcome State Fault Refusal :=
  commit s (brdClearEffect s)
/-- DDR_APPLY_REQUEST (R452). -/
def execDdrApplyRequest (frame : Nat) (s : State) : Host.Outcome State Fault Refusal :=
  commit s (ddrApplyRequestEffect frame s)

end Sys2Proof.Machine
end

