-- ==== Sys2Proof/Machine/Check.lean ====
section
/-! DEFINITION. Machine/Check.lean: the check units (chapter 17, R464 to R473, R483). -/
namespace Sys2Proof.Machine
open Sys2Proof

/-! ## The CRCs (R464) -/

/-- One bit of the CRC-16. -/
def ccittBit (c : Half) : Half := if c.getLsbD 15 then (c <<< 1) ^^^ 0x1021#16 else c <<< 1

/-- One byte of the CRC-16. -/
def ccittByte (c : Half) (b : Byte) : Half :=
  (List.range 8).foldl (fun c _ => ccittBit c) (c ^^^ (b.setWidth 16 <<< 8))

/-- The running register after one byte, by ALG. -/
def chkByte (alg : Nat) (v : Word) (b : Byte) : Word :=
  if alg = 0 then crc32Byte v b
  else if alg = 1 then crcByte v b
  else if alg = 2 then (ccittByte (v.setWidth 16) b).setWidth 32
  else v

/-- Init of ALG. -/
def chkInit (alg : Nat) : Word := if alg = 2 then 0x0000FFFF#32 else 0xFFFFFFFF#32
/-- XOR out of ALG. -/
def chkXor (alg : Nat) : Word := if alg = 2 then 0 else 0xFFFFFFFF#32

/-! ## Units -/

/-- CHK_CTRL's fields. -/
def ChkUnit.owner (u : ChkUnit) : Nat := fld u.ctrl 31 29
def ChkUnit.alg (u : ChkUnit) : Nat := fld u.ctrl 28 27
def ChkUnit.scanMode (u : ChkUnit) : Bool := bitOf u.ctrl 26
def ChkUnit.foldSrc (u : ChkUnit) : Nat := fld u.ctrl 25 24
def ChkUnit.cmpEn (u : ChkUnit) : Bool := bitOf u.ctrl 23
def ChkUnit.syncPt (u : ChkUnit) : Bool := bitOf u.ctrl 22
def ChkUnit.region (u : ChkUnit) : Nat := fld u.ctrl 15 8
def ChkUnit.index (u : ChkUnit) : Nat := fld u.ctrl 7 0

/-- Unit u. -/
def State.unit (s : State) (u : Nat) : ChkUnit := tget s.far.units u {}
/-- Unit u put in place. -/
def State.setUnit (s : State) (u : Nat) (x : ChkUnit) : State :=
  { s with far := { s.far with units := tset s.far.units u x } }

/-- CHK_STATUS (R484). -/
def ChkUnit.status (u : ChkUnit) : Word :=
  BitVec.ofNat 32 ((if u.running then 2147483648 else 0) + (if u.done then 1073741824 else 0)
    + (if u.mismatch then 536870912 else 0) + (if u.torn then 268435456 else 0)
    + u.abortRes.toNat * 67108864 + u.err.toNat * 16777216)

/-- The code a path writes into OWNER (R484); the management relay has none. -/
def ownerCode : Path → Option Nat
  | .pcie => some 1 | .groom => some 2 | .peer => some 3 | .debug => some 4 | .mgmt => none

/-- A path may write a unit (R465): it is free, or the path owns it. -/
def ChkUnit.mayWrite (u : ChkUnit) (p : Path) : Bool := decide (u.owner = 0) || decide (ownerCode p = some u.owner)

/-- The BAR0 address of a unit's register. -/
def chkAddr (u off : Nat) : Nat := 0x00EF0000 + u * 0x40 + off

/-- A write of a path to register `off` of unit u: discarded and recorded where another path owns it (R465). -/
def chkWrite (p : Path) (u off : Nat) (s : State) (f : ChkUnit → State → State) : State :=
  if 4 ≤ u then s
  else if (s.unit u).mayWrite p then f (s.unit u) s
  else if p = .groom then s else s.accessError p 2 (chkAddr u off)

/-- A unit's event sources fall with its bits (R470). -/
def chkLevels (u : Nat) (s : State) : State :=
  let e1 := if (s.unit u).mismatch then s.evc else s.evc.level (200 + 2 * u) false
  { s with evc := if (s.unit u).done then e1 else e1.level (201 + 2 * u) false }

/-- Groom's CHECK_RUN on a unit ends: the unit is released and the command answers (R483). -/
def answerRun (u : Nat) (st : Status) (s : State) : State :=
  let x := s.unit u
  match x.box with
  | some m =>
    endWait m 0x0D01#16 (s.setUnit u { x with box := none, ctrl := setFld x.ctrl 31 29 0 })
      { status := st, data := le 4 x.status.toNat ++ le 4 x.result.toNat }
  | none => s

/-- The end of a run (R470): result, comparison, DONE; then MISMATCH and DONE are raised. -/
def endRun (u : Nat) (err : BitVec 2) (s : State) : State :=
  let x := s.unit u
  let res := x.value ^^^ chkXor x.alg
  let bad := x.cmpEn && decide (res ≠ x.expect)
  let s1 := s.setUnit u { x with
    result := res, mismatch := x.mismatch || bad, done := true, running := false, armed := false, err := err }
  let s2 := if bad then s1.occur (200 + 2 * u) else s1
  answerRun u .ok (s2.occur (201 + 2 * u))

/-- The fold value (R466). -/
def ChkUnit.foldValue (u : ChkUnit) : Word :=
  let v := if u.foldSrc = 1 then u.fold else if u.foldSrc = 2 then u.start else 0
  if u.alg = 2 then v &&& 0x0000FFFF#32 else v

/-- The limits of R467 hold, and ALG and FOLD_SRC are not reserved. -/
def ChkUnit.settingsOk (u : ChkUnit) : Bool :=
  let c := u.chunk.toNat
  decide (u.alg ≠ 3) && decide (u.foldSrc ≠ 3) && (!u.scanMode ||
    (decide (4 ≤ c) && decide (c ≤ 4096) && decide (c % 4 = 0) && decide (c ≤ u.stride.toNat)
      && decide (u.length.toNat % 4 = 0) && decide (1 ≤ u.region) && decide (u.region ≤ 5)))

/-- A START (R466 to R468): the seed, RUNNING; settings outside the limits end the run with ERR 0b01; a scan with
SYNC_PT waits, another begins over the latest content whose PT has passed. -/
def startUnit (u : Nat) (s : State) : State :=
  let x := s.unit u
  let wait := x.scanMode && x.syncPt
  let x' : ChkUnit := { x with
    value := chkInit x.alg ^^^ x.foldValue, pos := 0, running := true, done := false, mismatch := false
    torn := false, abortRes := 0, err := 0, armed := wait, content := if wait then none else s.ym.lit }
  let s1 := chkLevels u (s.setUnit u x')
  if x.settingsOk then s1 else endRun u 1 s1

/-- Bytes fed in stream mode (R466). -/
def feedUnit (u : Nat) (bs : List Byte) (s : State) : State :=
  let x := s.unit u
  if x.running && !x.scanMode then
    s.setUnit u { x with value := bs.foldl (chkByte x.alg) x.value, pos := x.pos + BitVec.ofNat 32 bs.length }
  else s

/-! ## Scans (R467) -/

/-- Byte i of a number. -/
def byteOf (v i : Nat) : Byte := BitVec.ofNat 8 (v / 2 ^ (8 * i))

/-- The object a scan reads: its size in bytes and its bytes. The canvas stands row by row at its width (log 29). -/
def scanObject (s : State) (region index : Nat) (content : Option Nat) : Nat × (Nat → Byte) :=
  if region = 1 then
    (16 * s.cfg.map.map.recs.length, fun a => byteOf ((s.cfg.map.map.recs[a / 16]?).getD {}).image (a % 16))
  else if region = 2 then
    match content with
    | some n => (128 * s.nFixtures, fun a => byteOf (s.pdk.slotAt n (a / 128) (a % 128 / 2)).toNat (a % 2))
    | none => (0, fun _ => 0)
  else if region = 3 then
    let w := canvasW s.cfg.comp
    match content with
    | some n =>
      let b := tget s.comp.canvas (n % 3) {}
      (if b.content = some n then 4 * w * canvasH s.cfg.comp else 0,
       fun a => byteOf (tget b.words (a / 4 / w * 16384 + a / 4 % w) 0).toNat (a % 4))
    | none => (0, fun _ => 0)
  else if region = 4 then
    (4 * s.cfg.flow.params.length, fun a => byteOf ((s.cfg.flow.params[a / 4]?).getD 0).toNat (a % 4))
  else match tfind? s.cfg.comp.stills index with
    | some t => (frameBytes t.format t.width t.height, mget t.data)
    | none => (0, fun _ => 0)

/-- The object offset of byte i of a scan: CHUNK bytes from each of START, START + STRIDE and so on. -/
def ChkUnit.offsetOf (u : ChkUnit) (i : Nat) : Nat :=
  u.start.toNat + i / max 1 u.chunk.toNat * u.stride.toNat + i % max 1 u.chunk.toNat

/-- Bytes i to i + n of a scan fed in order: up to an offset beyond the object (ERR 0b01), a failing read (ERR 0b10)
or the last; the running register, the bytes fed, ERR. -/
def scanFrom (u : ChkUnit) (size : Nat) (rd : Nat → Byte) (bad : Option Nat) :
    Nat → Nat → Word → Word × Nat × BitVec 2
  | 0, i, v => (v, i, 0)
  | n + 1, i, v =>
    if size ≤ u.offsetOf i then (v, i, 1)
    else if bad = some i then (v, i, 2)
    else scanFrom u size rd bad n (i + 1) (chkByte u.alg v (rd (u.offsetOf i)))

/-- A scan feeds bytes up to `upTo`: the unit and ERR. A torn result may mix two contents: its value is free
(R468; log 5). -/
def runScan (u : Nat) (upTo : Nat) (bad : Option Nat) (s : State) : BitVec 2 × State :=
  let x := s.unit u
  let (size, rd) := scanObject s x.region x.index x.content
  let (v, i, e) := scanFrom x size rd bad (min upTo x.length.toNat - x.pos.toNat) x.pos.toNat x.value
  let v' := if x.torn then BitVec.ofNat 32 (Config.freeNat s.freeCtr) else v
  let s1 := s.setUnit u { x with value := v', pos := BitVec.ofNat 32 i }
  (e, if x.torn then s1.takeFree else s1)

/-- At FB(m) a synchronised scan of content m - 1 that still runs is torn (R468). -/
def tearUnits (m : Nat) (s : State) : State :=
  { s with far := { s.far with units := s.far.units.map (fun e =>
      if e.2.running && e.2.scanMode && e.2.syncPt && !e.2.armed && decide (e.2.content.any (fun n => n + 1 ≤ m))
      then (e.1, { e.2 with torn := true }) else e) } }

/-! ## The host's writes -/

/-- CHECK_CLAIM: a write of CHK_CTRL (R465, R473): OWNER takes 0 or the path's own code, the other fields the
value, while the unit does not run. -/
def checkClaimEffect (p : Path) (u : Nat) (v : Word) (s : State) : State :=
  chkWrite p u 0 s (fun x s =>
    let o := fld v 31 29
    let own := if o = 0 ∨ ownerCode p = some o then o else x.owner
    let w := setFld (v &&& 0xFFC0FFFF#32) 31 29 own
    s.setUnit u { x with ctrl := if x.running then setFld x.ctrl 31 29 own else w })

/-- CHECK_START (R466). -/
def checkStartEffect (p : Path) (u : Nat) (s : State) : State := chkWrite p u 4 s (fun _ s => startUnit u s)

/-- CHECK_SYNC_START: at a PT edge a waiting scan begins over that content (R467, R468). -/
def checkSyncStartEffect (u : Nat) (s : State) : State :=
  let x := s.unit u
  if u < 4 ∧ x.armed ∧ s.ym.lit ≠ none then s.setUnit u { x with armed := false, content := s.ym.lit } else s

/-- CHECK_DATA (R466): four bytes, bits 7:0 first. -/
def checkDataEffect (p : Path) (u : Nat) (v : Word) (s : State) : State :=
  chkWrite p u 0x1C s (fun _ s => feedUnit u (le 4 v.toNat) s)

/-- CHECK_DATA8 (R466): bits 7:0. -/
def checkData8Effect (p : Path) (u : Nat) (v : Word) (s : State) : State :=
  chkWrite p u 0x20 s (fun _ s => feedUnit u (le 1 v.toNat) s)

/-- CHECK_FINISH: FINISH ends a stream run (R466, R470). -/
def checkFinishEffect (p : Path) (u : Nat) (s : State) : State :=
  chkWrite p u 4 s (fun x s => if x.running && !x.scanMode then endRun u 0 s else s)

/-- An ABORT sampled (R472): `fed` bytes of a scan had been fed. -/
def abortUnit (u fed : Nat) (s : State) : State :=
  let x := s.unit u
  if x.done then s.setUnit u { x with abortRes := 2 }
  else
    let s1 := if x.running && x.scanMode && !x.armed then (runScan u fed none s).2 else s
    s1.setUnit u { s1.unit u with abortRes := 1, running := false, armed := false }

/-- CHECK_ABORT_CMD (R472). -/
def checkAbortCmdEffect (p : Path) (u fed : Nat) (s : State) : State :=
  chkWrite p u 4 s (fun _ s => answerRun u .aborted (abortUnit u fed s))

/-- CHECK_RESUME (R473): a run continues from CHK_POS with the running value as it stands. -/
def checkResumeEffect (p : Path) (u : Nat) (s : State) : State :=
  chkWrite p u 4 s (fun x s =>
    if x.running then s else s.setUnit u { x with running := true, content := s.ym.lit })

/-- CHECK_SCAN_DONE: a scan feeds its last byte or meets an error; `bad` is the first byte whose read the memory
code refuses (R467). -/
def checkScanDoneEffect (u : Nat) (bad : Option (Nat × Hit)) (s : State) : State :=
  let x := s.unit u
  if u < 4 ∧ x.running ∧ x.scanMode ∧ ¬ x.armed then
    let (e, s1) := runScan u x.length.toNat (bad.map (·.1)) s
    let s2 := match bad with | some b => if e = 2 then s1.eccFail b.2 else s1 | none => s1
    endRun u e s2
  else s

/-- CHECK_STATUS_WRITE: ones clear DONE and MISMATCH (R470). -/
def checkStatusWriteEffect (p : Path) (u : Nat) (v : Word) (s : State) : State :=
  chkWrite p u 8 s (fun x s =>
    chkLevels u (s.setUnit u { x with done := x.done && !bitOf v 30, mismatch := x.mismatch && !bitOf v 29 }))

/-! ## Commands (R483) -/

/-- CHECK_RUN: claims the unit for Groom, runs it over the stream data or the scan, answers and releases it. -/
def checkRunEffect (m u : Nat) (img : ChkImages) (data : List Byte) (s : State) : State :=
  cmd m 0x0D01#16 s (fun _ t =>
    let x : ChkUnit := { ctrl := setFld (img.ctrl &&& 0xFFC0FFFF#32) 31 29 2, expect := img.expect, fold := img.fold
                         start := img.start, length := img.length, chunk := img.chunk, stride := img.stride }
    if 4 ≤ u ∨ 3968 < data.length then (some (reply .badParam), t)
    else if (t.unit u).owner ≠ 0 then (some (reply .checkUnitBusy), t)
    else
      let t1 := startUnit u (t.setUnit u x)
      let t2 := if (t1.unit u).running ∧ ¬ x.scanMode then endRun u 0 (feedUnit u data t1) else t1
      let y := t2.unit u
      if y.running then (none, t2.setUnit u { y with box := some m })
      else
        (some (okWith (le 4 y.status.toNat ++ le 4 y.result.toNat)),
         t2.setUnit u { y with ctrl := setFld y.ctrl 31 29 0 }))

/-- CHECK_ABORT (R472, R483). -/
def checkAbortEffect (m u fed : Nat) (s : State) : State :=
  cmdNow m 0x0D02#16 s (fun _ t =>
    if 4 ≤ u then (reply .badParam, t)
    else if !(t.unit u).mayWrite .groom then (reply .checkUnitBusy, t)
    else
      let t1 := abortUnit u fed t
      let r := le 4 (t1.unit u).abortRes.toNat
      if (t.unit u).done then ({ status := .alreadyDone, data := r }, t1)
      else (okWith r, answerRun u .aborted t1))

-- The meanings of this family's rows: the effect, with the queue and the identity kept.

/-- CHECK_CLAIM (R465). -/
def execCheckClaim (p : Path) (u : Nat) (v : Word) (s : State) : Host.Outcome State Fault Refusal :=
  commit s (checkClaimEffect p u v s)
/-- CHECK_START (R466). -/
def execCheckStart (p : Path) (u : Nat) (s : State) : Host.Outcome State Fault Refusal :=
  commit s (checkStartEffect p u s)
/-- CHECK_SYNC_START (R468). -/
def execCheckSyncStart (u : Nat) (s : State) : Host.Outcome State Fault Refusal :=
  commit s (checkSyncStartEffect u s)
/-- CHECK_DATA (R466). -/
def execCheckData (p : Path) (u : Nat) (v : Word) (s : State) : Host.Outcome State Fault Refusal :=
  commit s (checkDataEffect p u v s)
/-- CHECK_DATA8 (R466). -/
def execCheckData8 (p : Path) (u : Nat) (v : Word) (s : State) : Host.Outcome State Fault Refusal :=
  commit s (checkData8Effect p u v s)
/-- CHECK_FINISH (R470). -/
def execCheckFinish (p : Path) (u : Nat) (s : State) : Host.Outcome State Fault Refusal :=
  commit s (checkFinishEffect p u s)
/-- CHECK_ABORT_CMD (R472). -/
def execCheckAbortCmd (p : Path) (u fed : Nat) (s : State) : Host.Outcome State Fault Refusal :=
  commit s (checkAbortCmdEffect p u fed s)
/-- CHECK_RESUME (R473). -/
def execCheckResume (p : Path) (u : Nat) (s : State) : Host.Outcome State Fault Refusal :=
  commit s (checkResumeEffect p u s)
/-- CHECK_SCAN_DONE (R467). -/
def execCheckScanDone (u : Nat) (bad : Option (Nat × Hit)) (s : State) : Host.Outcome State Fault Refusal :=
  commit s (checkScanDoneEffect u bad s)
/-- CHECK_STATUS_WRITE (R470). -/
def execCheckStatusWrite (p : Path) (u : Nat) (v : Word) (s : State) : Host.Outcome State Fault Refusal :=
  commit s (checkStatusWriteEffect p u v s)
/-- CHECK_RUN (R483). -/
def execCheckRun (m u : Nat) (img : ChkImages) (data : List Byte) (s : State) :
    Host.Outcome State Fault Refusal :=
  commit s (checkRunEffect m u img data s)
/-- CHECK_ABORT (R483). -/
def execCheckAbort (m u fed : Nat) (s : State) : Host.Outcome State Fault Refusal :=
  commit s (checkAbortEffect m u fed s)

end Sys2Proof.Machine
end

