-- ==== Sys2Proof/Machine/Chain.lean ====
section
/-! DEFINITION. Machine/Chain.lean: the UPDATE messages of a chain (R516) and the measurement registers (R494), which
both resets and the update path use. -/
namespace Sys2Proof.Machine
open Sys2Proof

/-- The chain kinds (R516). -/
inductive UpdKind where
  | offer | accept | busy | chunk | ack | install | installed | failed | abort
  deriving DecidableEq, Repr

/-- KIND. -/
def UpdKind.code : UpdKind → Nat
  | .offer => 1 | .accept => 2 | .busy => 3 | .chunk => 4 | .ack => 5 | .install => 6 | .installed => 7 | .failed => 8
  | .abort => 9

/-- What the port sends an UPDATE message as: a unicast to the neighbour (R516). -/
def chainRec (port : Nat) (addr : BitVec 128) : FlowRec :=
  { kind := 0, port := port, dst := addr, ipv6 := decide (addr.setWidth 96 ≠ 0#96) }

/-- The payload of an UPDATE message: the 16-byte header and its data (R516). -/
def updBody (k : UpdKind) (status : Half) (session chunk : Nat) (data : List Byte) : List Byte :=
  be 1 k.code ++ [0#8] ++ be 2 status.toNat ++ be 4 session ++ be 4 chunk ++ be 4 data.length ++ data

/-- Its frames: TYPE 0x09, STREAM bits 23:0 of the session id, PT and FORMAT 0, fragments with a unit of 1 byte
(R304, R516). -/
def updFrames (c : Cfg) (port : Nat) (addr : BitVec 128) (seq : Word) (k : UpdKind) (status : Half)
    (session chunk : Nat) (data : List Byte) : List TxFrame :=
  let r := chainRec port addr
  let body := updBody k status session chunk data
  let m := max 1 (fragSize c r)
  let n := max 1 (ceilDiv body.length m)
  (List.range n).map (fun g =>
    let part := (body.drop (g * m)).take m
    { kind := .update
      body := ylHeader 9 (session % 2 ^ 24) 0 0 seq 0 (g * m) n part.length 0 body.length ++ part
      dst := addr, udp := fld c.flow.set.ylCfg 15 0, octets := r.octets (32 + part.length) })

/-- A message goes to a neighbour of the chain over a port; SEQ advances (R516). -/
def sendUpd (port : Nat) (addr : BitVec 128) (k : UpdKind) (status : Half) (session chunk : Nat) (data : List Byte)
    (s : State) : State :=
  let seq := s.sec.upd.seq + 1
  let s1 : State := { s with sec := { s.sec with upd := { s.sec.upd with seq := seq } } }
  (updFrames s.cfg port addr seq k status session chunk data).foldl (fun s x => enqueueBe port x s) s1

/-- A measurement register extended: M = SHA-384(M, d) (R494). -/
def extendMeas (k : Nat) (d : Digest) (s : State) : State :=
  let m := (s.sec.meas[k]?).getD 0
  { s with sec := { s.sec with meas := s.sec.meas.set k (Config.sha384 (be 48 m.toNat ++ be 48 d.toNat)) } }

end Sys2Proof.Machine
end

