-- ==== Sys2Proof/Machine/Farrier.lean ====
section
/-! DEFINITION. Machine/Farrier.lean: the memory code and its scrubbers, Farrier in the field, and the TEST commands
(chapter 17, R458 to R463, R474 to R485). -/
namespace Sys2Proof.Machine
open Sys2Proof

/-! ## The memory code (R458 to R463) -/

/-- The fold bit of a virtual address: the XOR of its 36 bits (R458). -/
def foldBit (va : Nat) : Bool := (List.range 36).foldl (fun b i => xor b (va.testBit i)) false

/-- The outcome of a read (R459). -/
def EccRead.out (r : EccRead) : EccOut :=
  if !r.fold || (match r.located with | some l => l.any (fun p => 80 ≤ p) | none => false) then .address
  else match r.located with
    | some [] => .clean
    | some [_] => .corrected
    | some [_, _] => .corrected
    | _ => .uncorrectable

/-- The banks of a region of 64 KiB banks with a spare, in the order of R28 (R476); 0 for the Stall memories and
Groom SRAM. -/
def regionBanks (r : Nat) : Nat := ([320, 64, 72, 0, 48, 32, 32, 16, 0, 8, 4, 20][r]?).getD 0

/-- A read of the memory code by a scrubber (R460, R461); `again` is the read after the write-back. -/
def eccRead (region addr : Nat) (r again : EccRead) (s : State) : State :=
  match r.out with
  | .clean => s
  | .corrected =>
    let s1 := (s.bump (.intErr 0)).raiseCause .far 1
    if again.out = .clean then s1
    else
      let s2 := ((s1.bump (.intErr 3)).noteErr 0 region addr).raiseCause .far 3
      if region < 12 then
        { s2 with far := { s2.far with hard := s2.far.hard ++ [(region, addr / 65536)] } }
      else s2
  | .address => s.eccFail { region := region, addr := addr, isAddr := true }
  | .uncorrectable => s.eccFail { region := region, addr := addr }

/-- SRAM_SCRUB: the scrubber reads the word at a byte address of an SRAM region but the Stall memories (R28, R460 to
R462); `held` is what the word belongs to where it is a word of the Paddock, which an uncorrectable one then strikes when
the Paddock reads it (R257; log 70). -/
def sramScrubEffect (region addr : Nat) (x : ScrubRead) (held : Option PdkWord) (s : State) : State :=
  if region < 12 ∧ region ≠ 3 then
    let s1 := eccRead region (addr / 8 * 8) x.read x.again s
    let here (w : PdkWord) : Bool := match w with | .slot _ _ => decide (region = 10) | .fan _ => decide (region = 11)
    match held with
    | some w =>
      if here w ∧ (x.read.out = .address ∨ x.read.out = .uncorrectable) then
        { s1 with pdk := { s1.pdk with
            bad := s1.pdk.bad ++ [(w, { region := region, addr := addr / 8 * 8, isAddr := decide (x.read.out = .address) })] } }
      else s1
    | none => s1
  else s

/-- The 64-byte lines of a channel. -/
def channelLines (s : State) (c : Nat) : Nat := (s.glb.dramGiB[c]?).getD 0 * 16777216

/-- The channels in use. -/
def State.channels (s : State) : Nat := if s.far.wdDram then 1 else s.nDram

/-- PATROL_READ: the patrol reads the next line of a channel, `word` being the one of its eight that `r` tells of;
when every channel's last line has been read the pass ends (R463). -/
def patrolReadEffect (c word : Nat) (r again : EccRead) (s : State) : State :=
  let at0 := tget s.far.patrol c 0
  if c < s.channels ∧ at0 < channelLines s c ∧ word < 8 then
    let s1 := eccRead (0x3C + c) (64 * at0 + 8 * word) r again s
    let p := tset s1.far.patrol c (at0 + 1)
    if (List.range s.channels).all (fun k => channelLines s k ≤ tget p k 0) then
      ({ s1 with far := { s1.far with patrol := [] } }).raiseCause .far 6
    else { s1 with far := { s1.far with patrol := p } }
  else s

/-! ## Withdrawals (R476, R477, R482) -/

/-- FAR_WD_STALLS. -/
def State.wdStalls (s : State) : Half :=
  BitVec.ofNat 16 (((List.range 16).filter (fun k => (s.stall k).withdrawn)).map (fun k => 2 ^ k)).sum

/-- A region runs without a spare. -/
def State.noSpare (s : State) : Bool := s.far.rots.any (fun e => e.2.spare.isNone && e.2.copy.isNone && e.2.march.isNone)

/-- FAR_WD_MISC. -/
def State.wdMisc (s : State) : Nat :=
  s.far.wdHeads.toNat + (if s.far.wdDram then 4 else 0) + (if s.far.noField then 8 else 0)
    + (if s.noSpare then 16 else 0)

/-- FAR_STATUS.DEGRADED: a part is withdrawn. -/
def State.degraded (s : State) : Bool :=
  decide (s.wdStalls ≠ 0) || decide (s.far.wdEth ≠ 0) || decide (s.far.wdLine ≠ 0) || decide (s.far.wdBank ≠ 0)
    || decide (s.wdMisc ≠ 0) || decide (s.far.wdDomains ≠ 0)

/-- The numbers whose bit is set. -/
def bitsSet {w : Nat} (v : BitVec w) : List Nat := (List.range w).filter (fun i => v.getLsbD i)

/-- The resource map after self-test (R102, R112, R477). -/
def State.pool (s : State) : Pool :=
  { nStalls := s.nStalls, nDram := s.channels, nEth := s.nEth, nLine := s.nLine
    banks := 48 - (bitsSet s.far.wdBank).length
    noStall := bitsSet s.wdStalls, noEth := bitsSet s.far.wdEth, noLine := bitsSet s.far.wdLine
    noHead := bitsSet s.far.wdHeads ++ (if bitOf s.far.wdDomains 7 then [0, 1] else [])
    noPixel := bitOf s.far.wdDomains 5, noComp := bitOf s.far.wdDomains 6 }

/-- FAR_SLACK of a configuration (R479). -/
def slackMask (c : Cfg) (p : Pool) : Half :=
  BitVec.ofNat 16 (((List.range p.nStalls).filter (fun k => k ∉ p.noStall ∧ hasSlack c p k = true)).map (fun k => 2 ^ k)).sum

/-! ## Field tests (R478 to R482) -/

/-- Field tests run: FIELD_EN, and the TEST domain's own test passed. -/
def State.fieldOn (s : State) : Bool := bitOf s.cfg.far 31 && !s.far.noField && !bitOf s.far.wdDomains 15

/-- The first Stall from k on that is not withdrawn. -/
def State.nextStall (s : State) (k : Nat) : Option Nat :=
  (List.range s.nStalls).find? (fun j => decide (k ≤ j) && !(s.stall j).withdrawn)

/-- The round goes on with slice 0 of the next Stall from k on; after the last Stall it is over. -/
def roundOn (k : Nat) (s : State) : State :=
  match s.nextStall k with
  | some j => { s with far := { s.far with want := s.far.want ++ [{ stall := j, slice := 0, sinceNs := s.elt }] } }
  | none => s

/-- The round's slice, waiting or running. -/
def State.inRound (s : State) : Bool :=
  s.far.want.any (fun x => x.box.isNone) || (match s.far.active with | some x => x.box.isNone | none => false)

/-- FARRIER_ROUND: every ROUND_S seconds a round of slices begins (R478). -/
def farrierRoundEffect (s : State) : State :=
  if s.fieldOn ∧ ¬ s.inRound ∧ s.far.roundAt + 1000000000 * fld s.cfg.far 23 12 ≤ s.elt then
    roundOn 0 { s with far := { s.far with roundAt := s.elt } }
  else s

/-- A part fails in the field (R482): counted, TEST_FAIL and DEGRADED. -/
def fieldFail (s : State) : State := ((s.bump (.far 2)).raiseCause .far 4).raiseCause .far 0

/-- The answer of TEST_RUN: result 0 passed or 1 failed, the signature read (log 9). -/
def testAnswer (pass : Bool) (sig : Nat) : Reply :=
  { status := if pass then .ok else .testFailed, data := le 4 (if pass then 0 else 1) ++ le 8 sig }

/-- SLICE_END: the slice ends with the signature `sig` in the MISR (R474, R478, R482). -/
def sliceEndEffect (sig : DWord) (s : State) : State :=
  match s.far.active with
  | none => s
  | some x =>
    let pass := decide (sig = Config.signature x.stall x.slice)
    let r := s.stall x.stall
    let s1 := ({ s with far := { s.far with active := none } }).bump (.far 0)
    let s2 := s1.setStall x.stall { r with slice := false, withdrawn := r.withdrawn || !pass }
    let s3 := if pass then s2
      else ((fieldFail { s2 with far := { s2.far with fault := true } }).logEvent 4 212 0 x.stall).noteCond
    match x.box with
    | some m => endWait m 0x0E02#16 s3 (testAnswer pass sig.toNat)
    | none =>
      if pass && decide (x.slice < 15) then
        { s3 with far := { s3.far with
            want := s3.far.want ++ [{ stall := x.stall, slice := x.slice + 1, sinceNs := s3.elt }] } }
      else roundOn (x.stall + 1) s3

/-- SLICE_DEFER: a slice that could not be granted within 1 s is deferred (R479). -/
def sliceDeferEffect (s : State) : State :=
  match s.far.want.find? (fun x => x.sinceNs + 1000000000 ≤ s.elt) with
  | none => s
  | some x =>
    let s1 := (({ s with far := { s.far with want := s.far.want.erase x } }).bump (.far 3)).raiseCause .far 5
    match x.box with
    | some m => endWait m 0x0E02#16 s1 (reply .testDeferred)
    | none => roundOn (x.stall + 1) s1

/-- A region's rotation; the spare bank stands after the listed ones (R476). -/
def State.rot (s : State) (r : Nat) : Rot := tget s.far.rots r { spare := some (regionBanks r) }
/-- It put in place. -/
def State.setRot (s : State) (r : Nat) (x : Rot) : State :=
  { s with far := { s.far with rots := tset s.far.rots r x } }

/-- The bank a rotation takes: one with a hard error first (R460), else the one after the latest, the spare passed
over (log 30). -/
def nextBank (s : State) (r : Nat) : Nat :=
  let x := s.rot r
  let n := regionBanks r + 1
  match s.far.hard.find? (fun h => h.1 = r ∧ some h.2 ≠ x.spare) with
  | some h => h.2
  | none =>
    let b := match x.last with | some l => (l + 1) % n | none => 0
    if some b = x.spare then (b + 1) % n else b

/-- A rotation of a region starts: its bank is copied into the spare (R481). -/
def startRotation (r : Nat) (box : Option Nat) (s : State) : State :=
  let x := s.rot r
  s.setRot r { x with copy := some (nextBank s r), last := some (nextBank s r), atNs := s.elt, box := box }

/-- A region may rotate: it has a spare and no rotation is in progress. -/
def State.mayRotate (s : State) (r : Nat) : Bool :=
  decide (0 < regionBanks r) && (s.rot r).spare.isSome && (s.rot r).copy.isNone && (s.rot r).march.isNone

/-- ROTATION_START: every MARCH_S seconds a region begins a rotation (R481). -/
def rotationStartEffect (r : Nat) (s : State) : State :=
  if s.fieldOn ∧ s.mayRotate r ∧ (s.rot r).atNs + 1000000000 * fld s.cfg.far 11 0 ≤ s.elt then
    startRotation r none s
  else s

/-- At a boundary the spare takes the role of each bank whose copy is complete, and the bank leaves service (R481). -/
def retireBanks (copied : List Nat) (s : State) : State :=
  { s with far := { s.far with
      hard := s.far.hard.filter (fun h => h.1 ∉ copied ∨ tfind? s.far.rots h.1 = none
        ∨ (tget s.far.rots h.1 { spare := none }).copy ≠ some h.2)
      rots := s.far.rots.map (fun e =>
        if e.1 ∈ copied ∧ e.2.copy.isSome then (e.1, { e.2 with march := e.2.copy, copy := none, spare := none })
        else e) } }

/-- MARCH_DONE: the March tests on a region's retired bank end (R481, R482). -/
def marchDoneEffect (r : Nat) (pass : Bool) (s : State) : State :=
  let x := s.rot r
  match x.march with
  | none => s
  | some b =>
    let s1 := (s.setRot r { x with march := none, spare := if pass then some b else none, box := none }).bump (.far 1)
    let s2 := if pass then s1 else fieldFail s1
    match x.box with
    | some m => endWait m 0x0E02#16 s2.takeFree (testAnswer pass (Config.freeNat s.freeCtr % 2 ^ 64))
    | none => s2

/-! ## Commands (R483, R484) -/

/-- The rule of FAR_CFG (R483, R484). -/
def testRules (c : Cfg) : Except Status Unit :=
  need (decide (1 ≤ fld c.far 30 24) && decide (fld c.far 30 24 ≤ 168) && decide (60 ≤ fld c.far 23 12)
    && decide (10 ≤ fld c.far 11 0)) .badParam

/-- TEST_SET: the image of FAR_CFG (R484). -/
def testSetEffect (m : Nat) (image : Word) (s : State) : State :=
  stage m 0x0E01#16 [0x0E010000] s (fun _ _ c => do
    let c' : Cfg := { c with far := image }
    testRules c'
    pure c')

/-- TEST_RUN: one slice of a Stall (kind 0) or one rotation of a region (kind 1). Which slice runs is open: a free
value (log 5). A Stall beyond the variant is VARIANT_UNSUPPORTED (R4). -/
def testRunEffect (m kind index : Nat) (s : State) : State :=
  cmd m 0x0E02#16 s (fun _ t =>
    if kind = 0 ∧ t.nStalls ≤ index then (some (reply .variantUnsupported), t)
    else if kind = 0 ∧ index < t.nStalls ∨ kind = 1 ∧ 0 < regionBanks index then
      if !t.fieldOn then (some (reply .badState), t)
      else if kind = 0 then
        if (t.stall index).withdrawn then (some (reply .badState), t)
        else
          let x : Slice := { stall := index, slice := Config.freeNat t.freeCtr % 16, sinceNs := t.elt, box := some m }
          (none, { t.takeFree with far := { t.far with want := t.far.want ++ [x] } })
      else if !t.mayRotate index then (some (reply .badState), t)
      else (none, startRotation index (some m) t)
    else (some (reply .badParam), t))

/-- FAR_STATUS (R484). -/
def farStatus (s : State) : Nat :=
  (if s.degraded then 2147483648 else 0) + (if s.far.bootDone then 1073741824 else 0)
    + (match s.far.active with
       | some x => 536870912 + x.stall * 16777216 + x.slice * 1048576
       | none => 0)

/-- The withdrawal masks in the order of their registers (R484). -/
def farMasks (s : State) : List Nat :=
  [s.wdStalls.toNat, s.far.wdEth.toNat, s.far.wdLine.toNat % 2 ^ 32, s.far.wdLine.toNat / 2 ^ 32,
   s.far.wdBank.toNat % 2 ^ 32, s.far.wdBank.toNat / 2 ^ 32, s.wdMisc]

/-- TEST_STATUS: FAR_STATUS, the withdrawal masks, the counters (R483; log 9). -/
def testStatusEffect (m : Nat) (s : State) : State :=
  cmdRead m 0x0E03#16 s (fun _ t =>
    okWith (le 4 (farStatus t) ++ (farMasks t).flatMap (le 4)
      ++ ([0, 1, 2, 3].flatMap (fun w => le 4 (t.captured (.intErr w))))
      ++ ([0, 1, 2, 3].flatMap (fun w => le 4 (t.captured (.far w))))))

/-- QUERY_RESOURCE_MAP: the resources after self-test: DEGRADED, the counts and the withdrawal masks (R477; log 9). -/
def queryResourceMapEffect (m : Nat) (s : State) : State :=
  cmdRead m 0x0203#16 s (fun _ t =>
    okWith (le 4 (farStatus t / 2147483648 * 2147483648) ++ le 4 t.vcode.toNat ++ le 4 t.channels
      ++ le 4 (48 - (bitsSet t.far.wdBank).length) ++ le 4 t.glb.domain.toNat ++ (farMasks t).flatMap (le 4)))

/-- FAR_EVT_CAUSE_READ: the register is returned and cleared (R11, R484). -/
def farEvtCauseReadEffect (p : Path) (s : State) : State :=
  (s.returns p (s.cause .far)).clearCause .far 0xFFFFFFFF#32

-- The meanings of this family's rows: the effect, with the queue and the identity kept.

/-- QUERY_RESOURCE_MAP (R477). -/
def execQueryResourceMap (m : Nat) (s : State) : Host.Outcome State Fault Refusal :=
  commit s (queryResourceMapEffect m s)
/-- SRAM_SCRUB (R462). -/
def execSramScrub (region addr : Nat) (x : ScrubRead) (held : Option PdkWord) (s : State) :
    Host.Outcome State Fault Refusal :=
  commit s (sramScrubEffect region addr x held s)
/-- PATROL_READ (R463). -/
def execPatrolRead (c word : Nat) (r again : EccRead) (s : State) : Host.Outcome State Fault Refusal :=
  commit s (patrolReadEffect c word r again s)
/-- FARRIER_ROUND (R478). -/
def execFarrierRound (s : State) : Host.Outcome State Fault Refusal :=
  commit s (farrierRoundEffect s)
/-- SLICE_END (R478). -/
def execSliceEnd (sig : DWord) (s : State) : Host.Outcome State Fault Refusal :=
  commit s (sliceEndEffect sig s)
/-- SLICE_DEFER (R479). -/
def execSliceDefer (s : State) : Host.Outcome State Fault Refusal :=
  commit s (sliceDeferEffect s)
/-- ROTATION_START (R481). -/
def execRotationStart (r : Nat) (s : State) : Host.Outcome State Fault Refusal :=
  commit s (rotationStartEffect r s)
/-- MARCH_DONE (R481). -/
def execMarchDone (r : Nat) (pass : Bool) (s : State) : Host.Outcome State Fault Refusal :=
  commit s (marchDoneEffect r pass s)
/-- TEST_SET (R484). -/
def execTestSet (m : Nat) (image : Word) (s : State) : Host.Outcome State Fault Refusal :=
  commit s (testSetEffect m image s)
/-- TEST_RUN (R483). -/
def execTestRun (m kind index : Nat) (s : State) : Host.Outcome State Fault Refusal :=
  commit s (testRunEffect m kind index s)
/-- TEST_STATUS (R483). -/
def execTestStatus (m : Nat) (s : State) : Host.Outcome State Fault Refusal :=
  commit s (testStatusEffect m s)
/-- FAR_EVT_CAUSE_READ (R484). -/
def execFarEvtCauseRead (p : Path) (s : State) : Host.Outcome State Fault Refusal :=
  commit s (farEvtCauseReadEffect p s)

end Sys2Proof.Machine
end

