-- ==== Sys2Proof/Machine/Reset.lean ====
section
/-! DEFINITION. Machine/Reset.lean: cold reset, boot and warm reset (R25, R28, R29, R84, R476, R490, R493, R512, R513,
R524, R525). What a boot finds is the command's operand (log 31). -/
namespace Sys2Proof.Machine
open Sys2Proof

/-! ## Domains -/

/-- A domain's state put into GLB_DOMAIN_STATUS. -/
def setDomain (d v : Nat) (s : State) : State :=
  { s with glb := { s.glb with domain := setFld s.glb.domain (2 * d + 1) (2 * d) v } }

/-- The variant lacks a domain (R1, "Power domains"). -/
def State.lacks (s : State) (d : Nat) : Bool :=
  (decide (d = 4) && decide (s.nStalls ≤ 8)) || (decide (d = 7) && !s.isP) || (decide (d = 9) && !s.isF)

/-- A configuration needs a domain that may be off while the device runs. -/
def needsDomain (c : Cfg) (d : Nat) : Bool :=
  let onStall (lo hi : Nat) : Bool := c.stl.graph.tasks.any (fun t =>
    decide (lo ≤ t.home) && decide (t.home < hi)
      || (List.range 16).any (fun k => decide (lo ≤ k) && decide (k < hi) && bitOf t.affinity k))
  let heads := c.rst.heads.any (fun e => e.2.on)
  let eth (lo hi : Nat) : Bool := c.eth.ports.any (fun e => decide (lo ≤ e.1) && decide (e.1 < hi) && bitOf e.2.cfg 31)
  let line (lo hi : Nat) : Bool := c.line.any (fun e => decide (lo ≤ e.1) && decide (e.1 < hi) && bitOf e.2.mode 31)
  match d with
  | 3 => onStall 0 8
  | 4 => onStall 8 16
  | 5 => decide (c.map.map.recs ≠ [])
  | 6 => heads || (List.range 9).any (fun l => (layerOf c.comp l).on)
  | 7 => heads
  | 8 => eth 0 8
  | 9 => eth 8 16
  | 10 => line 0 20
  | 11 => line 20 40
  | 15 => false
  | _ => true

/-- The domains at the end of boot: withdrawn, on where needed, else off (R25, R477). -/
def settleDomains (s : State) : State :=
  (List.range 16).foldl (fun s d =>
    setDomain d (if s.lacks d || bitOf s.far.wdDomains d then 3 else if needsDomain s.cfg d then 1 else 0) s) s

/-! ## Self-test at cold boot (R476) -/

/-- The domain of an SRAM region in the order of R28 (log 31). -/
def regionDomain (r : Nat) : Nat := ([5, 2, 8, 3, 6, 2, 7, 5, 0, 8, 2, 2][r]?).getD 2

/-- A domain is withdrawn. -/
def withdrawDomain (d : Nat) (s : State) : State :=
  { s with far := { s.far with wdDomains := s.far.wdDomains ||| bitMask 16 d } }

/-- Channels 1 and 2 are withdrawn, and with them their domain (R29, R476, R477). -/
def withdrawDdr12 (s : State) : State := withdrawDomain 13 { s with far := { s.far with wdDram := true } }

/-- The outcome of a failing part. -/
def bootFail (f : BootFail) (s : State) : State :=
  match f with
  | .vital d => withdrawDomain d s
  | .ddr12 => withdrawDdr12 s
  | .stall k => s.setStall k { s.stall k with withdrawn := true }
  | .eth p => { s with far := { s.far with wdEth := s.far.wdEth ||| bitMask 16 p } }
  | .line n => { s with far := { s.far with wdLine := s.far.wdLine ||| bitMask 40 n } }
  | .head h => { s with far := { s.far with wdHeads := s.far.wdHeads ||| bitMask 2 h } }
  | .lineBank b => { s with far := { s.far with wdBank := s.far.wdBank ||| bitMask 48 b } }
  | .bank r =>
    if (s.rot r).spare.isSome then s.setRot r { s.rot r with spare := none } else withdrawDomain (regionDomain r) s
  | .logic d => withdrawDomain d s
  | .test => { s with far := { s.far with noField := true } }

/-- The channels differ in capacity (R29). -/
def unequal (gib : List Nat) : Bool := gib.any (fun g => g ≠ gib.headD 0)

/-- The order in which a cold reset powers the domains (R25). -/
def powerOrder : List Nat := [0, 1, 14, 15, 2, 12, 13, 3, 4, 5, 6, 7, 8, 9, 10, 11]

/-- The domain at which boot stops: the first that fails of AON, SEC, HOST, FABRIC and DDR0, or DDR0 where channel 0
lies outside 8 to 32 GiB (R25, R29, R476). -/
def bootStop (b : Boot) : Option Nat :=
  [0, 1, 14, 2, 12].find? (fun d => decide (BootFail.vital d ∈ b.fails)
    || (decide (d = 12) && (decide (b.gib.headD 0 < 8) || decide (32 < b.gib.headD 0))))

/-- Domains come up in order; one withdrawn reads so (R25, R477). -/
def powerUp (ds : List Nat) (s : State) : State :=
  ds.foldl (fun s d => setDomain d (if s.lacks d || bitOf s.far.wdDomains d then 3 else 1) s) s

/-- The domains that a boot stopped at domain d leaves: those before it are on, it is withdrawn, those after it are
off. -/
def powerUntil (d : Nat) (s : State) : State :=
  setDomain d 3 (powerUp (powerOrder.takeWhile (fun e => e ≠ d)) (withdrawDomain d s))

/-! ## Secure boot (R493, R494) -/

/-- The life-cycle state (R486): FIELD_DEBUG stands in its AON register on top of FIELD. -/
def State.lcNow (s : State) : Lc := if s.sec.debug then .fieldDebug else s.sec.lc

/-- Steps 2 to 5 on the flash as it stands: the component type that fails, or the state with the measurements
extended and the installed image running. A manifest that fails names no component (log 32). -/
def secureBoot (b : Boot) (s : State) : Except Nat State :=
  let man := s.sec.flashMan
  if !b.loader then .error 15
  else if !b.sigOk || !man.clean || bitOf s.sec.revoked man.keyIndex || decide (man.svn < s.sec.counter) then .error 0
  else
    match man.comps.find? (fun c => b.broken = some c.type ∨ tfind? s.sec.flashComp c.type ≠ some c.digest) with
    | some c => .error c.type
    | none =>
      let s1 := man.comps.foldl (fun s c => extendMeas c.type c.digest s) (extendMeas 0 Config.loaderDigest s)
      let s2 := extendMeas 5 (Config.lcDigest s.lcNow s.sec.dbgRevoked) s1
      .ok { s2 with sec := { s2.sec with running := man, keys := true } }

/-- The settings of the running format; where none exists they are converted from the newest other copy (R512). -/
def convertSettings (s : State) : State :=
  let f := s.sec.running.format
  match tfind? s.sec.settings f, s.sec.settings.getLast? with
  | none, some e => { s with sec := { s.sec with settings := tset s.sec.settings f e.2 } }
  | _, _ => s

/-- The sources whose EVC_SRC_CFG Groom writes at the end of boot (R69, R84). -/
def bootSources (s : State) : List Nat :=
  [0, 1, 2, 3] ++ (List.range 16).map (· + 8) ++ (List.range 8).map (· + 24) ++ (List.range 8).map (· + 40)
    ++ (List.range s.nStalls).map (· + 48) ++ ((List.range 13).map (· + 64)).filter (fun n => s.isP || decide (n ≠ 72)) ++ (List.range 4).map (· + 80)
    ++ (List.range 8).map (· + 88) ++ (List.range (2 * s.nEth)).map (· + 96) ++ (List.range s.nLine).map (· + 128)
    ++ (List.range s.nHeads).map (· + 168) ++ (if s.isP then (List.range 15).map (· + 176) else (List.range 5).map (· + 186))
    ++ (List.range 8).map (· + 192) ++ (List.range 8).map (· + 200) ++ (List.range 7).map (· + 208)
    ++ (List.range 8).map (· + 216)

/-- R84. -/
def bootEvc (s : State) : State :=
  (bootSources s).foldl (fun s n =>
    { s with evc := s.evc.change n (fun r => { r with enable := 2, effective := 2, priority := 1, vector := 0 }) }) s

/-- A domain that is off is switched on. -/
def switchOn (d : Nat) (s : State) : State := if s.domainOf d = 0 then setDomain d 1 s else s

/-- Boot ends in recovery (R513): ROM brings up HOST and ETH_A, with ports 0 and 1 a through pair at 10GBASE-R; the other
domains stay as they are. In SCRAPPED the device stays in ROM and drives nothing (R488). -/
def enterRecovery (type : Nat) (s : State) : State :=
  let ports : Tab PortRegs := [(0, { cfg := 0x820005DC#32 }), (1, { cfg := 0x800005DC#32 })]
  let s1 : State := { s with
    glb := { s.glb with recovery := true }
    sec := { s.sec with failType := type, recovered := true } }
  if s.sec.lc = .scrapped then s1
  else switchOn 8 (switchOn 14 { s1 with cfg := { s1.cfg with eth := { s1.cfg.eth with ports := ports } } })

/-- Boot ends with Groom serving (R25, R84, R493, R510, R512); the last device of a chain reports INSTALLED (R515). -/
def finishBoot (s : State) : State :=
  let again := s.sec.recovered
  let s1 := bootEvc (settleDomains (convertSettings { s with sec := { s.sec with recovered := false, failType := 0 } }))
  let s2 := if s1.degraded then s1.raiseCause .far 0 else s1
  let s3 := if again then s2.raiseCause .sec 6 else s2
  let s4 := if s3.sec.counter < s3.sec.running.svn then s3.raiseCause .sec 7 else s3
  match s4.sec.lastInst with
  | none => s4
  | some (id, port, addr) =>
    (updFrames s4.cfg port addr 1 .installed 0 id 0 (be 4 s4.sec.running.version.toNat ++ be 4 1)).foldl
      (fun s x => s.emit (.frame port s.elt x)) { s4 with sec := { s4.sec with lastInst := none } }

/-! ## Cold reset -/

/-- What a cold reset leaves: OTP and flash, the levels of input balls; everything else is at reset (R67, R262, R291,
R329, R358, R387, R408, R485, R486, R490). -/
def coldBase (s : State) : State :=
  { State.reset with
    variant := s.variant, out := s.out, freeCtr := s.freeCtr, pending := s.pending
    glb := { deviceId := s.glb.deviceId }
    log := { flash := s.log.flash, next := match s.log.flash.getLast? with | some e => e.seq + 1 | none => 0 }
    evc := { sent := s.evc.sent }
    pair := { inp := s.pair.inp }
    sec := {
      lc := s.sec.lc, revoked := s.sec.revoked, dbgRevoked := s.sec.dbgRevoked, counter := s.sec.counter
      flashMan := s.sec.flashMan, flashComp := s.sec.flashComp, settings := s.sec.settings, running := s.sec.running
      recovered := s.sec.recovered, lastInst := s.sec.lastInst, keys := false } }

/-- A rail at the release of cold reset (R413). -/
def bootRail (a : Bool) : RailSt :=
  if a then {} else { a := { st := .fault }, b := { st := .active }, onB := true }

/-- The whole of a cold reset: power-up in order, self-test, boot (R25, R476, R490, R493). March tests leave the
memories at 0, whether or not DRAM is wiped (log 31). -/
def coldReset (b : Boot) (s0 : State) : State :=
  let s := coldBase s0
  let s1 : State := { s with
    glb := { s.glb with
      dramGiB := b.gib.take s.nDram
      clk := { rootLock := true, serRef0 := b.ser0, serRef1 := b.ser1, pcieRef := b.pcie, aonRc := false } }
    feeds := { s.feeds with core := bootRail b.coreA, aon := bootRail b.aonA }
    pair := { s.pair with side := b.side }
    far := { s.far with bootDone := true } }
  match bootStop b with
  | some d => enterRecovery 0 (powerUntil d s1)
  | none =>
    let s2 := b.fails.foldl (fun s f => bootFail f s) (if unequal (b.gib.take s.nDram) then withdrawDdr12 s1 else s1)
    if s1.sec.lc = .scrapped then enterRecovery 0 (powerUp powerOrder s2)
    else match secureBoot b s2 with
    | .error t => enterRecovery t (settleDomains s2)
    | .ok s3 =>
      let refs := (calGroups s3).foldl (fun t g => tset t (groupKey g) (refTemp s3 g)) s3.brd.cal.refs
      finishBoot { s3 with brd := { s3.brd with cal := { s3.brd.cal with vals := b.cal, refs := refs } } }

/-- COLD_RESET. -/
def coldResetEffect (b : Boot) (s : State) : State := coldReset b s

/-- SUPPLY_COLLAPSE: both feeds of VDD_CORE below 0.62 V, or of VDD_AON below 0.66 V: the device enters cold reset,
whose release is a COLD_RESET (R413, R524). -/
def supplyCollapseEffect (core : Bool) (mvA mvB : Nat) (s : State) : State :=
  if mvA < (if core then 620 else 660) ∧ mvB < (if core then 620 else 660) then coldBase s else s

/-! ## Warm reset (R525) -/

/-- What a warm reset leaves: AON and SEC, the DRAM banks, counters that only a cold reset clears. The mailbox
sessions end with Groom, and with them the update lock (R504). -/
def warmBase (s : State) : State :=
  { State.reset with
    variant := s.variant, out := s.out, freeCtr := s.freeCtr, pending := s.pending
    glb := { deviceId := s.glb.deviceId, clk := s.glb.clk, dramGiB := s.glb.dramGiB, domain := s.glb.domain
             faulted := s.glb.faulted }
    mbx := { boxes := s.mbx.boxes.map (fun e => (e.1, { ringIgnored := e.2.ringIgnored })) }
    log := s.log
    evc := { sent := s.evc.sent }
    cnt := s.cnt.filter (fun e => 0xA00000 ≤ e.1), cap := s.cap.filter (fun e => 0xA00000 ≤ e.1)
    causes := s.causes.filter (fun e => e.1 = causeKey .brd)
    pdk := { bank0 := s.pdk.bank0, bank1 := s.pdk.bank1
             stalls := (s.pdk.stalls.filter (fun e => e.2.withdrawn)).map (fun e => (e.1, { withdrawn := true })) }
    pair := { inp := s.pair.inp, side := s.pair.side }
    feeds := s.feeds
    brd := { s.brd with waits := [], hold := none, budget := [], spent := [] }
    far := { s.far with units := [], want := [], active := none }
    sec := { s.sec with halted := [], upd := { next := s.sec.upd.next, installed := s.sec.upd.installed } } }

/-- The whole of a warm reset: outputs collapse, every domain but AON and SEC restarts, boot from step 2. -/
def warmReset (b : Boot) (s : State) : State :=
  let s0 := warmBase s
  let s1 : State := { s0 with evc := (List.range 8).foldl (fun e i => e.level (192 + i) (bitOf (s0.cause .brd) i)) s0.evc }
  match secureBoot b s1 with
  | .error t => enterRecovery t (settleDomains s1)
  | .ok s2 => finishBoot s2

/-- WARM_RESET. -/
def warmResetEffect (b : Boot) (s : State) : State := warmReset b s

-- The meanings of this family's rows: the effect, with the queue and the identity kept.

/-- COLD_RESET (R25). -/
def execColdReset (b : Boot) (s : State) : Host.Outcome State Fault Refusal :=
  commit s (coldResetEffect b s)
/-- WARM_RESET (R525). -/
def execWarmReset (b : Boot) (s : State) : Host.Outcome State Fault Refusal :=
  commit s (warmResetEffect b s)
/-- SUPPLY_COLLAPSE (R524). -/
def execSupplyCollapse (core : Bool) (mvA mvB : Nat) (s : State) : Host.Outcome State Fault Refusal :=
  commit s (supplyCollapseEffect core mvA mvB s)

end Sys2Proof.Machine
end

