-- ==== Sys2Proof/Machine/Security.lean ====
section
/-! DEFINITION. Machine/Security.lean: life-cycle, keys and credentials, attestation and debug access (chapter 18, R475,
R486 to R499, R518, R519). Whether a token or signature verifies is the command's operand (log 32). -/
namespace Sys2Proof.Machine
open Sys2Proof

/-! ## Life-cycle (R486 to R489) -/

/-- The code in SEC_STATUS.LC. -/
def Lc.code : Lc → Nat
  | .raw => 0 | .test => 1 | .provisioned => 2 | .field => 3 | .fieldDebug => 4 | .rma => 5 | .scrapped => 6

/-- The transitions that SEC_LC_SET allows (R486). -/
def lcAllowed : Lc → Lc → Bool
  | .test, .provisioned => true | .test, .scrapped => true
  | .provisioned, .field => true | .provisioned, .scrapped => true
  | .field, .fieldDebug => true | .field, .rma => true | .field, .scrapped => true
  | .fieldDebug, .field => true
  | .rma, .scrapped => true
  | _, _ => false

/-- The settings of the running format (R511). -/
def State.settings (s : State) : Settings := tget s.sec.settings s.sec.running.format {}

/-- The settings of the running format written (R512). -/
def State.setSettings (s : State) (x : Settings) : State :=
  { s with sec := { s.sec with settings := tset s.sec.settings s.sec.running.format x } }

/-- The credential table. -/
def State.creds (s : State) : List Cred := s.settings.creds

/-- A credential holds SERVICE. -/
def Cred.service (c : Cred) : Bool := bitOf c.mask 4

/-- The new state is written (R487 step 3), with what entering RMA and SCRAPPED erases (R488). -/
def writeLc (t : Lc) (s : State) : State :=
  let x := s.sec
  { s with sec := match t with
    | .fieldDebug => { x with debug := true }
    | .rma => { x with lc := .rma, debug := false, settings := [] }
    | .scrapped => { x with lc := .scrapped, debug := false, keys := false, dbgRevoked := 3 }
    | t => { x with lc := t, debug := false } }

/-- A change of life-cycle state after its command has completed (R487): outputs collapse, memories are wiped, the
state is written, and the device resets: warm into FIELD_DEBUG, else cold. -/
def changeLc (t : Lc) (b : Boot) (s : State) : State :=
  let s1 : State := { writeLc t s with pdk := { s.pdk with bank0 := [], bank1 := [] }, eth := [], line := [] }
  match t with
  | .fieldDebug => warmReset b s1
  | _ => coldReset b s1

/-- SEC_LC_SET; `verified` is what the engines find of the token or credential signature. -/
def secLcSetEffect (m : Nat) (target : Lc) (verified : Bool) (b : Boot) (s : State) : State :=
  if s.executes m 0x1002#16 then
    if !lcAllowed s.lcNow target then s.finish m (reply .secState)
    else if s.lcNow = .provisioned ∧ target = .field ∧ ¬ s.creds.any Cred.service then s.finish m (reply .badState)
    else if (target = .fieldDebug ∨ target = .rma) ∧ ¬ verified then s.finish m (reply .authFailed)
    else changeLc target b (s.finish m (reply .ok))
  else s

/-- FACTORY_TOKEN: the token over the TAP moves RAW to TEST (R486, R487). -/
def factoryTokenEffect (verified : Bool) (b : Boot) (s : State) : State :=
  if s.lcNow = .raw ∧ verified then changeLc .test b s else s

/-! ## Credentials and keys (R491, R492, R511, R518) -/

/-- SEC_CRED_SET: replaces the credential of that id, or adds one of at most 16. A refused peer may be tried again
(R422). -/
def secCredSetEffect (m : Nat) (c : Cred) (s : State) : State :=
  cmdNow m 0x1003#16 s (fun _ t =>
    let others := t.creds.filter (fun x => x.id ≠ c.id)
    if 16 ≤ others.length then (reply .noResource, t)
    else (reply .ok, retryPair (t.setSettings { t.settings with creds := others ++ [c] })))

/-- SEC_CRED_DEL. -/
def secCredDelEffect (m : Nat) (id : Half) (s : State) : State :=
  cmdNow m 0x1004#16 s (fun _ t =>
    let others := t.creds.filter (fun x => x.id ≠ id)
    if others.length = t.creds.length then (reply .badParam, t)
    else if t.lcNow = .field ∧ t.creds.any Cred.service ∧ ¬ others.any Cred.service then (reply .badState, t)
    else (reply .ok, retryPair (t.setSettings { t.settings with creds := others })))

/-- SEC_SETTINGS_SET. -/
def secSettingsSetEffect (m : Nat) (wipe : Bool) (mgmt rxAddrs : List Byte) (s : State) : State :=
  cmdNow m 0x1006#16 s (fun _ t =>
    (reply .ok, t.setSettings { t.settings with wipe := wipe, mgmt := mgmt, rxAddrs := rxAddrs }))

/-- SEC_KEY_REVOKE (R492). -/
def secKeyRevokeEffect (m k : Nat) (s : State) : State :=
  cmdNow m 0x1007#16 s (fun _ t =>
    let r := t.sec.revoked ||| bitMask 4 k
    if 4 ≤ k then (reply .badParam, t)
    else if r = 0xF#4 ∨ k = t.sec.running.keyIndex then (reply .badState, t)
    else (reply .ok, { t with sec := { t.sec with revoked := r } }))

/-! ## Status -/

/-- SEC_STATUS (R519). -/
def secStatus (s : State) : Nat :=
  s.lcNow.code * 2 ^ 28 + (if s.glb.recovery && decide (s.sec.lc ≠ .scrapped) then 2 ^ 27 else 0)
    + (if s.sec.opened then 2 ^ 26 else 0) + (min 3 s.sec.fails) * 2 ^ 24 + s.sec.revoked.toNat * 2 ^ 20
    + s.sec.failType % 16 * 2 ^ 16 + (if s.sec.upd.lock.isSome then 2 ^ 15 else 0) + s.sec.counter % 128

/-- SEC_STATUS: the register, the die serial, the measurement registers (R519; log 9). -/
def secStatusEffect (m : Nat) (s : State) : State :=
  cmdRead m 0x1001#16 s (fun _ t =>
    okWith (le 4 (secStatus t) ++ le 8 Config.dieSerial.toNat ++ t.sec.meas.flatMap (fun d => be 48 d.toNat)))

/-- The debug module answers (R497). -/
def State.debugOn (s : State) : Bool :=
  match s.lcNow with
  | .raw => true | .test => true | .rma => true
  | .provisioned => s.sec.opened | .fieldDebug => s.sec.opened
  | .field => false | .scrapped => false

/-- SEC_EVT_CAUSE_READ: a read by Groom returns and clears; a read by a debug module that is open does not clear (R497, R519, R534). -/
def secEvtCauseReadEffect (p : Path) (s : State) : State :=
  match p with
  | .groom => (s.returns p (s.cause .sec)).clearCause .sec 0xFFFFFFFF#32
  | .debug => if s.debugOn then s.returns p (s.cause .sec) else (s.returns p 0xFFFFFFFF#32).accessError p 3 0x10F0000
  | _ => (s.returns p 0xFFFFFFFF#32).accessError p 3 0x10F0000

/-! ## Attestation (R495, R496) -/

/-- The device answers SPDM beyond GET_VERSION (R488). -/
def State.spdmOn (s : State) : Bool := decide (s.sec.lc ≠ .scrapped)

/-- A response that the attestation key signs, or an error while the key store is zeroised (R475). -/
def signed (s : State) (r : SpdmResp) : SpdmResp := if s.sec.keys then r else .error

/-- GET_VERSION. -/
def getVersionEffect (via : Transport) (s : State) : State := s.emit (.spdm via .version)

/-- GET_CAPABILITIES. -/
def getCapabilitiesEffect (via : Transport) (s : State) : State :=
  if s.spdmOn then s.emit (.spdm via .capabilities) else s

/-- NEGOTIATE_ALGORITHMS: ECDSA P-384 and SHA-384. -/
def negotiateAlgorithmsEffect (via : Transport) (s : State) : State :=
  if s.spdmOn then s.emit (.spdm via .algorithms) else s

/-- GET_DIGESTS. -/
def getDigestsEffect (via : Transport) (s : State) : State :=
  if s.spdmOn then s.emit (.spdm via (.digests Config.certDigest)) else s

/-- GET_CERTIFICATE: slot 0 alone. -/
def getCertificateEffect (via : Transport) (slot offset length : Nat) (s : State) : State :=
  if s.spdmOn then s.emit (.spdm via (if slot = 0 then .certificate offset length else .error)) else s

/-- CHALLENGE: signed over the requester's nonce. -/
def challengeEffect (via : Transport) (slot : Nat) (nonce : BitVec 256) (s : State) : State :=
  if s.spdmOn then s.emit (.spdm via (if slot = 0 then signed s (.challengeAuth nonce) else .error)) else s

/-- The measurement blocks of an index: 1 to 8 are registers 0 to 7, 0xFF all eight (R495). -/
def measBlocks (s : State) (i : Nat) : Option (List (Nat × Digest)) :=
  let at1 (k : Nat) : Nat × Digest := (k, (s.sec.meas[k - 1]?).getD 0)
  if 1 ≤ i ∧ i ≤ 8 then some [at1 i]
  else if i = 0xFF then some ((List.range 8).map (fun k => at1 (k + 1)))
  else none

/-- GET_MEASUREMENTS. -/
def getMeasurementsEffect (via : Transport) (q : SpdmMeas) (s : State) : State :=
  if s.spdmOn then
    match measBlocks s q.index with
    | some l =>
      let r : SpdmResp := .measurements l q.nonce
      s.emit (.spdm via (if q.nonce.isSome then signed s r else r))
    | none => s.emit (.spdm via .error)
  else s

/-! ## Debug access (R475, R497 to R499) -/

/-- The states in which the debug module can be unlocked. -/
def State.unlockable (s : State) : Bool := decide (s.lcNow = .provisioned) || decide (s.lcNow = .fieldDebug)

/-- An unlock challenge is issued: 48 random bytes (R498; log 5). -/
def issueChallenge (s : State) : Digest × State :=
  let c := Config.freeBits s.freeCtr
  (c, { s.takeFree with sec := { s.sec with challenge := some (s.elt, c) } })

/-- An answer to a challenge, which expires with it: the module opens, or the failure is counted (R498). -/
def answerChallenge (verified : Bool) (s : State) : Bool × State :=
  let live : Bool := match s.sec.challenge with | some c => decide (s.elt < c.1 + 60000000000) | none => false
  let s1 : State := { s with sec := { s.sec with challenge := none } }
  if s.unlockable ∧ s.sec.fails < 3 ∧ live ∧ verified then
    let s2 := extendMeas 5 (Config.freeBits s.freeCtr) { s1.takeFree with sec := { s1.sec with opened := true } }
    (true, (s2.raiseCause .sec 4).logEvent 3 220 0 0)
  else (false, { s1 with sec := { s1.sec with fails := min 3 (s1.sec.fails + 1) } }.raiseCause .sec 5)

/-- SEC_DEBUG_UNLOCK: phase 0 answers a challenge, phase 1 checks its signed answer. -/
def secDebugUnlockEffect (m phase : Nat) (verified : Bool) (s : State) : State :=
  cmdNow m 0x1005#16 s (fun _ t =>
    if 1 < phase then (reply .badParam, t)
    else if !t.unlockable then (reply .badState, t)
    else if 3 ≤ t.sec.fails then (reply .secUnlockFailed, t)
    else if phase = 0 then
      let (c, u) := issueChallenge t
      (okWith (be 48 c.toNat), u)
    else
      let (ok, u) := answerChallenge verified t
      (reply (if ok then .ok else .secUnlockFailed), u))

/-- TAP_DEBUG_UNLOCK: the same over the TAP; `phase` 0 asks for the challenge. -/
def tapDebugUnlockEffect (phase : Nat) (verified : Bool) (s : State) : State :=
  if s.unlockable ∧ s.sec.fails < 3 then
    (if phase = 0 then (issueChallenge s).2 else (answerChallenge verified s).2)
  else s

/-- UNLOCK_CHALLENGE_EXPIRE: 60 s after its issue. -/
def unlockChallengeExpireEffect (s : State) : State :=
  match s.sec.challenge with
  | some c => if c.1 + 60000000000 ≤ s.elt then { s with sec := { s.sec with challenge := none } } else s
  | none => s

/-- A core exists. -/
def State.hasCore (s : State) (c : DbgCore) : Bool :=
  match c with | .groom => true | .stall k => decide (k < s.nStalls)

/-- DEBUG_HALT: FAULT_OK fails while a core is halted (R499). -/
def debugHaltEffect (c : DbgCore) (s : State) : State :=
  if s.debugOn ∧ s.hasCore c ∧ c ∉ s.sec.halted then
    { s with sec := { s.sec with halted := s.sec.halted ++ [c] } }.noteCond
  else s

/-- DEBUG_RESUME. -/
def debugResumeEffect (c : DbgCore) (s : State) : State :=
  if s.debugOn ∧ c ∈ s.sec.halted then
    { s with sec := { s.sec with halted := s.sec.halted.erase c } }.noteCond
  else s

/-- TAP_SCAN_SHIFT: where the state allows scan chains, the key store is zeroised before shifting is enabled (R475,
R497). -/
def tapScanShiftEffect (s : State) : State :=
  match s.lcNow with
  | .raw | .test | .rma => { s with sec := { s.sec with keys := false, scan := true } }
  | _ => s

-- The meanings of this family's rows: the effect, with the queue and the identity kept.

/-- GET_VERSION (R495). -/
def execGetVersion (via : Transport) (s : State) : Host.Outcome State Fault Refusal :=
  commit s (getVersionEffect via s)
/-- GET_CAPABILITIES (R495). -/
def execGetCapabilities (via : Transport) (s : State) : Host.Outcome State Fault Refusal :=
  commit s (getCapabilitiesEffect via s)
/-- NEGOTIATE_ALGORITHMS (R495). -/
def execNegotiateAlgorithms (via : Transport) (s : State) : Host.Outcome State Fault Refusal :=
  commit s (negotiateAlgorithmsEffect via s)
/-- GET_DIGESTS (R495). -/
def execGetDigests (via : Transport) (s : State) : Host.Outcome State Fault Refusal :=
  commit s (getDigestsEffect via s)
/-- GET_CERTIFICATE (R495). -/
def execGetCertificate (via : Transport) (slot offset length : Nat) (s : State) :
    Host.Outcome State Fault Refusal :=
  commit s (getCertificateEffect via slot offset length s)
/-- CHALLENGE (R495). -/
def execChallenge (via : Transport) (slot : Nat) (nonce : BitVec 256) (s : State) :
    Host.Outcome State Fault Refusal :=
  commit s (challengeEffect via slot nonce s)
/-- GET_MEASUREMENTS (R495). -/
def execGetMeasurements (via : Transport) (q : SpdmMeas) (s : State) : Host.Outcome State Fault Refusal :=
  commit s (getMeasurementsEffect via q s)
/-- TAP_DEBUG_UNLOCK (R498). -/
def execTapDebugUnlock (phase : Nat) (verified : Bool) (s : State) : Host.Outcome State Fault Refusal :=
  commit s (tapDebugUnlockEffect phase verified s)
/-- UNLOCK_CHALLENGE_EXPIRE (R498). -/
def execUnlockChallengeExpire (s : State) : Host.Outcome State Fault Refusal :=
  commit s (unlockChallengeExpireEffect s)
/-- DEBUG_HALT (R499). -/
def execDebugHalt (c : DbgCore) (s : State) : Host.Outcome State Fault Refusal :=
  commit s (debugHaltEffect c s)
/-- SEC_STATUS (R519). -/
def execSecStatus (m : Nat) (s : State) : Host.Outcome State Fault Refusal :=
  commit s (secStatusEffect m s)
/-- SEC_LC_SET (R487). -/
def execSecLcSet (m : Nat) (target : Lc) (verified : Bool) (b : Boot) (s : State) :
    Host.Outcome State Fault Refusal :=
  commit s (secLcSetEffect m target verified b s)
/-- SEC_CRED_SET (R518). -/
def execSecCredSet (m : Nat) (c : Cred) (s : State) : Host.Outcome State Fault Refusal :=
  commit s (secCredSetEffect m c s)
/-- SEC_CRED_DEL (R518). -/
def execSecCredDel (m : Nat) (id : Half) (s : State) : Host.Outcome State Fault Refusal :=
  commit s (secCredDelEffect m id s)
/-- SEC_DEBUG_UNLOCK (R498). -/
def execSecDebugUnlock (m phase : Nat) (verified : Bool) (s : State) : Host.Outcome State Fault Refusal :=
  commit s (secDebugUnlockEffect m phase verified s)
/-- SEC_SETTINGS_SET (R511). -/
def execSecSettingsSet (m : Nat) (wipe : Bool) (mgmt rxAddrs : List Byte) (s : State) :
    Host.Outcome State Fault Refusal :=
  commit s (secSettingsSetEffect m wipe mgmt rxAddrs s)
/-- SEC_KEY_REVOKE (R492). -/
def execSecKeyRevoke (m k : Nat) (s : State) : Host.Outcome State Fault Refusal :=
  commit s (secKeyRevokeEffect m k s)
/-- SEC_EVT_CAUSE_READ (R519). -/
def execSecEvtCauseRead (p : Path) (s : State) : Host.Outcome State Fault Refusal :=
  commit s (secEvtCauseReadEffect p s)
/-- DEBUG_RESUME (R499). -/
def execDebugResume (c : DbgCore) (s : State) : Host.Outcome State Fault Refusal :=
  commit s (debugResumeEffect c s)
/-- TAP_SCAN_SHIFT (R475). -/
def execTapScanShift (s : State) : Host.Outcome State Fault Refusal :=
  commit s (tapScanShiftEffect s)
/-- FACTORY_TOKEN (R486). -/
def execFactoryToken (verified : Bool) (b : Boot) (s : State) : Host.Outcome State Fault Refusal :=
  commit s (factoryTokenEffect verified b s)

end Sys2Proof.Machine
end

