-- ==== Sys2Proof/Machine/Update.lean ====
section
/-! DEFINITION. Machine/Update.lean: update sessions, installation and the chain relay (chapter 18, R500 to R516). -/
namespace Sys2Proof.Machine
open Sys2Proof

/-! ## Manifests and chunks (R500 to R503) -/

/-- n bytes of a list from an offset. -/
def sl (bs : List Byte) (off n : Nat) : List Byte := (bs.drop off).take n

/-- All bytes are 0. -/
def zeros (bs : List Byte) : Bool := bs.all (fun b => b = 0)

/-- A component entry (R500). -/
def parseComp (bs : List Byte) : ManComp :=
  { type := unle (sl bs 0 2), offset := unle (sl bs 4 4), length := unle (sl bs 8 4)
    version := BitVec.ofNat 32 (unle (sl bs 12 4)), digest := BitVec.ofNat 384 (unbe (sl bs 16 48)) }

/-- The fields of a manifest's 1,024 bytes (R500). -/
def parseManifest (bs : List Byte) : Manifest :=
  let n := unle (sl bs 0x10 2)
  let entry (i : Nat) : List Byte := sl bs (0x50 + 64 * i) 64
  { clean := decide (bs.length = 1024) && decide (unle (sl bs 0 4) = 0x4D555848) && decide (unle (sl bs 4 2) = 1)
      && zeros (sl bs 0x18 8) && zeros (sl bs 0x1D0 464)
      && (List.range 4).all (fun i => if i < n then zeros (sl (entry i) 2 2) else zeros (entry i))
    keyIndex := unle (sl bs 6 1), svn := unle (sl bs 7 1), imageLen := unle (sl bs 8 4), chunks := unle (sl bs 12 4)
    pairProto := BitVec.ofNat 8 (unle (sl bs 0x12 1)), format := unle (sl bs 0x13 1)
    version := BitVec.ofNat 32 (unle (sl bs 0x14 4)), head := BitVec.ofNat 384 (unbe (sl bs 0x20 48))
    comps := (List.range (min n 4)).map (fun i => parseComp (entry i))
    compat := (List.range 16).map (fun i => (BitVec.ofNat 32 (unle (sl bs (0x150 + 8 * i) 4)),
      BitVec.ofNat 32 (unle (sl bs (0x154 + 8 * i) 4)))) }

/-- Two components lie apart. -/
def apart (a b : ManComp) : Bool := decide (a.offset + a.length ≤ b.offset) || decide (b.offset + b.length ≤ a.offset)

/-- Components inside IMAGE_LEN, apart, each type once (R500, R501). -/
def Manifest.compsOk (m : Manifest) : Bool :=
  m.comps.all (fun c => decide (c.offset + c.length ≤ m.imageLen))
    && m.comps.Pairwise (fun a b => apart a b = true ∧ a.type ≠ b.type)

/-- A VERSION lies in a COMPAT range. -/
def Manifest.compatible (m : Manifest) (v : Word) : Bool :=
  m.compat.any (fun r => decide (r.2 ≠ 0) && decide (r.1.toNat ≤ v.toNat) && decide (v.toNat ≤ r.2.toNat))

/-- The device is paired, LEAD or SHADOW, and its peer's version known (R420, R503). -/
def State.peerKnown (s : State) : Bool := decide (s.pair.role = .lead) || decide (s.pair.role = .shadow)

/-- The status of a manifest (R501, R503); `sigOk` is what the engines find of its signature. -/
def manifestStatus (s : State) (m : Manifest) (sigOk : Bool) : Status :=
  if !m.clean || !m.compsOk || !sigOk || decide (4 ≤ m.keyIndex) || bitOf s.sec.revoked m.keyIndex then .updSignature
  else if m.svn < s.sec.counter then .updRollback
  else if s.peerKnown ∧ (¬ m.compatible s.pair.version ∨ m.pairProto ≠ s.pair.proto) then .updIncompatible
  else .ok

/-- Update state put in place. -/
def State.setUpd (s : State) (u : Upd) : State := { s with sec := { s.sec with upd := u } }

/-- Every chunk has been accepted. -/
def Upd.staged (u : Upd) : Bool := match u.man with | some m => decide (u.chunks.length = m.chunks) | none => false

/-- The next chunk, accepted when the SHA-384 of its 4,096 bytes is the expected hash (R502). -/
def Upd.accept (u : Upd) (bs : List Byte) : Option Upd :=
  if bs.length = 4096 ∧ Config.sha384 bs = u.expect ∧ ¬ u.staged then
    some { u with chunks := u.chunks ++ [bs], expect := BitVec.ofNat 384 (unbe (sl bs 4048 48)), half := none, bad := 0 }
  else none

/-- A manifest is staged: no chunk of it has come. -/
def Upd.begin (u : Upd) (m : Manifest) (bytes : List Byte) : Upd :=
  { u with man := some m, manBytes := bytes, chunks := [], expect := m.head, half := none, bad := 0, relay := none
           installed := false }

/-! ## The chain's sending side (R514) -/

/-- A chain's port and addresses as an OFFER carries them (log 9). -/
def chainBytes (c : Chain) : List Byte :=
  be 2 c.port ++ be 2 c.addrs.length ++ c.addrs.flatMap (fun a => be 16 a.toNat)

/-- An OFFER goes to the next address of the chain. -/
def offerNext (s : State) : State :=
  match s.sec.upd.chain, s.sec.upd.lock with
  | some c, some l =>
    match c.addrs with
    | a :: rest =>
      let s1 := s.setUpd { s.sec.upd with relay := some { port := c.port, addr := a } }
      sendUpd c.port a .offer 0 l.id 0 (s.sec.upd.manBytes ++ chainBytes { c with addrs := rest }) s1
    | [] => s
  | _, _ => s

/-- Chunks go to the neighbour, at most 16 unacknowledged (R514). -/
def sendChunks (s : State) : State :=
  let u := s.sec.upd
  match u.relay, u.lock with
  | some r, some l =>
    let upTo := min u.chunks.length (r.acked + 16)
    let idx := (List.range upTo).filter (fun i => r.sent ≤ i)
    let s1 := idx.foldl (fun s i => sendUpd r.port r.addr .chunk 0 l.id i ((u.chunks[i]?).getD []) s) s
    s1.setUpd { s1.sec.upd with relay := some { r with sent := max r.sent upTo, ackNs := s.elt } }
  | _, _ => s

/-- The image is complete: UPD_STAGED, and a chain goes on (R506, R514). -/
def imageStaged (s : State) : State := offerNext (s.raiseCause .sec 0)

/-- The lock is released; without an installation the staged image is discarded, and a neighbour that took it is
told (R504, R516). -/
def releaseLock (s : State) : State :=
  let u := s.sec.upd
  let s1 := match u.relay, u.lock with
    | some r, some l => if r.accepted && !r.install then sendUpd r.port r.addr .abort 0 l.id 0 [] s else s
    | _, _ => s
  s1.setUpd { next := u.next, installed := u.installed, hops := u.hops }

/-- A hop of the chain has failed: the chain stops (R515); the report goes up with one more hop, or ends the
UPD_INSTALL of the origin. -/
def chainStops (hop : Nat) (st : Status) (s : State) : State :=
  let u := s.sec.upd
  let s1 := (s.setUpd { u with relay := none, hops := u.hops ++ [(hop, st.code)] }).raiseCause .sec 2
  match u.lock with
  | some l => match l.from? with
    | some a => sendUpd u.upPort a .failed st.code l.id 0 (be 4 (hop + 1)) s1
    | none => match u.box with
      | some m => endWait m 0x0F04#16 (s1.setUpd { s1.sec.upd with box := none }) (reply st)
      | none => s1
  | none => s1

/-! ## Sessions and the lock (R504, R505) -/

/-- The transport's code in a holder's identity. -/
def Transport.code : Transport → Nat | .pcie => 0 | .mgmt => 1 | .peer => 2

/-- The holder's identity (R505; log 9). -/
def holderBytes (u : Upd) : List Byte :=
  match u.lock with
  | some l => le 2 l.trans.code ++ le 2 l.cred.toNat ++ le 8 l.atNs
      ++ le 4 ((u.man.map (·.version.toNat)).getD 0)
  | none => le 16 0

/-- The request's session holds the lock. -/
def Upd.heldBy (u : Upd) (q : Req) : Bool :=
  match u.lock with | some l => decide (l.session = some q.session.toNat) | none => false

/-- Activity of the session. -/
def State.touchLock (s : State) : State :=
  s.setUpd { s.sec.upd with lock := s.sec.upd.lock.map (fun l => { l with lastNs := s.elt }) }

/-- An UPD command but UPD_BEGIN: without the lock UPD_NO_SESSION (R504). -/
def updCmd (m : Nat) (op : Half) (s : State) (f : Req → State → Option Reply × State) : State :=
  cmd m op s (fun q t =>
    if t.sec.upd.heldBy q then f q t.touchLock else (some (reply .updNoSession), t))

/-- UPD_BEGIN; `chain` is the chain it names. -/
def updBeginEffect (m : Nat) (chain : Option Chain) (s : State) : State :=
  cmdNow m 0x0F01#16 s (fun q t =>
    let u := t.sec.upd
    let chainOk : Bool := match chain with
      | some c => decide (c.addrs.length ≤ 16) && (partner t c.port).isSome
      | none => true
    if u.heldBy q then (reply .badState, t)
    else if u.lock.isSome then ({ status := .updBusy, data := holderBytes u }, t.raiseCause .sec 3)
    else if !chainOk then (reply .badParam, t)
    else
      let x : Option Session := t.session? q.session.toNat
      let l : UpdLock := {
        session := some q.session.toNat, trans := (x.map (·.transport)).getD .pcie
        cred := (((x.map (·.cred)).getD 0 : Word)).setWidth 16, atNs := t.elt, id := u.next, lastNs := t.elt }
      (okWith (le 4 u.next), t.setUpd { next := u.next + 1, installed := u.installed, lock := some l, chain := chain }))

/-- UPD_LOCK_TIMEOUT: 120 s without activity (R504). -/
def updLockTimeoutEffect (s : State) : State :=
  match s.sec.upd.lock with
  | some l =>
    if l.lastNs + 120000000000 ≤ s.elt ∧ s.sec.upd.box = none ∧ (s.sec.upd.relay.all (fun r => !r.install)) then
      releaseLock s
    else s
  | none => s

/-- UPD_END. -/
def updEndEffect (m : Nat) (s : State) : State :=
  updCmd m 0x0F07#16 s (fun _ t => (some (reply .ok), releaseLock t))

/-- UPD_MANIFEST: the manifest's 1,024 bytes (R501, R503, R506). -/
def updManifestEffect (m : Nat) (bytes : List Byte) (sigOk : Bool) (s : State) : State :=
  updCmd m 0x0F02#16 s (fun _ t =>
    let man := parseManifest bytes
    match manifestStatus t man sigOk with
    | .ok => (some (okWith (le 4 man.chunks)), t.setUpd (t.sec.upd.begin man bytes))
    | st => (some (reply st), t))

/-- Consecutive chunks from the next expected one: how far they are accepted, and whether one failed. -/
def acceptAll : List (List Byte) → Upd → Bool × Upd
  | [], u => (true, u)
  | b :: rest, u => match u.accept b with
    | some v => acceptAll rest v
    | none => (false, u)

/-- The answer to UPD_CHUNK: the next chunk expected; the completion of the image. -/
def chunkDone (ok : Bool) (u : Upd) (t : State) : Option Reply × State :=
  let t1 := t.setUpd u
  let t2 := if u.staged ∧ ¬ t.sec.upd.staged then imageStaged t1 else t1
  (some (if ok then okWith (le 4 u.chunks.length) else reply .updChunkHash), t2)

/-- UPD_CHUNK (R502, R506): whole chunks by descriptors, which bring at least one (log 33), or half a chunk in the payload. -/
def updChunkEffect (m : Nat) (c : ChunkIn) (s : State) : State :=
  updCmd m 0x0F03#16 s (fun _ t =>
    let u := t.sec.upd
    if u.man.isNone then (some (reply .badState), t)
    else match c with
    | .bulk =>
      let bs := ((t.box m).dma.bind (fun d => d.obj.whole)).getD []
      if bs = [] ∨ bs.length % 4096 ≠ 0 then (some (reply .badParam), t)
      else let (ok, v) := acceptAll (chop 4096 (bs.length / 4096) bs) u; chunkDone ok v t
    | .half k part d =>
      if 1 < part ∨ d.length ≠ 2048 then (some (reply .badParam), t)
      else if k + 1 = u.chunks.length then (some (okWith (le 4 u.chunks.length)), t)
      else if k ≠ u.chunks.length ∨ u.staged then (some (reply .badParam), t)
      else match u.half with
      | some (p, e) =>
        if p = part then chunkDone true { u with half := some (part, d) } t
        else match u.accept (if part = 1 then e ++ d else d ++ e) with
          | some v => chunkDone true v t
          | none => chunkDone false { u with half := none } t
      | none => chunkDone true { u with half := some (part, d) } t)

/-! ## Installation, activation, confirmation (R507 to R512) -/

/-- The staged image. -/
def Upd.image (u : Upd) (len : Nat) : List Byte := (u.chunks.flatMap (fun b => b.take 4048)).take len

/-- The components written in manifest order, each read back and compared, one mismatch retried (R507): `mism` are
the mismatches of each component's read-back. Gives how many were written and whether all were. -/
def writeComps (img : List Byte) : List (ManComp × Nat) → Nat → Tab Digest → Nat × Bool × Tab Digest
  | [], k, f => (k, true, f)
  | (c, bad) :: rest, k, f =>
    if Config.sha384 (sl img c.offset c.length) = c.digest ∧ bad < 2 then
      writeComps img rest (k + 1) (tset f c.type c.digest)
    else (k, false, tdel f c.type)

/-- The installation of the staged image; the manifest is written last (R507). -/
def installImage (mism : List Nat) (s : State) : Nat × Bool × State :=
  let u := s.sec.upd
  match u.man with
  | none => (0, false, s)
  | some man =>
    let cs := (List.range man.comps.length).filterMap (fun i => (man.comps[i]?).map (fun c => (c, (mism[i]?).getD 0)))
    let (k, ok, f) := writeComps (u.image man.imageLen) cs 0 s.sec.flashComp
    let s1 : State := { s with sec := { s.sec with flashComp := f } }
    if ok then
      (k, true, { s1 with sec := { s1.sec with flashMan := man, upd := { u with installed := true } } }.raiseCause .sec 1)
    else (k, false, s1.raiseCause .sec 2)

/-- UPD_INSTALL; with CHAIN the devices downstream install first and the command waits for their report (R507,
R515). -/
def updInstallEffect (m : Nat) (chain : Bool) (mism : List Nat) (s : State) : State :=
  updCmd m 0x0F04#16 s (fun _ t =>
    let u := t.sec.upd
    if !u.staged then (some (reply .badState), t)
    else if chain then
      match u.relay, u.lock with
      | some r, some l =>
        if r.accepted ∧ r.acked = u.chunks.length then
          let t1 := sendUpd r.port r.addr .install 0 l.id 0 [] t
          (none, t1.setUpd { t1.sec.upd with
            box := some m, relay := some { r with install := true, reportNs := t.elt + 120000000000 } })
        else (some (reply .badState), t)
      | _, _ => (some (reply .badState), t)
    else
      let (k, ok, t1) := installImage mism t
      (some (if ok then okWith (le 4 k) else reply .testFailed), t1))

/-- UPD_ACTIVATE: the cold reset follows the response (R509). -/
def updActivateEffect (m : Nat) (b : Boot) (s : State) : State :=
  if s.executes m 0x0F05#16 then
    if !s.sec.upd.heldBy (s.box m).req then s.finish m (reply .updNoSession)
    else if ¬ s.sec.upd.installed ∨ (s.pair.role = .lead ∧ s.pair.st = .inSync) then s.finish m (reply .badState)
    else coldReset b (s.finish m (reply .ok))
  else s

/-- UPD_CONFIRM (R510, R512). -/
def updConfirmEffect (m : Nat) (s : State) : State :=
  updCmd m 0x0F06#16 s (fun _ t =>
    if t.glb.recovery ∨ t.sec.upd.installed then (some (reply .badState), t)
    else
      let n := max t.sec.counter t.sec.running.svn
      let t1 : State := { t with sec := { t.sec with
        counter := n, settings := t.sec.settings.filter (fun e => e.1 = t.sec.running.format) } }
      (some (okWith (le 4 n)), t1.clearCause .sec (bitMask 32 7)))

/-- The phase that UPD_STATUS gives: 0 idle, 1 staging, 2 staged, 3 installing, 4 installed (log 9). -/
def Upd.phase (u : Upd) : Nat :=
  if u.installed then 4 else if u.box.isSome then 3 else if u.staged then 2 else if u.man.isSome then 1 else 0

/-- UPD_STATUS: holder, chunks, phase, hops, versions, counter; returns and clears SEC_EVT_CAUSE (R519; log 9). -/
def updStatusEffect (m : Nat) (s : State) : State :=
  updCmd m 0x0F08#16 s (fun _ t =>
    let u := t.sec.upd
    (some (okWith (holderBytes u ++ le 4 u.chunks.length ++ le 4 u.phase ++ le 4 u.hops.length
        ++ u.hops.flatMap (fun h => le 2 h.1 ++ le 2 h.2.toNat) ++ le 4 t.sec.running.version.toNat
        ++ le 4 t.sec.flashMan.version.toNat ++ le 4 t.sec.counter ++ le 4 (t.cause .sec).toNat)),
     t.clearCause .sec 0xFFFFFFFF#32))

/-! ## The chain (R514 to R516) -/

/-- A message of the neighbour downstream in the session. -/
def fromDown (s : State) (addr : BitVec 128) (id : Nat) : Option Relay :=
  match s.sec.upd.relay, s.sec.upd.lock with
  | some r, some l => if r.addr = addr ∧ l.id = id then some r else none
  | _, _ => none

/-- A message of the neighbour upstream in the session. -/
def fromUp (s : State) (addr : BitVec 128) (id : Nat) : Bool :=
  match s.sec.upd.lock with | some l => decide (l.from? = some addr) && decide (l.id = id) | none => false

/-- UPDATE_OFFER: BUSY under R505, FAILED with the manifest's status, or ACCEPT with the running VERSION. -/
def updateOfferEffect (port : Nat) (addr : BitVec 128) (id : Nat) (man : List Byte) (chain : Option Chain)
    (sigOk : Bool) (s : State) : State :=
  let u := s.sec.upd
  if u.lock.isSome then sendUpd port addr .busy 0x0F01#16 id 0 (holderBytes u) (s.raiseCause .sec 3)
  else
    let x := parseManifest man
    match manifestStatus s x sigOk with
    | .ok =>
      let l : UpdLock := { from? := some addr, atNs := s.elt, id := id, lastNs := s.elt }
      let u1 : Upd := { next := u.next, installed := u.installed, lock := some l, chain := chain, upPort := port }
      sendUpd port addr .accept 0 id 0 (be 4 s.sec.running.version.toNat) (s.setUpd (u1.begin x man))
    | st => sendUpd port addr .failed st.code id 0 (be 4 1) s

/-- UPDATE_ACCEPT: the neighbour's VERSION is held against COMPAT and the chunks go out (R503, R514). -/
def updateAcceptEffect (addr : BitVec 128) (id : Nat) (version : Word) (s : State) : State :=
  match fromDown s addr id, s.sec.upd.man with
  | some r, some man =>
    if r.accepted then s
    else if man.compatible version then
      sendChunks ((s.setUpd { s.sec.upd with relay := some { r with accepted := true, peerVer := version } }).touchLock)
    else chainStops 1 .updIncompatible (sendUpd r.port r.addr .abort 0 id 0 [] s)
  | _, _ => s

/-- UPDATE_BUSY: the hop ends. -/
def updateBusyEffect (addr : BitVec 128) (id : Nat) (s : State) : State :=
  match fromDown s addr id with
  | some _ => chainStops 1 .updBusy s.touchLock
  | none => s

/-- UPDATE_CHUNK: the next chunk is checked and staged and acknowledged; the second failure of a chunk ends the hop
(R502, R514). -/
def updateChunkEffect (addr : BitVec 128) (id k : Nat) (data : List Byte) (s : State) : State :=
  if fromUp s addr id then
    let u := s.sec.upd
    let ack (s : State) : State := sendUpd u.upPort addr .ack 0 id (s.sec.upd.chunks.length - 1) [] s
    if k = u.chunks.length ∧ ¬ u.staged then
      match u.accept data with
      | some v =>
        let s1 := ack ((s.setUpd v).touchLock)
        if v.staged then imageStaged s1 else s1
      | none =>
        if u.bad = 0 then (s.setUpd { u with bad := 1 }).touchLock
        else
          let s1 := sendUpd u.upPort addr .failed 0x0F03#16 id k (be 4 1) (s.raiseCause .sec 2)
          releaseLock s1
    else if u.chunks = [] then s.touchLock
    else ack s.touchLock
  else s

/-- UPDATE_ACK: the highest chunk accepted. -/
def updateAckEffect (addr : BitVec 128) (id k : Nat) (s : State) : State :=
  match fromDown s addr id with
  | some r =>
    let s1 := s.touchLock
    if r.acked ≤ k ∧ k < r.sent then
      sendChunks (s1.setUpd { s1.sec.upd with relay := some { r with acked := k + 1 } })
    else s1
  | none => s

/-- CHAIN_ACK_TIMEOUT: after 50 ms the sender resumes from the acknowledged chunk + 1. -/
def chainAckTimeoutEffect (s : State) : State :=
  match s.sec.upd.relay with
  | some r =>
    if r.accepted ∧ r.acked < r.sent ∧ r.ackNs + 50000000 ≤ s.elt then
      sendChunks (s.setUpd { s.sec.upd with relay := some { r with sent := r.acked } })
    else s
  | none => s

/-- The device installs and activates; INSTALLED goes up after its boot (R515). A failure goes up. -/
def installHere (addr : BitVec 128) (id : Nat) (mism : List Nat) (b : Boot) (s : State) : State :=
  let (_, ok, s1) := installImage mism s
  if ok then coldReset b { s1 with sec := { s1.sec with lastInst := some (id, s1.sec.upd.upPort, addr) } }
  else sendUpd s1.sec.upd.upPort addr .failed 0x0E02#16 id 0 (be 4 1) s1

/-- UPDATE_INSTALL: passes down to the last device, which installs and activates. -/
def updateInstallEffect (addr : BitVec 128) (id : Nat) (mism : List Nat) (b : Boot) (s : State) : State :=
  if fromUp s addr id ∧ s.sec.upd.staged then
    match s.sec.upd.relay with
    | some r =>
      let s1 := sendUpd r.port r.addr .install 0 id 0 [] s.touchLock
      s1.setUpd { s1.sec.upd with relay := some { r with install := true, reportNs := s.elt + 120000000000 } }
    | none => installHere addr id mism b s
  else s

/-- UPDATE_INSTALLED: the upstream device installs: the origin completes its UPD_INSTALL, another activates too. -/
def updateInstalledEffect (addr : BitVec 128) (id hop : Nat) (mism : List Nat) (b : Boot) (s : State) : State :=
  match fromDown s addr id, s.sec.upd.lock with
  | some r, some l =>
    if !r.install then s
    else
      let u := s.sec.upd
      let s1 := (s.setUpd { u with relay := none, hops := u.hops ++ [(hop, 0)] }).touchLock
      match l.from? with
      | some up => installHere up id mism b s1
      | none =>
        let (k, ok, s2) := installImage mism s1
        match u.box with
        | some m => endWait m 0x0F04#16 (s2.setUpd { s2.sec.upd with box := none })
            (if ok then okWith (le 4 k) else reply .testFailed)
        | none => s2
  | _, _ => s

/-- UPDATE_FAILED: the chain stops; the report names the hop and its status. -/
def updateFailedEffect (addr : BitVec 128) (id hop : Nat) (st : Status) (s : State) : State :=
  match fromDown s addr id with
  | some _ => chainStops hop st s.touchLock
  | none => s

/-- UPDATE_ABORT: the receiver releases its lock and discards its staged image (R516). -/
def updateAbortEffect (addr : BitVec 128) (id : Nat) (s : State) : State :=
  if fromUp s addr id then releaseLock s else s

/-- CHAIN_HOP_TIMEOUT: a hop that does not report within 120 s stops the chain (R515). -/
def chainHopTimeoutEffect (s : State) : State :=
  match s.sec.upd.relay with
  | some r => if r.install ∧ r.reportNs ≤ s.elt then chainStops 1 Config.silentHop s else s
  | none => s

-- The meanings of this family's rows: the effect, with the queue and the identity kept.

/-- UPD_LOCK_TIMEOUT (R504). -/
def execUpdLockTimeout (s : State) : Host.Outcome State Fault Refusal :=
  commit s (updLockTimeoutEffect s)
/-- UPD_BEGIN (R504). -/
def execUpdBegin (m : Nat) (chain : Option Chain) (s : State) : Host.Outcome State Fault Refusal :=
  commit s (updBeginEffect m chain s)
/-- UPD_MANIFEST (R501). -/
def execUpdManifest (m : Nat) (bytes : List Byte) (sigOk : Bool) (s : State) :
    Host.Outcome State Fault Refusal :=
  commit s (updManifestEffect m bytes sigOk s)
/-- UPD_CHUNK (R506). -/
def execUpdChunk (m : Nat) (c : ChunkIn) (s : State) : Host.Outcome State Fault Refusal :=
  commit s (updChunkEffect m c s)
/-- UPD_INSTALL (R507). -/
def execUpdInstall (m : Nat) (chain : Bool) (mism : List Nat) (s : State) :
    Host.Outcome State Fault Refusal :=
  commit s (updInstallEffect m chain mism s)
/-- UPD_ACTIVATE (R509). -/
def execUpdActivate (m : Nat) (b : Boot) (s : State) : Host.Outcome State Fault Refusal :=
  commit s (updActivateEffect m b s)
/-- UPD_CONFIRM (R510). -/
def execUpdConfirm (m : Nat) (s : State) : Host.Outcome State Fault Refusal :=
  commit s (updConfirmEffect m s)
/-- UPD_END (R504). -/
def execUpdEnd (m : Nat) (s : State) : Host.Outcome State Fault Refusal :=
  commit s (updEndEffect m s)
/-- UPD_STATUS (R519). -/
def execUpdStatus (m : Nat) (s : State) : Host.Outcome State Fault Refusal :=
  commit s (updStatusEffect m s)
/-- UPDATE_OFFER (R514). -/
def execUpdateOffer (port : Nat) (addr : BitVec 128) (id : Nat) (man : List Byte) (chain : Option Chain) (sigOk : Bool) (s : State) :
    Host.Outcome State Fault Refusal :=
  commit s (updateOfferEffect port addr id man chain sigOk s)
/-- UPDATE_ACCEPT (R514). -/
def execUpdateAccept (addr : BitVec 128) (id : Nat) (version : Word) (s : State) :
    Host.Outcome State Fault Refusal :=
  commit s (updateAcceptEffect addr id version s)
/-- UPDATE_BUSY (R514). -/
def execUpdateBusy (addr : BitVec 128) (id : Nat) (s : State) : Host.Outcome State Fault Refusal :=
  commit s (updateBusyEffect addr id s)
/-- UPDATE_CHUNK (R514). -/
def execUpdateChunk (addr : BitVec 128) (id k : Nat) (data : List Byte) (s : State) :
    Host.Outcome State Fault Refusal :=
  commit s (updateChunkEffect addr id k data s)
/-- UPDATE_ACK (R514). -/
def execUpdateAck (addr : BitVec 128) (id k : Nat) (s : State) : Host.Outcome State Fault Refusal :=
  commit s (updateAckEffect addr id k s)
/-- CHAIN_ACK_TIMEOUT (R514). -/
def execChainAckTimeout (s : State) : Host.Outcome State Fault Refusal :=
  commit s (chainAckTimeoutEffect s)
/-- UPDATE_INSTALL (R515). -/
def execUpdateInstall (addr : BitVec 128) (id : Nat) (mism : List Nat) (b : Boot) (s : State) :
    Host.Outcome State Fault Refusal :=
  commit s (updateInstallEffect addr id mism b s)
/-- UPDATE_INSTALLED (R515). -/
def execUpdateInstalled (addr : BitVec 128) (id hop : Nat) (mism : List Nat) (b : Boot) (s : State) :
    Host.Outcome State Fault Refusal :=
  commit s (updateInstalledEffect addr id hop mism b s)
/-- UPDATE_FAILED (R515). -/
def execUpdateFailed (addr : BitVec 128) (id hop : Nat) (st : Status) (s : State) :
    Host.Outcome State Fault Refusal :=
  commit s (updateFailedEffect addr id hop st s)
/-- UPDATE_ABORT (R516). -/
def execUpdateAbort (addr : BitVec 128) (id : Nat) (s : State) : Host.Outcome State Fault Refusal :=
  commit s (updateAbortEffect addr id s)
/-- CHAIN_HOP_TIMEOUT (R515). -/
def execChainHopTimeout (s : State) : Host.Outcome State Fault Refusal :=
  commit s (chainHopTimeoutEffect s)

end Sys2Proof.Machine
end

