-- ==== Sys2Proof/Machine/Mailbox.lean ====
section
/-! DEFINITION. Machine/Mailbox.lean: the mailboxes (R38 to R51, R65, R66): ring, abort, service, the datagrams and
associations of the management port, bulk data; and what closes a session (R53). -/
namespace Sys2Proof.Machine
open Sys2Proof

/-! ## The window and the header -/

/-- A byte of a request window. -/
def winByte (w : Tab Word) (i : Nat) : Byte := BitVec.ofNat 8 ((tget w (i / 4) 0).toNat / 2 ^ (8 * (i % 4)))

/-- A window with one byte put in place. -/
def putWinByte (w : Tab Word) (i : Nat) (b : Byte) : Tab Word :=
  tset w (i / 4) (setFld (tget w (i / 4) 0) (8 * (i % 4) + 7) (8 * (i % 4)) b.toNat)

/-- The header of a window, with the check of its payload (R44, R49, R464). -/
def readReq (w : Tab Word) : Req :=
  let at_ (i : Nat) : Word := tget w i 0
  let len := fld (at_ 3) 15 0
  let body := (List.range 28).map (winByte w) ++ le 4 0 ++ (List.range (min len 4064)).map (fun i => winByte w (32 + i))
  { opcode := BitVec.ofNat 16 (fld (at_ 0) 15 0), hdrVer := BitVec.ofNat 8 (fld (at_ 0) 23 16)
    priv := BitVec.ofNat 8 (fld (at_ 0) 31 24), session := at_ 1, tag := at_ 2, len := BitVec.ofNat 16 len
    flags := BitVec.ofNat 16 (fld (at_ 3) 31 16)
    descAddr := BitVec.ofNat 64 ((at_ 4).toNat + (at_ 5).toNat * 4294967296)
    descCount := BitVec.ofNat 16 (fld (at_ 6) 15 0), status := BitVec.ofNat 16 (fld (at_ 6) 31 16), check := at_ 7
    checkOk := decide (crc32c body = at_ 7) }

/-- The window is locked (R46). -/
def Mailbox.locked (b : Mailbox) : Bool := decide (b.st = .pending) || decide (b.st = .executing)

/-- The path that may ring mailbox m (R38, R534). -/
def State.boxPath (s : State) (m : Nat) : Option Path := (s.mbxTransport m).map Transport.path

/-- The address of a doorbell (R43). -/
def bellAddr (m : Nat) : Nat := 0x1F0000 + 16 * m

/-- The session of an id, open on the transport of mailbox m and not closing (R50, R53). -/
def State.sessionOn (s : State) (m id : Nat) : Option Session :=
  (s.session? id).filter (fun x => decide (some x.transport = s.mbxTransport m) && x.closing.isNone)

/-- A ring (R44). The mailbox belongs to the session that issued the request (R53). -/
def ringBox (m : Nat) (s : State) : State :=
  let b := s.box m
  if b.locked then s.setBox m { b with ringIgnored := b.ringIgnored + 1 }
  else
    let q := readReq b.window
    let own := if (s.sessionOn m q.session.toNat).isSome then q.session.toNat else 0
    let s1 : State := { s with mbx := { s.mbx with order := s.mbx.order + 1 } }
    s1.setBox m { b with
      req := q, st := .pending, abortRes := 0, owner := own, order := s.mbx.order, dma := none
      abortReq := false, discard := false, waiting := false, waitUntil := 0 }

/-- MBX_RING: from another path than the mailbox's own it is discarded and recorded (R38, R534). -/
def mbxRingEffect (p : Path) (m : Nat) (s : State) : State :=
  if 16 ≤ m ∨ p = .groom then s
  else if s.boxPath m = some p then ringBox m s
  else s.accessError p 2 (bellAddr m)

/-! ## Aborts (R47) -/

/-- The transaction of a session is discarded. -/
def dropTxn (id : Nat) (s : State) : State :=
  match s.session? id with
  | some x => s.setSession id { x with txn := none }
  | none => s

/-- The line port whose queue holds the request of mailbox m. -/
def rdmPortOf (s : State) (m : Nat) : Option Nat :=
  (s.line.find? (fun e => e.2.queue.any (fun x => x.mailbox = m))).map (·.1)

/-- A request of LINE_RDM or LINE_RDM_DISCOVER that waits, or rests between transactions, is dropped (R370). -/
def dropRdm (m : Nat) (s : State) : Option State :=
  match rdmPortOf s m with
  | none => none
  | some n =>
    let r := s.lp n
    if (match r.txn with | some t => decide (t.mailbox = m) | none => false) then none
    else
      let mine := match r.queue with | x :: _ => decide (x.mailbox = m) && x.req.isNone | [] => false
      some (s.setLp n { r with
        queue := r.queue.filter (fun x => x.mailbox ≠ m), disc := if mine then none else r.disc })

/-- A frame of ETH_TX that has not started is dropped (R360). -/
def dropTx (m : Nat) (s : State) : Option State :=
  let mine (x : TxFrame) : Bool := decide (x.kind = .ethTx m)
  match s.eth.find? (fun e => e.2.be.any mine) with
  | some (p, r) => some { s with eth := tset s.eth p { r with be := r.be.filter (fun x => !mine x) } }
  | none => none

/-- A PAIR_SWAP that has not begun step 2 is dropped (R430). -/
def dropSwap (m : Nat) (s : State) : Option State :=
  match s.pair.swap with
  | none => none
  | some w =>
    if w.began.isSome then none
    else
      let bs := w.boxes.filter (· ≠ m)
      some { s with pair := { s.pair with swap := if bs = [] ∧ w.auto = false then none else some { w with boxes := bs } } }

/-- A CAL_RUN or CAL_RESTORE before step 3 is dropped (R456). -/
def dropCal (m : Nat) (s : State) : Option State :=
  match s.brd.cal.run with
  | some r =>
    if r.box = some m ∧ ¬ r.measured then
      some { s with brd := { s.brd with cal := { s.brd.cal with run := none } } }
    else none
  | none => none

/-- A TEST_RUN before its grant is dropped (R483). -/
def dropTest (m : Nat) (s : State) : Option State :=
  if s.far.want.any (fun x => x.box = some m) then
    some { s with far := { s.far with want := s.far.want.filter (fun x => x.box ≠ some m) } }
  else match s.far.rots.find? (fun e => e.2.box = some m ∧ e.2.copy.isSome) with
    | some (r, x) => some (s.setRot r { x with copy := none, box := none })
    | none => none

/-- A CUT_ARM that waits is dropped: the cut stays unarmed and its line frames are cleared (R118). -/
def dropArming (m : Nat) (s : State) : State :=
  let mine (c : Nat) : Bool := s.ym.arming.any (fun a => decide (a.mailbox = m) && decide (a.cut = c))
  { s with
    ym := { s.ym with arming := s.ym.arming.filter (fun a => a.mailbox ≠ m) }
    line := s.line.map (fun e => (e.1, { e.2 with cuts := e.2.cuts.filter (fun x => !mine x.1) })) }

/-- The state without the command that mailbox m executes, where the command stands at an abort point that its
chapter states; none elsewhere. -/
def atAbortPoint (m : Nat) (s : State) : Option State :=
  let b := s.box m
  let op := b.req.opcode
  let first : Option State := if b.waiting then none else some s
  if op = 0x0102#16 then (if b.waiting then none else some (dropTxn b.req.session.toNat s))
  else if op = 0x0444#16 then (if b.waiting then dropTx m s else some s)
  else if op = 0x0461#16 ∨ op = 0x0462#16 then (if b.waiting then dropRdm m s else some s)
  else if op = 0x0543#16 ∨ op = 0x0F04#16 ∨ op = 0x1002#16 then first
  else if op = 0x0505#16 then
    (if b.waiting then
      some { s with comp := { s.comp with waits := s.comp.waits.filter (fun w => w.mailbox ≠ m) } }
     else none)
  else if op = 0x0901#16 then
    (if b.waiting then
      some (dropArming m s)
     else none)
  else if op = 0x0A02#16 then (if b.waiting then dropSwap m s else some s)
  else if op = 0x0C02#16 ∨ op = 0x0C04#16 then (if b.waiting then dropCal m s else some s)
  else if op = 0x0E02#16 then (if b.waiting then dropTest m s else some s)
  else none

/-- The payload of a CFG_COMMIT that fails otherwise than at admission: 0 but for GENERATION, the base generation
(R61). -/
def commitFailed (base : Nat) : List Byte := le 4 0 ++ le 4 base ++ List.replicate 72 0

/-- The base generation of a session's transaction, open or expired and not yet reported. -/
def State.baseOf (s : State) (id : Nat) : Nat :=
  match s.session? id with
  | some x => match x.txn with | some t => t.base | none => if x.expired then x.expiredBase else 0
  | none => 0

/-- The payload of the request in mailbox m where it fails before its command runs: that of R61 for CFG_COMMIT, else
empty. -/
def State.failData (s : State) (m : Nat) : List Byte :=
  let q := (s.box m).req
  if q.opcode = 0x0102#16 then commitFailed (s.baseOf q.session.toNat) else []

/-- A sampled abort ends the command of mailbox m, which `s` is free of, with ABORTED and ABORT_RES 0b01. -/
def abortWith (m : Nat) (data : List Byte) (s : State) : State :=
  (s.setBox m { s.box m with abortReq := false, abortRes := 1 }).finish m { status := .aborted, data := data }

/-- The same with an empty payload. -/
def abortDone (m : Nat) (s : State) : State := abortWith m [] s

/-- The same for a command that Groom executes at an abort point, where one lies here. -/
def abortHere (m : Nat) (s : State) : Option State := (atAbortPoint m s).map (abortWith m (s.failData m))

/-- The transfer of the mailbox's command goes on. -/
def Mailbox.moving (b : Mailbox) : Bool := match b.dma with | some d => !d.ended | none => false

/-- An ABORT written to mailbox m (R47). A transfer samples it between segments (R56); a command without an abort
point here samples it after its completion. -/
def abortBox (m : Nat) (s : State) : State :=
  let b := s.box m
  match b.st with
  | .idle => s.setBox m { b with abortRes := 2 }
  | .done => s.setBox m { b with abortRes := 2 }
  | .pending => abortWith m (s.failData m) s
  | .executing =>
    if b.moving then s.setBox m { b with abortReq := true }
    else (abortHere m s).getD (s.setBox m { b with abortReq := true })

/-- MBX_ABORT: `ring` says that RING was set in the same write, which is ignored and counted (R44). -/
def mbxAbortEffect (p : Path) (m : Nat) (ring : Bool) (s : State) : State :=
  if 16 ≤ m ∨ p = .groom then s
  else if s.boxPath m = some p then
    let b := s.box m
    abortBox m (if ring then s.setBox m { b with ringIgnored := b.ringIgnored + 1 } else s)
  else s.accessError p 2 (bellAddr m)

/-! ## Closing a session (R53) -/

/-- A mailbox of a closing session other than the one that carries SESSION_CLOSE. -/
def closeBox (m : Nat) (s : State) : State :=
  let b := s.box m
  match b.st with
  | .executing => abortBox m (s.setBox m { b with discard := true })
  | _ => s.setBox m b.drop

/-- A session closes: its transaction is aborted, its update lock released, its mailboxes but `keep` handled. -/
def closeSession (id : Nat) (keep : Option Nat) (s : State) : State :=
  let s1 := dropTxn id s
  let s2 := if (match s1.sec.upd.lock with | some l => decide (l.session = some id) | none => false)
            then releaseLock s1 else s1
  ((s2.mbx.boxes.filter (fun e => e.2.owner = id ∧ some e.1 ≠ keep)).map (·.1)).foldl (fun s m => closeBox m s) s2

/-- A session closes by itself or with its transport: nothing answers. Where its SESSION_CLOSE waits, that mailbox is
handled as the others: its command ends, without a response, once they are IDLE. -/
def endSession (id : Nat) (s : State) : State :=
  let t := closeSession id none s
  match (s.session? id).bind (·.closing) with
  | some k => (t.setSession id { (t.session? id).getD { transport := .pcie } with closing := some k }).settleClose
  | none => t.delSession id

/-! ## Service (R65, R66, R48, R50) -/

/-- The tier of a request. -/
def Req.tier (q : Req) : Nat :=
  if opClass q.opcode = 0 ∨ q.priv = 3 then 1 else if shedAble q.opcode then 3 else 2

/-- The mailboxes that are served: in recovery ROM serves mailboxes 0 and 12 only (R513). -/
def State.served (s : State) (m : Nat) : Bool := !s.glb.recovery || decide (m = 0) || decide (m = 12)

/-- The pending request that comes next: by tier, then in doorbell order. -/
def State.nextBox (s : State) : Option Nat :=
  let ready := s.mbx.boxes.filter (fun e => decide (e.2.st = .pending) && s.served e.1)
  let best := ready.foldl (fun (a : Option (Nat × Mailbox)) e => match a with
    | none => some e
    | some x =>
      if e.2.req.tier < x.2.req.tier ∨ e.2.req.tier = x.2.req.tier ∧ e.2.order < x.2.order then some e else a) none
  best.map (·.1)

/-- The opcodes served (R488, R513): in recovery SESSION, UPD and SEC_STATUS, in SCRAPPED SEC_STATUS. -/
def State.knows (s : State) (op : Half) : Bool :=
  if s.sec.lc = .scrapped then decide (op = 0x1001#16)
  else if s.glb.recovery then
    decide (op ∈ opcodes) && (decide (opClass op = 0x00) || decide (opClass op = 0x0F) || decide (op = 0x1001#16))
  else decide (op ∈ opcodes)

/-- A class of the session's mask. -/
def holdsClass (mask : Byte) (c : Priv) : Bool := bitOf mask c.code

/-- The checks of R50 up to PRIV, in order. DESIGN CHOICE (log 61): a DESC_ADDR that is not 64-byte aligned and a
DESC_COUNT above 1,024 answer BAD_HEADER, for which R55 names no status; the SESSION class, which requires no class,
asks for no PRIV, and SESSION_OPEN for no SESSION of 0. In SCRAPPED no session can be opened and none is asked for
(log 32). -/
def checkHeader (s : State) (m : Nat) (q : Req) : Except Status Unit := do
  need (decide (q.hdrVer = 1) && decide (q.flags.toNat < 4) && decide (q.status = 0) && decide (q.len.toNat ≤ 4064)
    && (decide (q.descCount = 0) || (decide (s.mbxTransport m = some .pcie) && decide (q.descCount.toNat ≤ 1024)
      && decide (q.descAddr.toNat % 64 = 0)))) .badHeader
  need (!bitOf q.flags 0 || q.checkOk) .badCheck
  need (s.knows q.opcode) .badOpcode
  need (decide (q.opcode = 0x0001#16) || (s.sessionOn m q.session.toNat).isSome || decide (s.sec.lc = .scrapped))
    .noSession
  match (if s.sec.lc = .scrapped then none else requiredClass q.opcode) with
  | none => pure ()
  | some r =>
    let held := ((s.sessionOn m q.session.toNat).map (·.granted)).getD 0
    need (match q.cls with
      | some c => holdsClass held c && Priv.satisfies r c
      | none => false) .privDenied

/-- Groom takes the request of mailbox m. -/
def takeBox (m : Nat) (s : State) : State :=
  let b := s.box m
  let q := b.req
  if b.lastTag = some q.tag then
    ((s.setBox m { b with
      st := .done, respLen := BitVec.ofNat 13 (32 + b.resp.data.length), doneCount := b.doneCount + 1 }).respond m
        b.resp).raiseCause .mbx m
  else if s.mbx.shedding ∧ q.tier = 3 then
    s.takeFree.finish m { status := .mbxBusy, data := le 4 (10 + Config.freeNat s.freeCtr % 991) }
  else match checkHeader s m q with
    | .error e => s.finish m { status := e, data := s.failData m }
    | .ok _ =>
      let s1 := s.setBox m { b with
        st := .executing, dma := if q.descCount = 0 then none else some {} }
      match s1.session? q.session.toNat with
      | some x => if b.owner = 0 then s1 else s1.setSession q.session.toNat { x with lastNs := s1.elt }
      | none => s1

/-- MBX_TAKE: the next pending request, while Groom runs (R65, R499). -/
def mbxTakeEffect (s : State) : State :=
  if DbgCore.groom ∈ s.sec.halted then s
  else match s.nextBox with
    | some m => takeBox m s
    | none => s

/-- MBX_EVT_CAUSE_WRITE: honoured from Groom and, bit by bit, from the mailbox's own path (R45). -/
def mbxEvtCauseWriteEffect (p : Path) (v : Word) (s : State) : State :=
  let mine := ((List.range 16).filter (fun m => p = .groom ∨ s.boxPath m = some p)).foldl
    (fun (a : Word) m => a ||| bitMask 32 m) 0
  s.clearCause .mbx (v &&& mine &&& 0x0000FFFF#32)

/-! ## The management port (R39 to R41) -/

/-- A partial request's place. -/
def partKey (m : Nat) (tag : Word) : Nat := m * 4294967296 + tag.toNat

/-- An assembled request: the image goes into the window and the mailbox is rung; a locked window takes nothing,
which is recorded (R44, R46). -/
def assembled (m : Nat) (image : List Byte) (s : State) : State :=
  let b := s.box m
  if b.locked then ringBox m (s.accessError .mgmt 2 (0x180000 + 0x2000 * m))
  else
    let w := ((List.range (min image.length 4096)).zip image).foldl (fun w e => putWinByte w e.1 e.2) b.window
    ringBox m (s.setBox m { b with window := w })

/-- The fields of the framing header (R40), most significant byte first. -/
def MgmtMsg.mailbox (x : MgmtMsg) : Nat := unbe (slice x.bytes 0 1)
def MgmtMsg.kind (x : MgmtMsg) : Nat := unbe (slice x.bytes 1 1)
def MgmtMsg.index (x : MgmtMsg) : Nat := unbe (slice x.bytes 2 1)
def MgmtMsg.count (x : MgmtMsg) : Nat := unbe (slice x.bytes 3 1)
def MgmtMsg.tag (x : MgmtMsg) : Word := BitVec.ofNat 32 (unbe (slice x.bytes 4 4))
/-- The fragment of the window image. -/
def MgmtMsg.data (x : MgmtMsg) : List Byte := x.bytes.drop 8

/-- A fragment is well formed (R40, R41). -/
def MgmtMsg.fragOk (x : MgmtMsg) : Bool :=
  decide (1 ≤ x.count) && decide (x.count ≤ 4) && decide (x.index < x.count)
    && (if x.index + 1 < x.count then decide (x.data.length = 1184) else decide (x.data.length ≤ 1184))

/-- The partial requests of a mailbox are dropped. -/
def dropParts (m : Nat) (s : State) : State :=
  { s with mbx := { s.mbx with part := s.mbx.part.filter (fun e => e.1 / 4294967296 ≠ m) } }

/-- The mailbox whose association a connection is. -/
def State.assocOf (s : State) (peer : Nat) : Option Nat :=
  (s.mbx.assoc.find? (fun e => e.2.opened && decide (e.2.peer = peer))).map (·.1)

/-- The management port has its reference, and with it its link (R22, R23). -/
def State.mgmtLink (s : State) : Bool := s.glb.clk.serRef0

/-- A well-formed fragment of a request joins the others of its TAG (R41). DESIGN CHOICE (log 61): one whose FRAG_COUNT
differs from the first one's is ignored. -/
def takeFragment (m : Nat) (x : MgmtMsg) (s : State) : State :=
  let k := partKey m x.tag
  let anew : Partial := { tag := x.tag, count := x.count, firstNs := s.elt }
  let old := tget s.mbx.part k anew
  let cur := if old.firstNs + 50000000 ≤ s.elt then anew else old
  let cur' : Partial := if (tfind? cur.frags x.index).isSome ∨ x.count ≠ cur.count then cur
    else { cur with frags := tset cur.frags x.index x.data }
  if cur'.frags.length = cur'.count then
    assembled m (cur'.frags.flatMap (·.2)) { s with mbx := { s.mbx with part := tdel s.mbx.part k } }
  else { s with mbx := { s.mbx with part := tset s.mbx.part k cur' } }

/-- MGMT_DATAGRAM: to another UDP port, outside an association or for another mailbox than the association's it is
discarded (R39); a closure alert closes the association; a duplicate fragment is ignored (R41). DESIGN CHOICE (log 61): a
datagram without a full header, with another KIND or with a malformed fragment is no sign of life for the 300 s. -/
def mgmtDatagramEffect (x : MgmtMsg) (s : State) : State :=
  if !s.mgmtLink ∨ x.udp ≠ 30811 then s
  else match s.assocOf x.peer with
  | none => s
  | some m =>
    let a := tget s.mbx.assoc m {}
    if x.close then dropParts m { s with mbx := { s.mbx with assoc := tset s.mbx.assoc m { a with opened := false } } }
    else if x.bytes.length < 8 ∨ x.mailbox ≠ m then s
    else
      let s1 : State := { s with mbx := { s.mbx with assoc := tset s.mbx.assoc m { a with lastNs := s.elt } } }
      if x.kind = 3 then abortBox m s1
      else if x.kind = 1 ∧ x.fragOk then takeFragment m x s1
      else s

def mgmtAssemblyTimeoutEffect (m : Nat) (tag : Word) (s : State) : State :=
  match tfind? s.mbx.part (partKey m tag) with
  | some x =>
    if x.firstNs + 50000000 ≤ s.elt then { s with mbx := { s.mbx with part := tdel s.mbx.part (partKey m tag) } } else s
  | none => s

/-- DTLS_HANDSHAKE: refused while an association of the mailbox is open and has not been idle for 300 s; accepted, the
device authenticates itself with the attestation key (R39), which a SCRAPPED device no longer has (R488). -/
def dtlsHandshakeEffect (x : Handshake) (s : State) : State :=
  let m := x.mailbox
  let a := tget s.mbx.assoc m {}
  if (m ≠ 12 ∧ m ≠ 13) ∨ !s.mgmtLink ∨ s.sec.lc = .scrapped ∨ (a.opened ∧ s.elt < a.lastNs + 300000000000) then s
  else (dropParts m { s with mbx := { s.mbx with
    assoc := tset s.mbx.assoc m { opened := true, peer := x.peer, lastNs := s.elt } } }).emit
      (.dtlsAccept m x.peer Config.certDigest)

def dtlsIdleExpireEffect (m : Nat) (s : State) : State :=
  let a := tget s.mbx.assoc m {}
  if a.opened ∧ a.lastNs + 300000000000 ≤ s.elt then
    dropParts m { s with mbx := { s.mbx with assoc := tset s.mbx.assoc m { a with opened := false } } }
  else s

/-! ## Bulk data (R55, R56) -/

/-- The descriptor that 32 bytes spell (R55), least significant byte first. -/
def readDesc (bs : List Byte) : DmaDesc :=
  { addr := BitVec.ofNat 64 (num bs 0 8), length := num bs 8 4, flags := wordAt bs 0x0C, offset := num bs 0x10 8
    crc := wordAt bs 0x18, rest := wordAt bs 0x1C }

/-- The bytes of a descriptor. -/
def DmaDesc.bytes (d : DmaDesc) : List Byte :=
  le 8 d.addr.toNat ++ le 4 d.length ++ le 4 d.flags.toNat ++ le 8 d.offset ++ leWords [d.crc, d.rest]

/-- LAST, DIR and CHECKED. -/
def DmaDesc.last (d : DmaDesc) : Bool := bitOf d.flags 0
def DmaDesc.toHost (d : DmaDesc) : Bool := bitOf d.flags 1
def DmaDesc.checked (d : DmaDesc) : Bool := bitOf d.flags 2

/-- A descriptor that ends the transfer with DMA_FAULT: reserved bits, LENGTH (R56). -/
def DmaDesc.bad (d : DmaDesc) : Bool :=
  decide (8 ≤ d.flags.toNat) || decide (d.rest ≠ 0) || decide (d.length < 1) || decide (16777216 < d.length)

/-- A segment to the host carries free bytes. -/
def hostSegment (d : DmaDesc) (k : Nat) : List Byte := (List.range d.length).map (Config.bulkByte k)

/-- The transfer after a segment. -/
def Dma.moved (t : Dma) (d : DmaDesc) (data : List Byte) (count : Nat) : Dma :=
  { consumed := t.consumed + 1, ended := d.last || decide (count ≤ t.consumed + 1)
    bytes := t.bytes + (if d.toHost then 0 else d.length)
    obj := if d.toHost then t.obj else t.obj.put d.offset data }

/-- DMA_SEGMENT_DONE: the segment of the next descriptor of mailbox m ends (R55, R56): its bytes stand in the target
object at OFFSET, or in host memory at ADDR. A row whose bytes are not LENGTH many does not occur (log 3). DESC_COUNT of
a fault names the failing entry, the first being 0 (log 33). -/
def dmaSegmentDoneEffect (m : Nat) (x : DmaSeg) (s : State) : State :=
  let b := s.box m
  match b.dma with
  | none => s
  | some t =>
    if t.ended ∨ b.st ≠ .executing then s
    else
      let fault := s.finish m { status := .dmaFault, data := s.failData m }
      match x.desc with
      | none => fault
      | some bs =>
        let d := readDesc bs
        let data := if d.toHost then hostSegment d s.freeCtr else x.data
        if bs.length ≠ 32 ∨ d.bad ∨ !x.done then fault
        else if ¬ d.toHost ∧ x.data.length ≠ d.length then s
        else if d.checked ∧ crc32c data ≠ d.crc then fault
        else
          let t' := t.moved d data b.req.descCount.toNat
          let s0 := if d.toHost then s.takeFree.emit (.hostWrite d.addr data) else s
          let s1 := s0.setBox m { b with dma := some t' }
          if !b.abortReq then s1
          else if !t'.ended then abortWith m (s1.failData m) s1
          else (abortHere m s1).getD s1

-- The meanings of this family's rows: the effect, with the queue and the identity kept.

/-- MBX_RING (R44). -/
def execMbxRing (p : Path) (m : Nat) (s : State) : Host.Outcome State Fault Refusal :=
  commit s (mbxRingEffect p m s)
/-- MBX_ABORT (R47). -/
def execMbxAbort (p : Path) (m : Nat) (ring : Bool) (s : State) : Host.Outcome State Fault Refusal :=
  commit s (mbxAbortEffect p m ring s)
/-- MBX_TAKE (R65). -/
def execMbxTake (s : State) : Host.Outcome State Fault Refusal :=
  commit s (mbxTakeEffect s)
/-- MBX_EVT_CAUSE_WRITE (R45). -/
def execMbxEvtCauseWrite (p : Path) (v : Word) (s : State) : Host.Outcome State Fault Refusal :=
  commit s (mbxEvtCauseWriteEffect p v s)
/-- MGMT_DATAGRAM (R41). -/
def execMgmtDatagram (x : MgmtMsg) (s : State) : Host.Outcome State Fault Refusal :=
  commit s (mgmtDatagramEffect x s)
/-- MGMT_ASSEMBLY_TIMEOUT (R41). -/
def execMgmtAssemblyTimeout (m : Nat) (tag : Word) (s : State) : Host.Outcome State Fault Refusal :=
  commit s (mgmtAssemblyTimeoutEffect m tag s)
/-- DTLS_HANDSHAKE (R39). -/
def execDtlsHandshake (x : Handshake) (s : State) : Host.Outcome State Fault Refusal :=
  commit s (dtlsHandshakeEffect x s)
/-- DTLS_IDLE_EXPIRE (R39). -/
def execDtlsIdleExpire (m : Nat) (s : State) : Host.Outcome State Fault Refusal :=
  commit s (dtlsIdleExpireEffect m s)
/-- DMA_SEGMENT_DONE (R55). -/
def execDmaSegmentDone (m : Nat) (x : DmaSeg) (s : State) : Host.Outcome State Fault Refusal :=
  commit s (dmaSegmentDoneEffect m x s)

end Sys2Proof.Machine
end

