-- ==== Sys2Proof/Machine/Session.lean ====
section
/-! DEFINITION. Machine/Session.lean: the sessions (R52, R53), the transactions without the commit (R57 to R60, R62,
R535), the event log's commands (R67), and the PCIe reset (R27). -/
namespace Sys2Proof.Machine
open Sys2Proof

/-! ## Sessions (R52, R53) -/

/-- The classes that a session on a transport gets without a credential (R52, R489, R513). -/
def State.freeMask (s : State) (t : Transport) : Byte :=
  if s.glb.recovery then 0x1E#8
  else if t = .pcie then (if s.lcNow = .provisioned then 0x1E#8 else 0x02#8) else 0

/-- A class mask may be asked for. -/
def maskOk (mask : Byte) : Bool := decide (mask ≠ 0) && decide (mask &&& 0xE1#8 = 0)

/-- SESSION_OPEN: the response names the new session. -/
def sessionOpenEffect (m : Nat) (mask : Byte) (cred : Word) (s : State) : State :=
  if !s.executes m 0x0001#16 then s
  else match s.mbxTransport m with
  | none => s
  | some t =>
    if !maskOk mask then s.finish m (reply .badParam)
    else if 32 ≤ s.mbx.sessions.length then s.finish m (reply .noResource)
    else
      let id := s.mbx.nextSes
      let plain := decide (t = .pcie) && decide (mask = 0x02#8)
      let ch : BitVec 384 := if plain then 0 else Config.freeBits s.freeCtr
      let x : Session := { transport := t, requested := mask, granted := mask &&& s.freeMask t, cred := cred
                           challenge := ch, lastNs := s.elt }
      let s1 : State := { s with
        freeCtr := if plain then s.freeCtr else s.freeCtr + 1
        mbx := { s.mbx with sessions := tset s.mbx.sessions id x, nextSes := id % 4294967295 + 1 } }
      let s2 := s1.setBox m { s1.box m with owner := id }
      s2.completeAs m (BitVec.ofNat 32 id) (okWith (le 4 id ++ be 48 ch.toNat))

/-- The credential that a session names may authenticate it: a pair credential the pair peer, another one the other
transports (R422). -/
def State.credFor (s : State) (x : Session) : Option Cred :=
  s.creds.find? (fun c => c.id.toNat = x.cred.toNat ∧ (bitOf c.mask 7 = decide (x.transport = .peer)))

/-- SESSION_AUTH: `verified` says whether the signature over the challenge verifies with the named credential. -/
def sessionAuthEffect (m : Nat) (verified : Bool) (s : State) : State :=
  if !s.executes m 0x0002#16 then s
  else
    let id := (s.box m).req.session.toNat
    match s.session? id with
    | none => s.finish m (reply .noSession)
    | some x =>
      let free := x.requested &&& s.freeMask x.transport
      let got : Byte := match s.credFor x with
        | some c => if verified then x.requested &&& c.mask &&& ~~~free else 0
        | none => 0
      if got ≠ 0 then
        (s.setSession id { x with granted := got ||| free }).finish m (okWith (le 1 (got ||| free).toNat))
      else
        let s1 := s.setSession id { x with granted := free }
        if free ≠ 0 then s1.finish m (reply .authFailed)
        else ((closeSession id (some m) s1).delSession id).finish m (reply .authFailed)

/-- SESSION_CLOSE: completes once every other mailbox of the session is IDLE (R53). -/
def sessionCloseEffect (m : Nat) (s : State) : State :=
  if s.executes m 0x0003#16 then
    (cmd m 0x0003#16 s (fun q t =>
      let id := q.session.toNat
      match t.session? id with
      | none => (some (reply .noSession), t)
      | some x =>
        if x.closing.isSome then (some (reply .ok), t)
        else
          let t1 := closeSession id (some m) t
          (none, t1.setSession id { (t1.session? id).getD x with closing := some m }))).settleClose
  else s

/-- SESSION_PING: seconds until the session closes, whole ones (R53). -/
def sessionPingEffect (m : Nat) (s : State) : State :=
  cmdRead m 0x0004#16 s (fun q t =>
    match t.session? q.session.toNat with
    | some x => okWith (le 4 ((x.lastNs + 300000000000 - t.elt) / 1000000000))
    | none => reply .noSession)

/-- SESSION_IDLE_EXPIRE: 300 s without a command (R53). -/
def sessionIdleExpireEffect (id : Nat) (s : State) : State :=
  match s.session? id with
  | some x => if x.lastNs + 300000000000 ≤ s.elt then endSession id s else s
  | none => s

/-! ## Transactions (R57 to R60, R62, R535) -/

/-- CFG_TXN_EXPIRE: 600 s without a command of the transaction (R60). -/
def cfgTxnExpireEffect (id : Nat) (s : State) : State :=
  match s.session? id with
  | none => s
  | some x =>
    match x.txn with
    | none => s
    | some t =>
      if t.lastNs + 600000000000 ≤ s.elt then
        (s.setSession id { x with
          txn := none, expired := true, expiredNs := t.lastNs, expiredBase := t.base }).logEvent 3 255
          Status.cfgTxnExpired.code id
      else s

/-- CFG_BEGIN (R58, R60); on the SHADOW only the mirror session configures (R421, R423). -/
def cfgBeginEffect (m : Nat) (s : State) : State :=
  cmdNow m 0x0101#16 s (fun q t =>
    let id := q.session.toNat
    match t.session? id with
    | none => (reply .noSession, t)
    | some x =>
      if !t.mirrored q then (reply .badState, t)
      else if x.expired then (reply .cfgTxnExpired, t.setSession id { x with expired := false })
      else if x.txn.isSome then (reply .cfgTxnOpen, t)
      else
        let n := t.mbx.nextTxn
        let tx : Txn := { id := n, base := t.newestGen, cfg := t.newestCfg, lastNs := t.elt }
        let t1 : State := { t with mbx := { t.mbx with nextTxn := n + 1 } }
        (okWith (le 4 n ++ le 4 t.newestGen), t1.setSession id { x with txn := some tx, committed := false }))

/-- The mailboxes other than m of a session whose CFG_COMMIT has not completed, taken by Groom or not. -/
def State.committing (s : State) (id m : Nat) : List Nat :=
  (s.mbx.boxes.filter (fun e => decide (e.1 ≠ m) && decide (e.2.owner = id)
    && (decide (e.2.st = .executing) || decide (e.2.st = .pending)) && decide (e.2.req.opcode = 0x0102#16))).map (·.1)

/-- CFG_ABORT (R62). -/
def cfgAbortEffect (m : Nat) (s : State) : State :=
  cmdNow m 0x0103#16 s (fun q t =>
    let id := q.session.toNat
    match t.session? id with
    | none => (reply .noSession, t)
    | some x =>
      if !t.mirrored q then (reply .badState, t)
      else if x.expired then (reply .cfgTxnExpired, t.setSession id { x with expired := false })
      else if x.txn.isNone then (reply (if x.committed then .alreadyCommitted else .cfgNoTxn), t)
      else (reply .ok, (t.committing id m).foldl (fun u k => abortWith k (commitFailed (t.baseOf id)) u) (dropTxn id t)))

/-- CFG_STATUS (R535). -/
def cfgStatusEffect (m : Nat) (s : State) : State :=
  cmdRead m 0x0106#16 s (fun q t =>
    match t.session? q.session.toNat with
    | none => reply .noSession
    | some x =>
      let idle (at_ : Nat) : List Byte := le 4 (min 0xFFFFFFFF ((t.elt - at_) / 1000000))
      match x.txn with
      | some tx => okWith (le 4 1 ++ idle tx.lastNs ++ le 8 tx.bytes)
      | none =>
        if x.expired then okWith (le 4 2 ++ idle x.expiredNs ++ le 8 0) else okWith (le 4 0 ++ le 4 0 ++ le 8 0))

/-- CFG_STAGE_CHUNK: bytes into a staging object, which count once against the limit (R57, R59). DESIGN CHOICE (log 33):
a chunk above 4,000 bytes answers BAD_PARAM, and every object id is accepted, named by a command or not. -/
def cfgStageChunkEffect (m obj offset : Nat) (data : List Byte) (s : State) : State :=
  cmdNow m 0x0105#16 s (fun q t =>
    if !t.mirrored q then (reply .badState, t)
    else match t.useTxn q with
    | (.error e, t') => (reply e, t')
    | (.ok (x, tx), t') =>
      if 4000 < data.length then (reply .badParam, t')
      else
        let os := tset tx.objs obj ((tget tx.objs obj {}).put offset data)
        let n := heldBytes tx.cfg tx.changed os
        if t.mayHold tx n then
          (okWith (le 4 data.length), t'.setSession q.session.toNat { x with txn := some { tx with objs := os, bytes := n } })
        else (reply .cfgTooLarge, t'))

/-! ## The event log (R67) -/

/-- The 32 bytes of an entry. -/
def LogEntry.bytes (e : LogEntry) : List Byte :=
  le 4 e.seq.toNat ++ le 4 e.dtSec.toNat ++ le 4 e.dtNs.toNat ++ [e.sev, e.source] ++ le 2 e.code.toNat
    ++ le 16 e.detail.toNat

/-- What a read of a log answers, `next` being the number to be written next. -/
def readLog (es : List LogEntry) (next first : Word) (count : Nat) : Reply :=
  if count < 1 ∨ 127 < count then reply .badParam
  else match es with
    | [] => if fnLater next first then { status := .logRange, data := le 4 next.toNat } else reply .ok
    | e :: _ =>
      if fnLater e.seq first then { status := .logRange, data := le 4 e.seq.toNat }
      else okWith (((es.filter (fun x => !fnLater first x.seq)).take count).flatMap LogEntry.bytes)

/-- LOG_READ. -/
def logReadEffect (m : Nat) (first : Word) (count : Nat) (s : State) : State :=
  cmdRead m 0x1101#16 s (fun _ t => readLog t.log.sram t.log.next first count)

/-- LOG_FLASH_READ. -/
def logFlashReadEffect (m : Nat) (first : Word) (count : Nat) (s : State) : State :=
  cmdRead m 0x1102#16 s (fun _ t => readLog t.log.flash t.log.next first count)

/-- LOG_CLEAR: the flash copy and the numbering stay. -/
def logClearEffect (m : Nat) (s : State) : State :=
  cmdNow m 0x1103#16 s (fun _ t => (reply .ok, { t with log := { t.log with sram := [] } }))

/-! ## PCIe reset (R27, R84, R358, R465) -/

/-- The host's part of the event controller as a PCIe reset leaves it (R84). -/
def Evc.hostReset (e : Evc) : Evc :=
  { e with
    src := e.src.map (fun x => (x.1, { x.2 with
      enable := x.2.enable &&& 0xE#4, effective := x.2.effective &&& 0xE#4, act := tdel x.2.act 0
      pend := tdel x.2.pend 0 }))
    tgt := tset e.tgt 0 { bad := (e.tgtAt 0).bad }, vec := [], wakeHeld := [] }

/-- A check unit that PCIe owns is released and its run aborted; how far a scan had come is open (R465; log 5). -/
def releaseUnit (u : Nat) (s : State) : State :=
  let x := s.unit u
  if some x.owner = ownerCode .pcie then
    let s1 := if x.running then abortUnit u (Config.freeNat s.freeCtr) s.takeFree else s
    s1.setUnit u { s1.unit u with ctrl := setFld x.ctrl 31 29 0 }
  else s

/-- A transfer from or to host memory stops: its command ends and nothing answers. -/
def stopDma (m : Nat) (s : State) : State :=
  let b := s.box m
  if b.st = .executing ∧ b.moving ∧ s.mbxTransport m = some .pcie then abortDone m (s.setBox m { b with discard := true }) else s

/-- PCIE_RESET: a hot reset, a link-down reset or a function-level reset. -/
def pcieResetEffect (s : State) : State :=
  let s1 := ((s.mbx.sessions.filter (fun e => e.2.transport = .pcie)).map (·.1)).foldl (fun s id => endSession id s) s
  let s2 := (List.range 16).foldl (fun s m => stopDma m s) s1
  let s3 := (List.range 4).foldl (fun s u => releaseUnit u s) (stopHostRings s2)
  (List.range 32).foldl (fun s _ => s.settleClose) { s3 with evc := s3.evc.hostReset }

-- The meanings of this family's rows: the effect, with the queue and the identity kept.

/-- PCIE_RESET (R27). -/
def execPcieReset (s : State) : Host.Outcome State Fault Refusal :=
  commit s (pcieResetEffect s)
/-- SESSION_IDLE_EXPIRE (R53). -/
def execSessionIdleExpire (id : Nat) (s : State) : Host.Outcome State Fault Refusal :=
  commit s (sessionIdleExpireEffect id s)
/-- CFG_TXN_EXPIRE (R60). -/
def execCfgTxnExpire (id : Nat) (s : State) : Host.Outcome State Fault Refusal :=
  commit s (cfgTxnExpireEffect id s)
/-- SESSION_OPEN (R52). -/
def execSessionOpen (m : Nat) (mask : Byte) (cred : Word) (s : State) : Host.Outcome State Fault Refusal :=
  commit s (sessionOpenEffect m mask cred s)
/-- SESSION_AUTH (R52). -/
def execSessionAuth (m : Nat) (verified : Bool) (s : State) : Host.Outcome State Fault Refusal :=
  commit s (sessionAuthEffect m verified s)
/-- SESSION_CLOSE (R53). -/
def execSessionClose (m : Nat) (s : State) : Host.Outcome State Fault Refusal :=
  commit s (sessionCloseEffect m s)
/-- SESSION_PING (R53). -/
def execSessionPing (m : Nat) (s : State) : Host.Outcome State Fault Refusal :=
  commit s (sessionPingEffect m s)
/-- CFG_BEGIN (R58). -/
def execCfgBegin (m : Nat) (s : State) : Host.Outcome State Fault Refusal :=
  commit s (cfgBeginEffect m s)
/-- CFG_ABORT (R62). -/
def execCfgAbort (m : Nat) (s : State) : Host.Outcome State Fault Refusal :=
  commit s (cfgAbortEffect m s)
/-- CFG_STAGE_CHUNK (R57). -/
def execCfgStageChunk (m obj offset : Nat) (data : List Byte) (s : State) :
    Host.Outcome State Fault Refusal :=
  commit s (cfgStageChunkEffect m obj offset data s)
/-- CFG_STATUS (R535). -/
def execCfgStatus (m : Nat) (s : State) : Host.Outcome State Fault Refusal :=
  commit s (cfgStatusEffect m s)
/-- LOG_READ (R67). -/
def execLogRead (m : Nat) (first : Word) (count : Nat) (s : State) : Host.Outcome State Fault Refusal :=
  commit s (logReadEffect m first count s)
/-- LOG_FLASH_READ (R67). -/
def execLogFlashRead (m : Nat) (first : Word) (count : Nat) (s : State) :
    Host.Outcome State Fault Refusal :=
  commit s (logFlashReadEffect m first count s)
/-- LOG_CLEAR (R67). -/
def execLogClear (m : Nat) (s : State) : Host.Outcome State Fault Refusal :=
  commit s (logClearEffect m s)

end Sys2Proof.Machine
end

