-- ==== Sys2Proof/Machine/Clocks.lean ====
section
/-! DEFINITION. Machine/Clocks.lean: the references, the root PLL and the domains a commit needs (R22 to R26). -/
namespace Sys2Proof.Machine
open Sys2Proof

/-- The status bit of a reference. -/
def Clk.ref (c : Clk) : RefClk → Bool
  | .ser0 => c.serRef0 | .ser1 => c.serRef1 | .pcie => c.pcieRef

/-- The status bits with that of a reference put in place. -/
def Clk.setRef (c : Clk) (r : RefClk) (b : Bool) : Clk :=
  match r with
  | .ser0 => { c with serRef0 := b } | .ser1 => { c with serRef1 := b } | .pcie => { c with pcieRef := b }

/-- The links a reference serves go down (R22, R23): Ethernet ports and pairing lanes (the management port carries
nothing while it is gone: `State.mgmtLink`); Ethernet ports and DisplayPort; the PCIe link, whose loss resets the endpoint
(R27). -/
def dropLinks (r : RefClk) (s : State) : State :=
  match r with
  | .ser0 => laneDownEffect 1 (laneDownEffect 0 ((List.range 8).foldl (fun s p => dropLink p s) s))
  | .ser1 => (List.range s.nHeads).foldl (fun s h => dropDp h s)
      ((List.range 8).foldl (fun s p => dropLink (8 + p) s) s)
  | .pcie => pcieResetEffect s

/-- SERDES_REF_LOSS: the bit clears, the links go down, CLOCK_FAULT is raised (R23, R36). -/
def serdesRefLossEffect (r : RefClk) (s : State) : State :=
  if s.glb.clk.ref r then
    let s1 : State := { s with glb := { s.glb with clk := s.glb.clk.setRef r false } }
    ((dropLinks r s1).raiseCause .glb 1).noteCond
  else s

/-- SERDES_REF_RETURN: the bit is set; each link retrains by its own row (R23). -/
def serdesRefReturnEffect (r : RefClk) (s : State) : State :=
  { s with glb := { s.glb with clk := s.glb.clk.setRef r true } }.noteCond

/-- An Ethernet transmitter stops: a frame in progress ends with an inverted FCS, its stamp ABORTED (R24). -/
def stopTx (p : Nat) (s : State) : State :=
  match (s.port p).cur with
  | some x =>
    let s1 := (s.setPort p { s.port p with cur := none }).emit (.frame p s.elt { x with broken := true })
    let (kept, s2) := pushStamp p x true s1
    match x.kind with
    | .ethTx m => if kept then s2 else endWait m 0x0444#16 s2 (ethTxAnswer false 0 0)
    | _ => s2
  | none => s

/-- ROOT_PLL_LOSS (R24): drive enables collapse, transmitters stop, the Halter is released, AON runs from the RC
oscillator, CLOCK_FAULT and a FATAL log entry; the device stays faulted until a cold reset. -/
def rootPllLossEffect (s : State) : State :=
  if s.glb.clk.rootLock then
    let s1 : State := { s with glb := { s.glb with
      clk := { s.glb.clk with rootLock := false, aonRc := true }, faulted := true } }
    let s2 := (List.range s1.nLine).foldl (fun s n => driveEnableCollapseEffect n s) (releaseHalter s1)
    let s3 := (List.range s2.nEth).foldl (fun s p => stopTx p s) s2
    ((s3.raiseCause .glb 1).logEvent 6 1 0 0).noteCond
  else s

/-- ROOT_PLL_RELOCK (R24): ROOT_LOCK follows the lock detector and nothing else changes. -/
def rootPllRelockEffect (s : State) : State :=
  if s.glb.faulted then
    ({ s with glb := { s.glb with clk := { s.glb.clk with rootLock := true } } } : State).noteCond
  else s

/-- The on-die memories of a domain are wiped (R26): of Stalls, mapper and lamp tables, compositor, raster heads, line and
Ethernet ports. The state of lamp groups, which safety rests on, is no memory of PIXEL (log 63). -/
def wipeDomain (d : Nat) (s : State) : State :=
  let stalls (lo : Nat) : State := { s with pdk := { s.pdk with
    stalls := s.pdk.stalls.map (fun e =>
      if lo ≤ e.1 ∧ e.1 < lo + 8 then (e.1, { withdrawn := e.2.withdrawn, busyAcc := e.2.busyAcc, busy := e.2.busy })
      else e) } }
  let lines (lo : Nat) : State := { s with line := s.line.map (fun e =>
    if lo ≤ e.1 ∧ e.1 < lo + 20 then (e.1, { e.2 with mem := [], last := [], cuts := [] }) else e) }
  let eths (lo : Nat) : State := { s with eth := s.eth.map (fun e =>
    if lo ≤ e.1 ∧ e.1 < lo + 8 then (e.1, { e.2 with gates := [], guar := [], be := [], cur := none }) else e) }
  match d with
  | 3 => stalls 0 | 4 => stalls 8
  | 5 => { s with map := { s.map with content := none, done := [], gm := [], overruns := [] }
                  lamp := { s.lamp with fix := [], circ := [], pix := [] } }
  | 6 => { s with comp := { s.comp with inputs := [], composing := none, queue := [], rowsDone := 0, overrun := false } }
  | 7 => { s with rst := { s.rst with heads := s.rst.heads.map (fun e => (e.1, { hpd := e.2.hpd, edid := e.2.edid })) } }
  | 8 => eths 0 | 9 => eths 8
  | 10 => lines 0 | 11 => lines 20
  | _ => s

/-- A domain comes on with its memories wiped. -/
def powerOn (d : Nat) (s : State) : State := setDomain d 1 (wipeDomain d s)

/-- The domains that the configuration in effect needs and that are still off come on (R26). -/
def powerNeeded (s : State) : State :=
  (List.range 16).foldl (fun s d => if s.domainOf d = 0 ∧ needsDomain s.cfg d then powerOn d s else s) s

/-- The domains that the frame now over left unused, and that no scheduled commit needs, go off (R26). -/
def powerDown (s : State) : State :=
  (List.range 16).foldl (fun s d =>
    if s.domainOf d = 1 ∧ !needsDomain s.cfg d ∧ s.sched.all (fun x => !needsDomain x.cfg d) then setDomain d 0 s
    else s) s

/-- DOMAIN_POWER_ON: Groom powers a domain on that is off and that a scheduled commit needs, and wipes its memories
(R26). -/
def domainPowerOnEffect (d : Nat) (s : State) : State :=
  if d < 16 ∧ s.domainOf d = 0 ∧ s.sched.any (fun x => needsDomain x.cfg d) then powerOn d s
  else s

-- The meanings of this family's rows: the effect, with the queue and the identity kept.

/-- SERDES_REF_LOSS (R23). -/
def execSerdesRefLoss (r : RefClk) (s : State) : Host.Outcome State Fault Refusal :=
  commit s (serdesRefLossEffect r s)
/-- SERDES_REF_RETURN (R23). -/
def execSerdesRefReturn (r : RefClk) (s : State) : Host.Outcome State Fault Refusal :=
  commit s (serdesRefReturnEffect r s)
/-- ROOT_PLL_LOSS (R24). -/
def execRootPllLoss (s : State) : Host.Outcome State Fault Refusal :=
  commit s (rootPllLossEffect s)
/-- ROOT_PLL_RELOCK (R24). -/
def execRootPllRelock (s : State) : Host.Outcome State Fault Refusal :=
  commit s (rootPllRelockEffect s)
/-- DOMAIN_POWER_ON (R26). -/
def execDomainPowerOn (d : Nat) (s : State) : Host.Outcome State Fault Refusal :=
  commit s (domainPowerOnEffect d s)

end Sys2Proof.Machine
end

