-- ==== Sys2Proof/Machine/Cuts.lean ====
section
/-! DEFINITION. Machine/Cuts.lean: the armed cuts (R118 to R125): arming, triggers, what a cut sends, and the registers
of the Yardmaster that the host writes (R126). -/
namespace Sys2Proof.Machine
open Sys2Proof

/-! ## Records -/

/-- A cut record in effect. -/
def State.cutRec (s : State) (c : Nat) : Option Cut := s.cfg.ym.cuts.find? (fun x => x.index = c)

/-- YM_CUT_CTRL.PER_FRAME. -/
def State.perFrame (s : State) : Nat := fld s.cfg.ym.cutCtrl 3 0

/-- The enabled YARDLINE flows that a cut names: its receivers (R118). -/
def State.cutFlows (s : State) (x : Cut) : List (Nat × FlowRec) :=
  s.cfg.flow.flows.filter (fun e => e.2.enable && decide (e.2.kind = 0) && decide (e.1 ∈ x.flows))

/-- The line ports of LINE_MASK. -/
def Cut.lines (x : Cut) : List Nat := (List.range 40).filter (fun n => bitOf x.lineMask n)

/-- The state of a cut for a flow or, with 65,536 added, a line port: `len` free bytes (log 34). -/
def cutBytes (k c f len : Nat) : List Byte := (List.range len).map (Config.cutState k c f)

/-! ## Arming (R118, R308) -/

/-- A message of a flow's CTRL space in frames of at most m payload bytes (R302, R304). -/
def ctrlFrames (s : State) (r : FlowRec) (kind : TxKind) (type : Nat) (flags : Byte) (format : Half) (seq : Word)
    (m : Nat) (payload : List Byte) : List TxFrame :=
  let n := max 1 (ceilDiv payload.length m)
  (List.range n).map (fun g =>
    let part := (payload.drop (g * m)).take m
    { kind := kind
      body := ylHeader type r.stream.toNat flags format seq 0 (g * m) n part.length 0 payload.length ++ part
      dst := r.dest, udp := flowUdp s.cfg.flow r, octets := r.octets (32 + part.length) })

/-- An ARM in frames (R308). -/
def armFrames (s : State) (c f : Nat) (r : FlowRec) (seq : Word) (st : List Byte) : List TxFrame :=
  ctrlFrames s r (.arm c f) 4 0x10#8 r.format seq (fragSize s.cfg r) ([BitVec.ofNat 8 c, 0#8, 0#8, 0#8] ++ st)

/-- ARM goes out on one flow; the SEQ it carries. -/
def sendArm (c : Nat) (e : Nat × FlowRec) (s : State) : State :=
  let seq := s.ym.ctrlSeq + 1
  let st := cutBytes s.freeCtr c e.1 (valueLen s.cfg.flow e.2)
  (armFrames s c e.1 e.2 seq st).foldl (fun s x => enqueueBe e.2.port x s)
    { s with ym := { s.ym with ctrlSeq := seq } }

/-- The cut store of a line port takes the cut's frame (R375). -/
def loadCutStore (c n : Nat) (s : State) : State :=
  let len := match lineFlow s.cfg n with | some (_, f) => valueLen s.cfg.flow f | none => 0
  s.setLp n { s.lp n with cuts := tset (s.lp n).cuts c (cutBytes s.freeCtr c (65536 + n) len) }

/-- A line port that takes no cut frame: disabled, or in a trigger mode (R375). -/
def noCutPort (s : State) (n : Nat) : Bool :=
  decide (s.nLine ≤ n) || !(s.lp n).regs.on || decide (3 ≤ (s.lp n).regs.kind)

/-- A cut is no longer armed; a CUT_ARM of it that waits ends with CUT_NOT_ARMED. -/
def disarm (c : Nat) (s : State) : State :=
  let boxes := (s.ym.arming.filter (fun a => a.cut = c)).map (·.mailbox)
  let s1 : State := { s with ym := { s.ym with
    armed := s.ym.armed.filter (· ≠ c), arming := s.ym.arming.filter (fun a => a.cut ≠ c) } }
  boxes.foldl (fun s m => endWait m 0x0901#16 s (reply .cutNotArmed)) s1

/-- A cut is armed. -/
def setArmed (c : Nat) (s : State) : State := { s with ym := { s.ym with armed := addOnce s.ym.armed c } }

/-- CUT_ARM: ARM to every receiver, the line ports' cut stores; it waits for the acknowledgements (R118). -/
def cutArmEffect (m c : Nat) (s : State) : State :=
  cmd m 0x0901#16 s (fun q t =>
    if !t.mirrored q then (some (reply .badState), t)
    else match t.cutRec c with
    | none => (some (reply .badParam), t)
    | some x =>
      if x.lines.any (noCutPort t) then (some (reply .badParam), t)
      else
        let t1 := x.lines.foldl (fun s n => loadCutStore c n s) (disarm c t)
        let fs := t1.cutFlows x
        let t2 := (fs.foldl (fun s e => sendArm c e s) t1).takeFree
        if fs = [] then (some (reply .ok), setArmed c t2)
        else
          let w := (List.range fs.length).zip (fs.map (·.1))
          let a : Arming :=
            { cut := c, mailbox := m, deadline := t.elt + 500000000
              waiting := w.map (fun e => (e.2, t.ym.ctrlSeq + BitVec.ofNat 32 (e.1 + 1))) }
          (none, { t2 with ym := { t2.ym with arming := t2.ym.arming ++ [a] } }))

/-- A receiver acknowledges (R319): the SEQ must be that of the latest ARM for the cut on its stream. -/
def armAcked (stream c : Nat) (seq : Word) (s : State) : State :=
  let gone (e : Nat × Word) : Bool :=
    decide ((tget s.cfg.flow.flows e.1 {}).stream.toNat = stream) && decide (e.2 = seq)
  let as := s.ym.arming.map (fun a => if a.cut = c then { a with waiting := a.waiting.filter (fun e => !gone e) } else a)
  let done := as.filter (fun a => a.waiting.isEmpty)
  let s1 : State := { s with ym := { s.ym with arming := as.filter (fun a => !a.waiting.isEmpty) } }
  done.foldl (fun s a => endWait a.mailbox 0x0901#16 (setArmed a.cut s) (reply .ok)) s1

/-- CUT_ARM_TIMEOUT: 500 ms without every acknowledgement (R118, R328). -/
def cutArmTimeoutEffect (m : Nat) (s : State) : State :=
  match s.ym.arming.find? (fun a => a.mailbox = m) with
  | some a =>
    if a.deadline ≤ s.elt then
      let ports := (a.waiting.map (fun e => (tget s.cfg.flow.flows e.1 {}).port)).dedup
      let s1 : State := { s with ym := { s.ym with arming := s.ym.arming.filter (fun x => x.mailbox ≠ m) } }
      endWait m 0x0901#16 (ports.foldl (fun s p => s.raiseCause (.flwTx p) 2) s1) (reply .cutNotArmed)
    else s
  | none => s

/-- CUT_DISARM. -/
def cutDisarmEffect (m c : Nat) (s : State) : State :=
  cmdNow m 0x0902#16 s (fun q t =>
    if !t.mirrored q then (reply .badState, t)
    else if 63 < c then (reply .badParam, t)
    else (reply .ok, disarm c t))

/-- YM_CUT_ARMED1 and YM_CUT_ARMED0. -/
def State.armedMask (s : State) : Nat := (s.ym.armed.map (fun c => 2 ^ c)).sum

/-- CUT_STATUS: the armed mask, the latest cut fired, the count (log 9). -/
def cutStatusEffect (m : Nat) (s : State) : State :=
  cmdRead m 0x0904#16 s (fun _ t => okWith (le 8 t.armedMask ++ le 4 t.ym.lastCut.toNat ++ le 4 t.ym.fired.toNat))

/-! ## Firing (R120 to R124) -/

/-- A trigger is rejected (R120). -/
def rejectCut (why : Nat) (s : State) : State :=
  { s with ym := { s.ym with reject := BitVec.ofNat 4 why } }.raiseCause .ym 5

/-- The queued data frames of the flows a cut holds are not sent (R123). -/
def dropHeld (fs : List Nat) (s : State) : State :=
  let keep (x : TxFrame) : Bool := match x.kind with | .data f _ _ _ => decide (f ∉ fs) | _ => true
  { s with eth := s.eth.map (fun e => (e.1, { e.2 with
      gates := e.2.gates.filter keep, guar := e.2.guar.filter keep, be := e.2.be.filter keep })) }

/-- A port ends the frame it sends early with an inverted FCS and keeps it to send again after the cut GATE (R121,
R353), unless the cut holds its flow (R123). -/
def truncateFrame (p : Nat) (fs : List Nat) (s : State) : State :=
  let r := s.port p
  match r.cur with
  | none => s
  | some x =>
    let s1 := (s.setPort p { r with cur := none }).emit (.frame p s.elt { x with broken := true })
    let s2 := (pushStamp p { x with kind := .forward } true s1).2
    let again : Bool := match x.kind with | .data f _ _ _ => decide (f ∉ fs) | _ => true
    let isCut (y : TxFrame) : Bool := match y.kind with | .cutGate _ => true | _ => false
    let g := (s2.port p).gates
    if again then s2.setPort p { s2.port p with gates := g.filter isCut ++ [x] ++ g.filter (fun y => !isCut y) } else s2

/-- The cut GATE on one port (R306), one frame per destination (R301). -/
def cutGates (c p : Nat) (s : State) : State :=
  (portDests s.cfg p).foldl (fun s r => enqueueGate p
    (ylFrame s.cfg r (.cutGate c) 3 (gateStream s.cfg + 1) 0x10#8 0 s.ym.cutSeq s.elt
      (be 4 (fnOf s.frameNow).toNat ++ [BitVec.ofNat 8 c, 0#8, 0#8, 0#8])) s) s

/-- A port that carries a named flow sends the cut GATE, ahead of what it is sending (R120, R121). -/
def cutOnPort (c p : Nat) (fs : List Nat) (s : State) : State :=
  if !(s.port p).link || !s.portOn p then s else truncateFrame p fs (cutGates c p s)

/-- The bits of a frame or packet that have left at the next bit boundary (R122, R366, R371): of a packet, those of its
slots, of 4 us each, with the marks between slots. -/
def bitsLeft (r : LineRegs) (t : LineTx) (now : Nat) : Nat :=
  let ns := now - t.start
  if r.kind = 0 then
    let us := ceilDiv ns 1000 - (fld r.dmx 31 16 + fld r.dmx 15 8)
    us / (44 + fld r.dmx 7 0) * 11 + min 11 (ceilDiv (us % (44 + fld r.dmx 7 0)) 4)
  else ceilDiv (2 * ns) (5 * bitSteps r)

/-- A cut ends what a driving port sends at the next bit boundary (R122). -/
def cutShort (n : Nat) (s : State) : State :=
  let r := s.lp n
  match r.tx with
  | some t => if r.drive ∧ s.elt < t.start + t.dur then s.emit (.lineCutShort n t.content (bitsLeft r.regs t s.elt)) else s
  | none => s

/-- A line port ends what it sends and sends its cut frame (R122, R369, R375). -/
def cutOnLine (c n : Nat) (errs : List LineBad) (s : State) : State :=
  let s1 := cutShort n (preemptRdm n s)
  let s2 := s1.setLp n { s1.lp n with tx := none, cutShown := some c }
  match lineFlow s2.cfg n with
  | none => s2
  | some (_, f) =>
    let regs := (s2.lp n).regs
    let len := ((tfind? (s2.lp n).cuts c).getD []).length
    startLine n s2.txContent f (if regs.kind = 0 then packetNs regs len else frameNs regs f) errs s2

/-- An armed cut fires (R120 to R123). -/
def fireCut (x : Cut) (errs : List LineBad) (s : State) : State :=
  let y := s.ym
  let s1 : State := { s with ym := { y with
    cutSeq := y.cutSeq + 1, firedNow := y.firedNow + 1, fired := y.fired + 1, lastCut := BitVec.ofNat 6 x.index
    holding := y.holding ++ [{ cut := x.index, flows := x.flows, lines := x.lineMask, left := x.hold.toNat + 1 }] } }
  let s2 := dropHeld x.flows (s1.raiseCause .ym 2)
  let ports := ((s2.cutFlows x).map (fun e => e.2.port)).dedup
  let s3 := if s2.netOn s2.txContent then ports.foldl (fun s p => cutOnPort x.index p x.flows s) s2 else s2
  let s4 := (x.lines.filter (fun n => !noCutPort s n)).foldl (fun s n => cutOnLine x.index n errs s) s3
  trigOut 3 s4

/-- A trigger names a cut (R120); `ok` says that TRIGGERS enables it. DESIGN CHOICE: where several reasons hold, REJECT
takes the first of 1, 2, 3; R120 gives no order (log 64). -/
def triggerCut (c : Nat) (ok : Bool) (errs : List LineBad) (s : State) : State :=
  match s.cutRec c with
  | some x =>
    if c ∉ s.ym.armed then rejectCut 1 s
    else if s.perFrame ≤ s.ym.firedNow then rejectCut 2 s
    else if !ok then rejectCut 3 s
    else fireCut x errs s
  | none => rejectCut 1 s

/-- Bit b of a cut's TRIGGERS. -/
def State.trigOn (s : State) (c b : Nat) : Bool :=
  match s.cutRec c with | some x => bitOf x.triggers b | none => false

/-- A trigger of this device goes to a formed pair's peer as well (R124). -/
def forwardCut (c : Nat) (s : State) : State := if s.paired then s.emit (.cutTrigger c) else s

/-- Triggers of this device's inputs in one cycle, the lower INDEX first (R120, R124). -/
def ownTriggers (cs : List (Nat × Bool)) (errs : List LineBad) (s : State) : State :=
  cs.foldl (fun s e => triggerCut e.1 e.2 errs (if e.2 then forwardCut e.1 s else s)) s

/-- The cuts in effect by rising INDEX that satisfy p. -/
def State.cutsBy (s : State) (p : Cut → Bool) : List Nat :=
  (List.range 64).filter (fun c => match s.cutRec c with | some x => p x | none => false)

/-- CUT_FIRE: a host trigger; CUT_NOT_ARMED where the cut is not armed (R118). -/
def cutFireEffect (m c : Nat) (errs : List LineBad) (s : State) : State :=
  cmdNow m 0x0903#16 s (fun q t =>
    if !t.mirrored q then (reply .badState, t)
    else if 63 < c then (reply .badParam, t)
    else (reply (if c ∈ t.ym.armed then .ok else .cutNotArmed), triggerCut c (t.trigOn c 4) errs t))

/-- CUT_TRIGGER_WRITE (R120, R126). -/
def cutTriggerWriteEffect (v : Word) (errs : List LineBad) (s : State) : State :=
  if bitOf v 31 then ownTriggers [(fld v 5 0, s.trigOn (fld v 5 0) 4)] errs s else s

/-- PEER_CUT_TRIGGER: the peer has checked that the trigger is enabled (R124). -/
def peerCutTriggerEffect (c : Nat) (errs : List LineBad) (s : State) : State :=
  if s.paired then triggerCut c true errs s else s

/-- An edge that LP_TRIG.EDGE selects (R376). -/
def edgeSelected (sel : Nat) (rising : Bool) : Bool :=
  decide (sel = 2) || (rising && decide (sel = 0)) || (!rising && decide (sel = 1))

/-- TRIGGER_INPUT_EDGE (R376). -/
def triggerInputEdgeEffect (n : Nat) (rising : Bool) (errs : List LineBad) (s : State) : State :=
  let r := s.lp n
  if n < s.nLine ∧ r.regs.on ∧ r.regs.kind = 3 ∧ edgeSelected (fld r.regs.trig 31 30) rising then
    let s1 := ((s.setLp n { r with stamp := s.tim.lt }).bump (.lp n 7)).raiseCause (.lp n) 3
    ownTriggers ((s1.cutsBy (fun x => decide (x.trigLine.toNat = n))).map (fun c => (c, s1.trigOn c 2))) errs s1
  else s

/-- A CUE arrives (R319): the cut's TRIGGERS and CUE_STREAM must name it, else it is rejected. -/
def cueCut (p c stream : Nat) (errs : List LineBad) (s : State) : State :=
  let ok : Bool := s.trigOn c 3 && (match s.cutRec c with | some x => decide (x.cueStream.toNat = stream) | none => false)
  if ok then ownTriggers [(c, true)] errs s else (rejectCut 3 s).raiseCause (.ylRx p) 2

/-! ## Boundaries, Gates and commits -/

/-- A boundary FB(m): the per-frame count restarts, and the content released now releases the holds whose last
boundary this is (R120, R123). -/
def cutBoundary (m : Nat) (s : State) : State :=
  { s with ym := { s.ym with
      firedNow := 0
      holding := s.ym.holding.map (fun h =>
        if h.release.isSome then h
        else { h with left := h.left - 1, release := if h.left ≤ 1 then some (m + 1) else none }) } }

/-- The Gate of content n ends the holds it releases (R123). -/
def cutGateEnds (n : Nat) (s : State) : State :=
  let hs := s.ym.holding.filter (fun h => h.covers n)
  { s with
    ym := { s.ym with holding := hs }
    line := s.line.map (fun e => (e.1, { e.2 with
      cutShown := e.2.cutShown.filter (fun c => hs.any (fun h => h.cut = c)) })) }

/-- A commit that changes a cut, a flow it names, the gate stream or YM_YL_CFG disarms (R119, R323). -/
def cutCommit (old : Cfg) (s : State) : State :=
  let all := decide (old.flow.set.gate ≠ s.cfg.flow.set.gate) || decide (old.flow.set.ylCfg ≠ s.cfg.flow.set.ylCfg)
  let was (c : Nat) : Option Cut := old.ym.cuts.find? (fun x => x.index = c)
  let flowsOf (c : Nat) : List Nat := match was c with | some x => x.flows | none => []
  let changed (c : Nat) : Bool := all || decide (was c ≠ s.cutRec c)
    || (flowsOf c).any (fun f => decide (tfind? old.flow.flows f ≠ tfind? s.cfg.flow.flows f))
  ((List.range 64).filter changed).foldl (fun s c => disarm c s) s

/-! ## Registers (R126) -/

/-- YM_EVT_CAUSE_WRITE. -/
def ymEvtCauseWriteEffect (v : Word) (s : State) : State := s.clearCause .ym (v &&& 0x000000FF#32)

/-- YM_SNAPSHOT. -/
def ymSnapshotEffect (s : State) : State := s.captureKeys 0x100000 0x200000

/-- YM_CLEAR. -/
def ymClearEffect (s : State) : State := s.clearKeys 0x100000 0x200000

-- The meanings of this family's rows: the effect, with the queue and the identity kept.

/-- CUT_ARM (R118). -/
def execCutArm (m c : Nat) (s : State) : Host.Outcome State Fault Refusal :=
  commit s (cutArmEffect m c s)
/-- CUT_ARM_TIMEOUT (R118). -/
def execCutArmTimeout (m : Nat) (s : State) : Host.Outcome State Fault Refusal :=
  commit s (cutArmTimeoutEffect m s)
/-- CUT_DISARM (R118). -/
def execCutDisarm (m c : Nat) (s : State) : Host.Outcome State Fault Refusal :=
  commit s (cutDisarmEffect m c s)
/-- CUT_FIRE (R118). -/
def execCutFire (m c : Nat) (errs : List LineBad) (s : State) : Host.Outcome State Fault Refusal :=
  commit s (cutFireEffect m c errs s)
/-- CUT_STATUS (R118). -/
def execCutStatus (m : Nat) (s : State) : Host.Outcome State Fault Refusal :=
  commit s (cutStatusEffect m s)
/-- CUT_TRIGGER_WRITE (R120). -/
def execCutTriggerWrite (v : Word) (errs : List LineBad) (s : State) : Host.Outcome State Fault Refusal :=
  commit s (cutTriggerWriteEffect v errs s)
/-- YM_EVT_CAUSE_WRITE (R126). -/
def execYmEvtCauseWrite (v : Word) (s : State) : Host.Outcome State Fault Refusal :=
  commit s (ymEvtCauseWriteEffect v s)
/-- YM_SNAPSHOT (R126). -/
def execYmSnapshot (s : State) : Host.Outcome State Fault Refusal :=
  commit s (ymSnapshotEffect s)
/-- YM_CLEAR (R126). -/
def execYmClear (s : State) : Host.Outcome State Fault Refusal :=
  commit s (ymClearEffect s)
/-- TRIGGER_INPUT_EDGE (R376). -/
def execTriggerInputEdge (n : Nat) (rising : Bool) (errs : List LineBad) (s : State) :
    Host.Outcome State Fault Refusal :=
  commit s (triggerInputEdgeEffect n rising errs s)
/-- PEER_CUT_TRIGGER (R124). -/
def execPeerCutTrigger (c : Nat) (errs : List LineBad) (s : State) : Host.Outcome State Fault Refusal :=
  commit s (peerCutTriggerEffect c errs s)

end Sys2Proof.Machine
end

