-- ==== Sys2Proof/Machine/Time.lean ====
section
/-! DEFINITION. Machine/Time.lean: the time unit (chapter 05): the accumulator, the servo, lock and holdover,
the PTP port, capture, and the TIME commands. What fires a cut, pulses a port or needs the pair's role stands
in Clockwork.lean. -/
namespace Sys2Proof.Machine
open Sys2Proof

/-! ## The accumulator -/

/-- TIME_INC in units of 2^-32 ns (R127). -/
def Tim.inc (t : Tim) : Nat := t.incInt.toNat * 4294967296 + t.incFrac.toNat

/-- One rising edge of TIMECLK (R127): the increment is added; a carry out of LT waits for LT_WRAP. -/
def Tim.tick (t : Tim) : Tim :=
  let v := t.lt.toNat * 4294967296 + t.frac.toNat + t.inc
  { t with lt := BitVec.ofNat 32 (v / 4294967296), frac := BitVec.ofNat 32 v
           carry := decide (18446744073709551616 ≤ v) }

/-- A carry out of LT is counted in WRAP (R127). -/
def ltWrapEffect (s : State) : State :=
  if s.tim.carry then { s with tim := { s.tim with wrap := s.tim.wrap + 1, carry := false } } else s

/-- A signed number of nanoseconds is added to ELT, modulo 2^64, the fraction kept (R133); the word-clock edge kept for
the next period moves with it. -/
def State.addElt (s : State) (ns : Int) : State :=
  let v := (((s.elt : Int) + ns) % 18446744073709551616).toNat
  { s with tim := { s.tim with
      lt := BitVec.ofNat 32 v, wrap := BitVec.ofNat 32 (v / 4294967296)
      wordAt := s.tim.wordAt.map (fun a => ((a : Int) + ns).toNat) } }

/-- The least and greatest increments the hardware applies (R129), in units of 2^-32 ns. -/
def incMin : Nat := ceilDiv (49985 * 4294967296) 10000
def incMax : Nat := 50015 * 4294967296 / 10000

/-- Groom writes an increment (R129, R137): clamped, and kept among the last 64. -/
def State.writeInc (s : State) (v : Nat) : State :=
  let c := max incMin (min incMax v)
  { s with tim := { s.tim with
      incInt := BitVec.ofNat 4 (c / 4294967296), incFrac := BitVec.ofNat 32 c
      incHist := (c :: s.tim.incHist).take 64, incAt := s.elt } }

/-! ## Configuration fields -/

/-- TIME_ALIGN.SOURCE (R144). -/
def State.alignSrc (s : State) : Nat := fld s.cfg.time.align 31 28
/-- TIME_SERVO.SLEW_PPM. -/
def State.slewPpm (s : State) : Nat := fld s.cfg.time.servo 31 24
/-- TIME_SERVO.LOCK_LIMIT_NS. -/
def State.lockLimit (s : State) : Nat := fld s.cfg.time.servo 15 0
/-- TIME_SERVO.HOLDOVER_S. -/
def State.holdoverS (s : State) : Nat := fld s.cfg.time.servo 23 16
/-- The increment slewed by so many units off a base. -/
def slewed (base : Nat) (toward : Bool) (d : Nat) : Nat := if toward then base + d else base - d

/-- The servo writes an increment after an offset (R129, R132): about the reference's own frequency, which is free (log 5),
it slews DT toward the reference by at most SLEW_PPM, and by all of it while a step is refused. -/
def State.servo (s : State) (off : Int) : State :=
  let most := s.slewPpm * 5 * 4294967296 / 1000000
  let d := if s.tim.refused then most else Config.freeNat s.freeCtr % (most + 1)
  (s.writeInc (slewed (Config.refIncrement s.freeCtr) (decide (off < 0)) d)).takeFree

/-! ## Measurements, lock and holdover -/

/-- The reference is lost (R137): HOLDOVER, the increment at the mean of the last 64 written, LOCK_LOST. -/
def State.loseRef (s : State) : State :=
  if s.alignSrc ≠ 0 ∧ (s.tim.st = .acquiring ∨ s.tim.st = .locked) then
    let h := s.tim.incHist
    let mean := if h = [] then s.tim.inc else h.sum / h.length
    let t : Tim := { s.tim with
      st := .holdover, holdAt := some s.elt, holdOver := false, good := 0, bad := 0
      incInt := BitVec.ofNat 4 (mean / 4294967296), incFrac := BitVec.ofNat 32 mean }
    (({ s with tim := t }).raiseCause .time 1).noteCond
  else s

/-- The step of an offset (R132): within the jump limit it is scheduled, above it refused. -/
def State.requestStep (s : State) (off : Int) : State :=
  if off.natAbs ≤ s.slewPpm * 1000 then
    { s with tim := { s.tim with refused := false } }
  else if s.tim.refused then s
  else if off.natAbs ≤ s.cfg.time.jump.toNat then
    match s.tim.step with
    | some _ => s
    | none => { s with tim := { s.tim with step := some { m := s.boundaryIn120, ns := -off } } }
  else
    ({ s with tim := { s.tim with refused := true, refusedNs := -off } }).raiseCause .time 0

/-- A measurement enters the lock rule (R136, R137). -/
def State.lockRule (s : State) (off : Int) : State :=
  let t := s.tim
  let st := if t.st = .holdover then TimeSt.acquiring else t.st
  let within := decide (off.natAbs ≤ s.lockLimit)
  let good := if within then t.good + 1 else 0
  let bad := if within then 0 else t.bad + 1
  let t' : Tim := { t with st := st, good := good, bad := bad, holdAt := none, holdOver := false }
  if st = .acquiring ∧ 8 ≤ good then ({ s with tim := { t' with st := .locked } }).raiseCause .time 2
  else if st = .locked ∧ 2 ≤ bad then ({ s with tim := { t' with st := .acquiring } }).raiseCause .time 1
  else { s with tim := t' }

/-- An offset of the disciplining reference: entered in the lock rule, stepped or slewed; while the pair's LEAD disciplines
DT the measurement goes on without a step (R150). Under UNSET it is the first measurement, which
ALIGN_FIRST_MEASUREMENT applies (R149). -/
def State.measure (s : State) (off : Int) : State :=
  let s1 : State := { s with tim := { s.tim with offset := off, refOff := off, measAt := some s.elt } }
  if s1.tim.st = .unset then { s1 with tim := { s1.tim with first := some (s.tim.first.getD off) } }
  else if s.tim.peerRef ∧ s.pair.role = .shadow then (s1.lockRule off).noteCond
  else (((s1.lockRule off).requestStep off).servo off).noteCond

/-- An offset that is only reported (R147, R150): TIME_FORCE_STEP does not step by it (R134; log 66). -/
def State.report (s : State) (off : Int) : State := { s with tim := { s.tim with offset := off } }

/-- A Sync exchange (R136, R139, R142): t1 the master's time, t2 the reception, in nanoseconds; the offset is
what remains after the path delay and ASYMMETRY. Under a house source or FREE it is only reported. -/
def ptpSyncRxEffect (t1 t2 : Int) (s : State) : State :=
  if s.ptpOn ∧ s.tim.port = .slave then
    let off := t2 - t1 - (s.tim.pathDelay + sval s.cfg.time.asym)
    let s1 : State := { s with tim := { s.tim with syncAt := s.elt, syncDelta := t2 - t1 } }
    if s.alignSrc = 1 then s1.measure off else s1.report off
  else s

/-- The data set that the device announces (R139): its own priorities, clockClass 248. -/
def ownAnnounce (s : State) : Announce :=
  { domain := BitVec.ofNat 8 (fld s.cfg.time.ptp 15 8), priority1 := BitVec.ofNat 8 (fld s.cfg.time.ptp 7 0)
    priority2 := s.cfg.time.priority2, gm := Config.clockIdentity, sender := Config.clockIdentity }

/-- What the data set comparison compares, in its order: of two grandmasters the grandmasters, of one the way to it. -/
def Announce.rank (a : Announce) (same : Bool) : List Nat :=
  if same then [a.steps.toNat, a.sender.toNat]
  else [a.priority1.toNat, a.cls.toNat, a.accuracy.toNat, a.variance.toNat, a.priority2.toNat, a.gm.toNat]

/-- The first differing number decides: the lower one is better. -/
def lower : List Nat → List Nat → Bool
  | x :: xs, y :: ys => decide (x < y) || (decide (x = y) && lower xs ys)
  | _, _ => false

/-- a is better than b (IEEE 1588-2019, data set comparison; PRESUMED, log 66). -/
def Announce.better (a b : Announce) : Bool := lower (a.rank (decide (a.gm = b.gm))) (b.rank (decide (a.gm = b.gm)))

/-- The port becomes MASTER: the device is grandmaster, and under PTP alignment its STATE FREE (R139); LOCKED is then left
(R136). -/
def becomeMaster (s : State) : State :=
  let s1 := if s.alignSrc = 1 ∧ s.tim.st = .locked then s.raiseCause .time 1 else s
  ({ s1 with tim := { s1.tim with
      port := .master, best := none, st := if s.alignSrc = 1 then .free else s.tim.st } } : State).noteCond

/-- The port is SLAVE of the sender of an Announce. Another grandmaster than the latest one is a change, which leaves LOCKED
(R136); a device that was grandmaster itself leaves FREE for ACQUIRING. -/
def followMaster (a : Announce) (s : State) : State :=
  let t : Tim := { s.tim with
    annAt := s.elt, best := some a, gmId := a.gm, port := .slave
    syncAt := if s.tim.port = .slave ∧ s.tim.gmId = a.gm then s.tim.syncAt else s.elt
    st := if s.alignSrc = 1 ∧ s.tim.st = TimeSt.free then TimeSt.acquiring else s.tim.st }
  if s.tim.gmId ≠ a.gm ∧ (s.tim.port = .slave ∨ s.tim.gmId ≠ 0) then
    let s2 := ({ s with tim := { t with gmChanges := s.tim.gmChanges + 1, good := 0, bad := 0 } }).raiseCause .time 3
    if s.tim.st = .locked ∧ s.alignSrc = 1 then
      (({ s2 with tim := { s2.tim with st := .acquiring } }).raiseCause .time 1).noteCond
    else s2.noteCond
  else ({ s with tim := t }).noteCond

/-- The best master clock algorithm on an Announce of the port's domain (R139): the better of it and the master selected;
where the device itself is better and may be master, it is; else the port is that master's slave. -/
def ptpAnnounceRxEffect (a : Announce) (s : State) : State :=
  if s.ptpOn ∧ a.domain = (ownAnnounce s).domain then
    let best : Announce := match s.tim.best with
      | some b => if a.sender = b.sender ∨ a.better b then a else b
      | none => a
    if !s.ptpSlaveOnly && (ownAnnounce s).better best then (if s.tim.port = .master then s else becomeMaster s)
    else if best = a then followMaster a s else s
  else s

/-- The Delay_Req interval expires (R139, R140): a Delay_Req joins the port's queue; its exchange is outstanding from the
moment its stamp is kept. -/
def ptpDelayReqTxEffect (s : State) : State :=
  if s.ptpOn ∧ s.tim.port = .slave then
    sendPtp s.ptpPort (.delayReq s.tim.delaySeq) (some s.tim.delaySeq) { s with tim := { s.tim with
      delaySeq := s.tim.delaySeq + 1, delayOut := none, delayAt := s.elt } }
  else s

/-- A Delay_Resp to the outstanding Delay_Req (R139): t3 its departure, t4 its arrival at the master. -/
def ptpDelayRespRxEffect (seq : Half) (t3 t4 : Int) (s : State) : State :=
  if s.ptpOn ∧ s.tim.port = .slave ∧ s.tim.delayOut = some seq then
    { s with tim := { s.tim with pathDelay := (s.tim.syncDelta + (t4 - t3)) / 2, delayOut := none } }
  else s

/-- As master the Sync interval expires (R140): a Sync, which in two-step operation asks for a stamp and has its Follow_Up
when Groom drains that. -/
def ptpSyncTxEffect (s : State) : State :=
  if s.ptpOn ∧ s.tim.port = .master then
    sendPtp s.ptpPort (.sync s.tim.syncSeq {}) (if s.ptpTwoStep then some s.tim.syncSeq else none)
      { s with tim := { s.tim with syncSeq := s.tim.syncSeq + 1 } }
  else s

/-- As master the announce interval expires (R139): an Announce with clockClass 248 and the device's own DT. -/
def ptpAnnounceTxEffect (s : State) : State :=
  if s.ptpOn ∧ s.tim.port = .master then
    sendPtp s.ptpPort (.announce s.tim.annSeq 248 (toPtp s.elt)) none
      { s with tim := { s.tim with annSeq := s.tim.annSeq + 1 } }
  else s

/-- As master a Delay_Req arrives (R139): a Delay_Resp with its arrival time at the medium (R143). -/
def ptpDelayReqRxEffect (seq : Half) (s : State) : State :=
  if s.ptpOn ∧ s.tim.port = .master then
    let t := s.rxInstant s.ptpPort
    sendPtp s.ptpPort (.delayResp seq (toPtp (t / 65536)) (BitVec.ofNat 16 t)) none s.takeFree
  else s

/-- The PTP reference is lost: the port looks for a master again (R137). -/
def State.losePtp (s : State) : State :=
  let s1 : State := { s with tim := { s.tim with
    port := if s.tim.port = .slave then .listening else s.tim.port, best := none } }
  if s.alignSrc = 1 then s1.loseRef else s1

/-- No Announce within the receipt timeout (R137): a slave loses its master, and so does a device aligned to PTP whose port
runs no more. A port that listens and may be master becomes it. -/
def announceReceiptTimeoutEffect (s : State) : State :=
  if s.tim.annAt + s.receipt * intervalNs s.annLog ≤ s.elt then
    if s.ptpOn ∧ s.tim.port = .listening ∧ !s.ptpSlaveOnly ∧ ¬ (s.alignSrc = 1 ∧ (s.tim.st = .acquiring ∨ s.tim.st = .locked))
    then becomeMaster s
    else if (s.ptpOn ∧ s.tim.port = .slave) ∨ s.alignSrc = 1 then s.losePtp else s
  else s

/-- No Sync within 4 Sync intervals (R137). -/
def syncTimeoutEffect (s : State) : State :=
  if s.tim.syncAt + 4 * intervalNs s.syncLog ≤ s.elt ∧ s.alignSrc = 1 then s.loseRef else s

/-- The time between two expected edges of the alignment source, in ns: of the frame pulse, or of the word clock. -/
def State.edgePeriod (s : State) : Nat :=
  if s.alignSrc = 2 then (s.cfg.ym.period * (fld s.cfg.time.align 25 22 : Nat)).ceil.toNat
  else ceilDiv 1000000000 (max 1 (fld s.cfg.time.wcRate 17 0))

/-- HOUSE_SYNC_LOSS: on the port of the alignment source three expected edges are missing in a row (R137), which is so
once more than three of their periods have passed since the latest edge; no rule says when another port's edges are no
longer present (log 66). -/
def houseSyncLossEffect (port : Nat) (s : State) : State :=
  if port < 2 then
    let last := if port = 0 then s.tim.edge0 else s.tim.edge1
    let gone : State := { s with tim :=
      if port = 0 then { s.tim with hs0 := false, edge0 := none } else { s.tim with hs1 := false, edge1 := none } }
    if 2 ≤ s.alignSrc ∧ fld s.cfg.time.align 27 27 = port then
      match last with
      | some a => if a + 3 * s.edgePeriod < s.elt then (gone.raiseCause .time 5).loseRef else s
      | none => s
    else gone
  else s

/-- Groom has not written the increment for 2 s under a source other than FREE (R137). -/
def incrementWriteTimeoutEffect (s : State) : State :=
  if s.alignSrc ≠ 0 ∧ s.tim.incAt + 2000000000 ≤ s.elt then s.loseRef else s

/-- HOLDOVER outlasts HOLDOVER_S (R138): it is noted once. -/
def holdoverExpireEffect (s : State) : State :=
  match s.tim.holdAt with
  | some t =>
    if s.tim.st = .holdover ∧ ¬ s.tim.holdOver ∧ t + s.holdoverS * 1000000000 < s.elt then
      ({ s with tim := { s.tim with holdOver := true } }).noteCond
    else s
  | none => s

/-- ALIGN_FIRST_MEASUREMENT: the first measurement after an alignment change, by an edge or a Sync exchange (R149): ELT is
stepped by its offset without the jump limit, the step is logged and raised, ACQUIRING is entered and boundaries resume
(R89). `off` is the offset measured; a row that names another is no such event. -/
def alignFirstMeasurementEffect (off : Int) (s : State) : State :=
  if s.tim.st = .unset ∧ s.tim.first = some off then
    let s1 := s.addElt (-off)
    let resume := s.ym.resume - (off : Rat)
    let s2 : State := { s1 with
      tim := { s1.tim with st := .acquiring, offset := 0, refOff := 0, first := none, measAt := some s1.elt, good := 0, bad := 0 }
      ym := { s1.ym with resume := resume, next := s1.cfg.ym.firstAt (max resume (s1.elt : Rat)) } }
    ((s2.logEvent 2 0xFF 0 off.natAbs).raiseCause .time 4).noteCond
  else s

/-! ## Capture, trigger registers, causes -/

/-- TIME_CAPTURE written (R131): GO captures ELT, DT and FN on one edge; where a boundary is due on it, its FN. -/
def timeCaptureEffect (v : Word) (s : State) : State :=
  if bitOf v 0 then
    { s with tim := { s.tim with
        capElt := BitVec.ofNat 64 s.elt, capNs := (toPtp s.elt).ns, capSec := (toPtp s.elt).sec
        capFn := fnOf (if boundaryDue s then s.ym.next else s.frameNow) } }
  else s

/-- TIME_TRIG_CTRL written (R153): ARM takes bit 0, a 1 in bit 1 clears LATE; a target already past is
noted for LATE. -/
def timeTrigCtrlWriteEffect (v : Word) (s : State) : State :=
  { s with tim := { s.tim with
      arm := bitOf v 0, late := s.tim.late && !(bitOf v 1)
      trigPast := bitOf v 0 && decide (s.tim.trig.toNat < s.elt) } }

/-- Ones written to TIME_EVT_CAUSE (R152). -/
def timeEvtCauseWriteEffect (v : Word) (s : State) : State := s.clearCause .time (v &&& 0x000000FF#32)

/-! ## Commands -/

/-- HOUSE_WORD's ratio equals HZ x T exactly (R146). -/
def wordRatioOk (y : YmCfg) (t : TimeCfg) : Bool :=
  fld t.align 31 28 ≠ 3 ||
    (1 ≤ fld t.wcRate 17 0 && fld t.wcRate 17 0 ≤ 192000
      && fld t.align 17 0 * 1000000000 * y.num = fld t.align 21 19 * fld t.wcRate 17 0 * y.tNum)

/-- The rules of TIME_ALIGN and TIME_WC_RATE (R144 to R146, R151): WC_DEN and the word clock's terms count under HOUSE_WORD
only. -/
def alignRules (c : Cfg) : Except Status Unit := do
  let a := c.time.align
  need (fld a 31 28 ≤ 3) .badParam
  need (1 ≤ fld a 25 22 && fld a 25 22 ≤ 8) .badParam
  need (fld a 31 28 ≠ 3 || (1 ≤ fld a 21 19 && fld a 21 19 ≤ 5)) .badParam
  need (wordRatioOk c.ym c.time) .badParam

/-- TIME_SET_ALIGN. -/
def timeSetAlignEffect (m : Nat) (align wcRate : Word) (s : State) : State :=
  stage m 0x0301#16 [0x03010000] s (fun _ _ c => do
    let c' := { c with time := { c.time with align := align &&& 0xFFFBFFFF#32, wcRate := wcRate &&& 0x0003FFFF#32 } }
    alignRules c'
    pure c')

/-- An override stands in its range (R139). -/
def inRange (v : Option Int) (lo hi : Int) : Bool :=
  match v with | some x => lo ≤ x && x ≤ hi | none => true

/-- PORT lies within the variant (R151). -/
def ptpPortOk (t : State) (ptp : Word) : Except Status Unit := need (fld ptp 23 20 < t.nEth) .variantUnsupported

/-- The rules of TIME_PTP_CFG and the intervals (R139, R151). -/
def ptpRules (t : State) (c : Cfg) : Except Status Unit := do
  let p := c.time
  ptpPortOk t p.ptp
  need (fld p.ptp 31 28 ≤ 2 && fld p.ptp 15 8 ≤ 127) .badParam
  need (inRange p.syncLog (-7) 1 && inRange p.annLog (-3) 3 && inRange p.delayLog (-7) 3
    && inRange (p.receipt.map (fun (n : Nat) => (n : Int))) 2 10) .badParam

/-- TIME_SET_PTP. -/
def timeSetPtpEffect (m : Nat) (p : PtpSet) (s : State) : State :=
  stage m 0x0302#16 [0x03020000] s (fun _ t c => do
    let c' := { c with time := { c.time with
      ptp := p.ptp &&& 0xFFF0FFFF#32, priority2 := p.priority2, syncLog := p.syncLog, annLog := p.annLog
      receipt := p.receipt, delayLog := p.delayLog, asym := p.asym } }
    ptpRules t c'
    pure c') (fun _ t => ptpPortOk t p.ptp)

/-- The ranges of the servo's settings (R151). -/
def servoOk (jump slew lock hold : Nat) : Bool :=
  decide (100 ≤ jump) && decide (jump ≤ 1000000000) && decide (1 ≤ slew) && decide (slew ≤ 200)
    && decide (100 ≤ lock) && decide (lock ≤ 65535) && decide (hold ≤ 60)

/-- The rules of TIME_JUMP_LIMIT and TIME_SERVO. -/
def servoRules (c : Cfg) : Except Status Unit :=
  need (servoOk c.time.jump.toNat (fld c.time.servo 31 24) (fld c.time.servo 15 0) (fld c.time.servo 23 16)) .badParam

/-- TIME_SET_SERVO. -/
def timeSetServoEffect (m : Nat) (jump slew lock hold : Nat) (s : State) : State :=
  stage m 0x0303#16 [0x03030000] s (fun _ _ c => do
    need (servoOk jump slew lock hold) .badParam
    return { c with time := { c.time with
      jump := BitVec.ofNat 32 jump
      servo := BitVec.ofNat 32 (slew * 16777216 + hold * 65536 + lock) } })

/-- TIME_STATUS.STATE's code (R136). -/
def TimeSt.code : TimeSt → Nat
  | .unset => 0 | .free => 1 | .acquiring => 2 | .locked => 3 | .holdover => 4

/-- TIME_STATUS (chapter 05): STATE, offset, grandmaster identity, DT now, last refused step (log 9). -/
def timeStatusEffect (m : Nat) (s : State) : State :=
  cmdRead m 0x0305#16 s (fun _ t =>
    okWith (le 4 t.tim.st.code ++ leInt 4 (max (-2147483648) (min 2147483647 t.tim.offset)) ++ le 8 t.tim.gmId.toNat
      ++ le 8 t.elt ++ leInt 8 t.tim.refusedNs))

-- The meanings of this family's rows: the effect, with the queue and the identity kept.

/-- LT_WRAP (R127). -/
def execLtWrap (s : State) : Host.Outcome State Fault Refusal :=
  commit s (ltWrapEffect s)
/-- PTP_SYNC_RX (R136). -/
def execPtpSyncRx (t1 t2 : Int) (s : State) : Host.Outcome State Fault Refusal :=
  commit s (ptpSyncRxEffect t1 t2 s)
/-- PTP_ANNOUNCE_RX (R139). -/
def execPtpAnnounceRx (a : Announce) (s : State) : Host.Outcome State Fault Refusal :=
  commit s (ptpAnnounceRxEffect a s)
/-- PTP_DELAY_REQ_TX (R139). -/
def execPtpDelayReqTx (s : State) : Host.Outcome State Fault Refusal :=
  commit s (ptpDelayReqTxEffect s)
/-- PTP_DELAY_RESP_RX (R139). -/
def execPtpDelayRespRx (seq : Half) (t3 t4 : Int) (s : State) : Host.Outcome State Fault Refusal :=
  commit s (ptpDelayRespRxEffect seq t3 t4 s)
/-- PTP_SYNC_TX (R140). -/
def execPtpSyncTx (s : State) : Host.Outcome State Fault Refusal :=
  commit s (ptpSyncTxEffect s)
/-- PTP_ANNOUNCE_TX (R139). -/
def execPtpAnnounceTx (s : State) : Host.Outcome State Fault Refusal :=
  commit s (ptpAnnounceTxEffect s)
/-- ANNOUNCE_RECEIPT_TIMEOUT (R137). -/
def execAnnounceReceiptTimeout (s : State) : Host.Outcome State Fault Refusal :=
  commit s (announceReceiptTimeoutEffect s)
/-- SYNC_TIMEOUT (R137). -/
def execSyncTimeout (s : State) : Host.Outcome State Fault Refusal :=
  commit s (syncTimeoutEffect s)
/-- HOUSE_SYNC_LOSS (R137). -/
def execHouseSyncLoss (port : Nat) (s : State) : Host.Outcome State Fault Refusal :=
  commit s (houseSyncLossEffect port s)
/-- INCREMENT_WRITE_TIMEOUT (R137). -/
def execIncrementWriteTimeout (s : State) : Host.Outcome State Fault Refusal :=
  commit s (incrementWriteTimeoutEffect s)
/-- HOLDOVER_EXPIRE (R138). -/
def execHoldoverExpire (s : State) : Host.Outcome State Fault Refusal :=
  commit s (holdoverExpireEffect s)
/-- ALIGN_FIRST_MEASUREMENT (R149). -/
def execAlignFirstMeasurement (off : Int) (s : State) : Host.Outcome State Fault Refusal :=
  commit s (alignFirstMeasurementEffect off s)
/-- TIME_CAPTURE (R131). -/
def execTimeCapture (v : Word) (s : State) : Host.Outcome State Fault Refusal :=
  commit s (timeCaptureEffect v s)
/-- TIME_TRIG_CTRL_WRITE (R153). -/
def execTimeTrigCtrlWrite (v : Word) (s : State) : Host.Outcome State Fault Refusal :=
  commit s (timeTrigCtrlWriteEffect v s)
/-- TIME_EVT_CAUSE_WRITE (R152). -/
def execTimeEvtCauseWrite (v : Word) (s : State) : Host.Outcome State Fault Refusal :=
  commit s (timeEvtCauseWriteEffect v s)
/-- TIME_SET_ALIGN (R146). -/
def execTimeSetAlign (m : Nat) (align wcRate : Word) (s : State) : Host.Outcome State Fault Refusal :=
  commit s (timeSetAlignEffect m align wcRate s)
/-- TIME_SET_PTP (R151). -/
def execTimeSetPtp (m : Nat) (p : PtpSet) (s : State) : Host.Outcome State Fault Refusal :=
  commit s (timeSetPtpEffect m p s)
/-- TIME_SET_SERVO (R151). -/
def execTimeSetServo (m : Nat) (jump slew lock hold : Nat) (s : State) : Host.Outcome State Fault Refusal :=
  commit s (timeSetServoEffect m jump slew lock hold s)
/-- TIME_STATUS (R152). -/
def execTimeStatus (m : Nat) (s : State) : Host.Outcome State Fault Refusal :=
  commit s (timeStatusEffect m s)
/-- PTP_DELAY_REQ_RX (R139). -/
def execPtpDelayReqRx (seq : Half) (s : State) : Host.Outcome State Fault Refusal :=
  commit s (ptpDelayReqRxEffect seq s)

end Sys2Proof.Machine
end

