-- ==== Sys2Proof/Machine/Clockwork.lean ====
section
/-! DEFINITION. Machine/Clockwork.lean: what the time unit does to the rest (chapter 05): house-sync edges, the peer's
time, forced steps, the time trigger. -/
namespace Sys2Proof.Machine
open Sys2Proof

/-! ## House sync (R145 to R147) -/

/-- The boundary nearest to an instant among those whose FN is a multiple of d (R145). -/
def nearestMultiple (y : YmCfg) (d t : Nat) : Nat :=
  let n := y.frameAt t
  let dist (k : Nat) : Nat := ((y.fbAt k : Int) - (t : Int)).natAbs
  let cs := ((List.range 18).map (fun i => n + i - 8)).filter (fun k => (fnOf k).toNat % max 1 d = 0)
  cs.foldl (fun a k => if dist k < dist a then k else a) (cs.headD n)

/-- The offset that a frame pulse measures, DT minus the reference (R145). -/
def pulseOffset (s : State) : Int :=
  (s.elt : Int) - (s.cfg.ym.fbAt (nearestMultiple s.cfg.ym (fld s.cfg.time.align 25 22) s.elt) : Int)

/-- A value in the shorter direction of a cycle. -/
def shorter (v cycle : Int) : Int :=
  let r := v % cycle
  if cycle < 2 * r then r - cycle else r

/-- What the boundary between two word-clock edges `a` and `b` in ns measures, where one lies there: the offset, and the
number of edge b in the cycle. Boundary k of the cycle lies k x WC_NUM / WC_DEN periods after its edge 0, and the offset is
taken in the shorter direction of the cycle; the first such boundary numbers the edges, so that its offset is the shorter
distance to an edge (R146; log 35). -/
def wordOffset (s : State) (cnt : Option Nat) (a b : Nat) : Option (Int × Nat) :=
  let n := s.cfg.ym.firstFrom a
  let d := max 1 (fld s.cfg.time.align 21 19)
  let w := max 1 (fld s.cfg.time.align 17 0)
  let p : Int := (b : Int) - a
  if s.cfg.ym.fbAt n < b then
    let e := (fnOf n).toNat % d * fld s.cfg.time.align 17 0
    let from_ (c : Nat) : Int := (a : Int) + ((e : Int) - (c * d : Nat)) * p / d - (s.cfg.ym.fbAt n : Int)
    match cnt with
    | some c => some (shorter (from_ c) (w * p), (c + 1) % w)
    | none =>
      let off := from_ (e / d)
      let near := shorter off (max 1 p)
      some (near, ((e / d : Nat) + 1 + (off - near) / max 1 p).toNat % w)
  else none

/-- A selected edge of the source's house-sync port is a measurement (R144). -/
def houseMeasure (s : State) : State :=
  if s.alignSrc = 2 then s.measure (pulseOffset s)
  else if s.alignSrc = 3 then
    let w := max 1 (fld s.cfg.time.align 17 0)
    let s1 : State := { s with tim := { s.tim with
      wordAt := some s.elt, wordCnt := s.tim.wordCnt.map (fun c => (c + 1) % w) } }
    match s.tim.wordAt.bind (fun a => wordOffset s s.tim.wordCnt a s.elt) with
    | some (off, c) => ({ s1 with tim := { s1.tim with wordCnt := some c } } : State).measure off
    | none => s1
  else s

/-- HOUSE_EDGE: a filtered edge of a house-sync port. The selected edge measures where the port is the alignment
source, and its cuts are then rejected with reason 0x3 (R147); else it triggers the cuts that name the port. -/
def houseEdgeEffect (port : Nat) (rising : Bool) (errs : List LineBad) (s : State) : State :=
  if 2 ≤ port then s
  else
    let t : Tim := if port = 0 then { s.tim with hs0 := true } else { s.tim with hs1 := true }
    let s1 : State := { s with tim := t }
    if rising = bitOf s.cfg.time.align 26 then s1
    else
      let s1 : State := { s1 with tim :=
        if port = 0 then { s1.tim with edge0 := some s.elt } else { s1.tim with edge1 := some s.elt } }
      let source := decide (2 ≤ s.alignSrc) && decide (fld s.cfg.time.align 27 27 = port)
      let s2 := if source then houseMeasure s1 else s1
      ownTriggers ((s2.cutsBy (fun x => bitOf x.triggers port)).map (fun c => (c, !source))) errs s2

/-! ## The peer's time (R150) -/

/-- PEER_TIME_EXCHANGE: the SHADOW disciplines its DT to the LEAD's over lane 0. -/
def peerTimeExchangeEffect (off : Int) (s : State) : State :=
  let p := s.pair
  if p.role = .shadow ∧ p.lane0 ∧ (p.st = .forming ∨ p.st = .inSync ∨ p.st = .handover) then
    let bad := if 4 < off.natAbs then s.tim.peerBad + 1 else 0
    let s1 : State := { s with tim := { s.tim with offset := off, peerRef := true, peerBad := bad } }
    let s2 := if bad = 8 then s1.raiseCause .time 7 else s1
    s2.servo off
  else s

/-! ## The time trigger (R153) -/

/-- TIME_TRIGGER_FIRE: ELT has reached the target. -/
def timeTriggerFireEffect (s : State) : State :=
  if s.tim.arm ∧ s.tim.trig.toNat ≤ s.elt then
    let t : Tim := { s.tim with arm := false, late := s.tim.late || s.tim.trigPast, trigPast := false }
    trigOut 0 ({ s with tim := t }.raiseCause .time 6)
  else s

/-! ## A cycle with nothing waiting -/

/-- One rising edge of TIMECLK (R127), which is what passes when no command waits (log 40): the increment is added, a
carry out of LT waits at the front of the queue as LT_WRAP, and the moderation timers run on (R80). -/
def clockEdge (s : State) : State :=
  let t := s.tim.tick
  { s with tim := t, evc := s.evc.tick, pending := if t.carry then .ltWrap :: s.pending else s.pending }

/-! ## Forced steps (R134, R135) -/

/-- A scheduled commit changes the rate or the alignment source. -/
def retimes (a b : Cfg) : Bool :=
  decide (a.ym.rate ≠ b.ym.rate) || decide (a.time.align ≠ b.time.align)

/-- TIME_FORCE_STEP: `mode` 0 steps to the reference, 1 by `ns`; `lead` are the M and the step that the LEAD of a pair
returned for the command this one replays, which the SHADOW takes (R135, R150). The LEAD forwards its own. -/
def timeForceStepEffect (m mode : Nat) (ns : Int) (lead : Option (Nat × Int)) (s : State) : State :=
  cmdNow m 0x0304#16 s (fun q t =>
    let told : Option (Nat × Int) := if t.pair.role = .shadow then lead else none
    let measured : Bool := match t.tim.measAt with | some a => decide (t.elt ≤ a + 2000000000) | none => false
    if 1 < mode ∨ (mode = 1 ∧ 2 ^ 62 < ns.natAbs) then (reply .badParam, t)
    else if t.tim.forced.isSome then (reply .timeStepPending, t)
    else if mode = 0 ∧ told = none ∧ ¬ measured then (reply .timeNotLocked, t)
    else if t.sched.any (fun c => retimes t.cfg c.cfg) ∨ t.tim.st = .unset ∨ ¬ t.mirrored q then (reply .badState, t)
    else
      let (n, step) := told.getD (t.boundaryIn120, if mode = 0 then -t.tim.refOff else ns)
      let t1 : State := { t with tim := { t.tim with forced := some { m := n, ns := step } } }
      (okWith (le 4 (fnOf n).toNat ++ leInt 8 step),
       if t.paired ∧ t.pair.role = .lead then t1.emit (.stepForward n step) else t1))

-- The meanings of this family's rows: the effect, with the queue and the identity kept.

/-- HOUSE_EDGE (R145). -/
def execHouseEdge (port : Nat) (rising : Bool) (errs : List LineBad) (s : State) :
    Host.Outcome State Fault Refusal :=
  commit s (houseEdgeEffect port rising errs s)
/-- PEER_TIME_EXCHANGE (R150). -/
def execPeerTimeExchange (off : Int) (s : State) : Host.Outcome State Fault Refusal :=
  commit s (peerTimeExchangeEffect off s)
/-- TIME_TRIGGER_FIRE (R153). -/
def execTimeTriggerFire (s : State) : Host.Outcome State Fault Refusal :=
  commit s (timeTriggerFireEffect s)
/-- TIME_FORCE_STEP (R134). -/
def execTimeForceStep (m mode : Nat) (ns : Int) (lead : Option (Nat × Int)) (s : State) :
    Host.Outcome State Fault Refusal :=
  commit s (timeForceStepEffect m mode ns lead s)

end Sys2Proof.Machine
end

