-- ==== Sys2Proof/Machine/Commit.lean ====
section
/-! DEFINITION. Machine/Commit.lean: the rules of every object (R537), CFG_LOAD_IMAGE (R63, R64) and CFG_COMMIT (R61,
R93 to R97). -/
namespace Sys2Proof.Machine
open Sys2Proof

/-! ## The rules of the objects, by TYPE or opcode (R536, R537) -/

/-- The cut records' own rules, and theirs with the flows that stand and with the line port of a trigger, which at a
commit is in trigger-input mode, before it where the port is enabled (R118, R537). -/
def cutRules (t : State) (atCommit : Bool) (c : Cfg) : Except Status Unit := do
  let cs := c.ym.cuts
  need (decide (cs.length ≤ t.nCuts)) .variantUnsupported
  need (rising (cs.map (·.index)) && cs.all (fun k =>
    decide (k.index ≤ 63) && decide (fld k.triggers 15 5 = 0) && decide (fld k.lineMask 63 40 = 0)
      && (decide (k.trigLine = 0xFF#8) || decide (k.trigLine.toNat < 40))
      && decide (1 ≤ k.flows.length) && decide (k.flows.length ≤ 65536) && k.flows.all (fun f => decide (f < 65536)))) .badParam
  need (cs.all (fun k => (decide (k.trigLine = 0xFF#8) || decide (k.trigLine.toNat < t.nLine))
    && decide (k.lineMask.toNat < 2 ^ t.nLine))) .variantUnsupported
  need (cs.all (fun k => k.flows.all (fun f => match tfind? c.flow.flows f with
    | some r => decide (r.kind ≠ 1) && decide (r.kind ≠ 4)
    | none => true))) .badParam
  need (cs.all (fun k =>
    let r := tget c.line k.trigLine.toNat {}
    decide (k.trigLine = 0xFF#8) || decide (r.kind = 3) || (!atCommit && !bitOf r.mode 31))) .badParam

/-- The rules of one object of a configuration. -/
def objectRules (t : State) (atCommit : Bool) (c : Cfg) : Nat → Except Status Unit
  | 0x01 => do
    need (fixturesFit t.nFixtures c.stl.fixtures) .variantUnsupported
    need (rising (c.stl.fixtures.map (·.1)) && c.stl.fixtures.all (fun e => fixtureOk e.2)) .badParam
  | 0x02 => mapRules t.nPixels t.nFixtures c.map.models c.lamp.groups atCommit c.map.map
  | 0x03 => c.map.models.forM (fun e => modelRules c.map.curves atCommit e.1 e.2)
  | 0x04 => need (c.map.curves.all (fun e => curveOk e.1 e.2)) .badParam
  | 0x05 => need (c.lamp.bins.all binOk && rising (c.lamp.bins.map (·.1))) .badParam
  | 0x06 => do
    need (c.lamp.circuits.all circuitOk && c.lamp.groups.all groupOk) .badParam
    need (decide ((c.lamp.groups.map (fun e => e.2.members.length)).sum ≤ 65536)) .badParam
    need (groupsApart c.lamp.groups && (atCommit || groupsClear t.cfg.lamp.groups c.lamp.groups)) .lampGroupConflict
    need (diagnosed c.lamp.groups c.map.map ≤ 65536) .noResource
  | 0x07 => do
    tackRules t c.stl.tack
    if atCommit ∨ c.stl.graph.tasks ≠ [] then graphTackCross c.stl atCommit
    if atCommit ∨ (c.flow.flows ≠ [] ∧ c.stl.graph.tasks ≠ []) then packCross c
  | 0x08 => do
    graphRules t.nStalls c.stl.graph
    graphTackCross c.stl atCommit
    graphHwCross c atCommit
    if atCommit ∨ (c.flow.flows ≠ [] ∧ c.stl.tack.args ≠ []) then packCross c
  | 0x09 => do
    flowRules t.nEth t.nLine atCommit c.flow
    paramCross c atCommit
    cutThroughCross c
    if atCommit ∨ (c.stl.graph.tasks ≠ [] ∧ c.stl.tack.args ≠ []) then packCross c
    if c.stl.graph.tasks ≠ [] then graphHwCross c atCommit
  | 0x0A => layersRules t atCommit c.comp
  | 0x0B => cutRules t atCommit c
  | 0x0301 => alignRules c
  | 0x0302 => ptpRules t c
  | 0x0303 => servoRules c
  | 0x0440 => ethPortRules t c
  | 0x0441 => filterRules t c
  | 0x0442 => ringRules t c
  | 0x0460 => linePortRules t c
  | 0x0540 => rasterRules t.nHeads atCommit c
  | 0x0541 => tileRules t.nHeads atCommit c
  | 0x0604 => mapSetRules t c
  | 0x0704 => lampSetRules c
  | 0x0881 => coreRules c
  | 0x0A01 => pairRules t c
  | 0x0B01 => bridleRules c
  | 0x0C01 => calRules c
  | 0x0E01 => testRules c
  | _ => pure ()

/-- Every staging rule on the whole configuration, in ascending object id (R537). -/
def commitRules (t : State) (c : Cfg) : Except Status Unit :=
  [0x01, 0x02, 0x03, 0x04, 0x05, 0x06, 0x07, 0x08, 0x09, 0x0A, 0x0B, 0x0301, 0x0302, 0x0303, 0x0440, 0x0441, 0x0442,
   0x0460, 0x0540, 0x0541, 0x0604, 0x0704, 0x0881, 0x0A01, 0x0B01, 0x0C01, 0x0E01].forM (objectRules t true c)

/-! ## CFG_LOAD_IMAGE (R63, R64) -/

/-- The header of a patch image (R63). -/
def readHeader (bs : List Byte) : ImgHeader :=
  { magic := wordAt bs 0, major := num bs 4 2, minor := num bs 6 2, headerLen := num bs 8 2, sections := num bs 0x0A 2
    dirOffset := num bs 0x0C 4, imageLen := num bs 0x10 8, minVariant := wordAt bs 0x18, build := wordAt bs 0x1C
    id := BitVec.ofNat 128 (num bs 0x20 16), hash := BitVec.ofNat 384 (unbe (slice bs 0x30 48)), clean := clear bs 0x60 32 }

/-- A directory entry (R63). -/
def readEntry (bs : List Byte) : DirEntry :=
  { type := num bs 0 2, version := num bs 2 2, flags := wordAt bs 4, offset := num bs 8 8, length := num bs 0x10 8
    records := num bs 0x18 4, crc := wordAt bs 0x1C }

/-- The directory of an image. -/
def readDir (bs : List Byte) : List DirEntry :=
  let h := readHeader bs
  (chop 32 h.sections (bs.drop h.dirOffset)).map readEntry

/-- The image with IMAGE_HASH as 0, of which IMAGE_HASH is the SHA-384. -/
def imageHash (bs : List Byte) : Digest := Config.sha384 (bs.take 0x30 ++ List.replicate 48 0 ++ bs.drop 0x60)

/-- A section is understood. -/
def DirEntry.known (x : DirEntry) : Bool := decide (1 ≤ x.type) && decide (x.type ≤ 0x0C) && decide (x.version = 1)

/-- The fields of GLB_VARIANT (R1). -/
def variantFields : List (Nat × Nat) := [(23, 20), (19, 16), (15, 12), (11, 8), (7, 5), (4, 0)]

/-- An image fits a variant (R64 step 4). -/
def variantFits (device least : Word) : Bool :=
  decide (fld least 31 24 = 0) && variantFields.all (fun f => decide (fld least f.1 f.2 ≤ fld device f.1 f.2))

/-- The parts of an image that must lie apart: header, directory, sections. -/
def imageParts (h : ImgHeader) (ds : List DirEntry) : List (Nat × Nat) :=
  (0, 128) :: (h.dirOffset, 32 * ds.length) :: ds.map (fun k => (k.offset, k.length))

/-- Byte ranges, offset and length, lie apart. -/
def rangesApart : List (Nat × Nat) → Bool
  | [] => true
  | (a, n) :: r => r.all (fun p => decide (a + n ≤ p.1) || decide (p.1 + p.2 ≤ a)) && rangesApart r

/-- Steps 1 to 7 of R64 on the bytes supplied; `len` is the image length that the command states. DESIGN CHOICE: a
reserved byte that is not 0, in an image of any FORMAT_MINOR, answers IMG_FORMAT, and a SECTION_COUNT outside 1 to 64, a
misaligned DIR_OFFSET or a reserved FLAGS bit IMG_LAYOUT: R64 names no status for them (log 59). -/
def checkContainer (bs : List Byte) (device : Word) (len : Nat) : Except Status Unit := do
  let h := readHeader bs
  let ds := readDir bs
  need (decide (h.magic = 0x49505848#32)) .imgBadMagic
  need (decide (h.major = 3) && decide (h.headerLen = 128) && h.clean) .imgFormat
  need (decide (h.imageLen = len) && decide (h.imageLen = bs.length) && decide (h.hash = imageHash bs)) .imgHash
  need (variantFits device h.minVariant) .imgVariant
  need (decide (1 ≤ h.sections) && decide (h.sections ≤ 64) && decide (h.dirOffset % 64 = 0)
    && ds.all (fun k => decide (k.offset % 64 = 0) && decide (k.flags.toNat < 2))
    && (imageParts h ds).all (fun p => decide (p.1 + p.2 ≤ h.imageLen))
    && rangesApart (imageParts h ds) && nodupB (ds.map (·.type))) .imgLayout
  need (ds.all (fun k => decide (crc32c (slice bs k.offset k.length) = k.crc))) .imgSectionCrc
  need (ds.all (fun k => k.known || decide (k.flags = 0))) .imgUnknownRequired

/-- The contents of a section that is understood. RECORD_COUNT counts the cuts; elsewhere the section itself says how
many records it has, and RECORD_COUNT is not compared with it (log 59). -/
def readBody (bs : List Byte) (k : DirEntry) : Except Status SecBody :=
  let b := slice bs k.offset k.length
  match k.type with
  | 0x01 => (readFixtures b).map .fixtures
  | 0x02 => (readMap b).map .pixels
  | 0x03 => (readModels b).map .models
  | 0x04 => (readCurves b).map .curves
  | 0x05 => (readBins b).map .bins
  | 0x06 => (readCircuits b).map (fun x => .circuits x.1 x.2)
  | 0x07 => (readTack b).map .tack
  | 0x08 => (readGraph b).map .graph
  | 0x09 => (readFlows b).map .flows
  | 0x0A => (readLayers b).map .layers
  | 0x0B => (readCuts k.records b).map .cuts
  | _ => .ok .strings

/-- A section's contents replace the object's. -/
def putBody (c : Cfg) : SecBody → Cfg
  | .fixtures f => { c with stl := { c.stl with fixtures := f } }
  | .pixels p => { c with map := { c.map with map := p } }
  | .models m => { c with map := { c.map with models := m } }
  | .curves k => { c with map := { c.map with curves := k } }
  | .bins b => { c with lamp := { c.lamp with bins := b } }
  | .circuits k g => { c with lamp := { c.lamp with circuits := k, groups := g } }
  | .tack x => { c with stl := { c.stl with tack := x } }
  | .graph g => { c with stl := { c.stl with graph := g } }
  | .flows f => { c with flow := f }
  | .layers k => { c with comp := k }
  | .cuts k => { c with ym := { c.ym with cuts := k } }
  | .strings => c

/-- The still that layer 8 of a layers object names. -/
def protectedStill (c : CompCfg) : Option Still := (protectedIndex c).bind (tfind? c.stills)

/-- An image that needs a session holding SAFETY: it changes the protected layer or its still, or holds a group record
(R176, R233). -/
def imageNeedsSafety (old new : Cfg) (bs : List SecBody) : Bool :=
  decide (layerOf old.comp 8 ≠ layerOf new.comp 8) || decide (protectedStill old.comp ≠ protectedStill new.comp)
    || bs.any (fun b => match b with | .circuits _ g => !g.isEmpty | _ => false)

/-- Step 8 of R64: the sections put in place and validated by their chapters' rules. -/
def stageImage (t : State) (id : Nat) (bs : List Byte) (safety : Bool) (c : Cfg) : Except Status Cfg := do
  let ks := (readDir bs).filter DirEntry.known
  let xs ← ks.mapM (readBody bs)
  let c0 := xs.foldl putBody c
  let c' ← if 7 ∈ ks.map (·.type) then (placeTack t c0.stl.tack).map (fun x => { c0 with stl := { c0.stl with tack := x } })
    else pure c0
  need (!imageNeedsSafety c c' xs || safety) .privDenied
  ((List.range 12).filter (fun n => decide (n ∈ ks.map (·.type)))).forM (objectRules t false c')
  need (modelSlots t id c' && curveSlots t id c' && binSlots t id c') .noResource
  pure c'

/-- The objects that an image carries. -/
def imageObjects (bs : List Byte) : List Nat :=
  (((readDir bs).filter (fun k => k.known && decide (k.type ≠ 12))).map (fun k => k.type * 65536))

/-- CFG_LOAD_IMAGE: `len` is the payload's image length. The image comes by descriptors, or stands in the staging object
`obj` (R63; log 33); the answer counts the sections staged. -/
def cfgLoadImageEffect (m len obj : Nat) (s : State) : State :=
  stageCmd m 0x0104#16 (((s.bulk m obj).map imageObjects).getD []) s (fun q t c => do
    let bs := (t.bulk m obj).getD []
    checkContainer bs t.vcode len
    let c' ← stageImage t q.session.toNat bs (match t.session? q.session.toNat with | some k => bitOf k.granted 3 | none => false) c
    pure (c', le 4 ((readDir bs).filter DirEntry.known).length)) noCheck (some obj)

/-! ## CFG_COMMIT (R61, R93 to R97) -/

/-- The domains that a configuration needs and that no earlier commit switches on (R95). -/
def domainsToWake (t : State) (c : Cfg) : List Nat :=
  (List.range 16).filter (fun d => needsDomain c d && decide (t.domainOf d ≠ 1)
    && t.sched.all (fun x => !needsDomain x.cfg d))

/-- A commit completed at tc with k domains to wake meets LP(M - 1) (R94, R95). -/
def meetsLatch (t : State) (tc k M : Nat) : Bool :=
  decide (tc + k * 200000 + 120000 ≤ t.cfg.ym.fbAt M)
    && (rasterLatch t.cfg (M - 1)).all (fun l => decide (((tc + k * 200000 : Nat) : Rat) ≤ l))

/-- EFFECTIVE_FN as a full count (R95, R96). -/
def effectiveFrame (t : State) (c : Cfg) (tc : Nat) : Nat :=
  let n := t.cfg.ym.frameAt tc
  let k := (domainsToWake t c).length
  let M := (((List.range 64).map (· + n + 1)).find? (meetsLatch t tc k)).getD (n + 65)
  match t.sched.getLast? with | some x => max M x.frame | none => M

/-- The first refusal: the device's own, then the peer's (R102, R113). -/
def refusal (t : State) (c : Cfg) (peer : PeerCommit) : Option Refuse :=
  match admission c t.pool with
  | some r => some r
  | none => if t.paired then
      peer.refuse.map (fun (k, i, d, cap) => { reason := 9, kind := k, index := i, demand := d, cap := cap })
    else none

/-- The payload of a refused commit. -/
def refusedBytes (base : Nat) (r : Refuse) : List Byte :=
  le 4 0 ++ le 4 base ++ le 2 r.reason ++ le 2 r.kind ++ le 4 r.index ++ le 8 r.demand ++ le 8 r.cap
    ++ List.replicate 48 0

/-- Step 7 of R61: the configuration is scheduled for frame M, the response written, the transaction closed. -/
def handOver (t : State) (id : Nat) (x : Session) (tx : Txn) (tc M : Nat) : Reply × State :=
  let late := decide (t.cfg.ym.frameAt tc + 1 < M)
  let g := t.newestGen + 1
  let t1 := dropPrimed t.nextGraph { t with
    sched := t.sched ++ [{ frame := M, gen := g, cfg := tx.cfg, changed := tx.changed }]
    ym := { t.ym with pendFlag := late } }
  ({ status := .ok, pending := late
     data := le 4 (fnOf M).toNat ++ le 4 g ++ le 24 0 ++ be 48 (t.configHash tx.cfg).toNat },
   t1.setSession id { x with txn := none, committed := true })

/-- The frame at which a commit completed now takes effect: the SHADOW's is the LEAD's, which takes the later completion
(R97). -/
def commitFrame (t : State) (c : Cfg) (peer : PeerCommit) : Nat :=
  if t.paired then
    (if t.pair.role = .shadow then peer.frame else effectiveFrame t c (max t.elt peer.doneNs))
  else effectiveFrame t c t.elt

/-- CFG_COMMIT: `peer` counts on a formed pair only. The Bridle's level comes first (R98), and the transaction, which
stays open, has then seen a command (R60). -/
def cfgCommitEffect (m : Nat) (peer : PeerCommit) (s : State) : State :=
  cmdNow m 0x0102#16 s (fun q t =>
    let id := q.session.toNat
    let fail (base : Nat) (st : Status) : Reply := { status := st, data := commitFailed base }
    if 3 ≤ t.brd.level then
      (fail (t.baseOf id) .bridleLevel, match t.useTxn q with | (.ok _, t') => t' | _ => t)
    else if !t.mirrored q then (fail (t.baseOf id) .badState, t)
    else match t.useTxn q with
    | (.error e, t') => (fail (t.baseOf id) e, t')
    | (.ok (x, tx), t') =>
      if tx.base ≠ t.newestGen then (fail tx.base .cfgStaleBase, t')
      else if 2 ≤ t.sched.length then (fail tx.base .noResource, t')
      else match commitRules t tx.cfg with
      | .error e => (fail tx.base e, t')
      | .ok _ =>
        if t.paired ∧ t.configHash tx.cfg ≠ peer.hash then (fail tx.base .cfgHashMismatch, t')
        else match refusal t tx.cfg peer with
        | some r => ({ status := .admissionRefused, data := refusedBytes tx.base r }, t')
        | none => handOver t' id x tx (if t.paired then max t.elt peer.doneNs else t.elt) (commitFrame t tx.cfg peer))

/-! ## Queries (R32, R66; log 9) -/

/-- What a query of an object answers, as far as the window holds it. -/
def objectReply (s : State) (c : Cfg) (id : Nat) : Reply :=
  match objectBytes c id with
  | none => reply .badParam
  | some b => if s.hasObject id then okWith (b.take 4064) else reply .variantUnsupported

/-- QUERY_CONFIG: the effective configuration of an object. -/
def queryConfigEffect (m : Nat) (id : Word) (s : State) : State :=
  cmdRead m 0x0201#16 s (fun _ t => objectReply t t.cfg id.toNat)

/-- QUERY_STAGED: the same of the session's transaction. -/
def queryStagedEffect (m : Nat) (id : Word) (s : State) : State :=
  cmdRead m 0x0202#16 s (fun q t =>
    match (t.session? q.session.toNat).bind (·.txn) with
    | some tx => objectReply t tx.cfg id.toNat
    | none => reply .cfgNoTxn)

/-- QUERY_TELEMETRY: blocks are named by their MiB in BAR0 (R31). -/
def queryTelemetryEffect (m block : Nat) (s : State) : State :=
  cmdNow m 0x0204#16 s (fun _ t =>
    if 16 < block then (reply .badParam, t)
    else (okWith ((Config.telemetry block t.freeCtr).take 4064), t.takeFree))

/-- The counters of a block: its keys. -/
def blockKeys (block : Nat) : Nat × Nat :=
  if block = 4 then (0x100000, 0x200000) else if block = 5 then (0x400000, 0x500000)
  else if block = 6 then (0x200000, 0x300000) else if block = 7 then (0x300000, 0x400000)
  else if block = 8 then (0x500000, 0x600000) else if block = 9 then (0x600000, 0x700000)
  else if block = 10 then (0x700000, 0x800000) else if block = 11 then (0x800000, 0x900000)
  else if block = 12 then (0x900000, 0xA00000) else if block = 13 then (0xA00000, 0xB00000)
  else if block = 15 then (0xB00000, 0xC00000) else (0, 0)

/-- QUERY_COUNTERS: the block's counters that are not 0 as they stand, each its number within the block and its value. -/
def queryCountersEffect (m block : Nat) (s : State) : State :=
  cmdRead m 0x0205#16 s (fun _ t =>
    if 16 < block then reply .badParam
    else
      let k := blockKeys block
      let es := t.cnt.filter (fun e => decide (k.1 ≤ e.1) && decide (e.1 < k.2) && decide (e.2 ≠ 0))
      okWith ((es.take 338).flatMap (fun e => le 4 (e.1 - k.1) ++ le 8 e.2)))

-- The meanings of this family's rows: the effect, with the queue and the identity kept.

/-- CFG_COMMIT (R61). -/
def execCfgCommit (m : Nat) (peer : PeerCommit) (s : State) : Host.Outcome State Fault Refusal :=
  commit s (cfgCommitEffect m peer s)
/-- CFG_LOAD_IMAGE (R64). -/
def execCfgLoadImage (m len obj : Nat) (s : State) : Host.Outcome State Fault Refusal :=
  commit s (cfgLoadImageEffect m len obj s)
/-- QUERY_CONFIG (R32). -/
def execQueryConfig (m : Nat) (id : Word) (s : State) : Host.Outcome State Fault Refusal :=
  commit s (queryConfigEffect m id s)
/-- QUERY_STAGED (R32). -/
def execQueryStaged (m : Nat) (id : Word) (s : State) : Host.Outcome State Fault Refusal :=
  commit s (queryStagedEffect m id s)
/-- QUERY_TELEMETRY (R66). -/
def execQueryTelemetry (m block : Nat) (s : State) : Host.Outcome State Fault Refusal :=
  commit s (queryTelemetryEffect m block s)
/-- QUERY_COUNTERS (R66). -/
def execQueryCounters (m block : Nat) (s : State) : Host.Outcome State Fault Refusal :=
  commit s (queryCountersEffect m block s)

end Sys2Proof.Machine
end

