-- ==== Sys2Proof/Machine/ComposeRun.lean ====
section
/-! DEFINITION. Machine/ComposeRun.lean: the composition of a content (R173 to R175, R180 to R182). -/
namespace Sys2Proof.Machine
open Sys2Proof

/-- The opacity value of a layer for content n: a bound one from the bank of content n - 1 (R173). -/
def layerOpacity (s : State) (n l : Nat) : Nat :=
  let r := layerOf s.cfg.comp l
  if bitOf r.opac 31 then (paramSlot s (n - 1) (fld r.opacSrc 22 6) (fld r.opacSrc 5 0)).toNat else fld r.opac 15 0

/-- The sources of the enabled layers for content n at its latch (R160, R173, R175): from Bridle level 2 upward
best-effort layers are skipped. -/
def snapLayers (s : State) (n : Nat) : List Snap :=
  ((List.range 9).filter (fun l => (layerOf s.cfg.comp l).on)).map (fun l =>
    { layer := l, buf := (s.comp.layer l).latched
      skip := decide (2 ≤ s.brd.level) && (layerOf s.cfg.comp l).bestEffort && decide (l ≠ 8)
      opac := layerOpacity s n l })

/-- A content's composition begins in canvas buffer n mod 3 (R18); `late` says that its window had opened before. -/
def beginComposition (w : CompWait) (late : Bool) (s : State) : State :=
  { s with comp := { s.comp with
      composing := some w.content, cfg := w.cfg, snaps := w.snaps, overrun := late, rowsDone := 0
      canvas := tset s.comp.canvas (w.content % 3) { content := some w.content } } }

/-- At FB(n - 1) the composition of content n begins, or waits while one still runs, which has then run past its
boundary (R181); a skipped layer is shed work (R175). -/
def startComposition (n : Nat) (s : State) : State :=
  let late := s.comp.composing.isSome
  let s1 := if late then s.raiseCause .comp 9 else s
  if !canvasOn s1.cfg.comp then s1
  else
    let w : CompWait := { content := n, cfg := s1.cfg.comp, snaps := snapLayers s1 n }
    let s2 := if w.snaps.any (fun x => x.skip) then s1.shed else s1
    if late then { s2 with comp := { s2.comp with queue := s2.comp.queue ++ [w] } } else beginComposition w false s2

/-- The stripe that a composition writes next: its first row and its rows (R180). -/
def Comp.stripe (c : Comp) : Nat × Nat := (c.rowsDone, min 64 (canvasH c.cfg - c.rowsDone))

/-- STRIPE_DONE: the next stripe is visible, ROWS_DONE advances and the STRIPE task of its content completes (R180).
`lines` and `banks` are the errors that its sources met: each raises DATA_ERROR and fails FAULT_OK (R182). -/
def stripeDoneEffect (lines : List LineErr) (banks : List BankErr) (s : State) : State :=
  let bad := lines.map LayerErr.line ++ banks.map LayerErr.bank
  match s.comp.composing with
  | none => s
  | some n =>
    let (y0, k) := s.comp.stripe
    if k = 0 then s
    else
      let c := s.comp
      let opac (l : Nat) : Nat := match c.snaps.find? (fun x => x.layer = l) with | some x => x.opac | none => 65535
      let old := tget c.canvas (n % 3) {}
      let new := composeRows c.cfg c c.snaps opac bad y0 k
      let s1 : State := { s with comp := { c with
        rowsDone := y0 + k, canvas := tset c.canvas (n % 3) { old with words := old.words ++ new } } }
      let s2 := if bad = [] then s1 else (s1.eccAll (bad.map LayerErr.hit)).raiseCause .comp 12
      (hwComplete (y0 / 64) n s2).pauseAt 17 640

/-- A LATCHED buffer that its layer has left and no waiting composition reads becomes FREE (R158). -/
def freeRead (s : State) : State :=
  let held (l b : Nat) : Bool := s.comp.queue.any (fun w => w.snaps.any (fun x => decide (x.layer = l) && decide (x.buf = some b)))
  { s with comp := (List.range 8).foldl (fun (c : Comp) l =>
      let r := c.layer l
      c.setLayer l (r.freeAll ((r.bufsIn (fun b => decide (b.st = .latched))).filter (fun b =>
        decide (r.latched ≠ some b) && !held l b)))) s.comp }

/-- COMPOSITION_END: the canvas is whole; the next composition begins if one waits (R158, R181). -/
def compositionEndEffect (s : State) : State :=
  if s.comp.composing.isSome ∧ canvasH s.comp.cfg ≤ s.comp.rowsDone then
    let s1 := freeRead { s with comp := { s.comp with composing := none, snaps := [] } }
    match s1.comp.queue with
    | w :: rest => beginComposition w true { s1 with comp := { s1.comp with queue := rest } }
    | [] => s1
  else s

-- The meanings of this family's rows: the effect, with the queue and the identity kept.

/-- STRIPE_DONE (R180). -/
def execStripeDone (lines : List LineErr) (banks : List BankErr) (s : State) :
    Host.Outcome State Fault Refusal :=
  commit s (stripeDoneEffect lines banks s)
/-- COMPOSITION_END (R181). -/
def execCompositionEnd (s : State) : Host.Outcome State Fault Refusal :=
  commit s (compositionEndEffect s)

end Sys2Proof.Machine
end

