-- ==== Sys2Proof/Machine/Event.lean ====
section
/-! DEFINITION. Machine/Event.lean: the commands of the event controller (chapter 03). -/
namespace Sys2Proof.Machine
open Sys2Proof

/-- The path a target claims and completes on (chapter 03, "Targets, priorities and thresholds"). -/
def ownPath : Nat → Option Path
  | 0 => some .pcie | 1 => some .groom | 2 => some .peer | 3 => some .debug
  | _ => none

/-- EVC_CLAIM's layout: VALID, PRIORITY, SOURCE (R85). -/
def claimWord (n : Nat) (prio : BitVec 4) : Word :=
  BitVec.ofNat 32 (0x80000000 + prio.toNat * 65536 + n % 256)

/-- The sources active for t with what they were claimed at. -/
def Evc.actives (e : Evc) (t : Nat) : List (Nat × Pend) :=
  e.src.filterMap (fun x => (tfind? x.2.act t).map (fun p => (x.1, p)))

/-- Source n claimed for t at the priority it holds (R74). -/
def Evc.claim (e : Evc) (t n : Nat) (p : Pend) : Evc :=
  e.change n (fun r => { r with act := tset r.act t p })

/-- A claim read among the presentable sources that satisfy q (R74, R83). -/
def claimRead (p : Path) (own : Bool) (t : Nat) (q : Pend → Bool) (s : State) : State :=
  if own then
    match bestOf ((s.evc.presentable t).filter (fun x => q x.2)) with
    | some (n, pd) => ({ s with evc := s.evc.claim t n pd }).returns p (claimWord n pd.prio)
    | none => s.returns p 0
  else
    match bestOf ((s.evc.actives t).filter (fun x => q x.2)) with
    | some (n, pd) => s.returns p (claimWord n pd.prio)
    | none => s.returns p 0

/-- EVC_CLAIM (R74). -/
def evcClaimEffect (p : Path) (t : Nat) (s : State) : State :=
  if t < 4 then claimRead p (decide (ownPath t = some p)) t (fun _ => true) s else s

/-- EVC_VCLAIM (R83). -/
def evcVclaimEffect (p : Path) (v : Nat) (s : State) : State :=
  if v < 32 then claimRead p (decide (p = .pcie)) 0 (fun x => decide (x.vec.toNat = v)) s else s

/-- The vectors that still have a presented source are sent again after a host completion (R82). -/
def Evc.resend (old e : Evc) : Evc :=
  let held := (e.tgtAt 0).held
  let again := (e.presentable 0).filter (fun x =>
    x.1 ∉ held ∧ ((old.presentable 0).any (fun y => y.1 = x.1)))
  if e.linkL1 || e.d3hot then e
  else (dedup (again.map (·.2.vec.toNat))).foldl Evc.sendVec e

/-- EVC_COMPLETE (R76): ends the active state on the target's own path; a source that is not active counts in
BAD_COMPLETE; another path's write is discarded and recorded. -/
def evcCompleteEffect (p : Path) (t n : Nat) (s : State) : State :=
  if t < 4 then
    if ownPath t = some p then
      match tfind? (s.evc.srcAt n).act t with
      | some _ =>
        let e := s.evc.change n (fun r => { r with act := tdel r.act t })
        { s with evc := if t = 0 then Evc.resend s.evc e else e }
      | none => { s with evc := s.evc.setTgt t { s.evc.tgtAt t with bad := satInc (s.evc.tgtAt t).bad } }
    else s.accessError p 2 (0x2F0004 + t * 0x100)
  else s

/-- The enable bits a path may write (R79). -/
def enableMask : Path → BitVec 4
  | .groom => 0xF | .debug => 0x9 | _ => 0x1

/-- EVC_SRC_CFG written (R77 to R79): VECTOR, PRIORITY and the enables the path may write; the enables take
effect by EVC_ENABLE_APPLY. -/
def evcSrcCfgWriteEffect (p : Path) (n : Nat) (v : Word) (s : State) : State :=
  if n < 256 then
    let m := enableMask p
    { s with evc := s.evc.change n (fun r =>
        { r with vector := BitVec.ofNat 5 (fld v 12 8), priority := BitVec.ofNat 4 (fld v 7 4)
                 enable := (r.enable &&& ~~~m) ||| (BitVec.ofNat 4 (fld v 3 0) &&& m) }) }
  else s

/-- A written enable takes effect (R78). -/
def evcEnableApplyEffect (n t : Nat) (s : State) : State :=
  if n < 256 ∧ t < 4 then
    { s with evc := s.evc.change n (fun r =>
        { r with effective := (r.effective &&& ~~~(bitMask 4 t)) ||| (r.enable &&& bitMask 4 t) }) }
  else s

/-- EVC_SRC_COUNT read (R70): the count is returned and cleared. -/
def evcSrcCountReadEffect (p : Path) (n : Nat) (s : State) : State :=
  if n < 256 then
    ({ s with evc := s.evc.setSrc n { s.evc.srcAt n with count := 0 } }).returns p
      ((s.evc.srcAt n).count.setWidth 32)
  else s

/-- EVC_TGT_STATUS's value (R85). -/
def Evc.tgtStatus (e : Evc) (t : Nat) : Word :=
  BitVec.ofNat 32 ((e.tgtAt t).bad.toNat * 16777216 + e.threshold t * 1048576
    + ((dedup ((e.actives t).map (·.2.prio.toNat))).map (fun n => 2 ^ n)).sum)

/-- EVC_TGT_STATUS read (R76): BAD_COMPLETE is cleared. -/
def evcTgtStatusReadEffect (p : Path) (t : Nat) (s : State) : State :=
  if t < 4 then
    ({ s with evc := s.evc.setTgt t { s.evc.tgtAt t with bad := 0 } }).returns p (s.evc.tgtStatus t)
  else s

/-- EVC_SW written (R85): CLEAR bits clear, LEVEL bits set, and a bit in both is left set. -/
def evcSwWriteEffect (v : Word) (s : State) : State :=
  let set := v.setWidth 16
  let clr := BitVec.ofNat 16 (fld v 31 16)
  let s1 : State := { s with evc := { s.evc with sw := (s.evc.sw &&& ~~~clr) ||| set } }
  (List.range 16).foldl (fun s i =>
    if set.getLsbD i then s.occur (240 + i)
    else if clr.getLsbD i then { s with evc := s.evc.level (240 + i) false } else s) s1

/-- The moderation timer of a target has run for MOD_TIMER_US (R80). -/
def modTimerExpireEffect (t : Nat) (s : State) : State :=
  let g := s.evc.tgtAt t
  if t < 4 ∧ g.running = true ∧ g.modUs ≠ 0 ∧ 1000 * g.modUs.toNat ≤ g.age then { s with evc := s.evc.release t } else s

/-- A vector is unmasked (R82): a set pending bit sends the message. -/
def msixUnmaskEffect (v : Nat) (s : State) : State :=
  if v < 32 then
    let r := s.evc.vecAt v
    { s with evc := { s.evc with
        vec := tset s.evc.vec v { r with mask := false, pending := false }
        sent := if r.pending then .msix v :: s.evc.sent else s.evc.sent } }
  else s

/-- The link is in L0 and the function in D0 again: what a release found asleep is delivered (R81). -/
def pcieLinkL0ReturnEffect (s : State) : State :=
  let e : Evc := { s.evc with linkL1 := false, d3hot := false, wakeHeld := [] }
  { s with evc := e.deliver 0 (s.evc.wakeHeld.filter (fun n => (e.presentable 0).any (fun x => x.1 = n))) }

/-- The link enters L1, or the function D3hot (R37, R81). -/
def pcieL1OrD3hotEntryEffect (d3 : Bool) (s : State) : State :=
  { s with evc := if d3 then { s.evc with d3hot := true } else { s.evc with linkL1 := true } }

/-- Groom reads the level of every source it has enabled (R84). -/
def groomEventPollEffect (s : State) : State :=
  { s with evc := { s.evc with
      polled := (s.evc.src.filter (fun x => x.2.level && bitOf x.2.enable 1)).map (·.1) } }

-- The meanings of this family's rows: the effect, with the queue and the identity kept.

/-- EVC_CLAIM (R74). -/
def execEvcClaim (p : Path) (t : Nat) (s : State) : Host.Outcome State Fault Refusal :=
  commit s (evcClaimEffect p t s)
/-- EVC_VCLAIM (R83). -/
def execEvcVclaim (p : Path) (v : Nat) (s : State) : Host.Outcome State Fault Refusal :=
  commit s (evcVclaimEffect p v s)
/-- EVC_COMPLETE (R76). -/
def execEvcComplete (p : Path) (t n : Nat) (s : State) : Host.Outcome State Fault Refusal :=
  commit s (evcCompleteEffect p t n s)
/-- EVC_SRC_CFG_WRITE (R79). -/
def execEvcSrcCfgWrite (p : Path) (n : Nat) (v : Word) (s : State) : Host.Outcome State Fault Refusal :=
  commit s (evcSrcCfgWriteEffect p n v s)
/-- EVC_ENABLE_APPLY (R78). -/
def execEvcEnableApply (n t : Nat) (s : State) : Host.Outcome State Fault Refusal :=
  commit s (evcEnableApplyEffect n t s)
/-- EVC_SRC_COUNT_READ (R70). -/
def execEvcSrcCountRead (p : Path) (n : Nat) (s : State) : Host.Outcome State Fault Refusal :=
  commit s (evcSrcCountReadEffect p n s)
/-- EVC_TGT_STATUS_READ (R76). -/
def execEvcTgtStatusRead (p : Path) (t : Nat) (s : State) : Host.Outcome State Fault Refusal :=
  commit s (evcTgtStatusReadEffect p t s)
/-- EVC_SW_WRITE (R85). -/
def execEvcSwWrite (v : Word) (s : State) : Host.Outcome State Fault Refusal :=
  commit s (evcSwWriteEffect v s)
/-- MOD_TIMER_EXPIRE (R80). -/
def execModTimerExpire (t : Nat) (s : State) : Host.Outcome State Fault Refusal :=
  commit s (modTimerExpireEffect t s)
/-- MSIX_UNMASK (R82). -/
def execMsixUnmask (v : Nat) (s : State) : Host.Outcome State Fault Refusal :=
  commit s (msixUnmaskEffect v s)
/-- PCIE_LINK_L0_RETURN (R81). -/
def execPcieLinkL0Return (s : State) : Host.Outcome State Fault Refusal :=
  commit s (pcieLinkL0ReturnEffect s)
/-- GROOM_EVENT_POLL (R84). -/
def execGroomEventPoll (s : State) : Host.Outcome State Fault Refusal :=
  commit s (groomEventPollEffect s)
/-- PCIE_L1_OR_D3HOT_ENTRY (R81). -/
def execPcieL1OrD3hotEntry (d3 : Bool) (s : State) : Host.Outcome State Fault Refusal :=
  commit s (pcieL1OrD3hotEntryEffect d3 s)

end Sys2Proof.Machine
end

