-- ==== Sys2Proof/Machine/Lamps.lean ====
section
/-! DEFINITION. Machine/Lamps.lean: what the lamp logic does at a boundary (chapter 08): the effects of a commit, the
applied set, statuses, resets, groups, derating and circuit caps, and the values fixed for a content. -/
namespace Sys2Proof.Machine
open Sys2Proof

/-! ## Places -/

/-- The pixel at a position of a flow. -/
def pixelAtPos (c : Cfg) (f pos : Nat) : Option Nat :=
  c.map.map.recs.findIdx? (fun r => decide (r.flow = f) && decide (r.offset = pos))

/-- The record of a pixel. -/
def recAt (c : Cfg) (p : Nat) : Option PixRec := c.map.map.recs[p]?

/-- The fixtures with pixels and the model of the first record of each: the records of a fixture lie together
(R186). -/
def fixtureModels : List PixRec → List (Nat × Nat)
  | [] => []
  | [r] => [(r.fixture, r.model)]
  | a :: b :: r => if a.fixture = b.fixture then (a.fixture, a.model) :: (fixtureModels (b :: r)).drop 1
      else (a.fixture, a.model) :: fixtureModels (b :: r)

/-- A diagnosed lamp (R223): with PROOF_EN, or in a group, whose record is the authority on membership (R227). -/
def isDiagnosed (c : Cfg) (p : Nat) : Bool :=
  match recAt c p with
  | some r => r.proofEn || inGroup c.lamp.groups p
  | none => false

/-! ## Commits (R213, R217, R218, R221, R223, R227, R228) -/

/-- A group's membership agrees (R227): the list and the records that name the group are the same, every member lies in
the map on a Yardline flow. -/
def memberOk (c : Cfg) (g : Nat) (x : Group) : Bool :=
  let recs := c.map.map.recs
  decide (((List.range recs.length).filter (fun p => ((recs[p]?).map (·.group)) = some g)) = x.members)
    && x.members.all (fun p => match recs[p]? with
      | some r => (match tfind? c.flow.flows r.flow with
        | some f => decide (f.kind = 0)
        | none => false)
      | none => false)

/-- A group turns OFF: GROUP_OFF, logged at severity ERROR (R228). -/
def groupOff (g : Nat) (cause : OffCause) (s : State) : State :=
  let x := s.lamp.grpAt g
  if x.off then s
  else
    let s1 : State := { s with lamp := { s.lamp with grp := tset s.lamp.grp g { x with off := true, cause := cause } } }
    (s1.raiseCause .lamp 0).logEvent 4 88 0 g

/-- MEMBERSHIP of a group at an effective boundary (R227). -/
def membership (g : Nat) (x : Group) (s : State) : State :=
  let ok := memberOk s.cfg g x
  let s1 : State := { s with lamp := { s.lamp with grp := tset s.lamp.grp g { s.lamp.grpAt g with member := !ok } } }
  if ok then s1 else groupOff g .none (s1.raiseCause .lamp 7)

/-- What a commit that took effect at FB(m) changes: `old` is the configuration before. -/
def lampCommit (old : Cfg) (m : Nat) (s : State) : State :=
  let c := s.cfg
  let place (k : Cfg) (p : Nat) : Option (Nat × Nat) := (recAt k p).map (fun r => (r.flow, r.offset))
  let pix := (s.lamp.pix.filter (fun e => (recAt c e.1).isSome)).map (fun e =>
    if place old e.1 = place c e.1 then e else (e.1, { e.2 with status := 0, current := 0 }))
  let grp : Tab GrpLamp := c.lamp.groups.map (fun e =>
    match tfind? old.lamp.groups e.1 with
    | none => (e.1, { since := m + 1 })
    | some g => (e.1, if g = e.2 then s.lamp.grpAt e.1 else { s.lamp.grpAt e.1 with since := m + 1 }))
  let inMap (k : Cfg) (f : Nat) : Bool := k.map.map.recs.any (fun r => decide (r.fixture = f))
  let fix := s.lamp.fix.filter (fun e => inMap c e.1)
  let circ := (s.lamp.circ.filter (fun e => (tfind? c.lamp.circuits e.1).isSome))
  let s1 : State := { s with lamp := { s.lamp with pix := pix, grp := grp, fix := fix, circ := circ } }
  c.lamp.groups.foldl (fun s e => membership e.1 e.2 s) s1

/-! ## The applied set (R214) -/

/-- The set applied at an instant, and the lamp logic without it. The SHADOW applies exactly the LEAD's set, and nothing
where it lacks it. -/
def takeSet (fbNs : Nat) (shadow : Bool) (l : Lamp) : List LampAcc × Lamp :=
  if shadow then
    match l.setNumber with
    | some n =>
      let set := l.acc.filter (fun a => a.number ≤ n)
      let whole : Bool := match l.applied with
        | some k => decide (set.map (·.number) = (List.range (n - k)).map (fun i => k + 1 + i))
        | none => true
      if whole then
        (set, { l with
          acc := l.acc.filter (fun a => n < a.number), applied := some n, setNumber := none
          own := l.own.filter (fun a => fbNs ≤ a.atNs + 100000) })
      else ([], { l with setNumber := none })
    | none => ([], l)
  else
    let due (a : LampAcc) : Bool := decide (a.atNs + 100000 < fbNs)
    ((l.own ++ l.acc).filter due,
     { l with own := l.own.filter (fun a => !due a), acc := l.acc.filter (fun a => !due a), setNumber := none })

/-- A status applied to a pixel for content n (R223, R224). -/
def applyStatus (n p v : Nat) (s : State) : State :=
  let x := s.lamp.pixAt p
  let x' : PixLamp := { x with status := v, okAfter := if v = 1 then some n else x.okAfter }
  let s1 : State := { s with lamp := { s.lamp with pix := tset s.lamp.pix p x' } }
  if (v = 2 ∨ v = 3) ∧ x.status ≠ v ∧ isDiagnosed s.cfg p then
    ((s1.bump .lampFault).raiseCause .lamp 1).logEvent 3 88 0
      (p + ((recAt s.cfg p).map (·.fixture)).getD 0 * 4294967296)
  else s1

/-- A temperature applied at an instant (R216, R217). -/
def applyTemp (fbNs f : Nat) (t : Int) (s : State) : State :=
  { s with lamp := { s.lamp with fix := tset s.lamp.fix f { s.lamp.fixAt f with temp := t, atNs := some fbNs } } }

/-- A measured current is kept (R214). -/
def applyCurrent (p v : Nat) (s : State) : State :=
  { s with lamp := { s.lamp with pix := tset s.lamp.pix p { s.lamp.pixAt p with current := v } } }

/-- A pulse of a pixel is no longer outstanding (R232). -/
def endPulse (p k : Nat) (s : State) : State :=
  { s with lamp := { s.lamp with pix := tset s.lamp.pix p { s.lamp.pixAt p with
      pulses := (s.lamp.pixAt p).pulses.filter (fun n => n ≠ k) } } }

/-- PT(k) as a Yardline header names it (R302). -/
def ptNamed (c : Cfg) (k : Nat) : Nat := c.ym.ptAt k % 4294967296000000000

/-- A proof result of the pulse whose PT it names: it counts while that pulse is outstanding, and changes nothing
afterwards, since the lamp then stays undiagnosed for the period (R232). -/
def applyProof (n pt p v : Nat) (s : State) : State :=
  match (s.lamp.pixAt p).pulses.find? (fun k => decide (ptNamed (s.cfgFor k) k = pt)) with
  | some k => applyStatus n p v (endPulse p k s)
  | none => s

/-- A position's effect, where the flow still has a pixel there. -/
def atPos (f pos : Nat) (g : Nat → State → State) (s : State) : State :=
  match pixelAtPos s.cfg f pos with
  | some p => g p s
  | none => s

/-- A message applied for content n at an instant. -/
def applyMsg (n fbNs : Nat) (m : LampMsg) (s : State) : State :=
  match m with
  | .telemetry f temps stats currents =>
    let s1 := temps.foldl (fun s e => applyTemp fbNs e.1 e.2 s) s
    let s2 := stats.foldl (fun s e => atPos f e.1 (fun p s => applyStatus n p (e.2 + 1) s) s) s1
    currents.foldl (fun s e => atPos f e.1 (fun p s => applyCurrent p e.2 s) s) s2
  | .proof f pt results => results.foldl (fun s e => atPos f e.1 (fun p s => applyProof n pt p e.2 s) s) s

/-! ## Resets, missing results, groups (R228, R229, R232) -/

/-- The scheduled resets of FB(m): a group that MEMBERSHIP holds OFF stays so (R227). -/
def groupResets (m : Nat) (s : State) : State :=
  { s with lamp := { s.lamp with grp := s.lamp.grp.map (fun e => match e.2.resetAt with
      | some k =>
        if m < k then e
        else if e.2.member then (e.1, { e.2 with resetAt := none })
        else (e.1, { e.2 with off := false, cause := .none, since := m + 1, resetAt := none })
      | none => e) } }

/-- Pulses of contents up to m - 4 without a result. -/
def missPulses (m : Nat) (s : State) : State :=
  let late := s.lamp.pix.filter (fun e => e.2.pulses.any (fun n => decide (n + 4 ≤ m)))
  late.foldl (fun s e => (e.2.pulses.filter (fun n => decide (n + 4 ≤ m))).foldl (fun s k =>
    ((endPulse e.1 k s).bump .lampProofMiss).raiseCause .lamp 6) s) s

/-- The groups that turn OFF at FB(m). -/
def checkGroups (m : Nat) (s : State) : State :=
  s.cfg.lamp.groups.foldl (fun s e =>
    if !e.2.enable then s
    else
      let bad := e.2.members.any (fun p => decide ((s.lamp.pixAt p).status = 2) || decide ((s.lamp.pixAt p).status = 3))
      let since := (s.lamp.grpAt e.1).since
      let stale := e.2.members.any (fun p =>
        decide (e.2.timeout * proofPeriod s.cfg.ym e.2.period < m + 1 - max (((s.lamp.pixAt p).okAfter).getD 0) since))
      if bad then groupOff e.1 .fault s else if stale then groupOff e.1 .noDiagnosis s else s) s

/-! ## Derating (R216 to R218) -/

/-- The target factor A of a temperature in 1/16 C. -/
def derateTarget (floor knee slope : Nat) (t : Int) : Nat :=
  let e := t - 16 * knee
  if e ≤ 0 then 0x10000 else (max (floor : Int) (0x10000 - ((slope : Int) * e + 8) / 16)).toNat

/-- d moved toward a by at most 655. -/
def stepD (d a : Nat) : Nat := if d < a then min a (d + 655) else max a (d - 655)

/-- Derating of a fixture at an instant; a fixture that becomes stale raises TELEM_STALE. -/
def derateOne (fbNs f : Nat) (md : Model) (s : State) : State :=
  let x := s.lamp.fixAt f
  let stale : Bool := match x.atNs with
    | some t => decide (t + fld s.cfg.lamp.telem 15 0 * 1000000 < fbNs)
    | none => true
  let a := if x.atNs.isSome then derateTarget (fld s.cfg.lamp.floor 16 0) md.knee md.slope x.temp else 0x10000
  let a' := if stale then min a (fld s.cfg.lamp.staleD 16 0) else a
  let s1 : State := { s with lamp := { s.lamp with fix := tset s.lamp.fix f { x with stale := stale, d := stepD x.d a' } } }
  if stale && !x.stale then s1.raiseCause .lamp 5 else s1

/-- A fixture that derating does not apply to has the factor 1. -/
def underated (f : Nat) (s : State) : State :=
  if (s.lamp.fixAt f).d = 0x10000 then s
  else { s with lamp := { s.lamp with fix := tset s.lamp.fix f { s.lamp.fixAt f with d := 0x10000 } } }

/-- Derating of every fixture with pixels whose model has a knee; DERATING at the first fall below full. -/
def derate (fbNs : Nat) (s : State) : State :=
  let low (l : Lamp) : Bool := l.fix.any (fun e => decide (e.2.d < 0x10000))
  let s1 := (fixtureModels s.cfg.map.map.recs).foldl (fun s e => match tfind? s.cfg.map.models e.2 with
    | some md => if md.knee = 0xFF then underated e.1 s else derateOne fbNs e.1 md s
    | none => s) s
  if !(low s.lamp) && low s1.lamp then s1.raiseCause .lamp 2 else s1

/-! ## Circuit caps (R220, R221) -/

/-- The uncapped draw in mW of an accumulator. -/
def drawOf (acc : Nat) : Nat := (acc + 8388608) / 16777216

/-- The target of a circuit. -/
def capTarget (x : Circuit) (pu : Nat) : Nat :=
  if pu ≤ x.budget - x.idle then 0x10000 else (x.budget - x.idle) * 65536 / pu

/-- S of every circuit from the draw of a content; CAP_ACTIVE when one first falls. -/
def capAll (from? : Option Nat) (s : State) : State :=
  s.cfg.lamp.circuits.foldl (fun s e =>
    let x := s.lamp.circAt e.1
    let pu := match from? with | some n => drawOf (tget x.acc n 0) | none => 0
    let a := capTarget e.2 pu
    let v := if !e.2.enable then 0x10000 else if a < x.s then a else min a (x.s + 655)
    let s1 : State := { s with lamp := { s.lamp with circ := tset s.lamp.circ e.1 { x with s := v } } }
    if x.s = 0x10000 ∧ v < 0x10000 then s1.raiseCause .lamp 3 else s1) s

/-! ## A boundary -/

/-- FB(m) at an instant, for content m + 1 (R214 to R232). `srcOf` gives the content whose data a content carries:
H of a hold for a held one (R221); the draw is that of the content governed two before. -/
def lampBoundary (m fbNs : Nat) (srcOf : Nat → Nat) (keep : Option Nat) (s : State) : State :=
  let n := m + 1
  let (set, l) := takeSet fbNs (decide (s.pair.role = .shadow)) s.lamp
  let s1 := set.foldl (fun s a => applyMsg n fbNs a.msg s) { s with lamp := l }
  let s2 := checkGroups m (missPulses m (groupResets m s1))
  let s3 := capAll ((s2.lamp.lately[1]?).map srcOf) (derate fbNs s2)
  let fx : LampFixed :=
    { d := (s3.lamp.fix.filter (fun e => e.2.d ≠ 0x10000)).map (fun e => (e.1, e.2.d))
      s := (s3.lamp.circ.filter (fun e => e.2.s ≠ 0x10000)).map (fun e => (e.1, e.2.s))
      dark := (s3.lamp.grp.filter (fun e => e.2.off)).map (·.1) }
  let lately := (n :: s3.lamp.lately).take 4
  let kept (k : Nat) : Bool := decide (k ∈ lately) || decide (some k = keep) || decide (k ∈ lately.map srcOf)
  { s3 with lamp := { s3.lamp with
      lately := lately, fixed := tset (s3.lamp.fixed.filter (fun e => kept e.1)) n fx
      circ := s3.lamp.circ.map (fun e => (e.1, { e.2 with acc := e.2.acc.filter (fun a => kept a.1) })) } }

/-- The numbers of the contents jump from m to k at the boundary that ends a change of rate (R89): the lamp logic's counts
go on from the new numbers (log 36). -/
def lampShift (m k : Nat) (s : State) : State :=
  let mv (n : Nat) : Nat := n + k - m
  { s with lamp := { s.lamp with
      pix := s.lamp.pix.map (fun e => (e.1, { e.2 with okAfter := e.2.okAfter.map mv, pulses := e.2.pulses.map mv }))
      grp := s.lamp.grp.map (fun e => (e.1, { e.2 with since := mv e.2.since, resetAt := e.2.resetAt.map mv }))
      fixed := s.lamp.fixed.map (fun e => (mv e.1, e.2)), lately := s.lamp.lately.map mv
      circ := s.lamp.circ.map (fun e => (e.1, { e.2 with acc := e.2.acc.map (fun a => (mv a.1, a.2)) })) } }

end Sys2Proof.Machine
end

