-- ==== Sys2Proof/Machine/MapRun.lean ====
section
/-! DEFINITION. Machine/MapRun.lean: mapping a segment and packing a group (R185 to R210, R220, R230, R231, R295 to R298,
R325). A content is mapped and packed under the configuration that governs it; a held content from the canvas, bank
and lamp factors of the content it repeats (R444). -/
namespace Sys2Proof.Machine
open Sys2Proof

/-! ## What a content is made of -/

/-- The content whose data content n carries: the held content for one of a hold (R444). -/
def State.srcOf (s : State) (n : Nat) : Nat := tget s.brd.helds n n

/-- What the lamp logic fixed for the data of content n. -/
def State.fixedOf (s : State) (n : Nat) : LampFixed := tget s.lamp.fixed (s.srcOf n) {}

/-- The canvas pixel of a content in units (R18, R155). -/
def canvasAt (s : State) (n x y : Nat) : Int × Int × Int :=
  let b := tget s.comp.canvas (n % 3) {}
  if b.content = some n then unpackCanvas (tget b.words (y * 16384 + x) 0) else (0, 0, 0)

/-- The grand master factor of a content: the register, or the bound slot, read once per content (R197). -/
def gmFactor (s : State) (n : Nat) : Nat :=
  let c := s.cfg.map
  factorOf (if bitOf c.gm 31 then
      tget s.map.gm n (paramSlot s n (fld c.gmSrc 22 6) (fld c.gmSrc 5 0)).toNat
    else fld c.gm 15 0)

/-- The pipeline of a record for content n (R189 to R198). -/
def pixelOut (s : State) (n : Nat) (r : PixRec) : PixOut :=
  let c := s.cfg
  let h := s.srcOf n
  let fx := s.fixedOf n
  let slot := ((tfind? c.map.models r.model).map (·.intensity)).getD 0xFF
  let intens := if slot = 0xFF then 0x10000 else factorOf (paramSlot s h r.fixture slot).toNat
  pipeline c.map c.lamp.bins (canvasTf c) (decide (canvasPrim c = 1)) (canvasW c.comp) (canvasH c.comp) (canvasAt s h) r
    intens (gmFactor s h) (tget fx.d r.fixture 0x10000) (if r.circuit = 0x7FF then 0x10000 else tget fx.s r.circuit 0x10000)

/-- A pixel is a member of an OFF group, by the group records (R201, R227, R228). -/
def isDark (s : State) (n p : Nat) : Bool :=
  (s.fixedOf n).dark.any (fun g => match tfind? s.cfg.lamp.groups g with
    | some x => decide (p ∈ x.members)
    | none => false)

/-- The width and dither switch that a record's values take: those of its flow, or 16 bits without dither where there is
none (log 36). -/
def widthOf (c : Cfg) (r : PixRec) : Nat × Bool :=
  match tfind? c.flow.flows r.flow with
  | some f => (f.bits, f.dither)
  | none => (16, false)

/-- The codes of a pixel for content n after R201: 0 for an OFF group and for a failing word (R206). -/
def pixelCodes (s : State) (n p : Nat) (r : PixRec) (o : PixOut) (bad : Bool) : List Nat :=
  let (b, dith) := widthOf s.cfg r
  let zero := bad || isDark s n p
  (List.range o.w.length).map (fun e =>
    if zero then 0 else ditherTo b dith p e (fnOf (s.srcOf n)) (o.w.getD e 0))

/-- The flow that a record is packed into (R188). -/
def packedInto (c : Cfg) (r : PixRec) : Option FlowRec :=
  (tfind? c.flow.flows r.flow).filter (fun f => f.enable && f.pixels && decide (f.kind ≤ 3) && decide (r.offset < f.count))

/-- A record that is not packed and is counted (R188): its flow is not merely disabled. -/
def isUnpacked (c : Cfg) (r : PixRec) : Bool :=
  match tfind? c.flow.flows r.flow with
  | some f => f.enable && (packedInto c r).isNone
  | none => true

/-! ## Proof pulses (R230, R231) -/

/-- The terms of a proof-eligible pixel: t_meas, period in ms, MEAS_CODE. -/
def proofTerms (c : Cfg) (p : Nat) (r : PixRec) : Option (Nat × Nat × Nat) :=
  match c.lamp.groups.find? (fun e => e.2.enable && decide (p ∈ e.2.members)) with
  | some e => some (e.2.tMeasUs, e.2.period, e.2.code)
  | none =>
    if r.proofEn && (match tfind? c.flow.flows r.flow with | some f => decide (f.kind = 0) | none => false) then
      some (fld c.lamp.proof 31 16, fld c.lamp.proof 15 0, fld c.lamp.measCode 15 0)
    else none

/-- Content n is the proof content of pixel p. -/
def isProofContent (c : Cfg) (n p period : Nat) : Bool := decide ((n + p) % proofPeriod c.ym period = 0)

/-- A pixel whose codes of content n are known: a code of at least MEAS_CODE cancels the pulse of its period; a proof
content without one asks for a pulse, a held one asks for none and ends the period (R231, R444). -/
def proofStep (n p : Nat) (r : PixRec) (codes : List Nat) (s : State) : State :=
  match proofTerms s.cfg p r with
  | none => s
  | some (t, period, meas) =>
    let x := s.lamp.pixAt p
    let lit := x.lit || codes.any (fun c => decide (meas ≤ c * 2 ^ (16 - (widthOf s.cfg r).1)))
    if !isProofContent s.cfg n p period then
      { s with lamp := { s.lamp with pix := tset s.lamp.pix p { x with lit := lit } } }
    else if lit || decide (s.srcOf n ≠ n) then
      { s with lamp := { s.lamp with pix := tset s.lamp.pix p { x with lit := false } } }
    else
      let s1 : State := { s with lamp := { s.lamp with pix := tset s.lamp.pix p { x with lit := false, pulses := x.pulses ++ [n] } } }
      let s2 := s1.bump .lampProof
      match packedInto s.cfg r with
      | some f =>
        if f.kind = 0 then
          let k := pixKey r.flow n
          { s2 with flw := { s2.flw with asks := tset s2.flw.asks k (tset (tget s2.flw.asks k []) r.offset t) } }
        else s2
      | none => s2

/-! ## One pixel -/

/-- The draw of a pixel on an enabled circuit joins the circuit's accumulator (R220). -/
def drawStep (n : Nat) (r : PixRec) (o : PixOut) (s : State) : State :=
  match tfind? s.cfg.lamp.circuits r.circuit, tfind? s.cfg.map.models r.model with
  | some c, some m =>
    if c.enable ∧ r.circuit ≠ 0x7FF then
      let x := s.lamp.circAt r.circuit
      let w := ((List.range o.wu.length).map (fun e => o.wu.getD e 0 * m.power.getD e 0)).sum
      { s with lamp := { s.lamp with circ := tset s.lamp.circ r.circuit { x with acc := tset x.acc n (tget x.acc n 0 + w) } } }
    else s
  | _, _ => s

/-- The binary16 code of a component in units, exactly representable. -/
def toCode (u : Int) : Nat :=
  let a := u.natAbs
  let m := if a < 1024 then a else
    let e := halfStep a
    (e + 1) * 1024 + (a / 2 ^ e - 1024)
  (if u < 0 then 32768 else 0) + m

/-- The probe registers of a pixel (R210). -/
def probeOf (n : Nat) (o : PixOut) (codes : List Nat) : Probe :=
  { fn := fnOf n, sample := [toCode o.sample.1, toCode o.sample.2.1, toCode o.sample.2.2]
    lin := [o.lin.1, o.lin.2.1, o.lin.2.2], k := o.k, tet := o.tet, w := o.w, out := codes }

/-- The values of a pixel at its positions of its flow (R202). -/
def putCodes (n : Nat) (r : PixRec) (f : FlowRec) (codes : List Nat) (s : State) : State :=
  let k := pixKey r.flow n
  let t := (List.range f.emitters).foldl (fun t e =>
    let v := codes.getD e 0
    if v = 0 then tdel t (r.offset * f.emitters + e) else tset t (r.offset * f.emitters + e) v) (tget s.flw.pix k [])
  { s with flw := { s.flw with pix := tset s.flw.pix k t } }

/-- A pixel depends on a failing word (R206): p is its index, o what the pipeline gives for its record. -/
def FillErr.strikes (c : Cfg) (p : Nat) (r : PixRec) (o : PixOut) : FillErr → Bool
  | .records a n _ => decide (a ≤ p) && decide (p < a + n)
  | .fixture f _ => decide (r.fixture = f)
  | .canvas y x n _ =>
    (r.sampled (canvasW c.comp) (canvasH c.comp)).any (fun q => decide (q.2 = y) && decide (x ≤ q.1) && decide (q.1 < x + n))
  | .node m i _ => decide (r.model = m) && decide (i ∈ nodesRead o.lin)
  | .curve k i _ => match tfind? c.map.models r.model with
    | some m => (List.range m.emitters).any (fun e => decide (m.curves.getD e 0 = k) && decide (k ≠ 0)
        && (decide (i = o.pre.getD e 0 / 16384) || decide (i = o.pre.getD e 0 / 16384 + 1)))
    | none => false
  | .bin b _ => decide (r.bin = b)
  | .flow _ _ => false
  | .frame _ _ _ => false

/-- Pixel p of content n is mapped; where a word that it depends on fails, its codes are 0, it is counted (R206) and it
adds nothing to its circuit (R220). -/
def mapPixel (n p : Nat) (r : PixRec) (errs : List FillErr) (s : State) : State :=
  let o := pixelOut s n r
  let bad := errs.any (fun e => e.strikes s.cfg p r o)
  let codes := pixelCodes s n p r o bad
  let s1 := match packedInto s.cfg r with | some f => putCodes n r f codes s | none => s
  let s2 := proofStep n p r codes (if bad then s1.bump .mapDataErr else s1)
  let s3 := if bad || decide (s.srcOf n ≠ n) then s2 else drawStep n r o s2
  if bitOf s.cfg.map.probe 31 && decide (fld s.cfg.map.probe 22 0 = p) then
    ({ s3 with map := { s3.map with probe := probeOf n o codes } }).raiseCause .map 3
  else s3

/-! ## Frames (R296, R298, R304) -/

/-- The fragment that carries a record's values. -/
def fragOf (c : Cfg) (f : FlowRec) (r : PixRec) : Nat :=
  if f.kind = 0 then r.offset * f.emitters * f.bits / 8 / max 1 (fragSize c f) else 0

/-- The frames (flow, fragment) that a segment's records feed. -/
def segFrames (c : Cfg) (g : MapSeg) : List (Nat × Nat) :=
  ((segRecs c.map.map g).filterMap (fun r => (packedInto c r).map (fun f => (r.flow, fragOf c f r)))).dedup

/-- The segments that feed a frame of a flow, or any of them. -/
def feeders (c : Cfg) (f : Nat) (frag : Option Nat) : List Nat :=
  (List.range c.map.map.segs.length).filter (fun k => match c.map.map.segs[k]? with
    | some g => (segFrames c g).any (fun e => decide (e.1 = f) && (match frag with | some x => decide (e.2 = x) | none => true))
    | none => false)

/-- Every record that feeds a frame, or a flow, has been packed for content n. -/
def fedWhole (s : State) (n f : Nat) (frag : Option Nat) : Bool :=
  (feeders s.cfg f frag).all (fun k => decide ((n, k) ∈ s.map.done))

/-- Some pixel of a flow has content n as its proof content: the flow's proof list is known when all are mapped. -/
def proofDue (s : State) (n f : Nat) : Bool :=
  decide (s.srcOf n = n) && (List.range s.cfg.map.map.recs.length).any (fun p => match recAt s.cfg p with
    | some r => decide (r.flow = f) && (packedInto s.cfg r).isSome && (match proofTerms s.cfg p r with
      | some (_, period, _) => isProofContent s.cfg n p period
      | none => false)
    | none => false)

/-- The payload of a flow's data message of content n: its values, then its proof list (R305). -/
def messageOf (s : State) (n f : Nat) (r : FlowRec) : List Byte × Nat :=
  if r.pixels then
    let asks := tget s.flw.asks (pixKey f n) []
    (pixelPayload s f n r ++ asks.flatMap (fun e => be 4 (e.1 * 2 ^ 18 + e.2)), asks.length)
  else (paramPayload s (s.srcOf n) r, 0)

/-- Frame g of a flow's data message of content n. -/
def messageFrame (s : State) (n f : Nat) (r : FlowRec) (g : Nat) : TxFrame :=
  let (bytes, np) := messageOf s n f r
  dataFrame s f r n g (dataFlags s f r n (decide (s.srcOf n ≠ n)) np) np bytes

/-- Frames of a flow's message of content n. -/
def frameCount (s : State) (n f : Nat) (r : FlowRec) : Nat := fragCount s.cfg r (messageOf s n f r).1.length

/-- Complete frames of a flow join their queue (R298), but for a frame whose ring failed (R325); a content whose Gate has
fired is discarded (R115). -/
def sendFrames (n f : Nat) (r : FlowRec) (gs : List Nat) (errs : List FillErr) (s : State) : State :=
  if s.ym.lit.any (fun k => n ≤ k) then s
  else (gs.filter (fun g => errs.all (fun e => match e with
      | .frame a b _ => !(decide (a = f) && decide (b = g))
      | _ => true))).foldl (fun s g => enqueueData r.port (messageFrame s n f r g) s) s

/-- A flow's content is whole: its hash goes to the peer, the proof count is kept for the next message (R303, R424). -/
def flowWhole (n f : Nat) (r : FlowRec) (s : State) : State :=
  let l := tget s.flw.live f {}
  let np := (messageOf s n f r).2
  let bytes := if r.onLine then (messageOf s n f r).1
    else (List.range (frameCount s n f r)).flatMap (fun g => (messageFrame s n f r g).body)
  let s1 := noteHash f n bytes s
  { s1 with flw := { s1.flw with
      live := tset s1.flw.live f { l with proofs := tset (l.proofs.filter (fun e => n ≤ e.1 + 3)) n np } } }

/-- The packed frame of a line flow; a DMX packet counts as packed until 50 us before its PT (R114, R115). -/
def packLine (n f : Nat) (r : FlowRec) (s : State) : State :=
  if r.kind = 2 ∧ s.cfg.ym.ptAt n < s.elt + 50000 then s
  else
    let x := s.lp r.port
    s.setLp r.port { x with next := tset x.next n ((messageOf s n f r).1) }

/-- What a flow sends once segment j of content n is packed. -/
def flowFed (n j f : Nat) (r : FlowRec) (errs : List FillErr) (s : State) : State :=
  if (n, f) ∈ s.flw.dead then s
  else
    let whole := fedWhole s n f none
    let s1 :=
      if r.onLine then (if whole then packLine n f r s else s)
      else if proofDue s n f then
        (if whole then sendFrames n f r (List.range (frameCount s n f r)) errs s else s)
      else
        let fed := match s.cfg.map.map.segs[j]? with | some g => segFrames s.cfg g | none => []
        sendFrames n f r ((List.range (frameCount s n f r)).filter (fun g =>
          decide ((f, g) ∈ fed) && fedWhole s n f (some g))) errs s
    if whole then flowWhole n f r s1 else s1

/-- The frames that no record feeds are complete as soon as they are allocated, at the release of content n; those of
a message with a proof list to come wait for it (R296; log 36). -/
def unfedFrames (n : Nat) (s : State) : State :=
  (s.cfg.flow.flows.filter (fun e => e.2.enable && e.2.pixels && decide (e.2.kind ≤ 3))).foldl (fun s e =>
    let (f, r) := e
    let none_ := (feeders s.cfg f none).isEmpty
    let s1 :=
      if r.onLine then (if none_ then packLine n f r s else s)
      else if proofDue s n f then s
      else sendFrames n f r ((List.range (frameCount s n f r)).filter (fun g => (feeders s.cfg f (some g)).isEmpty)) [] s
    if none_ then flowWhole n f r s1 else s1) s

/-! ## Ring space (R296, R297) -/

/-- The bytes that the frames of a port hold of a ring: the payload and 128 for each. -/
def queuedBytes (s : State) (p : Nat) (pixels : Bool) : Nat :=
  let r := s.port p
  ((r.guar ++ r.be ++ r.cur.toList).map (fun x => match x.kind with
    | .data f _ _ _ =>
      let fr := tget s.cfg.flow.flows f {}
      if fr.pixels = pixels then x.body.length - (if fr.kind = 1 then 126 else 32) + 128 else 0
    | _ => 0)).sum

/-- The payload bytes that a segment packs into a frame. -/
def segPacked (c : Cfg) (g : MapSeg) (f frag : Nat) : Nat :=
  ceilDiv (((segRecs c.map.map g).map (fun r => match packedInto c r with
    | some x => if r.flow = f ∧ fragOf c x r = frag then x.emitters * x.bits else 0
    | none => 0)).sum) 8

/-- The frames of an Ethernet port that a segment feeds. -/
def portFrames (c : Cfg) (g : MapSeg) (p : Nat) : List (Nat × Nat) :=
  (segFrames c g).filter (fun e => match tfind? c.flow.flows e.1 with
    | some r => r.onEth && decide (r.port = p)
    | none => false)

/-- The bytes of the frames of content n that a port's ring holds begun and not complete. -/
def begunBytes (s : State) (n p : Nat) : Nat :=
  let done := (s.map.done.filter (fun e => e.1 = n)).filterMap (fun e => s.cfg.map.map.segs[e.2]?)
  let frames := ((done.flatMap (fun g => portFrames s.cfg g p)).dedup).filter (fun e => !fedWhole s n e.1 (some e.2))
  (frames.map (fun e => 128 + (done.map (fun g => segPacked s.cfg g e.1 e.2)).sum)).sum

/-- B_j,p: the payload bytes of segment j for a port and 128 for each frame that they begin. -/
def segDemand (s : State) (n : Nat) (g : MapSeg) (p : Nat) : Nat :=
  ((portFrames s.cfg g p).map (fun e =>
    segPacked s.cfg g e.1 e.2
      + (if (feeders s.cfg e.1 (some e.2)).any (fun k => decide ((n, k) ∈ s.map.done)) then 0 else 128))).sum

/-- The ports whose pixel ring has no room for a segment of content n. -/
def fullPorts (s : State) (n : Nat) (g : MapSeg) : List Nat :=
  (List.range s.nEth).filter (fun p =>
    let b := segDemand s n g p
    decide (0 < b) && decide (131072 < queuedBytes s p true + begunBytes s n p + b))

/-- Producers wait at ports: counted and raised (R297). -/
def ringWaits (ps : List Nat) (s : State) : State :=
  ps.foldl (fun s p => (s.bump (.flwRingWait p)).raiseCause (.flwTx p) 1) s

/-! ## A segment (R203, R206, R222) -/

/-- The errors of a segment or group: each fails FAULT_OK, one of the mapper's raises DATA_ERROR, the flows are silenced for
content n (R206, R325). -/
def fillErrs (n : Nat) (errs : List FillErr) (s : State) : State :=
  let flows := errs.filterMap (fun e => match e with | .flow f _ => some f | _ => none)
  let s1 := s.eccAll (errs.map FillErr.hit)
  let s2 := if errs.any FillErr.mapped then s1.raiseCause .map 0 else s1
  let s3 : State := { s2 with flw := { s2.flw with dead := s2.flw.dead ++ flows.map (fun f => (n, f)) } }
  flows.foldl (fun s f =>
    let drop (l : List TxFrame) : List TxFrame := l.filter (fun x => match x.kind with
      | .data a b _ _ => !(decide (a = f) && decide (b = n))
      | _ => true)
    { s with eth := s.eth.map (fun e => (e.1, { e.2 with guar := drop e.2.guar, be := drop e.2.be })) }) s3

/-- The draw of content n is known when its last segment is mapped: circuits over budget (R222). -/
def capCheck (n : Nat) (s : State) : State :=
  s.cfg.lamp.circuits.foldl (fun s e =>
    let pu := drawOf (tget (s.lamp.circAt e.1).acc n 0)
    if e.2.enable ∧ e.2.budget < pu * tget (s.fixedOf n).s e.1 0x10000 / 65536 + e.2.idle then
      (s.bump .lampCapOver).raiseCause .lamp 4
    else s) s

/-- Segment j of content n is mapped. -/
def mapSegment (n j : Nat) (g : MapSeg) (errs : List FillErr) (s : State) : State :=
  let h := s.srcOf n
  let c := s.cfg
  let s0 : State := { s with map := { s.map with
    content := some n, segDone := if s.map.content = some n then s.map.segDone + 1 else 1
    gm := if bitOf c.map.gm 31 ∧ (tfind? s.map.gm h).isNone then
        tset s.map.gm h (paramSlot s h (fld c.map.gmSrc 22 6) (fld c.map.gmSrc 5 0)).toNat
      else s.map.gm } }
  let rs := segRecs c.map.map g
  let s1 := (List.range rs.length).foldl (fun s i =>
    mapPixel n (g.first + i) (rs.getD i {}) errs s) s0
  let un := (rs.filter (isUnpacked c)).length
  let s2 := s1.bumpBy .mapPixels rs.length
  let s3 := if un = 0 then s2 else (s2.bumpBy .mapUnpacked un).raiseCause .map 1
  let s4 := fillErrs n errs { s3 with map := { s3.map with done := s3.map.done ++ [(n, j)] } }
  let s5 := (((segFrames c g).map (·.1)).dedup).foldl (fun s f => match tfind? c.flow.flows f with
    | some r => flowFed n j f r errs s
    | none => s) s4
  let all := (List.range c.map.map.segs.length).all (fun k => decide ((n, k) ∈ s5.map.done))
  let s6 := if all && decide (h = n) then capCheck n s5 else s5
  hwComplete (256 + j) n s6

/-- A segment whose rings have room is mapped, another waits (R297). -/
def trySegment (n j : Nat) (errs : List FillErr) (s : State) : State :=
  match s.cfg.map.map.segs[j]? with
  | none => s
  | some g =>
    let full := fullPorts s n g
    if full = [] then (mapSegment n j g errs { s with flw := { s.flw with waitSeg := none } }).pauseAt 16 640
    else if s.flw.waitSeg = some (n, j) then s
    else ringWaits full { s with flw := { s.flw with waitSeg := some (n, j) } }

/-- No instance of a content that writes a fixture is still to end (R17). -/
def fixtureDone (s : State) (c : StlCfg) (n f : Nat) : Bool :=
  match writerOf c f with
  | some t => (match s.inst? t n with | some i => decide (i.st = .ended) | none => true)
  | none => true

/-- The fixture lines that segment j of content n reads, and that of a bound grand master, stand complete in the bank (R17,
R197). -/
def linesStand (s : State) (n j : Nat) : Bool :=
  let c := s.cfgFor n
  let h := s.srcOf n
  let fs := match c.map.map.segs[j]? with | some g => runsOf ((segRecs c.map.map g).map PixRec.fixture) | none => []
  fs.all (fixtureDone s c.stl h) && (!bitOf c.map.gm 31 || fixtureDone s c.stl h (fld c.map.gmSrc 22 6))

/-- A segment holds pixels of line-port flows (R105, R203). -/
def segLines (c : Cfg) (j : Nat) : Bool :=
  match c.map.map.segs[j]? with
  | some g => (segRecs c.map.map g).any (fun r => match tfind? c.flow.flows r.flow with | some f => f.onLine | none => false)
  | none => false

/-- The segments released and not yet mapped, in order of release. -/
def State.segReady (s : State) : List (Nat × Nat) :=
  (s.pdk.ready.filter (fun e => decide (256 ≤ e.2) && decide (e.2 < 4352))).map (fun e => (e.1, e.2 - 256))

/-- The segment that the mapper takes (R197, R203): of the earliest content, one that holds pixels of line-port flows before
the others, each kind in order of release, once its fixture lines stand. DESIGN CHOICE: the choice is made when a segment
finishes, among those released by then (log 69). -/
def State.nextSeg (s : State) : Option (Nat × Nat) :=
  let able := s.segReady.filter (fun e => linesStand s e.1 e.2)
  match able with
  | [] => none
  | (n, j) :: _ =>
    some (((able.filter (fun e => e.1 = n)).find? (fun e => segLines (s.cfgFor n) e.2)).getD (n, j))

/-- SEGMENT_MAPPED: the mapper finishes segment j (R203). While it waits for ring space it takes no other (R297). -/
def segmentMappedEffect (j : Nat) (errs : List FillErr) (s : State) : State :=
  match s.nextSeg with
  | some (n, k) => if k ≠ j ∨ s.flw.waitSeg.isSome then s else underCfg n (trySegment n j errs) s
  | none => s

/-- MAP_WINDOW_CLOSE: 50 us before PT(n), segments of content n not yet mapped have overrun their window (R90, R207). -/
def mapWindowCloseEffect (s : State) : State :=
  match s.pdk.ready.find? (fun e => decide (256 ≤ e.2) && decide (e.2 < 4352)) with
  | some (n, _) =>
    if (s.cfgFor n).ym.ptAt n ≤ s.elt + 50000 then
      let late := s.pdk.ready.filter (fun e => decide (e.1 = n) && decide (256 ≤ e.2) && decide (e.2 < 4352)
        && decide ((e.1, e.2 - 256) ∉ s.map.overruns))
      if late = [] then s
      else
        let s1 : State := { s with map := { s.map with overruns := s.map.overruns ++ late.map (fun e => (e.1, e.2 - 256)) } }
        (s1.bumpBy .mapOverrun late.length).raiseCause .map 2
    else s
  | none => s

/-! ## The packer (R295, R297) -/

/-- The enabled parameter-fed flows of a packing group. -/
def groupFlows (c : Cfg) (g : Nat) : Tab FlowRec :=
  c.flow.flows.filter (fun e => e.2.enable && !e.2.pixels && decide (e.2.group = g))

/-- The bytes that a group packs for a port: payload and 128 for each frame. -/
def groupDemand (c : Cfg) (g p : Nat) : Nat :=
  (((groupFlows c g).filter (fun e => e.2.onEth && decide (e.2.port = p))).map (fun e =>
    valueLen c.flow e.2 + 128 * fragCount c e.2 (valueLen c.flow e.2))).sum

/-- The ports whose parameter ring has no room for a group of content n. -/
def groupFull (s : State) (n g : Nat) : List Nat :=
  (List.range s.nEth).filter (fun p =>
    let b := groupDemand (s.cfgFor n) g p
    decide (0 < b) && decide (65536 < queuedBytes s p false + b))

/-- The groups that may be packed, in order of release. -/
def State.packReady (s : State) : List (Nat × Nat) :=
  (s.pdk.ready.filter (fun e => decide (4352 ≤ e.2))).map (fun e => (e.1, e.2 - 4352))

/-- Group g of content n is packed. -/
def packGroup (n g : Nat) (errs : List FillErr) (s : State) : State :=
  let s1 := fillErrs n (errs.filter (fun e => !e.mapped)) s
  let s2 := (groupFlows s.cfg g).foldl (fun s e =>
    if (n, e.1) ∈ s.flw.dead then s
    else flowWhole n e.1 e.2 (if e.2.onLine then packLine n e.1 e.2 s
      else sendFrames n e.1 e.2 (List.range (frameCount s n e.1 e.2)) errs s)) s1
  hwComplete (4352 + g) n s2

/-- PACK_DONE: the packer packs the earliest ready group whose rings all have room; where none has, it waits (R297). -/
def packDoneEffect (errs : List FillErr) (s : State) : State :=
  match s.packReady.find? (fun e => (groupFull s e.1 e.2).isEmpty) with
  | some (n, g) => underCfg n (packGroup n g errs) { s with flw := { s.flw with waitPack := false } }
  | none =>
    match s.packReady with
    | (n, g) :: _ =>
      if s.flw.waitPack then s else ringWaits (groupFull s n g) { s with flw := { s.flw with waitPack := true } }
    | [] => s

/-- RING_SPACE_FREED: a producer that waits obtains its space and continues (R297): the mapper with the segment it waited
with, `errs` being what it meets, then the packer with its next group. -/
def ringSpaceFreedEffect (errs : List FillErr) (s : State) : State :=
  let s1 := match s.flw.waitSeg with
    | some (n, j) =>
      if (n, 256 + j) ∈ s.pdk.ready then underCfg n (trySegment n j errs) s
      else { s with flw := { s.flw with waitSeg := none } }
    | none => s
  if s1.flw.waitPack && s1.packReady.all (fun e => !(groupFull s1 e.1 e.2).isEmpty) then s1
  else { s1 with flw := { s1.flw with waitPack := false } }

/-- At the release of content n what was kept of the contents before n - 2 is dropped, and the place of its values
emptied. -/
def clearMapped (n : Nat) (s : State) : State :=
  { s with
    flw := { s.flw with
      pix := s.flw.pix.filter (fun e => e.1 / 65536 ≠ n % 4), asks := s.flw.asks.filter (fun e => e.1 / 65536 ≠ n % 4)
      dead := s.flw.dead.filter (fun e => n ≤ e.1 + 2) }
    map := { s.map with
      done := s.map.done.filter (fun e => n ≤ e.1 + 2), overruns := s.map.overruns.filter (fun e => n ≤ e.1 + 2)
      gm := s.map.gm.filter (fun e => n ≤ e.1 + 2 || some e.1 = s.brd.hold.map (·.content)) } }

-- The meanings of this family's rows: the effect, with the queue and the identity kept.

/-- SEGMENT_MAPPED (R203). -/
def execSegmentMapped (j : Nat) (errs : List FillErr) (s : State) : Host.Outcome State Fault Refusal :=
  commit s (segmentMappedEffect j errs s)
/-- MAP_WINDOW_CLOSE (R207). -/
def execMapWindowClose (s : State) : Host.Outcome State Fault Refusal :=
  commit s (mapWindowCloseEffect s)
/-- PACK_DONE (R295). -/
def execPackDone (errs : List FillErr) (s : State) : Host.Outcome State Fault Refusal :=
  commit s (packDoneEffect errs s)
/-- RING_SPACE_FREED (R297). -/
def execRingSpaceFreed (errs : List FillErr) (s : State) : Host.Outcome State Fault Refusal :=
  commit s (ringSpaceFreedEffect errs s)

end Sys2Proof.Machine
end

