-- ==== Sys2Proof/Machine/Frame.lean ====
section
/-! DEFINITION. Machine/Frame.lean: the frame boundary (R16, R88, R89, R93, R444, R445) and the Gate (R99, R114 to R117). -/
namespace Sys2Proof.Machine
open Sys2Proof

/-! ## Misses -/

/-- Content n of a flow counts no miss: a cut holds it or its line port (R123), or this device sends no network flow
(R419). -/
def exempt (s : State) (n f : Nat) (r : FlowRec) : Bool :=
  s.cutHolds f n || (r.onLine && s.cutHoldsLine r.port n) || (!r.onLine && !s.netOn n)

/-- Every guaranteed flow that carried content n misses it under one condition (R88, R446). -/
def missAll (n : Nat) (fail : BitVec 6) (free : Nat → FlowRec → Bool) (s : State) : State :=
  ((s.cfgFor n).flow.flows.filter (fun e => e.2.enable && e.2.guaranteed)).foldl (fun s e =>
    if free e.1 e.2 then s
    else if e.2.kind = 4 then tileMissAs e.1 n fail s
    else if e.2.carries n then countMiss e.1 n fail s else s) s

/-! ## Discards (R115) -/

/-- A frame of a data message of a content that is discarded. -/
def isDataOf (gone : Nat → Bool) (x : TxFrame) : Bool := match x.kind with | .data _ k _ _ => gone k | _ => false

/-- A port discards what it has not sent of some contents; a frame on the wire ends with an inverted FCS. -/
def discardPort (gone : Nat → Bool) (p : Nat) (s : State) : State :=
  let r := s.port p
  let keep (l : List TxFrame) : List TxFrame := l.filter (fun x => !isDataOf gone x)
  let cur := r.cur.filter (isDataOf gone)
  let k := ((r.gates ++ r.guar ++ r.be).filter (isDataOf gone)).length + cur.toList.length
  if k = 0 then s
  else
    let s1 := s.setPort p { r with
      gates := keep r.gates, guar := keep r.guar, be := keep r.be, cur := r.cur.filter (fun x => !isDataOf gone x) }
    let s2 := s1.emits (cur.toList.map (fun x => .frame p s.elt { x with broken := true }))
    (s2.bumpBy (.flwDiscard p) k).raiseCause (.flwTx p) 0

/-- Every Ethernet port discards. -/
def discardAll (gone : Nat → Bool) (s : State) : State := (List.range s.nEth).foldl (fun s p => discardPort gone p s) s

/-! ## Steps of device time (R88, R132, R133, R135) -/

/-- A content is abandoned (R88): its Gate does not fire and its data is discarded, and no other content's. -/
def abandon (n : Nat) (s : State) : State :=
  let s1 : State := { s with ym := { s.ym with flights := s.ym.flights.filter (fun x => x.n ≠ n) } }
  let s2 := missAll n (bitMask 6 3) (exempt s1 n) (s1.raiseCause .ym 6)
  discardAll (fun k => decide (k = n)) s2

/-- A step of device time is applied after the actions of FB(m); one that passes the target of the time trigger fires it
(R153). The next boundary is the first that lies at least T / 2
after the stepped time. -/
def stepTime (m : Nat) (ns : Int) (s : State) : State :=
  let s0 := s.addElt ns
  let s1 := (timeTriggerFireEffect (s0.raiseCause .time 4)).failCond 3
  let y := s1.cfg.ym
  let k := max (m + 1) (y.firstAt ((s1.elt : Rat) + y.period / 2))
  let gone (x : Flight) : Bool := decide ((s1.cfgFor x.n).ym.ptAt x.n < s1.elt) || (decide (m < x.n) && decide (k ≠ m + 1))
  ((s1.ym.flights.filter gone).map (·.n)).foldl (fun s n => abandon n s) { s1 with ym := { s1.ym with next := k } }

/-- The steps due at FB(m): a forced one goes first, and the servo then discards its own (R135). -/
def applySteps (m : Nat) (s : State) : State :=
  let forced := s.tim.forced.filter (fun x => x.m ≤ m)
  let own := s.tim.step.filter (fun x => x.m ≤ m)
  let s1 : State := { s with tim := { s.tim with
    forced := if forced.isSome then none else s.tim.forced, step := if own.isSome then none else s.tim.step } }
  match forced.or own with
  | some x => stepTime m x.ns s1
  | none => s1

/-! ## Commits (R93, R96, R19, R494) -/

/-- A flow that a commit adds or changes sends from content m + 1 on (R303, R323). -/
def flowsSince (m : Nat) (old : Cfg) (s : State) : State :=
  let new := s.cfg.flow.flows.filter (fun e => tfind? old.flow.flows e.1 ≠ some e.2)
  { s with flw := { s.flw with live := new.foldl (fun t e => tset t e.1 { tget t e.1 {} with since := m + 1 }) s.flw.live } }

/-- The universes of sACN flows that a commit disables, removes or moves are terminated (R322). -/
def endUniverses (old : Cfg) (s : State) : State :=
  let gone := old.flow.flows.filter (fun e => e.2.enable && decide (e.2.kind = 1)
    && (match tfind? s.cfg.flow.flows e.1 with
        | some r => !(r.enable && decide (r.kind = 1) && decide (r.stream = e.2.stream))
        | none => true))
  { s with flw := { s.flw with ending := s.flw.ending ++ gone.map (fun e => (e.2, valueLen old.flow e.2, 3)) } }

/-- A change of the alignment source or its terms (R149): FREE runs on at the committed increment, which is the nominal
5 ns; another source waits for its first measurement. LOCKED is left (R136). -/
def realign (old : Cfg) (s : State) : State :=
  if old.time.align = s.cfg.time.align then s
  else
    let t : Tim := { s.tim with
      good := 0, bad := 0, refused := false, holdAt := none, holdOver := false, wordAt := none, wordCnt := none
      first := none, measAt := none }
    let s1 := if s.tim.st = .locked then s.raiseCause .time 1 else s
    { s1 with tim := if s.alignSrc = 0 then { t with st := .free, incInt := 5, incFrac := 0 } else { t with st := .unset } }

/-- The PTP port after a commit (R139): another port, or one that no longer runs, or a master that may no longer be one,
listens anew. -/
def commitPtp (old : Cfg) (s : State) : State :=
  let o := old.time.ptp
  let n := s.cfg.time.ptp
  if fld o 23 20 ≠ fld n 23 20 ∨ bitOf o 25 ≠ bitOf n 25 ∨ (bitOf n 26 ∧ s.tim.port = .master) then
    { s with tim := { s.tim with port := .listening, best := none, delayOut := none } }
  else s

/-- A change of rate or alignment takes effect at FB(m) (R89): no graph is released until the first boundary of the new
scale at least T_old later. -/
def suspend (m : Nat) (old : Cfg) (s : State) : State :=
  if retimes old s.cfg then
    let s1 := realign old s
    if s1.ym.noRelease then s1
    else
      let t : Rat := (old.ym.fbAt m : Rat) + old.ym.period
      ({ s1 with ym := { s1.ym with noRelease := true, resume := t } }.raiseCause .ym 6).failCond 3
  else s

/-- A commit takes effect at FB(m): every block takes its settings at once. -/
def commitOne (m : Nat) (x : Sched) (s0 : State) : State :=
  let old := s0.cfg
  let s : State := { s0 with
    cfg := x.cfg, gen := x.gen
    prev := if s0.prev.any (fun e => e.1 = m) then s0.prev else s0.prev ++ [(m, old)] }
  let s1 := commitLayers old.comp x.cfg.comp (commitStalls m old.stl (commitEth old s))
  let s2 := lampCommit old m (cutCommit old (commitPair old (commitRaster m old s1)))
  let s3 := endUniverses old (flowsSince m old (powerNeeded s2))
  let s4 : State := { s3 with
    sec := { s3.sec with meas := s3.sec.meas.set 6 (s3.configHash x.cfg) }
    far := { s3.far with slack := slackMask x.cfg s3.pool, fault := false }
    brd := { s3.brd with budget := pauseBudgets x.cfg s3.nStalls } }
  (suspend m old (commitPtp old s4)).raiseCause .ym 1

/-- The commits due at FB(m), in generation order (R96); under a hold they wait for its end (R453). -/
def applyCommits (m : Nat) (s : State) : State :=
  if s.brd.hold.isSome then s
  else
    let due := s.sched.filter (fun x => decide (x.frame ≤ m))
    due.foldl (fun s x => commitOne m x s) { s with sched := s.sched.filter (fun x => decide (m < x.frame)) }

/-! ## The first boundary of a new scale (R89, R299) -/

/-- The numbers that name contents and boundaries of the old scale, whose last content is m, go over to the new one,
which begins with boundary k; what was in work for the old contents is over (log 38). -/
def newScale (m k : Nat) (s : State) : State :=
  let mv (n : Nat) : Nat := n + k - m
  let step (x : TStep) : TStep := { x with m := mv x.m }
  { lampShift m k s with
    sched := s.sched.map (fun x => { x with frame := mv x.frame }), prev := []
    ym := { s.ym with
      noRelease := false, flights := [], lit := none, seqOff := s.seqOf m + 1 - fnOf (k + 1)
      holding := s.ym.holding.map (fun h => { h with release := h.release.map mv }) }
    tim := { s.tim with step := s.tim.step.map step, forced := s.tim.forced.map step }
    map := { s.map with content := none, done := [], gm := [], overruns := [] }
    flw := { s.flw with
      pix := [], asks := [], dead := [], waitSeg := none, waitPack := false
      live := s.flw.live.map (fun e => (e.1, { e.2 with
        sent := none, frags := 0, since := mv e.2.since, proofs := e.2.proofs.map (fun p => (mv p.1, p.2)) })) }
    pdk := { s.pdk with
      content := none, ready := [], released := s.pdk.released.map mv
      insts := s.pdk.insts.map (fun i => { i with content := mv i.content })
      fresh := s.pdk.fresh.map (fun e => (mv e.1, e.2))
      bad := s.pdk.bad.map (fun e => (match e.1 with | .slot t c => .slot t (mv c) | w => w, e.2)), noBuf := [], noBufTold := []
      stalls := s.pdk.stalls.map (fun e => (e.1, { e.2 with run := e.2.run.map (fun r => (r.1, mv r.2)) })) }
    comp := { s.comp with
      layers := s.comp.layers.map (fun e => (e.1, { e.2 with
        bufs := e.2.bufs.map (fun b => (b.1, { b.2 with frame := mv b.2.frame })) }))
      waits := s.comp.waits.map (fun w => { w with target := w.target + fnOf k - fnOf m }) }
    eth := s.eth.map (fun e => (e.1, { e.2 with since := mv e.2.since, noLpi := none }))
    line := s.line.map (fun e => (e.1, { e.2 with next := [], skip := none }))
    rst := { s.rst with fresh := [], missed := [] }
    pair := { s.pair with txFrom := mv s.pair.txFrom, own := [], peer := [], compared := none }
    brd := { s.brd with
      helds := [], hot := []
      cal := { s.brd.cal with applyAt := mv s.brd.cal.applyAt, quiet := s.brd.cal.quiet.map mv } } }

/-! ## What a boundary releases (R16, R444) -/

/-- Content n is in flight from FB(n - 1) on, with what fails then (R114, R116). -/
def takeFlight (n : Nat) (s : State) : State :=
  { s with ym := { s.ym with flights := s.ym.flights ++ [{ n := n, fail := s.condFailed }] } }

/-- Under a hold content m + 1 repeats H: no latch, no composition, no graph (R444, R451). -/
def releaseHeld (m : Nat) (h : Hold) (s : State) : State :=
  let s1 : State := { s with brd := { s.brd with
    helds := tset s.brd.helds (m + 1) h.content, hot := if h.cal then s.brd.hot else s.brd.hot ++ [m + 1] } }
  dropPrimed s.cfg.stl.graph <| holdGraph (m + 1) (clearMapped (m + 1) (if h.cal then (s1.bump (.brd 5)).raiseCause .brd 6 else s1))

/-- Steps 2 to 4 of R16 for content m + 1: the layers latch and its composition begins, its values' place is emptied,
its graph is released. The banks are those of the content's number (R17). -/
def releaseNew (m fb : Nat) (s : State) : State :=
  releaseGraph (m + 1) fb s.brd.level (startComposition (m + 1) (clearMapped (m + 1) (noteFresh m (latchLayers m fb s))))

/-- Three packets with Stream_Terminated for each universe that ends (R322); `n` is the content. -/
def sendEnded (n : Nat) (s : State) : State :=
  let x := s.cfg.flow.set
  let s1 := s.flw.ending.foldl (fun s e =>
    let b := sacnPacket x e.1 (syncOf x e.1) (s.seqOf n) true ((List.range e.2.1).map (Config.endedByte s.freeCtr))
    (enqueueBe e.1.port { kind := .terminated e.1.stream.toNat, body := b, dst := e.1.dest, udp := 5568,
                          octets := e.1.octets b.length } s).takeFree) s
  { s1 with flw := { s1.flw with ending := (s1.flw.ending.map (fun e => (e.1, e.2.1, e.2.2 - 1))).filter (fun e => e.2.2 ≠ 0) } }

/-- Content m + 1 is released at FB(m): new, or held. -/
def release (m fb : Nat) (s : State) : State :=
  let s1 := match s.brd.hold with | some h => releaseHeld m h s | none => releaseNew m fb s
  let s2 := lampBoundary m fb s1.srcOf (s1.brd.hold.map (·.content)) s1
  sendEnded (m + 1) (unfedFrames (m + 1) (takeFlight (m + 1) s2))

/-! ## FRAME_BOUNDARY -/

/-- The contents up to m - 3 are no longer in work. -/
def forget (m : Nat) (s : State) : State :=
  { s with
    prev := s.prev.filter (fun e => m ≤ e.1 + 2)
    brd := { s.brd with helds := s.brd.helds.filter (fun e => m ≤ e.1 + 3), hot := s.brd.hot.filter (fun n => m ≤ n + 3) } }

/-- What every boundary does to the rest: a pair whose handover has ended is well again (R428), waiting DDR groups are
scheduled (R451), running scans are torn (R468), banks rotate (R481), heads follow the rate (R404), cuts count (R120, R123),
a port pulses (R377). -/
def boundaryRest (m : Nat) (copied : List Nat) (again : Bool) (s : State) : State :=
  let s1 := retireBanks copied (tearUnits m (retryQuiet m (pairBoundary s)))
  let s2 : State := if s1.ym.noRelease then s1 else { s1 with rst := { s1.rst with ym := s1.cfg.ym } }
  trigOut 2 (cutBoundary m (if again then restartHeads m s2 else s2))

/-- The conditions are noted, a lapse is raised (R126), the counters of every block are captured. -/
def boundaryNotes (s : State) : State :=
  let s1 := s.noteCond
  let s2 := if s1.ym.holds then s1 else s1.raiseCause .ym 3
  ({ s2 with cap := s2.cnt, ym := { s2.ym with pulse := 0 } } : State).noteCond

/-- FRAME_BOUNDARY: FB(M). `copied` are the memory regions whose rotation has copied its bank by now (R481). -/
def frameBoundaryEffect (copied : List Nat) (s : State) : State :=
  if !boundaryDue s then s
  else
    let m := s.ym.next
    let fb := s.cfg.ym.fbAt m
    let again := s.ym.noRelease
    let s1 := if again then newScale s.frameNow m s else s
    let s2 : State := { s1 with
      ym := { s1.ym with latest := some m, fbNs := fb, next := m + 1 }, brd := { s1.brd with spent := [] } }
    let s3 := applyCommits m (holdBoundary m (powerDown s2))
    let s4 := if s3.ym.noRelease then s3 else release m fb s3
    let s5 := dropPrimed s.nextGraph (forget m (boundaryNotes (boundaryRest m copied again s4)))
    if s5.ym.noRelease then { s5 with ym := { s5.ym with next := s5.cfg.ym.firstAt s5.ym.resume } } else applySteps m s5

/-! ## GATE_FIRE -/

/-- The GATE messages of content n on a port (R301, R306). -/
def gateFrames (s : State) (n p : Nat) : List TxFrame :=
  let c := s.cfgFor n
  (portDests c p).map (fun r => ylFrame c r (.gate n) 3 (gateStream c) 0 0 (s.seqOf n) (c.ym.ptAt n)
    (be 4 (fnOf n).toNat ++ [0xFF#8, 0#8, 0#8, 0#8]))

/-- The E1.31 synchronisation packets of content n on a port (R321). -/
def syncFrames (s : State) (n p : Nat) : List TxFrame :=
  let c := s.cfgFor n
  let u := tget c.flow.set.sync p 0
  let rs := ((c.flow.flows.filter (fun e =>
    e.2.enable && decide (e.2.kind = 1) && decide (e.2.port = p) && e.2.sync)).map
      (fun e => { e.2 with stream := BitVec.ofNat 32 u, dst := 0 : FlowRec })).foldl
    (fun acc r => if acc.any (fun x => x.dest = r.dest) then acc else acc ++ [r]) ([] : List FlowRec)
  if u = 0 then []
  else rs.map (fun r =>
    let b := sacnSync c.flow.set u (s.seqOf n)
    { kind := .sync u n, body := b, dst := r.dest, udp := 5568, octets := r.octets b.length, guar := true })

/-- The Gate and synchronisation frames of every port (R99). -/
def launchGates (n : Nat) (s : State) : State :=
  if s.netOn n then
    (List.range s.nEth).foldl (fun s p => (gateFrames s n p ++ syncFrames s n p).foldl (fun s x => enqueueGate p x s) s) s
  else s

/-- A pixel-line port has sent content n whole by now, within a cycle of TIMECLK (R115). -/
def linePixelSent (s : State) (p n : Nat) : Bool :=
  lineSent s p n && (match (s.lp p).tx with | some t => decide (t.start + t.dur < s.elt + 5) | none => false)

/-- The line flows that deliver content n, of the kinds given. -/
def lineDelivers (s : State) (n kind : Nat) : List Nat :=
  ((s.cfgFor n).flow.flows.filter (fun e => e.2.enable && decide (e.2.kind = kind) && e.2.carries n
    && (if kind = 2 then lineSent s e.2.port n else linePixelSent s e.2.port n))).map (·.1)

/-- The flows' LIVE fields of content n. -/
def noteSent (n : Nat) (fs : List Nat) (s : State) : State :=
  { s with flw := { s.flw with
      live := fs.foldl (fun t f => tset t f { tget t f {} with sent := some n, sentFn := fnOf n }) s.flw.live } }

/-- The misses of content n (R115 to R117, R446): a held content of a level-3 hold is one for every guaranteed flow; else a
flow that has not delivered. A best-effort flow that has not delivered is late, or was dropped at Bridle level 2. -/
def gateMisses (n : Nat) (s : State) : State :=
  if n ∈ s.brd.hot then missAll n (bitMask 6 4) (fun f r => s.cutHolds f n || (r.onLine && s.cutHoldsLine r.port n)) s
  else
    ((s.cfgFor n).flow.flows.filter (fun e => e.2.carries n)).foldl (fun s e =>
      if exempt s n e.1 e.2 || decide ((tget s.flw.live e.1 {}).sent = some n) then s
      else if e.2.guaranteed then countMiss e.1 n (s.failsOf n) s
      else if s.ym.noRelease then s else s.shed) s

/-- Content n is lit (R126): what it was packed from, and which conditions failed. -/
def light (n : Nat) (fail : BitVec 6) (s : State) : State :=
  { s with ym := { s.ym with
      lit := some n, litFail := fail, litFrom := s.srcOf n, flights := s.ym.flights.filter (fun x => n < x.n) } }

/-- GATE_FIRE: PT of the earliest content in flight; `errs` are what the line ports' stores give (R387). -/
def gateFireEffect (errs : List LineBad) (s : State) : State :=
  match s.ym.flights with
  | [] => s
  | x :: _ =>
    let n := x.n
    if s.glb.clk.rootLock ∧ ¬ s.glb.faulted ∧ ¬ s.brd.dark ∧ (s.cfgFor n).ym.ptAt n ≤ s.elt then
      let s1 := noteSent n (lineDelivers s n 3) s
      let s2 := launchGates n (discardAll (fun k => decide (k ≤ n)) s1)
      let s3 := (List.range s2.nLine).foldl (fun s p => gateLine p n errs s) s2
      let s4 := gateMisses n (noteSent n (lineDelivers s3 n 2) s3)
      forcedSwap (underCfg n answerParamReads (trigOut 1 (light n x.fail (cutGateEnds n s4))))
    else s

-- The meanings of this family's rows: the effect, with the queue and the identity kept.

/-- FRAME_BOUNDARY (R16). -/
def execFrameBoundary (copied : List Nat) (s : State) : Host.Outcome State Fault Refusal :=
  commit s (frameBoundaryEffect copied s)
/-- GATE_FIRE (R99). -/
def execGateFire (errs : List LineBad) (s : State) : Host.Outcome State Fault Refusal :=
  commit s (gateFireEffect errs s)

end Sys2Proof.Machine
end

