-- ==== Sys2Proof/Machine/Global.lean ====
section
/-! DEFINITION. Machine/Global.lean: the commands of the GLOBAL block that touch nothing else (chapters 00,
01) and Groom's load (R66). -/
namespace Sys2Proof.Machine
open Sys2Proof

/-- An access narrower than 32 bits or not aligned to 4 (R8, R33): a read returns all ones, a write is
ignored, and the access is recorded with cause 0x1, Groom's apart, for which the register has no PATH. -/
def narrowAccessEffect (p : Path) (write : Bool) (bytes addr : Nat) (s : State) : State :=
  if bytes < 4 ∨ addr % 4 ≠ 0 then
    let s' := if write then s else s.returns p 0xFFFFFFFF#32
    if p = .groom then s' else s'.accessError p 1 addr
  else s

/-- The place of a register pair in the table of _HI latches. -/
def Reg64.key : Reg64 → Nat
  | .elt => 0
  | .ctr c => Ctr.key c

/-- The 64-bit value a _LO read finds: ELT now, or the counter (R126). -/
def State.value64 (s : State) : Reg64 → Nat
  | .elt => s.elt
  | .ctr c => s.counter c

/-- The _HI word latched for a path and a pair, 0 where no _LO read has occurred (R9). -/
def State.hiOf (s : State) (p : Path) (r : Reg64) : Word :=
  match s.glb.hiLatch.find? (fun e => e.1 = (p, Reg64.key r)) with
  | some e => e.2
  | none => 0

/-- A _LO read (R9): returns the low word and latches the matching high word for the path. -/
def counterLoReadEffect (p : Path) (r : Reg64) (s : State) : State :=
  let v := s.value64 r
  let k := (p, Reg64.key r)
  let s' : State := { s with glb := { s.glb with
    hiLatch := (k, BitVec.ofNat 32 (v / 4294967296)) :: s.glb.hiLatch.filter (fun e => e.1 ≠ k) } }
  s'.returns p (BitVec.ofNat 32 v)

/-- GLB_ACCESS_ERR.VALID written 1 (R35): VALID and COUNT clear, source 0 falls. -/
def accessErrClearEffect (v : Word) (s : State) : State :=
  if bitOf v 31 then
    { s with glb := { s.glb with acc := { s.glb.acc with valid := false, count := 0 } }
             evc := s.evc.level 0 false }
  else s

/-- Ones written to GLB_EVT_CAUSE (R36). -/
def glbEvtCauseWriteEffect (v : Word) (s : State) : State := s.clearCause .glb (v &&& 0x0000000E#32)

/-- Groom's load over 10 ms windows that have been completed, percent, oldest first: those of the last second are kept,
MBX_GROOM_LOAD shows the latest and the highest of them (R66). -/
def noteLoads (ws : List Nat) (s : State) : State :=
  let all := s.mbx.loads ++ ws
  let l := all.drop (all.length - 100)
  { s with mbx := { s.mbx with
      loads := l, load := BitVec.ofNat 8 (l.getLast?.getD 0), peak := BitVec.ofNat 8 (l.foldl max 0) } }

/-- The load has stayed as p says over the last 100 ms (R66). -/
def State.loadStays (s : State) (p : Nat → Bool) : Bool :=
  decide (10 ≤ s.mbx.loads.length) && (s.mbx.loads.drop (s.mbx.loads.length - 10)).all p

/-- Shedding begins or ends: the Groom-load event and a log entry of severity NOTICE (R66). -/
def turnShedding (on : Bool) (s : State) : State :=
  (({ s with mbx := { s.mbx with shedding := on } }).raiseCause .glb 2).logEvent 2 2 0 0

/-- SHEDDING_ENTER: the windows `ws` and then `w` have completed, and Groom enters shedding where the load has stayed above 90 % for 100 ms. -/
def sheddingEnterEffect (ws : List Nat) (w : Nat) (s : State) : State :=
  let t := noteLoads (ws ++ [w]) s
  if t.loadStays (fun l => decide (90 < l)) && !t.mbx.shedding then turnShedding true t else t

/-- SHEDDING_LEAVE: the windows `ws` and then `w` have completed, and Groom leaves shedding where the load has stayed below 80 % for 100 ms. -/
def sheddingLeaveEffect (ws : List Nat) (w : Nat) (s : State) : State :=
  let t := noteLoads (ws ++ [w]) s
  if t.loadStays (fun l => decide (l < 80)) && t.mbx.shedding then turnShedding false t else t

-- The meanings of this family's rows: the effect, with the queue and the identity kept.

/-- NARROW_ACCESS (R8). -/
def execNarrowAccess (p : Path) (write : Bool) (bytes addr : Nat) (s : State) :
    Host.Outcome State Fault Refusal :=
  commit s (narrowAccessEffect p write bytes addr s)
/-- COUNTER_LO_READ (R9). -/
def execCounterLoRead (p : Path) (r : Reg64) (s : State) : Host.Outcome State Fault Refusal :=
  commit s (counterLoReadEffect p r s)
/-- ACCESS_ERR_CLEAR (R35). -/
def execAccessErrClear (v : Word) (s : State) : Host.Outcome State Fault Refusal :=
  commit s (accessErrClearEffect v s)
/-- GLB_EVT_CAUSE_WRITE (R36). -/
def execGlbEvtCauseWrite (v : Word) (s : State) : Host.Outcome State Fault Refusal :=
  commit s (glbEvtCauseWriteEffect v s)
/-- SHEDDING_ENTER (R66). -/
def execSheddingEnter (ws : List Nat) (w : Nat) (s : State) : Host.Outcome State Fault Refusal :=
  commit s (sheddingEnterEffect ws w s)
/-- SHEDDING_LEAVE (R66). -/
def execSheddingLeave (ws : List Nat) (w : Nat) (s : State) : Host.Outcome State Fault Refusal :=
  commit s (sheddingLeaveEffect ws w s)

end Sys2Proof.Machine
end

