-- ==== Sys2Proof/Machine/Registers.lean ====
section
/-! DEFINITION. Machine/Registers.lean: the writes of registers that have no row of their own, and the accesses that
the BAR0 map refuses (R11, R13, R31, R33, R534). -/
namespace Sys2Proof.Machine
open Sys2Proof

/-! ## Permitted writes -/

/-- EVC_TGT_CFG written: its four fields; moderation that both limits switch off holds nothing back (R80, R85). -/
def writeTgtCfg (t : Nat) (v : Word) (s : State) : State :=
  if 4 ≤ t then s
  else
    let g := s.evc.tgtAt t
    let g' : Tgt := { g with
      base := BitVec.ofNat 4 (fld v 31 28), bypass := BitVec.ofNat 4 (fld v 27 24)
      modCnt := BitVec.ofNat 8 (fld v 23 16), modUs := BitVec.ofNat 16 (fld v 15 0) }
    let e := Evc.settle s.evc (s.evc.setTgt t g')
    { s with evc := if g'.unmoderated && decide (g.held ≠ []) then e.release t else e }

/-- A word of an MSI-X table entry written (R82): address, data, or vector control, whose bit 0 is the mask. -/
def writeMsix (v i : Nat) (w : Word) (s : State) : State :=
  if 32 ≤ v then s
  else
    let r := s.evc.vecAt v
    let put (r : Vec) : State := { s with evc := { s.evc with vec := tset s.evc.vec v r } }
    match i with
    | 0 => put { r with addr := BitVec.ofNat 64 (r.addr.toNat / 4294967296 * 4294967296 + w.toNat) }
    | 1 => put { r with addr := BitVec.ofNat 64 (w.toNat * 4294967296 + r.addr.toNat % 4294967296) }
    | 2 => put { r with data := w }
    | 3 => if bitOf w 0 then put { r with mask := true } else msixUnmaskEffect v s
    | _ => s

/-- A check unit with register `off` written (R473, R484). -/
def ChkUnit.put (x : ChkUnit) (off : Nat) (w : Word) : ChkUnit :=
  match off with
  | 0x0C => { x with value := w } | 0x14 => { x with expect := w } | 0x18 => { x with fold := w }
  | 0x24 => { x with start := w } | 0x28 => { x with length := w }
  | 0x2C => { x with chunk := w &&& 0x00001FFF#32 }
  | 0x30 => { x with stride := w } | 0x34 => { x with pos := w }
  | _ => x

/-- A check unit's register written while the unit runs: CHK_VALUE and CHK_POS are discarded and recorded, the
others keep their value (R473). -/
def writeChk (p : Path) (u off : Nat) (w : Word) (s : State) : State :=
  chkWrite p u off s (fun x s =>
    if !x.running then s.setUnit u (x.put off w)
    else if (off = 0x0C ∨ off = 0x34) ∧ p ≠ .groom then s.accessError p 2 (chkAddr u off)
    else s)

/-- A word of a request window written: locked while a request waits or executes (R46). -/
def writeWindow (p : Path) (m i : Nat) (w : Word) (s : State) : State :=
  if 16 ≤ m ∨ 1024 ≤ i then s
  else
    let b := s.box m
    if b.locked then (if p = .groom then s else s.accessError p 2 (0x180000 + 0x2000 * m + 4 * i))
    else s.setBox m { b with window := tset b.window i w }

/-- REGISTER_WRITE: RW fields take the value; RO and RSV fields ignore it (R11, R13). -/
def registerWriteEffect (p : Path) (r : RegW) (v : Word) (s : State) : State :=
  match r with
  | .window m i => writeWindow p m i v s
  | .tgtCfg t => writeTgtCfg t v s
  | .msix n i => writeMsix n i v s
  | .trigLo => { s with tim := { s.tim with
      trig := BitVec.ofNat 64 (s.tim.trig.toNat / 4294967296 * 4294967296 + v.toNat) } }
  | .trigHi => { s with tim := { s.tim with
      trig := BitVec.ofNat 64 (v.toNat * 4294967296 + s.tim.trig.toNat % 4294967296) } }
  | .chk u off => writeChk p u off v s
  | .readOnly => s

/-! ## Accesses the map refuses -/

/-- A place in the MAILBOX block that may be written: an unlocked window, the path's own doorbells,
MBX_EVT_CAUSE (R31, R38, R46). -/
def mbxWritable (s : State) (p : Path) (a : Nat) : Bool :=
  let win := decide (0x180000 ≤ a) && decide (a < 0x1A0000) && decide (a % 0x2000 < 0x1000)
    && !(s.box ((a - 0x180000) / 0x2000)).locked
  let bell := decide (0x1F0000 ≤ a) && decide (a < 0x1F0100) && decide (a % 16 = 0)
    && decide (s.boxPath ((a - 0x1F0000) / 16) = some p)
  win || bell || decide (a = 0x1F0800)

/-- A path other than Groom may write a location (R31, R126, R152, R184, R534). -/
def mayWriteAt (s : State) (p : Path) (a : Nat) : Bool :=
  let block := a / 0x100000
  let off := a % 0x100000
  match block with
  | 0 => decide (off = 0x10) || decide (off = 0xF0000)
  | 1 => mbxWritable s p a
  | 2 => true
  | 3 => decide (off ∈ [0xF0010, 0xF0030, 0xF0034, 0xF0038, 0xF0040])
  | 4 => decide (off ∈ [0xF0000, 0xF0010, 0xF0FF0])
  | 6 => decide (off ∈ [0xF0000, 0xF0FF0])
  | 7 => decide (off ∈ [0xF0000, 0xF0FF0])
  | 5 => decide (off = 0xF0FF0)
  | 8 => decide (off = 0xF0FF0)
  | 9 => decide (off % 0x10000 = 0xFFF0)
  | 10 => decide (off = 0xF0FF0)
  | 11 => decide (off = 0xF0FF0)
  | 12 => decide (off = 0xF0FF0)
  | 13 => decide (off = 0xF0FF0)
  | 14 => true
  | _ => false

/-- A path other than Groom may read a location: any block, SECURITY only from an open debug module (R31, R534). -/
def mayReadAt (s : State) (p : Path) (a : Nat) : Bool :=
  decide (a < 0x1000000) || (decide (a < 0x1100000) && decide (p = .debug) && s.debugOn)

/-- UNPERMITTED_ACCESS: a write is discarded, a read returns all ones; the access is recorded, cause 0x2 for a write
in a mapped block, else 0x3 (R33 to R35). -/
def unpermittedAccessEffect (p : Path) (write : Bool) (addr : Nat) (s : State) : State :=
  if p = .groom ∨ 0x4000000 ≤ addr ∨ addr % 4 ≠ 0 then s
  else if write then
    (if mayWriteAt s p addr then s else s.accessError p (if addr < 0x1100000 then 2 else 3) addr)
  else if mayReadAt s p addr then s
  else (s.returns p 0xFFFFFFFF#32).accessError p 3 addr

-- The meanings of this family's rows: the effect, with the queue and the identity kept.

/-- UNPERMITTED_ACCESS (R33). -/
def execUnpermittedAccess (p : Path) (write : Bool) (addr : Nat) (s : State) :
    Host.Outcome State Fault Refusal :=
  commit s (unpermittedAccessEffect p write addr s)
/-- REGISTER_WRITE (R11). -/
def execRegisterWrite (p : Path) (r : RegW) (v : Word) (s : State) : Host.Outcome State Fault Refusal :=
  commit s (registerWriteEffect p r v s)

end Sys2Proof.Machine
end

