-- ==== Sys2Proof/Machine/TackScalar.lean ====
section
/-! DEFINITION. Machine/TackScalar.lean: the scalar, predicate and control rows of Tack (R268, R270 to R272,
R282). -/
namespace Sys2Proof.Machine
open Sys2Proof

/-! ## Scalar operations -/

/-- ADD: d = a + b. -/
def addEffect (k : Nat) (s : State) : State := tackR k 0x00 1 s (fun a b => a + b)
/-- SUB: d = a - b. -/
def subEffect (k : Nat) (s : State) : State := tackR k 0x01 1 s (fun a b => a - b)
/-- AND. -/
def andEffect (k : Nat) (s : State) : State := tackR k 0x02 1 s (fun a b => a &&& b)
/-- OR. -/
def orEffect (k : Nat) (s : State) : State := tackR k 0x03 1 s (fun a b => a ||| b)
/-- XOR. -/
def xorEffect (k : Nat) (s : State) : State := tackR k 0x04 1 s (fun a b => a ^^^ b)

/-- The amount of SHL, SHR and SAR: FN 4:0 when FN 5 is 1, else b 4:0. -/
def shiftAmount (c : Core) (w : Word) : Nat :=
  if bitOf w 5 then fld w 4 0 else fld (c.sr (tRb w)) 4 0

/-- SHL. -/
def shlEffect (k : Nat) (s : State) : State :=
  tackS k 0x05 1 s (fun c w => c.sr (tRa w) <<< shiftAmount c w)
/-- SHR: logical. -/
def shrEffect (k : Nat) (s : State) : State :=
  tackS k 0x06 1 s (fun c w => c.sr (tRa w) >>> shiftAmount c w)
/-- SAR: arithmetic. -/
def sarEffect (k : Nat) (s : State) : State :=
  tackS k 0x07 1 s (fun c w => (c.sr (tRa w)).sshiftRight (shiftAmount c w))

/-- MUL: the low 32 bits. -/
def mulEffect (k : Nat) (s : State) : State := tackR k 0x08 2 s (fun a b => a * b)
/-- MULH: (a x b) >> 32, signed. -/
def mulhEffect (k : Nat) (s : State) : State :=
  tackR k 0x09 2 s (fun a b => BitVec.ofInt 32 (sval a * sval b / 4294967296))
/-- MULQ: sat32((a x b + 2^15) >> 16), signed. -/
def mulqEffect (k : Nat) (s : State) : State :=
  tackR k 0x0A 2 s (fun a b => satWord ((sval a * sval b + 32768) / 65536))
/-- MIN, signed. -/
def minEffect (k : Nat) (s : State) : State :=
  tackR k 0x0B 1 s (fun a b => if sval a ≤ sval b then a else b)
/-- MAX, signed. -/
def maxEffect (k : Nat) (s : State) : State :=
  tackR k 0x0C 1 s (fun a b => if sval a ≤ sval b then b else a)
/-- ADDS: sat32(a + b). -/
def addsEffect (k : Nat) (s : State) : State := tackR k 0x0D 1 s (fun a b => satWord (sval a + sval b))
/-- SUBS: sat32(a - b). -/
def subsEffect (k : Nat) (s : State) : State := tackR k 0x0E 1 s (fun a b => satWord (sval a - sval b))
/-- CLZ: leading zero bits, 0 to 32. -/
def clzEffect (k : Nat) (s : State) : State :=
  tackR k 0x0F 1 s (fun a _ => if a = 0 then 32#32 else BitVec.ofNat 32 (31 - Nat.log2 a.toNat))
/-- DIVU: the exact quotient, all ones when b = 0 (R270). -/
def divuEffect (k : Nat) (s : State) : State :=
  tackR k 0x10 18 s (fun a b => if b = 0 then 0xFFFFFFFF#32 else BitVec.ofNat 32 (a.toNat / b.toNat))
/-- SEL: p[FN 2:0] selects a or b. -/
def selEffect (k : Nat) (s : State) : State :=
  tackS k 0x11 1 s (fun c w => if c.pr (fld w 2 0) then c.sr (tRa w) else c.sr (tRb w))

/-- ADDI: a + sext(IMM). -/
def addiEffect (k : Nat) (s : State) : State :=
  tackI k 0x12 s (fun a imm => a + BitVec.ofInt 32 (sextN 12 imm))
/-- ANDI. -/
def andiEffect (k : Nat) (s : State) : State := tackI k 0x13 s (fun a imm => a &&& BitVec.ofNat 32 imm)
/-- ORI. -/
def oriEffect (k : Nat) (s : State) : State := tackI k 0x14 s (fun a imm => a ||| BitVec.ofNat 32 imm)
/-- XORI. -/
def xoriEffect (k : Nat) (s : State) : State := tackI k 0x15 s (fun a imm => a ^^^ BitVec.ofNat 32 imm)
/-- MOVI: sext(IMM17). -/
def moviEffect (k : Nat) (s : State) : State :=
  tackS k 0x16 1 s (fun _ w => BitVec.ofInt 32 (sextN 17 (fld w 16 0)))
/-- MOVHI: the high half is IMM17 15:0, the low half keeps its value. -/
def movhiEffect (k : Nat) (s : State) : State :=
  tackS k 0x17 1 s (fun c w => BitVec.ofNat 32 (fld w 15 0 * 65536 + (c.sr (tRd w)).toNat % 65536))

/-! ## Predicates -/

/-- CMPEQ. -/
def cmpeqEffect (k : Nat) (s : State) : State := tackP k 0x18 s (fun a b => decide (a = b))
/-- CMPLT, signed. -/
def cmpltEffect (k : Nat) (s : State) : State := tackP k 0x19 s (fun a b => decide (sval a < sval b))
/-- CMPLTU, unsigned. -/
def cmpltuEffect (k : Nat) (s : State) : State := tackP k 0x1A s (fun a b => decide (a.toNat < b.toNat))

/-- PLOG's operation FN 2:0 on two predicates. -/
def plogOp (fn : Nat) (a b : Bool) : Bool :=
  let r := if fn % 4 = 0 then a && b else if fn % 4 = 1 then a || b
           else if fn % 4 = 2 then Bool.xor a b else a && !b
  if fn / 4 = 1 then !r else r

/-- PLOG. -/
def plogEffect (k : Nat) (s : State) : State :=
  tack k 0x1B s (fun _ c w t =>
    .next (c.setP (tPd w) (plogOp (fld w 2 0) (c.pr (fld w 14 12)) (c.pr (fld w 9 7)))).adv 1 t)

/-! ## Control -/

/-- The context at the branch target. -/
def Core.branch (c : Core) (w : Word) : Core := { c with pc := ((c.pc : Int) + tOff w).toNat }

/-- BR. -/
def brEffect (k : Nat) (s : State) : State := tack k 0x1C s (fun _ c w t => .next (c.branch w) 2 t)

/-- CALL: s31 = PC + 4, then as BR. -/
def callEffect (k : Nat) (s : State) : State :=
  tack k 0x1D s (fun i c w t =>
    let back := 4 * (codeBase (t.stlOf i) (t.binOf i) + c.pc + 1)
    .next ((c.branch w).setS 31 (BitVec.ofNat 32 back)) 2 t)

/-- RET: PC = a; outside the binary or not a multiple of 4 is BRANCH (R281). -/
def retEffect (k : Nat) (s : State) : State :=
  tack k 0x1E s (fun i c w t =>
    let a := (c.sr (tRa w)).toNat
    let b := codeBase (t.stlOf i) (t.binOf i)
    if a % 4 = 0 ∧ b ≤ a / 4 ∧ a / 4 < b + (t.codeOf i).code.length then .next { c with pc := a / 4 - b } 2 t
    else .fault 8)

/-- DBNZ. -/
def dbnzEffect (k : Nat) (s : State) : State :=
  tack k 0x1F s (fun _ c w t =>
    let v := c.sr (tRd w) - 1
    let c' := c.setS (tRd w) v
    if v = 0 then .next c'.adv 1 t else .next (c'.branch w) 2 t)

/-- ENDT: the instance ends and its block is sealed (R275); in the runtime it ends the switch handler (R283). -/
def endtEffect (k : Nat) (s : State) : State :=
  let r := s.stall k
  match s.running? k with
  | none => s
  | some i =>
    if s.nStalls ≤ k ∨ DbgCore.stall k ∈ s.sec.halted then s
    else if r.runtime then saveContext k i (r.core.masked (s.descOf i).saveMask) s
    else if r.live then
      match fetch k i s with
      | .error code => terminate k i code s
      | .ok w =>
        if tOp w ≠ 0x20 then s
        else if guardOn r.core w then finishRun k i .completed (retire k r.core 1 s)
        else retire k r.core.adv 1 s
    else s

/-- CANCEL: task a of the same content, which must be a direct successor (R282). -/
def cancelEffect (k : Nat) (s : State) : State :=
  tack k 0x21 s (fun i c w t =>
    let a := (c.sr (tRa w)).toNat
    if (false, a) ∈ (t.stlOf i).graph.succs i.task then
      let (n, u) := cancelInst a i.content t.cycle
      .next (c.setS (tRd w) (BitVec.ofNat 32 n)).adv (160 + n) u
    else .fault 7)

/-- EVT: SOFT_EVENT with code IMM 7:0. -/
def evtEffect (k : Nat) (s : State) : State :=
  tack k 0x22 s (fun i c w t =>
    let t1 := t.setStall k { t.stall k with soft := BitVec.ofNat 32 (fld w 7 0 * 2 ^ 24 + i.task) }
    .next c.adv 1 ((t1.bump (.stlSoftEvt k)).raiseCause (.stl k) 4))

/-- The selectors that come from the argument record (R271). -/
def argSelector (n : Nat) : Bool := decide (6 ≤ n) && decide (n ≤ 11)

/-- A selector's value (R271). -/
def selValue (i : Inst) (s : State) (n : Nat) : Word :=
  let cfg := s.cfgFor i.content
  let y := cfg.ym
  let a := argsOf (s.stlOf i) i.task
  if n = 0 then fnOf i.content
  else if n = 1 then BitVec.ofNat 32 i.task
  else if n = 2 then BitVec.ofNat 32 (y.tNum / y.num)
  else if n = 3 then y.gateNs
  else if n = 4 then BitVec.ofNat 32 (y.ptAt i.content % 1000000000)
  else if n = 5 then BitVec.ofNat 32 (y.ptAt i.content / 1000000000)
  else if n = 6 then BitVec.ofNat 32 a.first
  else if n = 7 then BitVec.ofNat 32 a.count
  else if n ≤ 11 then (a.args[n - 8]?).getD 0
  else if n = 12 then BitVec.ofNat 32 (canvasW cfg.comp * 65536 + canvasH cfg.comp)
  else BitVec.ofNat 32 (constBase (s.stlOf i) (s.binOf i))

/-- SRD: the first argument selector waits for the record (R271). -/
def srdEffect (k : Nat) (s : State) : State :=
  tack k 0x23 s (fun i c w t =>
    if argSelector (tImm w) && !c.argsIn then .wait .args
    else .next (c.setS (tRd w) (selValue i t (tImm w))).adv 1 t)

-- The meanings of this family's rows: the effect, with the queue and the identity kept.

/-- ADD (R268). -/
def execAdd (k : Nat) (s : State) : Host.Outcome State Fault Refusal :=
  commit s (addEffect k s)
/-- SUB (R268). -/
def execSub (k : Nat) (s : State) : Host.Outcome State Fault Refusal :=
  commit s (subEffect k s)
/-- AND (R268). -/
def execAnd (k : Nat) (s : State) : Host.Outcome State Fault Refusal :=
  commit s (andEffect k s)
/-- OR (R268). -/
def execOr (k : Nat) (s : State) : Host.Outcome State Fault Refusal :=
  commit s (orEffect k s)
/-- XOR (R268). -/
def execXor (k : Nat) (s : State) : Host.Outcome State Fault Refusal :=
  commit s (xorEffect k s)
/-- SHL (R268). -/
def execShl (k : Nat) (s : State) : Host.Outcome State Fault Refusal :=
  commit s (shlEffect k s)
/-- SHR (R268). -/
def execShr (k : Nat) (s : State) : Host.Outcome State Fault Refusal :=
  commit s (shrEffect k s)
/-- SAR (R268). -/
def execSar (k : Nat) (s : State) : Host.Outcome State Fault Refusal :=
  commit s (sarEffect k s)
/-- MUL (R268). -/
def execMul (k : Nat) (s : State) : Host.Outcome State Fault Refusal :=
  commit s (mulEffect k s)
/-- MULH (R268). -/
def execMulh (k : Nat) (s : State) : Host.Outcome State Fault Refusal :=
  commit s (mulhEffect k s)
/-- MULQ (R268). -/
def execMulq (k : Nat) (s : State) : Host.Outcome State Fault Refusal :=
  commit s (mulqEffect k s)
/-- MIN (R268). -/
def execMin (k : Nat) (s : State) : Host.Outcome State Fault Refusal :=
  commit s (minEffect k s)
/-- MAX (R268). -/
def execMax (k : Nat) (s : State) : Host.Outcome State Fault Refusal :=
  commit s (maxEffect k s)
/-- ADDS (R268). -/
def execAdds (k : Nat) (s : State) : Host.Outcome State Fault Refusal :=
  commit s (addsEffect k s)
/-- SUBS (R268). -/
def execSubs (k : Nat) (s : State) : Host.Outcome State Fault Refusal :=
  commit s (subsEffect k s)
/-- CLZ (R268). -/
def execClz (k : Nat) (s : State) : Host.Outcome State Fault Refusal :=
  commit s (clzEffect k s)
/-- DIVU (R270). -/
def execDivu (k : Nat) (s : State) : Host.Outcome State Fault Refusal :=
  commit s (divuEffect k s)
/-- SEL (R268). -/
def execSel (k : Nat) (s : State) : Host.Outcome State Fault Refusal :=
  commit s (selEffect k s)
/-- ADDI (R268). -/
def execAddi (k : Nat) (s : State) : Host.Outcome State Fault Refusal :=
  commit s (addiEffect k s)
/-- ANDI (R268). -/
def execAndi (k : Nat) (s : State) : Host.Outcome State Fault Refusal :=
  commit s (andiEffect k s)
/-- ORI (R268). -/
def execOri (k : Nat) (s : State) : Host.Outcome State Fault Refusal :=
  commit s (oriEffect k s)
/-- XORI (R268). -/
def execXori (k : Nat) (s : State) : Host.Outcome State Fault Refusal :=
  commit s (xoriEffect k s)
/-- MOVI (R268). -/
def execMovi (k : Nat) (s : State) : Host.Outcome State Fault Refusal :=
  commit s (moviEffect k s)
/-- MOVHI (R268). -/
def execMovhi (k : Nat) (s : State) : Host.Outcome State Fault Refusal :=
  commit s (movhiEffect k s)
/-- CMPEQ (R268). -/
def execCmpeq (k : Nat) (s : State) : Host.Outcome State Fault Refusal :=
  commit s (cmpeqEffect k s)
/-- CMPLT (R268). -/
def execCmplt (k : Nat) (s : State) : Host.Outcome State Fault Refusal :=
  commit s (cmpltEffect k s)
/-- CMPLTU (R268). -/
def execCmpltu (k : Nat) (s : State) : Host.Outcome State Fault Refusal :=
  commit s (cmpltuEffect k s)
/-- PLOG (R268). -/
def execPlog (k : Nat) (s : State) : Host.Outcome State Fault Refusal :=
  commit s (plogEffect k s)
/-- BR (R268). -/
def execBr (k : Nat) (s : State) : Host.Outcome State Fault Refusal :=
  commit s (brEffect k s)
/-- CALL (R268). -/
def execCall (k : Nat) (s : State) : Host.Outcome State Fault Refusal :=
  commit s (callEffect k s)
/-- RET (R268). -/
def execRet (k : Nat) (s : State) : Host.Outcome State Fault Refusal :=
  commit s (retEffect k s)
/-- DBNZ (R268). -/
def execDbnz (k : Nat) (s : State) : Host.Outcome State Fault Refusal :=
  commit s (dbnzEffect k s)
/-- ENDT (R275). -/
def execEndt (k : Nat) (s : State) : Host.Outcome State Fault Refusal :=
  commit s (endtEffect k s)
/-- CANCEL (R282). -/
def execCancel (k : Nat) (s : State) : Host.Outcome State Fault Refusal :=
  commit s (cancelEffect k s)
/-- EVT (R268). -/
def execEvt (k : Nat) (s : State) : Host.Outcome State Fault Refusal :=
  commit s (evtEffect k s)
/-- SRD (R271). -/
def execSrd (k : Nat) (s : State) : Host.Outcome State Fault Refusal :=
  commit s (srdEffect k s)

end Sys2Proof.Machine
end

