-- ==== Sys2Proof/Machine/TackMem.lean ====
section
/-! DEFINITION. Machine/TackMem.lean: the memory rows of Tack: data memory (R264 to R266), the parameter store
(R273, R274), layers and the canvas (R277, R278), and the events that end a wait. -/
namespace Sys2Proof.Machine
open Sys2Proof

/-! ## Data memory -/

/-- A checked data address: a word of the constants or of the scratch area, by its byte offset there. -/
inductive Place where
  | const (x : Nat)
  | scratch (x : Nat)
  deriving DecidableEq, Repr

/-- Where an access of `size` bytes falls (R264, R265, R281): a misaligned address is ALIGN; outside the
binary's constants and the scratch window, or a store to constants, is RANGE. -/
def place (c : StlCfg) (b : Nat) (len size : Nat) (store : Bool) (a : Int) : Except Nat Place :=
  if a % size ≠ 0 then .error 2
  else if 0x20000 ≤ a ∧ a + size ≤ 0x21800 then .ok (.scratch (a - 0x20000).toNat)
  else if !store && decide ((constBase c b : Int) ≤ a) && decide (a + size ≤ constBase c b + len) then
    .ok (.const (a - constBase c b).toNat)
  else .error 3

/-- The scratch area of a priority: its written words by word number (R265). -/
def StallRec.area (r : StallRec) (prio : Nat) : Tab Word := tget r.scratch prio []

/-- The number under which `bad` lists the word at byte x of a priority's scratch area. -/
def scratchBad (prio x : Nat) : Nat := 0x10000 + 0x12000 + prio * 0x1800 + x / 4 * 4

/-- n words from a place; a word that holds an uncorrectable error is MEM (R266, R281). -/
def loadWords (r : StallRec) (cb prio : Nat) (bin : Binary) (p : Place) (n : Nat) : Except Nat (List Word) :=
  match p with
  | .const x =>
    let x0 := x / 4 * 4
    if (List.range n).any (fun j => 0x10000 + cb + x0 + 4 * j ∈ r.bad) then .error 9
    else .ok ((List.range n).map (fun j => BitVec.ofNat 32 (unle ((bin.consts.drop (x0 + 4 * j)).take 4))))
  | .scratch x =>
    let x0 := x / 4 * 4
    if (List.range n).any (fun j => scratchBad prio (x0 + 4 * j) ∈ r.bad
        ∧ (tfind? (r.area prio) (x0 / 4 + j)).isSome) then .error 9
    else .ok ((List.range n).map (fun j => tget (r.area prio) (x0 / 4 + j) 0))

/-- A load row: `n` words at a + size x sext(IMM), from which `f` forms the new context. -/
def tackLoad (k op size n : Nat) (s : State) (f : Core → Word → Nat → List Word → Core) : State :=
  tack k op s (fun i c w t =>
    let cfg := t.stlOf i
    let bin := t.codeOf i
    let a : Int := (c.sr (tRa w)).toNat + size * tImmS w
    match place cfg (t.binOf i) bin.consts.length size false a with
    | .error e => .fault e
    | .ok p =>
      match loadWords (t.stall k) (constBase cfg (t.binOf i)) (t.descOf i).prio bin p n with
      | .error e => .fault e
      | .ok ws => .next (f c w (a % 4).toNat ws).adv 2 t)

/-- Words stored into the running priority's scratch area: their written bits are set and their errors gone. -/
def storeWords (k prio x : Nat) (ws : List Word) (s : State) : State :=
  let r := s.stall k
  let upd := (List.range ws.length).zip ws
  let area := upd.foldl (fun t e => tset t (x / 4 + e.1) e.2) (r.area prio)
  let bad := r.bad.filter (fun b => upd.all (fun e => b ≠ scratchBad prio (x + 4 * e.1)))
  s.setStall k { r with scratch := tset r.scratch prio area, bad := bad }

/-- A store row: `f` forms the words from the context and the word that stands there. -/
def tackStore (k op size : Nat) (s : State) (f : Core → Word → Nat → Word → List Word) : State :=
  tack k op s (fun i c w t =>
    let a : Int := (c.sr (tRa w)).toNat + size * tImmS w
    match place (t.stlOf i) (t.binOf i) 0 size true a with
    | .error e => .fault e
    | .ok (.const _) => .fault 3
    | .ok (.scratch x) =>
      let prio := (t.descOf i).prio
      let old := tget ((t.stall k).area prio) (x / 4) 0
      .next c.adv 1 (storeWords k prio x (f c w (x % 4) old) t))

/-- LDW. -/
def ldwEffect (k : Nat) (s : State) : State :=
  tackLoad k 0x24 4 1 s (fun c w _ ws => c.setS (tRd w) (ws.headD 0))
/-- STW. -/
def stwEffect (k : Nat) (s : State) : State := tackStore k 0x25 4 s (fun c w _ _ => [c.sr (tRd w)])
/-- LDH: zero-extended. -/
def ldhEffect (k : Nat) (s : State) : State :=
  tackLoad k 0x26 2 1 s (fun c w o ws => c.setS (tRd w) (BitVec.ofNat 32 ((ws.headD 0).toNat >>> (8 * o) % 65536)))
/-- STH: the other half of a word not written before reads 0 (R265). -/
def sthEffect (k : Nat) (s : State) : State :=
  tackStore k 0x27 2 s (fun c w o old => [setFld old (8 * o + 15) (8 * o) (fld (c.sr (tRd w)) 15 0)])
/-- VLD. -/
def vldEffect (k : Nat) (s : State) : State :=
  tackLoad k 0x28 16 4 s (fun c w _ ws =>
    c.setV (tVd w) (BitVec.ofNat 128 (ws.foldr (fun x acc => x.toNat + acc * 4294967296) 0)))
/-- VST. -/
def vstEffect (k : Nat) (s : State) : State :=
  tackStore k 0x29 16 s (fun c w _ _ => (List.range 4).map (fun j => (c.vr (tVd w)).extractLsb' (32 * j) 32))

/-! ## The parameter store -/

/-- The value of a slot read by an instance (R274, R276), or the fault. -/
def readSlot (s : State) (i : Inst) (bank f slot : Nat) : Except Nat Half :=
  let c := s.stlOf i
  if s.nFixtures ≤ f ∨ slotsOf c f ≤ slot then .error 3
  else if isStatic c f then .ok (initOf c f slot)
  else if bank = 1 then .ok (prevSlot s c i.content f slot)
  else if (argsOf c i.task).holds f then
    .ok ((tfind? i.writes (64 * f + slot)).getD (prevSlot s c i.content f slot))
  else match writerOf c f with
    | some t => if writerEnded s t i.content then .ok (s.pdk.slotAt i.content f slot) else .error 5
    | none => .error 5

/-- Consecutive slots read by an instance; the fault of the lowest code (R281). -/
def readSlots (s : State) (i : Inst) (bank f slot : Nat) : Nat → Except Nat (List Half)
  | 0 => .ok []
  | n + 1 =>
    match readSlot s i bank f slot, readSlots s i bank f (slot + 1) n with
    | .ok v, .ok vs => .ok (v :: vs)
    | .error e, .ok _ => .error e
    | .ok _, .error e => .error e
    | .error e, .error e' => .error (min e e')

/-- What PLD and VPLD do when their data is there, at a cost. -/
def paramLoad (n cost : Nat) (i : Inst) (c : Core) (w : Word) (t : State) : TRes :=
  match readSlots t i (tBank w) (c.sr (tRa w)).toNat (tSlot w) n with
  | .error e => .fault e
  | .ok vs =>
    let c' := if n = 1 then c.setS (tRd w) ((vs.headD 0).setWidth 32)
              else c.setV (tVd w) (vec8 (fun j => (vs[j]?).getD 0))
    .next c'.adv cost t

/-- A parameter load that hits the cache, or misses it and waits unless it faults (R268, R273). -/
def paramRow (n : Nat) (hit : Bool) (i : Inst) (c : Core) (w : Word) (t : State) : TRes :=
  match paramLoad n 6 i c w t with
  | .next c' cost t' => if hit then .next c' cost t' else .wait .miss
  | r => r

/-- PLD; the command says whether the access hits the parameter store cache. -/
def pldEffect (k : Nat) (hit : Bool) (s : State) : State := tack k 0x2A s (paramRow 1 hit)
/-- VPLD. -/
def vpldEffect (k : Nat) (hit : Bool) (s : State) : State := tack k 0x2C s (paramRow 8 hit)

/-- PST and VPST (R274, R281): a fixture or slot out of range is RANGE, a fixture outside the own block or
BANK 1 is BLOCK. -/
def paramStore (vs : Core → Word → List Half) (i : Inst) (c : Core) (w : Word) (t : State) : TRes :=
  let f := (c.sr (tRa w)).toNat
  let cfg := t.stlOf i
  let ws := vs c w
  if t.nFixtures ≤ f ∨ slotsOf cfg f < tSlot w + ws.length then .fault 3
  else if !(argsOf cfg i.task).holds f || decide (tBank w = 1) then .fault 4
  else
    let upd := (List.range ws.length).zip ws
    let i' := { i with writes := upd.foldl (fun m e => tset m (64 * f + tSlot w + e.1) e.2) i.writes }
    .next c.adv 2 (t.setInst i')

/-- PST. -/
def pstEffect (k : Nat) (s : State) : State :=
  tack k 0x2B s (paramStore (fun c w => [BitVec.ofNat 16 (fld (c.sr (tRd w)) 15 0)]))
/-- VPST. -/
def vpstEffect (k : Nat) (s : State) : State :=
  tack k 0x2D s (paramStore (fun c w => (List.range 8).map (lane (c.vr (tVd w)))))

/-! ## Layers and the canvas -/

/-- Bytes per pixel of a format a Stall-drawn layer may have (R277). -/
def layerBytes (r : LayerRegs) : Nat := frameBytes r.format r.sw r.sh

/-- A layer write (R277): ALIGN, LAYER, a discarded write, or the write. -/
def layerWrite (k : Nat) (size cyc : Nat) (bs : Core → Word → List Byte) (i : Inst) (c : Core) (w : Word)
    (t : State) : TRes :=
  let a := (c.sr (tRa w)).toNat
  let l := tLayer w
  let r := layerOf (t.cfgFor i.content).comp l
  if a % size ≠ 0 then .fault 2
  else if !r.on || decide (r.kind ≠ 2) || decide (layerBytes r < a + size) then .fault 6
  else
    let cost := max 2 cyc
    if (l, i.content) ∈ t.pdk.noBuf then
      if (l, i.content) ∈ t.pdk.noBufTold then .next c.adv cost t
      else
        let t1 : State := { t with pdk := { t.pdk with noBufTold := t.pdk.noBufTold ++ [(l, i.content)] } }
        .next c.adv cost (t1.raiseCause (.stl k) 5)
    else
      let b := drawBuf i.content
      let buf := (t.comp.layer l).buf b
      if buf.st = .ready ∨ buf.st = .latched then .fault 6
      else
        let buf' := { buf with st := .filling, data := mwrite buf.data a (bs c w) }
        .next c.adv cost { t with comp := t.comp.setLayer l ((t.comp.layer l).setBuf b buf') }

/-- LST, in `cyc` cycles (at least 2). -/
def lstEffect (k cyc : Nat) (s : State) : State :=
  tack k 0x2E s (layerWrite k 4 cyc (fun c w => le 4 (c.sr (tRd w)).toNat))
/-- VLST, in `cyc` cycles (at least 2). -/
def vlstEffect (k cyc : Nat) (s : State) : State :=
  tack k 0x2F s (layerWrite k 16 cyc (fun c w => le 16 (c.vr (tVd w)).toNat))

/-- What CLD does, at a cost: the canvas word, 0 without a canvas, RANGE beyond it, or a wait (R278). -/
def canvasLoad (cost : Nat) (i : Inst) (c : Core) (w : Word) (t : State) : TRes :=
  let x := fld (c.sr (tRa w)) 15 0
  let y := fld (c.sr (tRa w)) 31 16
  let cv := (t.cfgFor i.content).comp
  if !canvasOn cv then .next (c.setS (tRd w) 0).adv cost t
  else if canvasW cv ≤ x ∨ canvasH cv ≤ y then .fault 3
  else if rowVisible t i.content y then
    .next (c.setS (tRd w) (tget (tget t.comp.canvas (i.content % 3) {}).words (y * 16384 + x) 0)).adv cost t
  else .wait .row

/-- CLD, in `cyc` cycles (at least 6) where the row is visible. -/
def cldEffect (k cyc : Nat) (s : State) : State := tack k 0x30 s (canvasLoad (max 6 cyc))

/-! ## Waits that end -/

/-- The waiting instruction of Stall k proceeds (R271, R273, R278): its wait is over and f gives its result. -/
def proceed (k : Nat) (w : StallWait) (s : State) (f : Inst → Core → Word → State → TRes) : State :=
  match s.running? k with
  | none => s
  | some i =>
    if (s.stall k).wait = w then
      let s1 := s.setStall k { s.stall k with wait := .none }
      match (s.codeOf i).code[(s.stall k).core.pc]? with
      | some x => applyRes k i s1 (f i (s.stall k).core x s1)
      | none => s
    else s

/-- ARG_RECORD_FETCHED: the argument record arrives, `cyc` cycles after a waiting SRD issued (R271). -/
def argRecordFetchedEffect (k cyc : Nat) (s : State) : State :=
  let r := s.stall k
  if (s.running? k).isNone ∨ r.core.argsIn then s
  else
    let s1 := s.setStall k { r with core := { r.core with argsIn := true } }
    if (s1.stall k).wait = .args then
      proceed k .args s1 (fun i c w t => .next (c.setS (tRd w) (selValue i t (tImm w))).adv (max 1 cyc) t)
    else s1

/-- CACHE_MISS_FILL: a miss completes after `cyc` cycles (R273). -/
def cacheMissFillEffect (k cyc : Nat) (s : State) : State :=
  proceed k .miss s (fun i c w t => paramLoad (if tOp w = 0x2A then 1 else 8) (max 6 cyc) i c w t)

/-- CLD_ROW_VISIBLE: the row a CLD waits for has become visible (R278). -/
def cldRowVisibleEffect (k cyc : Nat) (s : State) : State := proceed k .row s (canvasLoad (max 6 cyc))

-- The meanings of this family's rows: the effect, with the queue and the identity kept.

/-- LDW (R268). -/
def execLdw (k : Nat) (s : State) : Host.Outcome State Fault Refusal :=
  commit s (ldwEffect k s)
/-- STW (R268). -/
def execStw (k : Nat) (s : State) : Host.Outcome State Fault Refusal :=
  commit s (stwEffect k s)
/-- LDH (R268). -/
def execLdh (k : Nat) (s : State) : Host.Outcome State Fault Refusal :=
  commit s (ldhEffect k s)
/-- STH (R268). -/
def execSth (k : Nat) (s : State) : Host.Outcome State Fault Refusal :=
  commit s (sthEffect k s)
/-- VLD (R268). -/
def execVld (k : Nat) (s : State) : Host.Outcome State Fault Refusal :=
  commit s (vldEffect k s)
/-- VST (R268). -/
def execVst (k : Nat) (s : State) : Host.Outcome State Fault Refusal :=
  commit s (vstEffect k s)
/-- PLD (R274). -/
def execPld (k : Nat) (hit : Bool) (s : State) : Host.Outcome State Fault Refusal :=
  commit s (pldEffect k hit s)
/-- PST (R274). -/
def execPst (k : Nat) (s : State) : Host.Outcome State Fault Refusal :=
  commit s (pstEffect k s)
/-- VPLD (R274). -/
def execVpld (k : Nat) (hit : Bool) (s : State) : Host.Outcome State Fault Refusal :=
  commit s (vpldEffect k hit s)
/-- VPST (R274). -/
def execVpst (k : Nat) (s : State) : Host.Outcome State Fault Refusal :=
  commit s (vpstEffect k s)
/-- LST (R277). -/
def execLst (k cyc : Nat) (s : State) : Host.Outcome State Fault Refusal :=
  commit s (lstEffect k cyc s)
/-- VLST (R277). -/
def execVlst (k cyc : Nat) (s : State) : Host.Outcome State Fault Refusal :=
  commit s (vlstEffect k cyc s)
/-- CLD (R278). -/
def execCld (k cyc : Nat) (s : State) : Host.Outcome State Fault Refusal :=
  commit s (cldEffect k cyc s)
/-- ARG_RECORD_FETCHED (R271). -/
def execArgRecordFetched (k cyc : Nat) (s : State) : Host.Outcome State Fault Refusal :=
  commit s (argRecordFetchedEffect k cyc s)
/-- CACHE_MISS_FILL (R273). -/
def execCacheMissFill (k cyc : Nat) (s : State) : Host.Outcome State Fault Refusal :=
  commit s (cacheMissFillEffect k cyc s)
/-- CLD_ROW_VISIBLE (R278). -/
def execCldRowVisible (k cyc : Nat) (s : State) : Host.Outcome State Fault Refusal :=
  commit s (cldRowVisibleEffect k cyc s)

end Sys2Proof.Machine
end

