-- ==== Sys2Proof/Machine/TackVector.lean ====
section
/-! DEFINITION. Machine/TackVector.lean: the vector rows of Tack (R268 to R270). -/
namespace Sys2Proof.Machine
open Sys2Proof

/-- A 16-bit number clamped without sign. -/
def satU16 (v : Int) : Half := if v < 0 then 0 else if 65535 < v then 0xFFFF#16 else BitVec.ofInt 16 v
/-- sat16 (R270). -/
def satS16 (v : Int) : Half := if 32767 < v then 0x7FFF#16 else if v < -32768 then 0x8000#16 else BitVec.ofInt 16 v

/-- VADD on one lane (R269). -/
def vaddLane (fn : Nat) (a b : Half) : Half :=
  if fn % 4 = 0 then a + b
  else if fn % 4 = 1 then satU16 ((a.toNat : Int) + b.toNat)
  else satS16 (a.toInt + b.toInt)
/-- VSUB on one lane. -/
def vsubLane (fn : Nat) (a b : Half) : Half :=
  if fn % 4 = 0 then a - b
  else if fn % 4 = 1 then satU16 ((a.toNat : Int) - b.toNat)
  else satS16 (a.toInt - b.toInt)
/-- VMUL on one lane. -/
def vmulLane (fn : Nat) (a b : Half) : Half :=
  if fn % 4 = 0 then a * b
  else if fn % 4 = 1 then BitVec.ofNat 16 ((a.toNat * b.toNat + 32768) / 65536)
  else satS16 ((a.toInt * b.toInt + 16384) / 32768)
/-- VMINMAX on one lane: bit 0 maximum, bit 1 signed. -/
def vminmaxLane (fn : Nat) (a b : Half) : Half :=
  let less : Bool := if fn / 2 % 2 = 1 then decide (a.toInt ≤ b.toInt) else decide (a.toNat ≤ b.toNat)
  if fn % 2 = 1 then (if less then b else a) else (if less then a else b)
/-- VSHF on one lane: direction FN 6:5, amount FN 3:0 or lane 3:0 of vb. -/
def vshfLane (fn : Nat) (a b : Half) : Half :=
  let n := if fn / 16 % 2 = 1 then b.toNat % 16 else fn % 16
  if fn / 32 = 0 then a <<< n else if fn / 32 = 1 then a >>> n else a.sshiftRight n
/-- VLOG on one lane. -/
def vlogLane (fn : Nat) (a b : Half) : Half :=
  if fn % 4 = 0 then a &&& b else if fn % 4 = 1 then a ||| b else if fn % 4 = 2 then a ^^^ b else a &&& ~~~b
/-- VCMP on one lane. -/
def vcmpLane (fn : Nat) (a b : Half) : Half :=
  let h : Bool := if fn % 4 = 0 then decide (a = b) else if fn % 4 = 1 then decide (a.toInt < b.toInt)
                  else decide (a.toNat < b.toNat)
  if h then 0xFFFF#16 else 0

/-- VADD. -/
def vaddEffect (k : Nat) (s : State) : State := tackV k 0x31 1 s vaddLane
/-- VSUB. -/
def vsubEffect (k : Nat) (s : State) : State := tackV k 0x32 1 s vsubLane
/-- VMUL. -/
def vmulEffect (k : Nat) (s : State) : State := tackV k 0x33 2 s vmulLane
/-- VMINMAX. -/
def vminmaxEffect (k : Nat) (s : State) : State := tackV k 0x34 1 s vminmaxLane
/-- VSHF. -/
def vshfEffect (k : Nat) (s : State) : State := tackV k 0x35 1 s vshfLane
/-- VLOG. -/
def vlogEffect (k : Nat) (s : State) : State := tackV k 0x36 1 s vlogLane
/-- VCMP. -/
def vcmpEffect (k : Nat) (s : State) : State := tackV k 0x37 1 s vcmpLane

/-- VMOV: broadcast, insert or extract (R269). -/
def vmovEffect (k : Nat) (s : State) : State :=
  tack k 0x38 s (fun _ c w t =>
    let fn := tFn w
    let x : Half := BitVec.ofNat 16 (c.sr (tRa w)).toNat
    let c' := if fn / 32 = 0 then c.setV (tVd w) (vec8 (fun _ => x))
      else if fn / 32 = 1 then
        c.setV (tVd w) (vec8 (fun j => if j = fn % 8 then x else lane (c.vr (tVd w)) j))
      else c.setS (tRd w) ((lane (c.vr (tVa w)) (fn % 8)).setWidth 32)
    .next c'.adv 1 t)

/-- VLERP: va + (((vb - va) x vd + 2^15) >> 16), vd unsigned (R270). -/
def vlerpEffect (k : Nat) (s : State) : State :=
  tack k 0x39 s (fun _ c w t =>
    let d := c.vr (tVd w)
    let f (j : Nat) : Half :=
      let a : Int := (lane (c.vr (tVa w)) j).toNat
      let b : Int := (lane (c.vr (tVb w)) j).toNat
      BitVec.ofInt 16 (a + ((b - a) * (lane d j).toNat + 32768) / 65536)
    .next (c.setV (tVd w) (vec8 f)).adv 2 t)

-- The meanings of this family's rows: the effect, with the queue and the identity kept.

/-- VADD (R269). -/
def execVadd (k : Nat) (s : State) : Host.Outcome State Fault Refusal :=
  commit s (vaddEffect k s)
/-- VSUB (R269). -/
def execVsub (k : Nat) (s : State) : Host.Outcome State Fault Refusal :=
  commit s (vsubEffect k s)
/-- VMUL (R269). -/
def execVmul (k : Nat) (s : State) : Host.Outcome State Fault Refusal :=
  commit s (vmulEffect k s)
/-- VMINMAX (R269). -/
def execVminmax (k : Nat) (s : State) : Host.Outcome State Fault Refusal :=
  commit s (vminmaxEffect k s)
/-- VSHF (R269). -/
def execVshf (k : Nat) (s : State) : Host.Outcome State Fault Refusal :=
  commit s (vshfEffect k s)
/-- VLOG (R269). -/
def execVlog (k : Nat) (s : State) : Host.Outcome State Fault Refusal :=
  commit s (vlogEffect k s)
/-- VCMP (R269). -/
def execVcmp (k : Nat) (s : State) : Host.Outcome State Fault Refusal :=
  commit s (vcmpEffect k s)
/-- VMOV (R269). -/
def execVmov (k : Nat) (s : State) : Host.Outcome State Fault Refusal :=
  commit s (vmovEffect k s)
/-- VLERP (R268). -/
def execVlerp (k : Nat) (s : State) : Host.Outcome State Fault Refusal :=
  commit s (vlerpEffect k s)

end Sys2Proof.Machine
end

