-- ==== Sys2Proof/Machine/Yard.lean ====
section
/-! DEFINITION. Machine/Yard.lean: the Yardline messages that the device receives (R309 to R313, R319), FLOW_DIAG (R310,
R326) and universe discovery (R322). -/
namespace Sys2Proof.Machine
open Sys2Proof

/-! ## Streams and payloads -/

/-- The committed Yardline flow of a stream. -/
def streamFlow (c : Cfg) (stream : Nat) : Option (Nat × FlowRec) :=
  c.flow.flows.find? (fun e => e.2.enable && decide (e.2.kind = 0) && decide (e.2.stream.toNat = stream))

/-- A committed flow or cut names a stream (R319). -/
def knownStream (c : Cfg) (stream : Nat) : Bool :=
  (streamFlow c stream).isSome || c.ym.cuts.any (fun x => x.cueStream.toNat = stream)

/-- Bytes a to a + n of a payload as a number. -/
def field (b : List Byte) (a n : Nat) : Nat := unbe ((b.drop a).take n)

/-- The records of a TELEMETRY payload, type, zero byte and body, in at most n steps; none where a LENGTH is wrong. -/
def telemRecs : Nat → List Byte → Option (List (Nat × Nat × List Byte))
  | 0, b => if b.isEmpty then some [] else none
  | n + 1, b =>
    if b.isEmpty then some []
    else
      let len := field b 2 2
      if len < 4 ∨ len % 4 ≠ 0 ∨ b.length < len then none
      else (telemRecs n (b.drop len)).map (fun r => (field b 0 1, field b 1 1, (b.take len).drop 4) :: r)

/-- The temperature entries of a record: fixture word, temperature, zero half. -/
def tempEntries (b : List Byte) : List (Nat × Int × Nat) :=
  (List.range (b.length / 8)).map (fun i =>
    (field b (8 * i) 4, (BitVec.ofNat 16 (field b (8 * i + 4) 2)).toInt, field b (8 * i + 6) 2))

/-- The entries of a PROOF payload: offset half, result, zero byte. -/
def proofEntries (b : List Byte) : List (Nat × Nat × Nat) :=
  (List.range (b.length / 4)).map (fun i => (field b (4 * i) 2, field b (4 * i + 2) 1, field b (4 * i + 3) 1))

/-- Every bit of a payload that R308 and R309 mark zero is zero. -/
def zerosOk (type : Nat) (b : List Byte) : Bool :=
  if type = 5 ∨ type = 0x0B then decide (field b 1 3 = 0)
  else if type = 7 then (proofEntries b).all (fun e => decide (e.1 < 16384) && decide (e.2.2 = 0))
  else if type = 6 then
    match telemRecs b.length b with
    | some rs => rs.all (fun r => decide (r.2.1 = 0)
        && (decide (r.1 ≠ 1) || (tempEntries r.2.2).all (fun e => decide (e.1 < 131072) && decide (e.2.2 = 0))))
    | none => true
  else true

/-- The statuses of a STATUS record, by position: 2-bit codes from the most significant bits down. -/
def statusCodes (b : List Byte) : List (Nat × Nat) :=
  (List.range (field b 2 2)).map (fun i => (field b 0 2 + i, field b (4 + i / 4) 1 / 4 ^ (3 - i % 4) % 4))

/-- The currents of a CURRENT record, by position. -/
def currentCodes (b : List Byte) : List (Nat × Nat) :=
  (List.range (field b 2 2)).map (fun i => (field b 0 2 + i, field b (4 + 2 * i) 2))

/-- A record's body holds what its header says. -/
def bodyOk (type : Nat) (b : List Byte) : Bool :=
  if type = 1 then decide (b.length % 8 = 0)
  else if type = 2 then decide (1 ≤ field b 2 2) && decide (field b 2 2 ≤ 4096) && decide (4 + ceilDiv (field b 2 2) 4 ≤ b.length)
  else if type = 3 then decide (4 + 2 * field b 2 2 ≤ b.length)
  else true

/-- A flow names a fixture: a pixel or an entry of it does. -/
def flowHasFixture (c : Cfg) (f : Nat) (r : FlowRec) (x : Nat) : Bool :=
  if r.pixels then c.map.map.recs.any (fun p => decide (p.flow = f) && decide (p.fixture = x))
  else (flowEntries c.flow r).any (fun w => decide (fld w 16 0 = x))

/-- The lamp message of a payload, where it is well formed and names nothing outside its flow (R215, R309; log 39). -/
def lampMsgOf (c : Cfg) (f : Nat) (r : FlowRec) (type pt : Nat) (b : List Byte) : Option LampMsg :=
  if type = 7 then
    let es := proofEntries b
    if b.length % 4 = 0 ∧ es.all (fun e => decide (e.1 < r.count) && decide (1 ≤ e.2.1) && decide (e.2.1 ≤ 3)) then
      some (.proof f pt (es.map (fun e => (e.1, e.2.1))))
    else none
  else match telemRecs b.length b with
    | none => none
    | some rs =>
      let of (t : Nat) : List (List Byte) := (rs.filter (fun x => x.1 = t)).map (·.2.2)
      let temps := ((of 1).flatMap tempEntries).map (fun e => (e.1, e.2.1))
      let stats := (of 2).flatMap statusCodes
      let currents := (of 3).flatMap currentCodes
      if rs.all (fun x => bodyOk x.1 x.2.2) ∧ temps.all (fun e => flowHasFixture c f r e.1) ∧
          (stats ++ currents).all (fun e => decide (e.1 < r.count)) then some (.telemetry f temps stats currents)
      else none

/-! ## Reception (R311 to R313, R319) -/

/-- The header of a message breaks R311. -/
def badHeader (x : YlMsg) : Bool :=
  let form := if x.type = 1 ∨ x.type = 4 then fld x.format 10 0 else x.format.toNat
  decide (x.version ≠ 1) || decide (x.type < 1) || decide (0x0B < x.type) || decide (fld x.flags 3 0 ≠ 0)
    || decide (form ≠ 0) || decide (x.total < x.fragOff + x.payload.length)

/-- A message is discarded under R311. -/
def ylBad (p : Nat) (s : State) : State := (s.bump (.ylRxBad p)).raiseCause (.ylRx p) 0

/-- A DIAG answer goes to the FLOW_DIAG that waits for it (R310, R319). -/
def diagAnswer (stream : Nat) (b : List Byte) (s : State) : State :=
  match s.flw.diags.find? (fun d => d.2.1 = stream ∧ d.2.2.2 = field b 0 2) with
  | some d =>
    endWait d.1 0x0406#16 { s with flw := { s.flw with diags := s.flw.diags.filter (fun x => x.1 ≠ d.1) } }
      (okWith (le 4 1 ++ b))
  | none => s

/-- A lamp message goes to the lamp logic, or is dropped and counted (R214, R215). -/
def lampRx (stream type pt : Nat) (b : List Byte) (s : State) : State :=
  match (streamFlow s.cfg stream).bind (fun e => lampMsgOf s.cfg e.1 e.2 type pt b) with
  | some m => acceptLamp m s
  | none => s.bump .lampTelemDrop

/-- A complete message is handled by type (R319); `pt` is the PT of its header. -/
def ylHandle (p stream type pt : Nat) (b : List Byte) (errs : List LineBad) (s : State) : State :=
  if type = 6 ∨ type = 7 then lampRx stream type pt b s
  else if type = 0x0B then (if b.length = 8 then armAcked stream (field b 0 1) (BitVec.ofNat 32 (field b 4 4)) s else s)
  else if type = 5 then (if b.length = 4 then cueCut p (field b 0 1) stream errs s else s)
  else if type = 8 then diagAnswer stream b s
  else s

/-- The UP space of a stream takes a sequence (R312): the state with H moved, or none for a duplicate. -/
def takeSeq (stream : Nat) (seq : Word) (s : State) : Option State :=
  let put : State := { s with flw := { s.flw with up := tset s.flw.up stream { h := seq, heard := s.elt } } }
  match tfind? s.flw.up stream with
  | none => some put
  | some u =>
    if u.heard + 1000000000 < s.elt then some put
    else
      let d := (seq - u.h).toNat
      if d = 0 ∨ 2 ^ 32 - 1023 ≤ d then none else some put

/-- A fragment is placed in its message (R313): bytes already held stay. -/
def Asm.put (a : Asm) (off : Nat) (b : List Byte) : Asm :=
  { a with bytes := ((List.range b.length).zip b).foldl (fun t e =>
      if (tfind? t (off + e.1)).isSome then t else tset t (off + e.1) e.2) a.bytes }

/-- Every byte is present. -/
def Asm.whole (a : Asm) : Bool := decide (a.total ≤ a.bytes.length)

/-- An accepted fragment: a complete message is handled, older incomplete ones of its stream are dropped (R313). -/
def ylFragment (p : Nat) (x : YlMsg) (a : Asm) (errs : List LineBad) (s : State) : State :=
  let mine (y : Asm) : Bool := decide (y.stream = x.stream) && decide (y.seq = x.seq)
  let older (y : Asm) : Bool := decide (y.stream = x.stream) && fnLater x.seq y.seq
  let b := a.put x.fragOff x.payload
  if b.whole then
    let bytes := b.bytes.map (·.2)
    let s1 : State := { s with flw := { s.flw with asm := s.flw.asm.filter (fun y => !mine y && !older y) } }
    if zerosOk x.type bytes then ylHandle p x.stream x.type (x.ptSec.toNat * 1000000000 + x.ptNs.toNat) bytes errs s1 else ylBad p s1
  else { s with flw := { s.flw with asm := s.flw.asm.filter (fun y => !mine y) ++ [b] } }

/-- The types that use the UP space: what a node, or a sender of cues, sends. -/
def upType (t : Nat) : Bool := decide (t = 5) || decide (t = 6) || decide (t = 7) || decide (t = 8) || decide (t = 0x0B)

/-- YARDLINE_RECEIVE: a Yardline message arrives on Ethernet port p; `errs` are what the line ports' stores give if it
fires a cut. UPDATE messages are the chain's (R516). -/
def yardlineReceiveEffect (p : Nat) (x : YlMsg) (errs : List LineBad) (s : State) : State :=
  if !s.portOn p || !(s.port p).link then s
  else if badHeader x || (decide (x.payload.length = x.total) && !zerosOk x.type x.payload) then ylBad p s
  else if x.type = 9 then s
  else if !knownStream s.cfg x.stream then
    let s1 := (s.bump (.ylRxUnknown p)).raiseCause (.ylRx p) 1
    if x.type = 6 ∨ x.type = 7 then s1.bump .lampTelemDrop else s1
  else if !upType x.type then s
  else
    match s.flw.asm.find? (fun a => decide (a.stream = x.stream) && decide (a.seq = x.seq)) with
    | some a => ylFragment p x a errs s
    | none =>
      match takeSeq x.stream x.seq s with
      | some s1 => ylFragment p x { stream := x.stream, seq := x.seq, total := x.total } errs s1
      | none => s.bump (.ylRxDup p)

/-! ## FLOW_DIAG (R310, R326) -/

/-- FLOW_DIAG: one DIAG request goes to the node of a stream, from the LEAD only; the command waits for the answer. -/
def flowDiagEffect (m stream code : Nat) (data : List Byte) (s : State) : State :=
  cmd m 0x0406#16 s (fun _ t =>
    if 1024 < data.length ∨ 65535 < code then (some (reply .badParam), t)
    else match streamFlow t.cfg stream with
    | none => (some (reply .badParam), t)
    | some (_, r) =>
      if t.pair.role = .shadow then (some (reply .badState), t)
      else
        let seq := t.ym.ctrlSeq + 1
        let room := ipMtu t.cfg r.port - (if r.ipv6 then 40 else 20) - 40
        let t1 : State := { t with
          ym := { t.ym with ctrlSeq := seq }
          flw := { t.flw with diags := t.flw.diags ++ [(m, stream, t.elt + 100000000, code)] } }
        (none, (ctrlFrames t1 r (.diag m) 8 0 0 seq room (be 2 code ++ be 2 data.length ++ data)).foldl
          (fun s x => enqueueBe r.port x s) t1))

/-- FLOW_DIAG_TIMEOUT: no answer within 100 ms (R326). -/
def flowDiagTimeoutEffect (m : Nat) (s : State) : State :=
  match s.flw.diags.find? (fun d => d.1 = m) with
  | some d =>
    if d.2.2.1 ≤ s.elt then
      endWait m 0x0406#16 { s with flw := { s.flw with diags := s.flw.diags.filter (fun x => x.1 ≠ m) } } (okWith (le 4 0))
    else s
  | none => s

/-! ## Universe discovery (R322) -/

/-- The universes that a port sends, rising. -/
def portUniverses (c : Cfg) (p : Nat) : List Nat :=
  ((c.flow.flows.filter (fun e => e.2.enable && decide (e.2.kind = 1) && decide (e.2.port = p))).map
    (fun e => e.2.stream.toNat)).mergeSort (fun a b => decide (a ≤ b))

/-- A page of an E1.31 universe discovery packet (log 23). -/
def discoveryPacket (x : FlowSet) (page last : Nat) (us : List Nat) : List Byte :=
  let list := be 2 (0x7000 + (8 + 2 * us.length)) ++ be 4 1 ++ be 1 page ++ be 1 last ++ us.flatMap (be 2)
  let framing := be 2 (0x7000 + (74 + list.length)) ++ be 4 2 ++ nameBytes x.name ++ be 4 0 ++ list
  acnRoot x.cid 8 framing.length ++ framing

/-- The discovery frames of a port: pages of 512 universes, to the discovery universe 64,214 (log 23). -/
def discoveryFrames (c : Cfg) (p : Nat) : List TxFrame :=
  let us := portUniverses c p
  let k := ceilDiv us.length 512
  let r : FlowRec := { kind := 1, port := p, stream := 64214 }
  (List.range k).map (fun i =>
    let b := discoveryPacket c.flow.set i (k - 1) ((us.drop (512 * i)).take 512)
    { kind := .discovery, body := b, dst := r.dest, udp := 5568, octets := r.octets b.length })

/-- SACN_DISCOVERY_TX: every 10 s, in the best-effort share. -/
def sacnDiscoveryTxEffect (s : State) : State :=
  if s.flw.discAt + 10000000000 ≤ s.elt ∧ s.netOn s.txContent then
    (List.range s.nEth).foldl (fun s p => (discoveryFrames s.cfg p).foldl (fun s x => enqueueBe p x s) s)
      { s with flw := { s.flw with discAt := s.elt } }
  else s

-- The meanings of this family's rows: the effect, with the queue and the identity kept.

/-- YARDLINE_RECEIVE (R319). -/
def execYardlineReceive (p : Nat) (x : YlMsg) (errs : List LineBad) (s : State) :
    Host.Outcome State Fault Refusal :=
  commit s (yardlineReceiveEffect p x errs s)
/-- SACN_DISCOVERY_TX (R322). -/
def execSacnDiscoveryTx (s : State) : Host.Outcome State Fault Refusal :=
  commit s (sacnDiscoveryTxEffect s)
/-- FLOW_DIAG (R326). -/
def execFlowDiag (m stream code : Nat) (data : List Byte) (s : State) : Host.Outcome State Fault Refusal :=
  commit s (flowDiagEffect m stream code data s)
/-- FLOW_DIAG_TIMEOUT (R326). -/
def execFlowDiagTimeout (m : Nat) (s : State) : Host.Outcome State Fault Refusal :=
  commit s (flowDiagTimeoutEffect m s)

end Sys2Proof.Machine
end

