-- ==== Sys2Proof/Machine/Dispatch.lean ====
section
/-! DEFINITION. Machine/Dispatch.lean: one arm per command, one direct call of its meaning. -/
namespace Sys2Proof.Machine
open Sys2Proof

/-- The effect of a command on everything but the queue. -/
def exec (i : Instr) (s : State) : Host.Outcome State Fault Refusal :=
  match i with
  | .coldReset b => Sys2Proof.Machine.execColdReset b s
  | .warmReset b => Sys2Proof.Machine.execWarmReset b s
  | .supplyCollapse core mvA mvB => Sys2Proof.Machine.execSupplyCollapse core mvA mvB s
  | .pcieReset => Sys2Proof.Machine.execPcieReset s
  | .serdesRefLoss r => Sys2Proof.Machine.execSerdesRefLoss r s
  | .serdesRefReturn r => Sys2Proof.Machine.execSerdesRefReturn r s
  | .rootPllLoss => Sys2Proof.Machine.execRootPllLoss s
  | .rootPllRelock => Sys2Proof.Machine.execRootPllRelock s
  | .domainPowerOn d => Sys2Proof.Machine.execDomainPowerOn d s
  | .narrowAccess p write bytes addr => Sys2Proof.Machine.execNarrowAccess p write bytes addr s
  | .unpermittedAccess p write addr => Sys2Proof.Machine.execUnpermittedAccess p write addr s
  | .registerWrite p r v => Sys2Proof.Machine.execRegisterWrite p r v s
  | .counterLoRead p r => Sys2Proof.Machine.execCounterLoRead p r s
  | .accessErrClear v => Sys2Proof.Machine.execAccessErrClear v s
  | .glbEvtCauseWrite v => Sys2Proof.Machine.execGlbEvtCauseWrite v s
  | .sheddingEnter ws w => Sys2Proof.Machine.execSheddingEnter ws w s
  | .sheddingLeave ws w => Sys2Proof.Machine.execSheddingLeave ws w s
  | .frameBoundary copied => Sys2Proof.Machine.execFrameBoundary copied s
  | .gateFire errs => Sys2Proof.Machine.execGateFire errs s
  | .mbxRing p m => Sys2Proof.Machine.execMbxRing p m s
  | .mbxAbort p m ring => Sys2Proof.Machine.execMbxAbort p m ring s
  | .mbxTake => Sys2Proof.Machine.execMbxTake s
  | .mbxEvtCauseWrite p v => Sys2Proof.Machine.execMbxEvtCauseWrite p v s
  | .mgmtDatagram x => Sys2Proof.Machine.execMgmtDatagram x s
  | .mgmtAssemblyTimeout m tag => Sys2Proof.Machine.execMgmtAssemblyTimeout m tag s
  | .dtlsHandshake x => Sys2Proof.Machine.execDtlsHandshake x s
  | .dtlsIdleExpire m => Sys2Proof.Machine.execDtlsIdleExpire m s
  | .dmaSegmentDone m x => Sys2Proof.Machine.execDmaSegmentDone m x s
  | .sessionIdleExpire id => Sys2Proof.Machine.execSessionIdleExpire id s
  | .cfgTxnExpire id => Sys2Proof.Machine.execCfgTxnExpire id s
  | .sessionOpen m mask cred => Sys2Proof.Machine.execSessionOpen m mask cred s
  | .sessionAuth m verified => Sys2Proof.Machine.execSessionAuth m verified s
  | .sessionClose m => Sys2Proof.Machine.execSessionClose m s
  | .sessionPing m => Sys2Proof.Machine.execSessionPing m s
  | .cfgBegin m => Sys2Proof.Machine.execCfgBegin m s
  | .cfgCommit m peer => Sys2Proof.Machine.execCfgCommit m peer s
  | .cfgAbort m => Sys2Proof.Machine.execCfgAbort m s
  | .cfgLoadImage m len obj => Sys2Proof.Machine.execCfgLoadImage m len obj s
  | .cfgStageChunk m obj offset data => Sys2Proof.Machine.execCfgStageChunk m obj offset data s
  | .cfgStatus m => Sys2Proof.Machine.execCfgStatus m s
  | .queryConfig m id => Sys2Proof.Machine.execQueryConfig m id s
  | .queryStaged m id => Sys2Proof.Machine.execQueryStaged m id s
  | .queryResourceMap m => Sys2Proof.Machine.execQueryResourceMap m s
  | .queryTelemetry m block => Sys2Proof.Machine.execQueryTelemetry m block s
  | .queryCounters m block => Sys2Proof.Machine.execQueryCounters m block s
  | .logRead m first count => Sys2Proof.Machine.execLogRead m first count s
  | .logFlashRead m first count => Sys2Proof.Machine.execLogFlashRead m first count s
  | .logClear m => Sys2Proof.Machine.execLogClear m s
  | .evcClaim p t => Sys2Proof.Machine.execEvcClaim p t s
  | .evcVclaim p v => Sys2Proof.Machine.execEvcVclaim p v s
  | .evcComplete p t n => Sys2Proof.Machine.execEvcComplete p t n s
  | .evcSrcCfgWrite p n v => Sys2Proof.Machine.execEvcSrcCfgWrite p n v s
  | .evcEnableApply n t => Sys2Proof.Machine.execEvcEnableApply n t s
  | .evcSrcCountRead p n => Sys2Proof.Machine.execEvcSrcCountRead p n s
  | .evcTgtStatusRead p t => Sys2Proof.Machine.execEvcTgtStatusRead p t s
  | .evcSwWrite v => Sys2Proof.Machine.execEvcSwWrite v s
  | .modTimerExpire t => Sys2Proof.Machine.execModTimerExpire t s
  | .msixUnmask v => Sys2Proof.Machine.execMsixUnmask v s
  | .pcieLinkL0Return => Sys2Proof.Machine.execPcieLinkL0Return s
  | .groomEventPoll => Sys2Proof.Machine.execGroomEventPoll s
  | .cutArm m c => Sys2Proof.Machine.execCutArm m c s
  | .cutArmTimeout m => Sys2Proof.Machine.execCutArmTimeout m s
  | .cutDisarm m c => Sys2Proof.Machine.execCutDisarm m c s
  | .cutFire m c errs => Sys2Proof.Machine.execCutFire m c errs s
  | .cutStatus m => Sys2Proof.Machine.execCutStatus m s
  | .cutTriggerWrite v errs => Sys2Proof.Machine.execCutTriggerWrite v errs s
  | .ymEvtCauseWrite v => Sys2Proof.Machine.execYmEvtCauseWrite v s
  | .ymSnapshot => Sys2Proof.Machine.execYmSnapshot s
  | .ymClear => Sys2Proof.Machine.execYmClear s
  | .ltWrap => Sys2Proof.Machine.execLtWrap s
  | .ptpSyncRx t1 t2 => Sys2Proof.Machine.execPtpSyncRx t1 t2 s
  | .ptpAnnounceRx a => Sys2Proof.Machine.execPtpAnnounceRx a s
  | .ptpDelayReqTx => Sys2Proof.Machine.execPtpDelayReqTx s
  | .ptpDelayRespRx seq t3 t4 => Sys2Proof.Machine.execPtpDelayRespRx seq t3 t4 s
  | .ptpSyncTx => Sys2Proof.Machine.execPtpSyncTx s
  | .ptpAnnounceTx => Sys2Proof.Machine.execPtpAnnounceTx s
  | .announceReceiptTimeout => Sys2Proof.Machine.execAnnounceReceiptTimeout s
  | .syncTimeout => Sys2Proof.Machine.execSyncTimeout s
  | .houseEdge port rising errs => Sys2Proof.Machine.execHouseEdge port rising errs s
  | .houseSyncLoss port => Sys2Proof.Machine.execHouseSyncLoss port s
  | .incrementWriteTimeout => Sys2Proof.Machine.execIncrementWriteTimeout s
  | .holdoverExpire => Sys2Proof.Machine.execHoldoverExpire s
  | .alignFirstMeasurement off => Sys2Proof.Machine.execAlignFirstMeasurement off s
  | .peerTimeExchange off => Sys2Proof.Machine.execPeerTimeExchange off s
  | .timeCapture v => Sys2Proof.Machine.execTimeCapture v s
  | .timeTrigCtrlWrite v => Sys2Proof.Machine.execTimeTrigCtrlWrite v s
  | .timeTriggerFire => Sys2Proof.Machine.execTimeTriggerFire s
  | .timeEvtCauseWrite v => Sys2Proof.Machine.execTimeEvtCauseWrite v s
  | .timeSetAlign m align wcRate => Sys2Proof.Machine.execTimeSetAlign m align wcRate s
  | .timeSetPtp m p => Sys2Proof.Machine.execTimeSetPtp m p s
  | .timeSetServo m jump slew lock hold => Sys2Proof.Machine.execTimeSetServo m jump slew lock hold s
  | .timeForceStep m mode ns lead => Sys2Proof.Machine.execTimeForceStep m mode ns lead s
  | .timeStatus m => Sys2Proof.Machine.execTimeStatus m s
  | .inputPacket ix p => Sys2Proof.Machine.execInputPacket ix p s
  | .peerInputComplete ix ts => Sys2Proof.Machine.execPeerInputComplete ix ts s
  | .stripeDone lines banks => Sys2Proof.Machine.execStripeDone lines banks s
  | .compositionEnd => Sys2Proof.Machine.execCompositionEnd s
  | .layerSet m l r => Sys2Proof.Machine.execLayerSet m l r s
  | .layerOrder m prog order => Sys2Proof.Machine.execLayerOrder m prog order s
  | .canvasSet m size ctrl bgRg bgB => Sys2Proof.Machine.execCanvasSet m size ctrl bgRg bgB s
  | .layerInputSet m ix r => Sys2Proof.Machine.execLayerInputSet m ix r s
  | .layerWrite m l target held => Sys2Proof.Machine.execLayerWrite m l target held s
  | .layerWriteBufferFree x => Sys2Proof.Machine.execLayerWriteBufferFree x s
  | .layerStillLoad m ix format width height premult obj => Sys2Proof.Machine.execLayerStillLoad m ix format width height premult obj s
  | .layerCoefSet m ix c => Sys2Proof.Machine.execLayerCoefSet m ix c s
  | .layerStatus m mask => Sys2Proof.Machine.execLayerStatus m mask s
  | .compEvtCauseWrite v => Sys2Proof.Machine.execCompEvtCauseWrite v s
  | .compSnapshot => Sys2Proof.Machine.execCompSnapshot s
  | .compClear => Sys2Proof.Machine.execCompClear s
  | .segmentMapped j errs => Sys2Proof.Machine.execSegmentMapped j errs s
  | .mapWindowClose => Sys2Proof.Machine.execMapWindowClose s
  | .mapLoad m obj => Sys2Proof.Machine.execMapLoad m obj s
  | .mapModelSet m head obj => Sys2Proof.Machine.execMapModelSet m head obj s
  | .mapCurveSet m ix d => Sys2Proof.Machine.execMapCurveSet m ix d s
  | .mapSet m pqWhite gm gmSrc probe => Sys2Proof.Machine.execMapSet m pqWhite gm gmSrc probe s
  | .mapPatch m ps => Sys2Proof.Machine.execMapPatch m ps s
  | .mapEvtCauseWrite v => Sys2Proof.Machine.execMapEvtCauseWrite v s
  | .mapSnapshot => Sys2Proof.Machine.execMapSnapshot s
  | .mapClear => Sys2Proof.Machine.execMapClear s
  | .lampSetNumberSend => Sys2Proof.Machine.execLampSetNumberSend s
  | .lampBinSet m rs => Sys2Proof.Machine.execLampBinSet m rs s
  | .lampCircuitSet m rs => Sys2Proof.Machine.execLampCircuitSet m rs s
  | .lampGroupSet m x => Sys2Proof.Machine.execLampGroupSet m x s
  | .lampCfgSet m floor staleD telem proof measCode => Sys2Proof.Machine.execLampCfgSet m floor staleD telem proof measCode s
  | .lampGroupReset m x => Sys2Proof.Machine.execLampGroupReset m x s
  | .lampStatus m first count currents => Sys2Proof.Machine.execLampStatus m first count currents s
  | .lampGroupStatus m first count => Sys2Proof.Machine.execLampGroupStatus m first count s
  | .lampEvtCauseRead p => Sys2Proof.Machine.execLampEvtCauseRead p s
  | .slotPrime => Sys2Proof.Machine.execSlotPrime s
  | .delayMet t => Sys2Proof.Machine.execDelayMet t s
  | .taskDispatch k bad => Sys2Proof.Machine.execTaskDispatch k bad s
  | .taskPreempt k => Sys2Proof.Machine.execTaskPreempt k s
  | .switchHandlerTimeout k => Sys2Proof.Machine.execSwitchHandlerTimeout k s
  | .loftRefill bad => Sys2Proof.Machine.execLoftRefill bad s
  | .farrierGrant k => Sys2Proof.Machine.execFarrierGrant k s
  | .pdkBusyWindow => Sys2Proof.Machine.execPdkBusyWindow s
  | .pdkGraphSet m obj => Sys2Proof.Machine.execPdkGraphSet m obj s
  | .pdkCoreSet m images => Sys2Proof.Machine.execPdkCoreSet m images s
  | .pdkCancel m task flags fn => Sys2Proof.Machine.execPdkCancel m task flags fn s
  | .pdkTaskStatus m first count => Sys2Proof.Machine.execPdkTaskStatus m first count s
  | .pdkEvtCauseRead p k => Sys2Proof.Machine.execPdkEvtCauseRead p k s
  | .pdkSnapshot => Sys2Proof.Machine.execPdkSnapshot s
  | .pdkClear => Sys2Proof.Machine.execPdkClear s
  | .add k => Sys2Proof.Machine.execAdd k s
  | .sub k => Sys2Proof.Machine.execSub k s
  | .and k => Sys2Proof.Machine.execAnd k s
  | .or k => Sys2Proof.Machine.execOr k s
  | .xor k => Sys2Proof.Machine.execXor k s
  | .shl k => Sys2Proof.Machine.execShl k s
  | .shr k => Sys2Proof.Machine.execShr k s
  | .sar k => Sys2Proof.Machine.execSar k s
  | .mul k => Sys2Proof.Machine.execMul k s
  | .mulh k => Sys2Proof.Machine.execMulh k s
  | .mulq k => Sys2Proof.Machine.execMulq k s
  | .min k => Sys2Proof.Machine.execMin k s
  | .max k => Sys2Proof.Machine.execMax k s
  | .adds k => Sys2Proof.Machine.execAdds k s
  | .subs k => Sys2Proof.Machine.execSubs k s
  | .clz k => Sys2Proof.Machine.execClz k s
  | .divu k => Sys2Proof.Machine.execDivu k s
  | .sel k => Sys2Proof.Machine.execSel k s
  | .addi k => Sys2Proof.Machine.execAddi k s
  | .andi k => Sys2Proof.Machine.execAndi k s
  | .ori k => Sys2Proof.Machine.execOri k s
  | .xori k => Sys2Proof.Machine.execXori k s
  | .movi k => Sys2Proof.Machine.execMovi k s
  | .movhi k => Sys2Proof.Machine.execMovhi k s
  | .cmpeq k => Sys2Proof.Machine.execCmpeq k s
  | .cmplt k => Sys2Proof.Machine.execCmplt k s
  | .cmpltu k => Sys2Proof.Machine.execCmpltu k s
  | .plog k => Sys2Proof.Machine.execPlog k s
  | .br k => Sys2Proof.Machine.execBr k s
  | .call k => Sys2Proof.Machine.execCall k s
  | .ret k => Sys2Proof.Machine.execRet k s
  | .dbnz k => Sys2Proof.Machine.execDbnz k s
  | .endt k => Sys2Proof.Machine.execEndt k s
  | .cancel k => Sys2Proof.Machine.execCancel k s
  | .evt k => Sys2Proof.Machine.execEvt k s
  | .srd k => Sys2Proof.Machine.execSrd k s
  | .ldw k => Sys2Proof.Machine.execLdw k s
  | .stw k => Sys2Proof.Machine.execStw k s
  | .ldh k => Sys2Proof.Machine.execLdh k s
  | .sth k => Sys2Proof.Machine.execSth k s
  | .vld k => Sys2Proof.Machine.execVld k s
  | .vst k => Sys2Proof.Machine.execVst k s
  | .pld k hit => Sys2Proof.Machine.execPld k hit s
  | .pst k => Sys2Proof.Machine.execPst k s
  | .vpld k hit => Sys2Proof.Machine.execVpld k hit s
  | .vpst k => Sys2Proof.Machine.execVpst k s
  | .lst k cyc => Sys2Proof.Machine.execLst k cyc s
  | .vlst k cyc => Sys2Proof.Machine.execVlst k cyc s
  | .cld k cyc => Sys2Proof.Machine.execCld k cyc s
  | .vadd k => Sys2Proof.Machine.execVadd k s
  | .vsub k => Sys2Proof.Machine.execVsub k s
  | .vmul k => Sys2Proof.Machine.execVmul k s
  | .vminmax k => Sys2Proof.Machine.execVminmax k s
  | .vshf k => Sys2Proof.Machine.execVshf k s
  | .vlog k => Sys2Proof.Machine.execVlog k s
  | .vcmp k => Sys2Proof.Machine.execVcmp k s
  | .vmov k => Sys2Proof.Machine.execVmov k s
  | .vlerp k => Sys2Proof.Machine.execVlerp k s
  | .argRecordFetched k cyc => Sys2Proof.Machine.execArgRecordFetched k cyc s
  | .cacheMissFill k cyc => Sys2Proof.Machine.execCacheMissFill k cyc s
  | .cldRowVisible k cyc => Sys2Proof.Machine.execCldRowVisible k cyc s
  | .budgetExhausted k => Sys2Proof.Machine.execBudgetExhausted k s
  | .sealComplete k => Sys2Proof.Machine.execSealComplete k s
  | .stallScrubRead k a e => Sys2Proof.Machine.execStallScrubRead k a e s
  | .tackFixtureSet m obj => Sys2Proof.Machine.execTackFixtureSet m obj s
  | .tackLoad m obj => Sys2Proof.Machine.execTackLoad m obj s
  | .tackStatus m mask => Sys2Proof.Machine.execTackStatus m mask s
  | .tackParamRead m first count => Sys2Proof.Machine.execTackParamRead m first count s
  | .stlEvtCauseRead p k => Sys2Proof.Machine.execStlEvtCauseRead p k s
  | .stlSnapshot => Sys2Proof.Machine.execStlSnapshot s
  | .stlClear => Sys2Proof.Machine.execStlClear s
  | .packDone errs => Sys2Proof.Machine.execPackDone errs s
  | .ringSpaceFreed errs => Sys2Proof.Machine.execRingSpaceFreed errs s
  | .ethFrameTxStart p => Sys2Proof.Machine.execEthFrameTxStart p s
  | .ethFrameTxDone p => Sys2Proof.Machine.execEthFrameTxDone p s
  | .yardlineReceive p x errs => Sys2Proof.Machine.execYardlineReceive p x errs s
  | .sacnDiscoveryTx => Sys2Proof.Machine.execSacnDiscoveryTx s
  | .flowLoad m obj => Sys2Proof.Machine.execFlowLoad m obj s
  | .flowSet m rs => Sys2Proof.Machine.execFlowSet m rs s
  | .flowParamSet m first es => Sys2Proof.Machine.execFlowParamSet m first es s
  | .flowSettings m b => Sys2Proof.Machine.execFlowSettings m b s
  | .flowStatus m first count => Sys2Proof.Machine.execFlowStatus m first count s
  | .flowDiag m stream code data => Sys2Proof.Machine.execFlowDiag m stream code data s
  | .flowDiagTimeout m => Sys2Proof.Machine.execFlowDiagTimeout m s
  | .flwTxEvtCauseRead q p => Sys2Proof.Machine.execFlwTxEvtCauseRead q p s
  | .ylRxEvtCauseRead q p => Sys2Proof.Machine.execYlRxEvtCauseRead q p s
  | .ethLinkUp p => Sys2Proof.Machine.execEthLinkUp p s
  | .ethLinkDown p => Sys2Proof.Machine.execEthLinkDown p s
  | .ethFrameRx p f => Sys2Proof.Machine.execEthFrameRx p f s
  | .rxDescPoll p q own => Sys2Proof.Machine.execRxDescPoll p q own s
  | .arpRefresh p => Sys2Proof.Machine.execArpRefresh p s
  | .pauseExpire p => Sys2Proof.Machine.execPauseExpire p s
  | .ctUnderrun p => Sys2Proof.Machine.execCtUnderrun p s
  | .ctThresholdDecay p => Sys2Proof.Machine.execCtThresholdDecay p s
  | .lpiEnter p => Sys2Proof.Machine.execLpiEnter p s
  | .lpiGateWake p => Sys2Proof.Machine.execLpiGateWake p s
  | .lldpTx p => Sys2Proof.Machine.execLldpTx p s
  | .tsqDrain p => Sys2Proof.Machine.execTsqDrain p s
  | .ethPortSet m p r => Sys2Proof.Machine.execEthPortSet m p r s
  | .ethFilterSet m p r => Sys2Proof.Machine.execEthFilterSet m p r s
  | .ethRingSet m p q base => Sys2Proof.Machine.execEthRingSet m p q base s
  | .ethRingRestart m p mask => Sys2Proof.Machine.execEthRingRestart m p mask s
  | .ethTx m p stamp tag frame => Sys2Proof.Machine.execEthTx m p stamp tag frame s
  | .ethRxRead m p q count => Sys2Proof.Machine.execEthRxRead m p q count s
  | .ethStatus m mask => Sys2Proof.Machine.execEthStatus m mask s
  | .ethTxEvtCauseRead q p => Sys2Proof.Machine.execEthTxEvtCauseRead q p s
  | .ethRxEvtCauseRead q p => Sys2Proof.Machine.execEthRxEvtCauseRead q p s
  | .ethSnapshot p => Sys2Proof.Machine.execEthSnapshot p s
  | .ethClear p => Sys2Proof.Machine.execEthClear p s
  | .lineFrameStart n errs => Sys2Proof.Machine.execLineFrameStart n errs s
  | .dmxPacketEnd n => Sys2Proof.Machine.execDmxPacketEnd n s
  | .rdmTxnStart n => Sys2Proof.Machine.execRdmTxnStart n s
  | .rdmResponse n brk bytes good => Sys2Proof.Machine.execRdmResponse n brk bytes good s
  | .rdmResponseTimeout n => Sys2Proof.Machine.execRdmResponseTimeout n s
  | .rdmNoWindow n => Sys2Proof.Machine.execRdmNoWindow n s
  | .mangerRead n => Sys2Proof.Machine.execMangerRead n s
  | .driveEnableCollapse n => Sys2Proof.Machine.execDriveEnableCollapse n s
  | .driveEnableReturn n => Sys2Proof.Machine.execDriveEnableReturn n s
  | .triggerInputEdge n rising errs => Sys2Proof.Machine.execTriggerInputEdge n rising errs s
  | .triggerPulseEnd n => Sys2Proof.Machine.execTriggerPulseEnd n s
  | .shortDetect n => Sys2Proof.Machine.execShortDetect n s
  | .shortShutoff n => Sys2Proof.Machine.execShortShutoff n s
  | .linePortSet m n r => Sys2Proof.Machine.execLinePortSet m n r s
  | .lineRdm m n q => Sys2Proof.Machine.execLineRdm m n q s
  | .lineRdmDiscover m n full => Sys2Proof.Machine.execLineRdmDiscover m n full s
  | .lineRdmUids m n first count => Sys2Proof.Machine.execLineRdmUids m n first count s
  | .lineStatus m mask => Sys2Proof.Machine.execLineStatus m mask s
  | .lpEvtCauseRead q n => Sys2Proof.Machine.execLpEvtCauseRead q n s
  | .lpSnapshot => Sys2Proof.Machine.execLpSnapshot s
  | .lpClear => Sys2Proof.Machine.execLpClear s
  | .headFrameStart h us => Sys2Proof.Machine.execHeadFrameStart h us s
  | .headShadowTake h => Sys2Proof.Machine.execHeadShadowTake h s
  | .headSignatureDone h => Sys2Proof.Machine.execHeadSignatureDone h s
  | .tilePacketDue h t => Sys2Proof.Machine.execTilePacketDue h t s
  | .dpHotplug h edid trained => Sys2Proof.Machine.execDpHotplug h edid trained s
  | .dpLinkLoss h unplugged => Sys2Proof.Machine.execDpLinkLoss h unplugged s
  | .rasterHeadSet m hs => Sys2Proof.Machine.execRasterHeadSet m hs s
  | .rasterTileSet m h t r => Sys2Proof.Machine.execRasterTileSet m h t r s
  | .rasterStatus m mask => Sys2Proof.Machine.execRasterStatus m mask s
  | .rasterDpEdid m h first count => Sys2Proof.Machine.execRasterDpEdid m h first count s
  | .rstEvtCauseRead q h => Sys2Proof.Machine.execRstEvtCauseRead q h s
  | .rstSnapshot => Sys2Proof.Machine.execRstSnapshot s
  | .rstClear => Sys2Proof.Machine.execRstClear s
  | .feedFault k b sample => Sys2Proof.Machine.execFeedFault k b sample s
  | .feedInWindow k b sample => Sys2Proof.Machine.execFeedInWindow k b sample s
  | .feedResyncComplete k b => Sys2Proof.Machine.execFeedResyncComplete k b s
  | .feedPeriodicSwap => Sys2Proof.Machine.execFeedPeriodicSwap s
  | .feedAonSwap => Sys2Proof.Machine.execFeedAonSwap s
  | .heartbeatTx => Sys2Proof.Machine.execHeartbeatTx s
  | .heartbeatRx => Sys2Proof.Machine.execHeartbeatRx s
  | .heartbeatMissed => Sys2Proof.Machine.execHeartbeatMissed s
  | .heartbeatLoss => Sys2Proof.Machine.execHeartbeatLoss s
  | .halterWatchdog => Sys2Proof.Machine.execHalterWatchdog s
  | .halterInLow => Sys2Proof.Machine.execHalterInLow s
  | .halterInHigh => Sys2Proof.Machine.execHalterInHigh s
  | .halterRaise => Sys2Proof.Machine.execHalterRaise s
  | .laneDown k => Sys2Proof.Machine.execLaneDown k s
  | .laneUp k => Sys2Proof.Machine.execLaneUp k s
  | .pairForm x => Sys2Proof.Machine.execPairForm x s
  | .pairInSync hash peerOk => Sys2Proof.Machine.execPairInSync hash peerOk s
  | .frameHashRx f n h => Sys2Proof.Machine.execFrameHashRx f n h s
  | .hashCompareDeadline => Sys2Proof.Machine.execHashCompareDeadline s
  | .swapGapStart => Sys2Proof.Machine.execSwapGapStart s
  | .swapPostpone => Sys2Proof.Machine.execSwapPostpone s
  | .swapIntervalExpire => Sys2Proof.Machine.execSwapIntervalExpire s
  | .preferredReversion => Sys2Proof.Machine.execPreferredReversion s
  | .pairSet m x => Sys2Proof.Machine.execPairSet m x s
  | .pairSwap m => Sys2Proof.Machine.execPairSwap m s
  | .pairStatus m => Sys2Proof.Machine.execPairStatus m s
  | .feedSet m image => Sys2Proof.Machine.execFeedSet m image s
  | .feedSwap m mask => Sys2Proof.Machine.execFeedSwap m mask s
  | .feedStatus m => Sys2Proof.Machine.execFeedStatus m s
  | .pairEvtCauseRead q => Sys2Proof.Machine.execPairEvtCauseRead q s
  | .pairSnapshot => Sys2Proof.Machine.execPairSnapshot s
  | .pairClear => Sys2Proof.Machine.execPairClear s
  | .sensorSample raws power => Sys2Proof.Machine.execSensorSample raws power s
  | .tripHoldMessage => Sys2Proof.Machine.execTripHoldMessage s
  | .tripTxStop => Sys2Proof.Machine.execTripTxStop s
  | .tripDomainsOff => Sys2Proof.Machine.execTripDomainsOff s
  | .tripHostOff => Sys2Proof.Machine.execTripHostOff s
  | .graceExpire => Sys2Proof.Machine.execGraceExpire s
  | .holdFallExpire => Sys2Proof.Machine.execHoldFallExpire s
  | .calMeasureDone vals => Sys2Proof.Machine.execCalMeasureDone vals s
  | .calApply kind index spare => Sys2Proof.Machine.execCalApply kind index spare s
  | .ddrQuiet => Sys2Proof.Machine.execDdrQuiet s
  | .bridleSet m image => Sys2Proof.Machine.execBridleSet m image s
  | .bridleStatus m => Sys2Proof.Machine.execBridleStatus m s
  | .bridleWait m timeoutMs => Sys2Proof.Machine.execBridleWait m timeoutMs s
  | .bridleWaitTimeout m => Sys2Proof.Machine.execBridleWaitTimeout m s
  | .bridleSensorClear m mask => Sys2Proof.Machine.execBridleSensorClear m mask s
  | .calSet m image => Sys2Proof.Machine.execCalSet m image s
  | .calRun m kinds => Sys2Proof.Machine.execCalRun m kinds s
  | .calRead m seq => Sys2Proof.Machine.execCalRead m seq s
  | .calRestore m bytes => Sys2Proof.Machine.execCalRestore m bytes s
  | .brdEvtCauseRead q => Sys2Proof.Machine.execBrdEvtCauseRead q s
  | .brdSnapshot => Sys2Proof.Machine.execBrdSnapshot s
  | .brdClear => Sys2Proof.Machine.execBrdClear s
  | .sramScrub region addr x held => Sys2Proof.Machine.execSramScrub region addr x held s
  | .patrolRead c word r again => Sys2Proof.Machine.execPatrolRead c word r again s
  | .checkClaim p u v => Sys2Proof.Machine.execCheckClaim p u v s
  | .checkStart p u => Sys2Proof.Machine.execCheckStart p u s
  | .checkSyncStart u => Sys2Proof.Machine.execCheckSyncStart u s
  | .checkData p u v => Sys2Proof.Machine.execCheckData p u v s
  | .checkData8 p u v => Sys2Proof.Machine.execCheckData8 p u v s
  | .checkFinish p u => Sys2Proof.Machine.execCheckFinish p u s
  | .checkAbortCmd p u fed => Sys2Proof.Machine.execCheckAbortCmd p u fed s
  | .checkResume p u => Sys2Proof.Machine.execCheckResume p u s
  | .checkScanDone u bad => Sys2Proof.Machine.execCheckScanDone u bad s
  | .checkStatusWrite p u v => Sys2Proof.Machine.execCheckStatusWrite p u v s
  | .farrierRound => Sys2Proof.Machine.execFarrierRound s
  | .sliceEnd sig => Sys2Proof.Machine.execSliceEnd sig s
  | .sliceDefer => Sys2Proof.Machine.execSliceDefer s
  | .rotationStart r => Sys2Proof.Machine.execRotationStart r s
  | .marchDone r pass => Sys2Proof.Machine.execMarchDone r pass s
  | .checkRun m u img data => Sys2Proof.Machine.execCheckRun m u img data s
  | .checkAbort m u fed => Sys2Proof.Machine.execCheckAbort m u fed s
  | .testSet m image => Sys2Proof.Machine.execTestSet m image s
  | .testRun m kind index => Sys2Proof.Machine.execTestRun m kind index s
  | .testStatus m => Sys2Proof.Machine.execTestStatus m s
  | .farEvtCauseRead p => Sys2Proof.Machine.execFarEvtCauseRead p s
  | .getVersion via => Sys2Proof.Machine.execGetVersion via s
  | .getCapabilities via => Sys2Proof.Machine.execGetCapabilities via s
  | .negotiateAlgorithms via => Sys2Proof.Machine.execNegotiateAlgorithms via s
  | .getDigests via => Sys2Proof.Machine.execGetDigests via s
  | .getCertificate via slot offset length => Sys2Proof.Machine.execGetCertificate via slot offset length s
  | .challenge via slot nonce => Sys2Proof.Machine.execChallenge via slot nonce s
  | .getMeasurements via q => Sys2Proof.Machine.execGetMeasurements via q s
  | .tapDebugUnlock phase verified => Sys2Proof.Machine.execTapDebugUnlock phase verified s
  | .unlockChallengeExpire => Sys2Proof.Machine.execUnlockChallengeExpire s
  | .debugHalt c => Sys2Proof.Machine.execDebugHalt c s
  | .updLockTimeout => Sys2Proof.Machine.execUpdLockTimeout s
  | .updBegin m chain => Sys2Proof.Machine.execUpdBegin m chain s
  | .updManifest m bytes sigOk => Sys2Proof.Machine.execUpdManifest m bytes sigOk s
  | .updChunk m c => Sys2Proof.Machine.execUpdChunk m c s
  | .updInstall m chain mism => Sys2Proof.Machine.execUpdInstall m chain mism s
  | .updActivate m b => Sys2Proof.Machine.execUpdActivate m b s
  | .updConfirm m => Sys2Proof.Machine.execUpdConfirm m s
  | .updEnd m => Sys2Proof.Machine.execUpdEnd m s
  | .updStatus m => Sys2Proof.Machine.execUpdStatus m s
  | .secStatus m => Sys2Proof.Machine.execSecStatus m s
  | .secLcSet m target verified b => Sys2Proof.Machine.execSecLcSet m target verified b s
  | .secCredSet m c => Sys2Proof.Machine.execSecCredSet m c s
  | .secCredDel m id => Sys2Proof.Machine.execSecCredDel m id s
  | .secDebugUnlock m phase verified => Sys2Proof.Machine.execSecDebugUnlock m phase verified s
  | .secSettingsSet m wipe mgmt rxAddrs => Sys2Proof.Machine.execSecSettingsSet m wipe mgmt rxAddrs s
  | .secKeyRevoke m k => Sys2Proof.Machine.execSecKeyRevoke m k s
  | .secEvtCauseRead p => Sys2Proof.Machine.execSecEvtCauseRead p s
  | .updateOffer port addr id man chain sigOk => Sys2Proof.Machine.execUpdateOffer port addr id man chain sigOk s
  | .updateAccept addr id version => Sys2Proof.Machine.execUpdateAccept addr id version s
  | .updateBusy addr id => Sys2Proof.Machine.execUpdateBusy addr id s
  | .updateChunk addr id k data => Sys2Proof.Machine.execUpdateChunk addr id k data s
  | .updateAck addr id k => Sys2Proof.Machine.execUpdateAck addr id k s
  | .chainAckTimeout => Sys2Proof.Machine.execChainAckTimeout s
  | .updateInstall addr id mism b => Sys2Proof.Machine.execUpdateInstall addr id mism b s
  | .updateInstalled addr id hop mism b => Sys2Proof.Machine.execUpdateInstalled addr id hop mism b s
  | .updateFailed addr id hop st => Sys2Proof.Machine.execUpdateFailed addr id hop st s
  | .updateAbort addr id => Sys2Proof.Machine.execUpdateAbort addr id s
  | .chainHopTimeout => Sys2Proof.Machine.execChainHopTimeout s
  | .ptpDelayReqRx seq => Sys2Proof.Machine.execPtpDelayReqRx seq s
  | .peerCutTrigger c errs => Sys2Proof.Machine.execPeerCutTrigger c errs s
  | .peerLampForward f => Sys2Proof.Machine.execPeerLampForward f s
  | .peerLayerCopy l frame data => Sys2Proof.Machine.execPeerLayerCopy l frame data s
  | .ddrApplyRequest frame => Sys2Proof.Machine.execDdrApplyRequest frame s
  | .swapGapNotice ts => Sys2Proof.Machine.execSwapGapNotice ts s
  | .pcieL1OrD3hotEntry d3 => Sys2Proof.Machine.execPcieL1OrD3hotEntry d3 s
  | .debugResume c => Sys2Proof.Machine.execDebugResume c s
  | .tapScanShift => Sys2Proof.Machine.execTapScanShift s
  | .factoryToken verified b => Sys2Proof.Machine.execFactoryToken verified b s

end Sys2Proof.Machine
end

