-- ==== Sys2Proof/Machine/View.lean ====
section
/-! DEFINITION. Machine/View.lean: what a read of BAR0 finds (R11, R13, R31 to R33): the registers of every block by
their offsets, as the register tables of the chapters give them. The table of commands has no row for a plain read, which
changes nothing; reads that change something have rows of their own. -/
namespace Sys2Proof.Machine
open Sys2Proof

/-- Registers by offset; a location that no register names is reserved and reads 0 (R13). -/
abbrev RegMap := List (Nat × Nat)

/-- A one-bit field. -/
def flag (b : Bool) (i : Nat) : Nat := if b then 2 ^ i else 0

/-- n registers at a base, a step apart. -/
def span (base step n : Nat) (f : Nat → Nat) : RegMap := (List.range n).map (fun i => (base + step * i, f i))

/-- A _LO and _HI pair of a 64-bit counter (R9): the low word now, the high word that the path's latest _LO read latched. -/
def pair64 (s : State) (p : Path) (base : Nat) (r : Reg64) : RegMap :=
  [(base, s.value64 r % 2 ^ 32), (base + 4, (s.hiOf p r).toNat)]

/-- A 64-bit value as two registers. -/
def twoWords (base v : Nat) : RegMap := [(base, v % 2 ^ 32), (base + 4, v / 2 ^ 32)]

/-- The value that a row's read returns to a path. -/
def returned (p : Path) (s : State) : Nat :=
  match s.glb.readData.find? (fun e => e.1 = p) with | some e => e.2.toNat | none => 0

/-! ## Chapters 00 to 03 -/

/-- GLB_DOMAIN_STATUS (R26): TEST is on while a self-test runs or the debug module answers. -/
def domainWord (s : State) : Nat :=
  let testing := s.far.active.isSome || s.far.rots.any (fun e => e.2.copy.isSome || e.2.march.isSome) || s.debugOn
  s.glb.domain.toNat + flag (testing && decide (s.domainOf 15 = 0)) 30

/-- The GLOBAL block. -/
def glbMap (s : State) : RegMap :=
  let k := s.glb.clk
  let a := s.glb.acc
  [(0x0, s.glb.deviceId.toNat), (0x4, s.vcode.toNat), (0x8, domainWord s),
   (0xC, flag k.aonRc 4 + flag k.pcieRef 3 + flag k.serRef1 2 + flag k.serRef0 1 + flag k.rootLock 0),
   (0x10, flag a.valid 31 + a.path.toNat * 2 ^ 28 + a.cause.toNat * 2 ^ 24 + a.count.toNat * 2 ^ 16),
   (0x14, a.addr.toNat), (0xF0000, (s.cause .glb).toNat)]

/-- MBX_STATE.STATE's code (R43). -/
def MbxSt.code : MbxSt → Nat
  | .idle => 0 | .pending => 1 | .executing => 2 | .done => 3

/-- MBX_STATE of a mailbox (R44, R47). -/
def mbxState (b : Mailbox) : Nat :=
  b.abortRes.toNat * 2 ^ 30 + b.respLen.toNat * 2 ^ 16 + b.doneCount.toNat * 2 ^ 8 + b.st.code

/-- The MAILBOX block: MBX_GROOM_LOAD, the request and response windows, the doorbells' words, MBX_EVT_CAUSE (R43, R66). -/
def mbxMap (s : State) : RegMap :=
  [(0xA0000, flag s.mbx.shedding 31 + s.mbx.peak.toNat * 256 + s.mbx.load.toNat), (0xF0800, (s.cause .mbx).toNat)]
    ++ (List.range 16).flatMap (fun m =>
      let b := s.box m
      let w := respBytes b.resp
      [(0xF0004 + 16 * m, mbxState b), (0xF0008 + 16 * m, b.ringIgnored.toNat)]
        ++ b.window.map (fun e => (0x80000 + 0x2000 * m + 4 * e.1, e.2.toNat))
        ++ span (0x81000 + 0x2000 * m) 4 (b.respLen.toNat / 4) (fun i => num w (4 * i) 4))

/-- EVC_SRC_STATUS (R85). -/
def srcStatus (e : Evc) (n : Nat) : Nat :=
  let r := e.srcAt n
  let bits {α : Type} (t : Tab α) : Nat := ((List.range 4).map (fun i => flag (tfind? t i).isSome i)).sum
  flag r.level 12 + bits r.act * 256 + bits r.pend * 16 + r.effective.toNat

/-- The EVENT block (R85); a claim register reads what its row returns. -/
def evtMap (s : State) (p : Path) : RegMap :=
  span 0 4 256 (fun n => let r := s.evc.srcAt n
      r.vector.toNat * 256 + r.priority.toNat * 16 + r.enable.toNat)
    ++ span 0x1000 0x10 4 (fun t => let r := s.evc.tgtAt t
      r.base.toNat * 2 ^ 28 + r.bypass.toNat * 2 ^ 24 + r.modCnt.toNat * 2 ^ 16 + r.modUs.toNat)
    ++ span 0x80000 4 256 (fun n => srcStatus s.evc n)
    ++ span 0x81000 4 256 (fun n => (s.evc.srcAt n).count.toNat)
    ++ span 0xF0000 0x100 4 (fun t => returned p (evcClaimEffect p t s))
    ++ span 0xF0008 0x100 4 (fun t => (s.evc.tgtStatus t).toNat)
    ++ span 0xF0400 4 32 (fun v => returned p (evcVclaimEffect p v s))
    ++ [(0xF0800, s.evc.sw.toNat)]

/-! ## Chapters 04 and 05 -/

/-- The TIME block (R131, R152, R153). TIME_FREQ_PPB is the increment less 5 ns in parts per 10^9, rounded towards minus
infinity: R152 states no rounding (DESIGN CHOICE, log 72). -/
def timeMap (s : State) (p : Path) : RegMap :=
  let c := s.cfg.time
  let t := s.tim
  let inc : Int := t.incInt.toNat * 4294967296 + t.incFrac.toNat
  [(0x0, t.incFrac.toNat), (0x4, t.incInt.toNat), (0x8, c.jump.toNat), (0x10, c.align.toNat), (0x14, c.servo.toNat),
   (0x18, c.wcRate.toNat), (0x20, c.ptp.toNat), (0x24, c.asym.toNat),
   (0x80000, t.st.code * 2 ^ 29 + flag (decide (t.port = .slave)) 28 + flag t.hs1 27 + flag t.hs0 26
     + flag (t.step.isSome || t.forced.isSome) 25 + flag t.refused 24
     + flag (t.peerRef && decide (s.pair.role = .shadow)) 23 + t.gmChanges.toNat),
   (0x80004, (satWord t.offset).toNat),
   (0x80008, (satWord ((inc - 5 * 4294967296) * 1000000000 / (5 * 4294967296))).toNat)]
    ++ twoWords 0x80010 t.gmId.toNat ++ pair64 s p 0xF0000 .elt ++ twoWords 0xF0014 t.capElt.toNat
    ++ [(0xF001C, t.capNs.toNat)] ++ twoWords 0xF0020 t.capSec.toNat ++ [(0xF0028, t.capFn.toNat)]
    ++ twoWords 0xF0030 t.trig.toNat
    ++ [(0xF0038, flag t.late 1 + flag t.arm 0), (0xF0040, (s.cause .time).toNat)]

/-- The YARDMASTER block (R126, R328). -/
def ymMap (s : State) (p : Path) : RegMap :=
  let c := s.cfg.ym
  let y := s.ym
  [(0x0, c.rate.toNat), (0x4, c.gateNs.toNat), (0x10, c.cutCtrl.toNat), (0x100, s.cfg.flow.set.ylCfg.toNat),
   (0x104, s.cfg.flow.set.gate.toNat), (0x80000, (fnOf s.frameNow).toNat), (0x80004, y.fbNs % 1000000000),
   (0x80008, y.fbNs / 1000000000 % 2 ^ 32),
   (0x80010, s.gen % 65536 * 65536 + s.sched.length * 256 + flag y.pendFlag 0),
   (0x80014, ((s.sched.head?.map (fun x => (fnOf x.frame).toNat))).getD 0),
   (0x80020, flag y.holds 31 + y.cond.toNat),
   (0x80030, s.armedMask % 2 ^ 32), (0x80034, s.armedMask / 2 ^ 32),
   (0x80040, y.seqOff.toNat), (0x80044, y.cutSeq.toNat), (0x80048, y.ctrlSeq.toNat),
   (0x8004C, (s.cfg.flow.flows.filter (fun e => e.2.enable)).length),
   (0xF0000, (s.cause .ym).toNat),
   (0xF0014, y.fired.toNat * 65536 + y.reject.toNat * 4096 + y.lastCut.toNat),
   (0xF0020, y.missCause.toNat * 2 ^ 28 + y.missFlow.toNat), (0xF0024, y.missFn.toNat)]
    ++ (List.range 7).flatMap (fun k => pair64 s p (0xF0100 + 8 * k) (.ctr (.ymMiss k)))
    ++ pair64 s p 0xF0140 (.ctr .ymBeLate)

/-! ## Chapters 06 to 08 -/

/-- The COMPOSE block (R184). BUFFER is that of the composition in progress, 0 with none (DESIGN CHOICE, log 72). -/
def compMap (s : State) : RegMap :=
  let t := s.shown 6
  let c := t.cfg.comp
  [(0x0, c.size.toNat), (0x4, c.ctrl.toNat), (0x8, c.bgRg.toNat), (0xC, c.bgB.toNat), (0x10, c.order.toNat),
   (0x80000, (t.comp.composing.getD 0) % 3 * 2 ^ 30 + flag t.comp.overrun 29
     + ((List.range 9).map (fun l => lineBanks (layerOf c l))).sum * 2 ^ 16 + t.comp.rowsDone),
   (0xF0000, (t.cause .comp).toNat)]
    ++ (List.range 9).flatMap (fun l =>
      let r := layerFor l (layerOf c l)
      [(0x100 + 0x20 * l, r.ctrl.toNat), (0x104 + 0x20 * l, r.src.toNat), (0x108 + 0x20 * l, r.pos.toNat),
       (0x10C + 0x20 * l, r.dst.toNat), (0x110 + 0x20 * l, r.opac.toNat), (0x114 + 0x20 * l, r.opacSrc.toNat),
       (0x80100 + 0x10 * l, (compLStatus t l).toNat), (0x80104 + 0x10 * l, (t.comp.layer l).latchFn.toNat),
       (0xF0100 + 4 * l, s.counter (.compLate l))])
    ++ (List.range 8).flatMap (fun i =>
      let w := inputBytes (tget c.inputs i {})
      (0xF0200 + 4 * i, s.counter (.compRxIncomplete i))
        :: span (0x400 + 0x20 * i) 4 8 (fun j => num w (4 * j) 4))

/-- A content is being mapped: one of its segments is finished and one is not (R209). -/
def mapBusy (s : State) : Bool :=
  match s.map.content with
  | some n => decide (s.map.segDone < (s.cfgFor n).map.map.segs.length)
  | none => false

/-- The MAPPER block, the probe and the lamps' registers among them (R209, R210, R235). -/
def mapMap (s : State) (p : Path) : RegMap :=
  let t := s.shown 5
  let c := t.cfg.map
  let l := t.cfg.lamp
  let b := t.map.probe
  let two (v : List Nat) (i : Nat) : Nat := v.getD (i + 1) 0 * 65536 + v.getD i 0
  [(0x0, flag (decide (c.map.recs ≠ [])) 31 + c.map.segs.length), (0x4, c.map.recs.length), (0x8, c.pqWhite.toNat),
   (0xC, c.gm.toNat), (0x10, c.gmSrc.toNat), (0x14, c.probe.toNat),
   (0x1000, l.floor.toNat), (0x1004, l.staleD.toNat), (0x1008, l.telem.toNat), (0x100C, l.proof.toNat),
   (0x1010, l.measCode.toNat),
   (0x80000, flag (mapBusy t) 31 + t.map.segDone), (0x80004, (fnOf (t.map.content.getD 0)).toNat),
   (0x80100, b.fn.toNat), (0x80104, two b.sample 0), (0x80108, b.sample.getD 2 0), (0x80118, b.k),
   (0x81080, (t.lamp.grp.filter (fun e => e.2.off || e.2.member)).length * 2 ^ 21
     + (t.lamp.circ.filter (fun e => decide (e.2.s < 0x10000))).length),
   (0x81084, (t.lamp.fix.filter (fun e => decide (e.2.d < 0x10000))).length),
   (0xF0000, (t.cause .map).toNat), (0xF0020, (t.cause .lamp).toNat),
   (0xF0100, s.counter .mapUnpacked), (0xF0104, s.counter .mapDataErr), (0xF0108, s.counter .mapOverrun),
   (0xF0120, s.counter .lampFault), (0xF0124, s.counter .lampProof), (0xF0128, s.counter .lampProofMiss),
   (0xF012C, s.counter .lampCapOver), (0xF0130, s.counter .lampTelemDrop)]
    ++ pair64 s p 0xF0110 (.ctr .mapPixels)
    ++ span 0x8010C 4 3 (fun i => b.lin.getD i 0) ++ span 0x80120 4 8 (fun i => b.tet.getD i 0)
    ++ span 0x80140 4 8 (fun i => b.w.getD i 0) ++ span 0x80160 4 8 (fun i => b.out.getD i 0)
    ++ span 0x81000 4 32 (fun i =>
      ((List.range 32).map (fun j => flag ((t.lamp.grpAt (32 * i + j)).off || (t.lamp.grpAt (32 * i + j)).member) j)).sum)

/-! ## Chapters 09 and 10 -/

/-- PDK_CORE_STATUS of Stall k (R261). -/
def pdkCoreStatus (s : State) (k : Nat) : Nat :=
  let r := s.stall k
  if r.withdrawn then 4 * 2 ^ 29
  else if r.slice then 3 * 2 ^ 29
  else if r.runtime || r.switching then 2 * 2 ^ 29
  else match s.running? k with
    | some i => 2 ^ 29 + (s.descOf i).prio * 2 ^ 26 + i.task
    | none => 0

/-- PDK_READY_DEPTH: the READY tasks on a list of a Stall, on die and in the Loft (R258). -/
def readyDepth (s : State) (k prio : Nat) : Nat :=
  (s.pdk.insts.filter (fun i => decide (i.st = .ready) && decide ((s.descOf i).home = k)
    && decide ((s.descOf i).prio = prio))).length

/-- The live entries of the Loft. -/
def State.loftLive (s : State) : Nat := (s.pdk.insts.filter (fun i => i.loft && decide (i.st ≠ .ended))).length

/-- The PADDOCK block (R261). -/
def pdkMap (s : State) : RegMap :=
  [(0x100, s.cfg.stl.graph.tasks.length), (0x80000, flag (decide (s.loftLive ≠ 0)) 31 + s.slotsUsed * 2 ^ 16),
   (0x80004, s.loftLive)]
    ++ (List.range s.nStalls).flatMap (fun k =>
      let at0 := 0xF1000 + 0x100 * k
      [(4 * k, (s.coreCfg k).toNat), (0x80100 + 4 * k, pdkCoreStatus s k), (0xF0000 + 4 * k, (s.cause (.pdk k)).toNat),
       (at0, (s.stall k).busy), (at0 + 4, s.counter (.pdkDispatch k)), (at0 + 8, s.counter (.pdkSwitch k)),
       (at0 + 0xC, s.counter (.pdkCancel k)), (at0 + 0x10, s.counter (.pdkMigrate k))]
        ++ span (at0 + 0x20) 4 16 (fun b => s.counter (.pdkWaitHist k b))
        ++ span (0x81000 + 0x20 * k) 4 8 (fun l => readyDepth s k l))

/-- STL_FREE (R288, R290): what the resident binaries leave of the code and the constants space. -/
def stlFree (s : State) : Nat :=
  let r := s.resident
  (0x400 - (r.map (fun x => ceilDiv x.bin.consts.length 64)).sum) * 2 ^ 16 + (0x3C00 - (r.map (fun x => x.bin.code.length)).sum)

/-- The STALL block (R290). -/
def stlMap (s : State) (p : Path) : RegMap :=
  (0x80100, stlFree s)
    :: s.cfg.stl.tack.bins.flatMap (fun e =>
      [(0x1000 + 8 * e.1, 2 ^ 31 + codeBase s.cfg.stl e.1), (0x1004 + 8 * e.1, constBase s.cfg.stl e.1)])
    ++ (List.range s.nStalls).flatMap (fun k =>
      let t := s.shown (stallDomain k)
      let r := t.stall k
      let last := 0xF0100 + 0x10 * k
      let at0 := 0xF1000 + 0x40 * k
      [(0x80000 + 0x10 * k, stlStatus t k), (0x80004 + 0x10 * k, r.core.budget.getD 0),
       (0xF0000 + 4 * k, (t.cause (.stl k)).toNat), (last, r.fault.toNat), (last + 4, r.faultPc.toNat),
       (last + 8, r.faultFn.toNat), (last + 0xC, r.soft.toNat), (at0, s.counter (.stlOverrun k)),
       (at0 + 4, s.counter (.stlFault k)), (at0 + 8, s.counter (.stlMemCorr k)), (at0 + 0xC, s.counter (.stlSoftEvt k))]
        ++ pair64 s p (at0 + 0x10) (.ctr (.stlRetired k)))

/-! ## Chapters 11 to 14 -/

/-- The window of an Ethernet port (R328, R361). ETH_IPV6 holds the address from its low word on (DESIGN CHOICE, log
72). -/
def ethMap (s : State) (p : Path) (e : Nat) : RegMap :=
  let r := s.portRegs e
  let x := s.port e
  let mac := (Config.portMac e).toNat
  [(0x0, r.cfg.toNat), (0x4, r.eee.toNat), (0x8, r.ct.toNat), (0xC, r.thru.toNat), (0x10, mac % 2 ^ 32),
   (0x14, mac / 2 ^ 32), (0x18, r.ipv4.toNat), (0x1C, r.pfx % 64), (0x30, r.sacn.toNat),
   (0x8000, ethStatusWord s e), (0x8004, x.tsq.length * 65536 + x.lostTag.toNat), (0x8008, x.partner.toNat),
   (0xF000, (s.cause (.ethTx e)).toNat), (0xF004, (s.cause (.ethRx e)).toNat),
   (0xF800, (s.cause (.flwTx e)).toNat), (0xF804, (s.cause (.ylRx e)).toNat),
   (0xF100, s.counter (.eth e 2)), (0xF104, s.counter (.eth e 3)),
   (0xF810, s.counter (.flwTxMsg e)), (0xF814, s.counter (.flwDiscard e)), (0xF818, s.counter (.flwRingWait e)),
   (0xF81C, s.counter (.ylRxBad e)), (0xF820, s.counter (.ylRxDup e)), (0xF824, s.counter (.ylRxUnknown e))]
    ++ pair64 s p 0xF108 (.ctr (.eth e 0)) ++ pair64 s p 0xF110 (.ctr (.eth e 1))
    ++ span 0xF118 4 12 (fun i => s.counter (.eth e (4 + i)))
    ++ span 0x20 4 4 (fun i => r.ipv6.toNat / 2 ^ (32 * i) % 2 ^ 32)
    ++ span 0x100 4 8 (fun q => (rxqCfg s.cfg.eth e q).toNat)
    ++ (List.range 8).flatMap (fun q => twoWords (0x180 + 8 * q) (tget s.cfg.eth.bases (8 * e + q) 0).toNat)
    ++ (List.range 16).flatMap (fun i =>
      let f := ((tget s.cfg.eth.filters e {}).filters[i]?).getD (0, 0)
      [(0x200 + 8 * i, f.1.toNat), (0x204 + 8 * i, f.2.toNat)])
    ++ span 0x8100 4 8 (fun q => let y := tget x.rxq q {}
      flag y.waitOwn 31 + y.head % 4096)

/-- The LINE block (R386). -/
def lineMap (s : State) : RegMap :=
  (List.range s.nLine).flatMap (fun n =>
    let t := s.shown (lineDomain n)
    let r := tget t.cfg.line n {}
    let x := t.lp n
    let st := 0x80000 + 0x10 * n
    span (0x40 * n) 4 13 (fun i => ([r.mode, r.gap, r.clk, r.wordVal, r.frame, r.headPat, r.tailPat, r.sym0, r.sym1, r.dmx,
        r.rdm, r.rdmT, r.trig].getD i 0).toNat)
      ++ [(st, lpStatus t n), (st + 4, x.stamp.toNat), (st + 8, x.commit.toNat * 2 ^ 16 + x.read.toNat),
          (st + 0xC, x.uids.length), (0xF0000 + 4 * n, (t.cause (.lp n)).toNat)]
      ++ span (0xF1000 + 0x20 * n) 4 8 (fun w => s.counter (.lp n w)))

/-- The RASTER block (R407). -/
def rstMap (s : State) : RegMap :=
  let t := s.shown 7
  (List.range s.nHeads).flatMap (fun h =>
    let r := headOf t.cfg h
    let x := t.head h
    span (0x100 * h) 4 12 (fun i => ([r.ctrl, r.delay, r.h, r.v, r.hsync, r.vsync, r.winPos, r.winSize, r.bg, r.frzCtrl,
        r.frzPos, r.frzSize].getD i 0).toNat)
      ++ (List.range 4).flatMap (fun i =>
        let g := tileOf t.cfg h i
        span (0x1000 + 0x100 * h + 0x20 * i) 4 4 (fun j => ([g.ctrl, g.pos, g.size, g.ssrc].getD j 0).toNat))
      ++ span (0x80000 + 0x40 * h) 4 5 (fun i =>
        [rstStatus t h, (fnOf x.content).toNat, x.sig.toNat, x.sigFn.toNat, x.frzCount.toNat].getD i 0)
      ++ [(0xF0000 + 4 * h, (t.cause (.rst h)).toNat)]
      ++ span (0xF1000 + 0x20 * h) 4 5 (fun w => s.counter (.rst h w)))

/-! ## Chapters 15 to 18 -/

/-- The PAIR block (R433). -/
def pairMap (s : State) : RegMap :=
  [(0x0, s.cfg.pair.cfg.toNat), (0x4, s.cfg.pair.swap.toNat), (0x8, s.feeds.cfg.toNat), (0x80000, pairStatusWord s),
   (0x80004, s.pair.divFlow.toNat), (0x80008, s.pair.divFn.toNat), (0x80100, feedStatusWord s.feeds),
   (0xF0000, (s.cause .pair).toNat)] ++ span 0xF1000 4 8 (fun w => s.counter (.pair w))

/-- CAL_STATUS (R457). -/
def calStatus (c : Cal) : Nat :=
  flag c.run.isSome 31 + flag (c.run.any (fun r => r.measured && decide (r.left ≠ []))) 30 + flag c.quiet.isSome 29
    + c.deferred.toNat

/-- The BRIDLE and CAL block (R457). -/
def brdMap (s : State) : RegMap :=
  let b := s.brd
  [(0x0, s.cfg.brd.brd.toNat), (0x4, s.cfg.brd.cal.toNat), (0x80000, brdStatusWord b), (0x80004, b.failed.toNat),
   (0x81000, calStatus b.cal), (0x81004, b.cal.applyFn.toNat), (0xF0000, (s.cause .brd).toNat)]
    ++ span 0x80100 4 24 (fun i => flag (bitOf b.failed i) 31 + (b.used.getD i 0 % 65536).toNat)
    ++ span 0x80200 8 18 (fun r => tget b.budget r 0) ++ span 0x80204 8 18 (fun r => tget b.spent r 0)
    ++ span 0xF1000 4 7 (fun w => s.counter (.brd w))

/-- The CHECK block (R484): unit u at 0xF_0000 + u x 0x40; CHK_CMD and CHK_DATA are write-only and read 0. -/
def chkMap (s : State) : RegMap :=
  (List.range 4).flatMap (fun i =>
    let u := s.unit i
    span (0xF0000 + 0x40 * i) 4 14 (fun i => ([u.ctrl, 0, u.status, u.value, u.result, u.expect, u.fold, 0, 0, u.start,
      u.length, u.chunk, u.stride, u.pos].getD i 0).toNat))

/-- The FARRIER block (R484). -/
def farMap (s : State) : RegMap :=
  [(0x0, s.cfg.far.toNat), (0x80000, farStatus s), (0x80004, s.far.slack.toNat), (0x80100, s.far.errLast.toNat),
   (0x80104, s.far.errAddr.toNat), (0xF0000, (s.cause .far).toNat)]
    ++ span 0x80008 4 7 (fun i => (farMasks s).getD i 0)
    ++ span 0xF1000 4 4 (fun w => s.counter (.intErr w)) ++ span 0xF1010 4 4 (fun w => s.counter (.far w))

/-- The SECURITY block (R519). -/
def secMap (s : State) : RegMap := [(0x80000, secStatus s), (0xF0000, (s.cause .sec).toNat)]

/-! ## The map -/

/-- The registers of a block of the BAR0 map, for a path (R31). -/
def blockMap (s : State) (p : Path) : Nat → RegMap
  | 0 => glbMap s | 1 => mbxMap s | 2 => evtMap s p | 3 => timeMap s p | 4 => ymMap s p | 5 => pdkMap s
  | 6 => compMap s | 7 => mapMap s p | 8 => stlMap s p | 10 => lineMap s | 11 => rstMap s | 12 => pairMap s
  | 13 => brdMap s | 14 => chkMap s | 15 => farMap s | 16 => secMap s | _ => []

/-- The word at a location of BAR0: a reserved one reads 0; so does the window of a port that the variant lacks. -/
def State.wordAt (s : State) (p : Path) (a : Nat) : Word :=
  if a / 0x100000 = 9 then
    let e := a % 0x100000 / 0x10000
    if e < s.nEth then BitVec.ofNat 32 (tget (ethMap s p e) (a % 0x10000) 0) else 0
  else BitVec.ofNat 32 (tget (blockMap s p (a / 0x100000)) (a % 0x100000) 0)

/-- What a path's read of BAR0 returns: all ones where the access is narrow or the map does not allow it (R8, R33). -/
def State.readReg (s : State) (p : Path) (a : Nat) : Word :=
  if a % 4 ≠ 0 ∨ !(mayReadAt s p a || decide (p = .groom)) then 0xFFFFFFFF#32 else s.wordAt p a

end Sys2Proof.Machine
end

