-- ==== Sys2Proof/WellFormed.lean ====
section
/-! DEFINITION. WellFormed.lean: the commands whose numeric operands fit the place the spec gives them: a
mailbox (R38), a Stall, an Ethernet port, a line port, a head, a cut, a source, a target or a register of a unit
that some variant has (R1), and a payload field its 32 bits (R49). A value that fits and that a rule refuses is still
well-formed: the rule's answer is the command's effect. -/
namespace Sys2Proof
open Sys2Proof.Machine

/-- Every numeric operand fits its place. -/
def Instr.wf (i : Instr) : Bool :=
  match i with
  | .coldReset .. | .warmReset .. | .pcieReset | .serdesRefLoss .. | .serdesRefReturn .. | .rootPllLoss
  | .rootPllRelock | .registerWrite .. | .counterLoRead .. | .accessErrClear .. | .glbEvtCauseWrite ..
  | .frameBoundary .. | .gateFire .. | .mbxTake | .mbxEvtCauseWrite .. | .mgmtDatagram .. | .evcSwWrite ..
  | .pcieLinkL0Return | .groomEventPoll | .cutTriggerWrite .. | .ymEvtCauseWrite .. | .ymSnapshot
  | .ymClear | .ltWrap | .ptpSyncRx .. | .ptpAnnounceRx .. | .ptpDelayReqTx | .ptpDelayRespRx ..
  | .ptpSyncTx | .ptpAnnounceTx | .announceReceiptTimeout | .syncTimeout | .incrementWriteTimeout
  | .holdoverExpire | .alignFirstMeasurement .. | .peerTimeExchange .. | .timeCapture ..
  | .timeTrigCtrlWrite .. | .timeTriggerFire | .timeEvtCauseWrite .. | .stripeDone .. | .compositionEnd
  | .compEvtCauseWrite .. | .compSnapshot | .compClear | .mapWindowClose | .mapEvtCauseWrite ..
  | .mapSnapshot | .mapClear | .lampSetNumberSend | .lampEvtCauseRead .. | .slotPrime | .loftRefill ..
  | .pdkBusyWindow | .pdkSnapshot | .pdkClear | .stlSnapshot | .stlClear | .packDone ..
  | .ringSpaceFreed .. | .sacnDiscoveryTx | .lpSnapshot | .lpClear | .rstSnapshot | .rstClear
  | .feedResyncComplete .. | .feedPeriodicSwap | .feedAonSwap | .heartbeatTx | .heartbeatRx
  | .heartbeatMissed | .heartbeatLoss | .halterWatchdog | .halterInLow | .halterInHigh | .halterRaise
  | .pairForm .. | .pairInSync .. | .hashCompareDeadline | .swapGapStart | .swapPostpone
  | .swapIntervalExpire | .preferredReversion | .pairEvtCauseRead .. | .pairSnapshot | .pairClear
  | .tripHoldMessage | .tripTxStop | .tripDomainsOff | .tripHostOff | .graceExpire | .holdFallExpire
  | .calMeasureDone .. | .ddrQuiet | .brdEvtCauseRead .. | .brdSnapshot | .brdClear | .farrierRound
  | .sliceEnd .. | .sliceDefer | .farEvtCauseRead .. | .getVersion .. | .getCapabilities ..
  | .negotiateAlgorithms .. | .getDigests .. | .getMeasurements .. | .unlockChallengeExpire | .debugHalt ..
  | .updLockTimeout | .secEvtCauseRead .. | .chainAckTimeout | .chainHopTimeout | .ptpDelayReqRx ..
  | .peerLampForward .. | .ddrApplyRequest .. | .swapGapNotice .. | .pcieL1OrD3hotEntry ..
  | .debugResume .. | .tapScanShift | .factoryToken .. => true
  | .supplyCollapse _ mvA mvB => decide (mvA < 4294967296) && decide (mvB < 4294967296)
  | .domainPowerOn d => decide (d < 16)
  | .narrowAccess _ _ bytes addr => decide (bytes < 4096) && decide (addr < 67108864)
  | .unpermittedAccess _ _ addr => decide (addr < 67108864)
  | .sheddingEnter _ w | .sheddingLeave _ w => decide (w < 4294967296)
  | .mbxRing _ m | .mbxAbort _ m .. | .mgmtAssemblyTimeout m .. | .dtlsIdleExpire m | .dmaSegmentDone m ..
  | .sessionOpen m .. | .sessionAuth m .. | .sessionClose m | .sessionPing m | .cfgBegin m
  | .cfgCommit m .. | .cfgAbort m | .cfgStatus m | .queryConfig m .. | .queryStaged m ..
  | .queryResourceMap m | .logClear m | .cutArmTimeout m | .cutStatus m | .timeSetAlign m ..
  | .timeSetPtp m .. | .timeStatus m | .layerOrder m .. | .canvasSet m .. | .layerStatus m ..
  | .mapSet m .. | .mapPatch m .. | .lampBinSet m .. | .lampCircuitSet m .. | .lampCfgSet m ..
  | .pdkCoreSet m .. | .tackStatus m .. | .flowSet m .. | .flowSettings m .. | .flowDiagTimeout m
  | .ethStatus m .. | .lineStatus m .. | .rasterHeadSet m .. | .rasterStatus m .. | .pairSet m ..
  | .pairSwap m | .pairStatus m | .feedSet m .. | .feedSwap m .. | .feedStatus m | .bridleSet m ..
  | .bridleStatus m | .bridleWaitTimeout m | .bridleSensorClear m .. | .calSet m .. | .calRun m ..
  | .calRead m .. | .calRestore m .. | .testSet m .. | .testStatus m | .updBegin m .. | .updManifest m ..
  | .updChunk m .. | .updInstall m .. | .updActivate m .. | .updConfirm m | .updEnd m | .updStatus m
  | .secStatus m | .secLcSet m .. | .secCredSet m .. | .secCredDel m .. | .secSettingsSet m ..
    => decide (m < 16)
  | .dtlsHandshake x => decide (x.mailbox < 16) && decide (x.peer < 4294967296)
  | .sessionIdleExpire id | .cfgTxnExpire id | .updateAccept _ id .. | .updateBusy _ id
  | .updateInstall _ id .. | .updateAbort _ id => decide (id < 4294967296)
  | .cfgLoadImage m len obj => decide (m < 16) && decide (len < 4294967296) && decide (obj < 4294967296)
  | .cfgStageChunk m obj offset ..
    => decide (m < 16) && decide (obj < 4294967296) && decide (offset < 4294967296)
  | .queryTelemetry m block | .queryCounters m block => decide (m < 16) && decide (block < 4294967296)
  | .logRead m _ count | .logFlashRead m _ count => decide (m < 16) && decide (count < 4294967296)
  | .evcClaim _ t | .evcTgtStatusRead _ t | .modTimerExpire t => decide (t < 4)
  | .evcVclaim _ v | .msixUnmask v => decide (v < 32)
  | .evcComplete _ t n => decide (t < 4) && decide (n < 256)
  | .evcSrcCfgWrite _ n .. | .evcSrcCountRead _ n => decide (n < 256)
  | .evcEnableApply n t => decide (n < 256) && decide (t < 4)
  | .cutArm m c | .cutDisarm m c | .cutFire m c .. => decide (m < 16) && decide (c < 64)
  | .houseEdge port .. | .houseSyncLoss port => decide (port < 2)
  | .timeSetServo m jump slew lock hold
    => decide (m < 16) && decide (jump < 4294967296) && decide (slew < 4294967296) && decide (lock < 4294967296) && decide (hold < 4294967296)
  | .timeForceStep m mode .. => decide (m < 16) && decide (mode < 4294967296)
  | .inputPacket i .. | .peerInputComplete i .. => decide (i < 4294967296)
  | .layerSet m l .. | .layerWrite m l .. => decide (m < 16) && decide (l < 4294967296)
  | .layerInputSet m i .. | .layerCoefSet m i .. | .mapCurveSet m i ..
    => decide (m < 16) && decide (i < 4294967296)
  | .layerWriteBufferFree x => decide (x.mailbox < 16)
  | .layerStillLoad m i format width height _ obj
    => decide (m < 16) && decide (i < 4294967296) && decide (format < 4294967296) && decide (width < 4294967296) && decide (height < 4294967296) && decide (obj < 4294967296)
  | .segmentMapped j .. => decide (j < 4096)
  | .mapLoad m obj | .mapModelSet m _ obj | .pdkGraphSet m obj | .tackFixtureSet m obj | .tackLoad m obj
  | .flowLoad m obj => decide (m < 16) && decide (obj < 4294967296)
  | .lampGroupSet m x => decide (m < 16) && decide (x.count < 4294967296) && decide (x.obj < 4294967296)
  | .lampGroupReset m x => decide (m < 16) && decide (x.group < 4294967296)
  | .lampStatus m first count .. | .lampGroupStatus m first count | .pdkTaskStatus m first count
  | .tackParamRead m first count | .flowStatus m first count
    => decide (m < 16) && decide (first < 4294967296) && decide (count < 4294967296)
  | .delayMet t => decide (t < 256)
  | .taskDispatch k .. | .taskPreempt k | .switchHandlerTimeout k | .farrierGrant k | .pdkEvtCauseRead _ k
  | .add k | .sub k | .and k | .or k | .xor k | .shl k | .shr k | .sar k | .mul k | .mulh k | .mulq k
  | .min k | .max k | .adds k | .subs k | .clz k | .divu k | .sel k | .addi k | .andi k | .ori k | .xori k
  | .movi k | .movhi k | .cmpeq k | .cmplt k | .cmpltu k | .plog k | .br k | .call k | .ret k | .dbnz k
  | .endt k | .cancel k | .evt k | .srd k | .ldw k | .stw k | .ldh k | .sth k | .vld k | .vst k | .pld k ..
  | .pst k | .vpld k .. | .vpst k | .vadd k | .vsub k | .vmul k | .vminmax k | .vshf k | .vlog k | .vcmp k
  | .vmov k | .vlerp k | .budgetExhausted k | .sealComplete k | .stlEvtCauseRead _ k => decide (k < 16)
  | .pdkCancel m task flags ..
    => decide (m < 16) && decide (task < 4294967296) && decide (flags < 4294967296)
  | .lst k cyc | .vlst k cyc | .cld k cyc | .argRecordFetched k cyc | .cacheMissFill k cyc
  | .cldRowVisible k cyc => decide (k < 16) && decide (cyc < 4294967296)
  | .stallScrubRead k a .. => decide (k < 16) && decide (a < 4294967296)
  | .ethFrameTxStart p | .ethFrameTxDone p | .yardlineReceive p .. | .flwTxEvtCauseRead _ p
  | .ylRxEvtCauseRead _ p | .ethLinkUp p | .ethLinkDown p | .ethFrameRx p .. | .arpRefresh p
  | .pauseExpire p | .ctUnderrun p | .ctThresholdDecay p | .lpiEnter p | .lpiGateWake p | .lldpTx p
  | .tsqDrain p | .ethTxEvtCauseRead _ p | .ethRxEvtCauseRead _ p | .ethSnapshot p | .ethClear p
    => decide (p < 16)
  | .flowParamSet m first .. => decide (m < 16) && decide (first < 4294967296)
  | .flowDiag m stream code ..
    => decide (m < 16) && decide (stream < 4294967296) && decide (code < 4294967296)
  | .rxDescPoll p q .. => decide (p < 16) && decide (q < 8)
  | .ethPortSet m p .. | .ethFilterSet m p .. | .ethRingRestart m p .. | .ethTx m p ..
    => decide (m < 16) && decide (p < 4294967296)
  | .ethRingSet m p q .. => decide (m < 16) && decide (p < 4294967296) && decide (q < 4294967296)
  | .ethRxRead m p q count
    => decide (m < 16) && decide (p < 4294967296) && decide (q < 4294967296) && decide (count < 4294967296)
  | .lineFrameStart n .. | .dmxPacketEnd n | .rdmTxnStart n | .rdmResponse n .. | .rdmResponseTimeout n
  | .rdmNoWindow n | .mangerRead n | .driveEnableCollapse n | .driveEnableReturn n | .triggerInputEdge n ..
  | .triggerPulseEnd n | .shortDetect n | .shortShutoff n | .lpEvtCauseRead _ n => decide (n < 40)
  | .linePortSet m n .. | .lineRdm m n .. | .lineRdmDiscover m n ..
    => decide (m < 16) && decide (n < 4294967296)
  | .lineRdmUids m n first count
    => decide (m < 16) && decide (n < 4294967296) && decide (first < 4294967296) && decide (count < 4294967296)
  | .headFrameStart h .. | .headShadowTake h | .headSignatureDone h | .dpHotplug h .. | .dpLinkLoss h ..
  | .rstEvtCauseRead _ h => decide (h < 2)
  | .tilePacketDue h t => decide (h < 2) && decide (t < 4)
  | .rasterTileSet m h t .. => decide (m < 16) && decide (h < 4294967296) && decide (t < 4294967296)
  | .rasterDpEdid m h first count
    => decide (m < 16) && decide (h < 4294967296) && decide (first < 4294967296) && decide (count < 4294967296)
  | .feedFault _ _ sample | .feedInWindow _ _ sample => decide (sample < 4294967296)
  | .laneDown k | .laneUp k => decide (k < 2)
  | .frameHashRx f .. => decide (f < 4294967296)
  | .sensorSample _ power => decide (power < 4294967296)
  | .calApply kind index .. => decide (kind < 4294967296) && decide (index < 4294967296)
  | .bridleWait m timeoutMs => decide (m < 16) && decide (timeoutMs < 4294967296)
  | .sramScrub region addr .. => decide (region < 256) && decide (addr < 4294967296)
  | .patrolRead c word .. => decide (c < 16) && decide (word < 8)
  | .checkClaim _ u .. | .checkStart _ u | .checkSyncStart u | .checkData _ u .. | .checkData8 _ u ..
  | .checkFinish _ u | .checkResume _ u | .checkScanDone u .. | .checkStatusWrite _ u .. => decide (u < 8)
  | .checkAbortCmd _ u fed => decide (u < 8) && decide (fed < 4294967296)
  | .rotationStart r | .marchDone r .. => decide (r < 256)
  | .checkRun m u .. => decide (m < 16) && decide (u < 4294967296)
  | .checkAbort m u fed => decide (m < 16) && decide (u < 4294967296) && decide (fed < 4294967296)
  | .testRun m kind index => decide (m < 16) && decide (kind < 4294967296) && decide (index < 4294967296)
  | .getCertificate _ slot offset length
    => decide (slot < 4294967296) && decide (offset < 4294967296) && decide (length < 4294967296)
  | .challenge _ slot .. => decide (slot < 4294967296)
  | .tapDebugUnlock phase .. => decide (phase < 4294967296)
  | .secDebugUnlock m phase .. => decide (m < 16) && decide (phase < 4294967296)
  | .secKeyRevoke m k => decide (m < 16) && decide (k < 4294967296)
  | .updateOffer port _ id .. => decide (port < 16) && decide (id < 4294967296)
  | .updateChunk _ id k .. | .updateAck _ id k => decide (id < 4294967296) && decide (k < 4294967296)
  | .updateInstalled _ id hop .. | .updateFailed _ id hop ..
    => decide (id < 4294967296) && decide (hop < 4294967296)
  | .peerCutTrigger c .. => decide (c < 64)
  | .peerLayerCopy l .. => decide (l < 4294967296)

/-- A command is well-formed. -/
abbrev Instr.WellFormed (i : Instr) : Prop := i.wf = true

end Sys2Proof
end

