-- ==== Sys2Proof/Safety.lean ====
section
/-! DEFINITION. Safety.lean: the terms in which the claims speak: what a command leaves alone, how a mailbox command
is answered, how one stages, and what holds in every run. -/
namespace Sys2Proof.Machine
open Sys2Proof

/-! ## Every run -/

/-- The identity of the device: its variant and GLB_DEVICE_ID (R6). -/
def sameDevice (s t : State) : Prop := t.variant = s.variant ∧ t.glb.deviceId = s.glb.deviceId

/-- The event log lies within its capacities (R67). -/
def State.logFits (s : State) : Prop := s.log.sram.length ≤ 4096 ∧ s.log.flash.length ≤ 65536

/-! ## Registers -/

/-- The value that the latest read of a path returned. -/
def State.readOf (s : State) (p : Path) : Option Word := (s.glb.readData.find? (fun e => e.1 = p)).map (·.2)

/-- A read returned v to p and, in the GLOBAL block, did nothing more. -/
def Returns (p : Path) (v : Word) (s t : State) : Prop :=
  t.readOf p = some v ∧ t.glb = { s.glb with readData := t.glb.readData }
    ∧ ∀ q, q ≠ p → t.readOf q = s.readOf q

/-- The bits of v are clear in cause register r; no other cause register changes, and of the rest of the state only
the event controller may (R11, R69). -/
def ClearsCause (r : CauseReg) (v : Word) (s t : State) : Prop :=
  t.cause r = s.cause r &&& ~~~v ∧ (∀ q, causeKey q ≠ causeKey r → t.cause q = s.cause q)
    ∧ t = { s with causes := t.causes, evc := t.evc, glb := t.glb }

/-- The counters with a number in [lo, hi) are captured and stay as they are; everything else is as before. -/
def Captures (lo hi : Nat) (s t : State) : Prop :=
  (∀ k, tfind? t.cap k = if lo ≤ k ∧ k < hi then tfind? s.cnt k else tfind? s.cap k) ∧ t = { s with cap := t.cap }

/-- The counters with a number in [lo, hi) are 0, what was captured of them stays; everything else is as before. -/
def Clears (lo hi : Nat) (s t : State) : Prop :=
  (∀ k, tget t.cnt k 0 = if lo ≤ k ∧ k < hi then 0 else tget s.cnt k 0) ∧ t = { s with cnt := t.cnt }

/-! ## Mailbox commands -/

/-- Mailbox m executes a command of this opcode, whose bulk data has been moved and whose session is open. -/
abbrev Runs (m : Nat) (op : Half) (s : State) : Prop := s.executes m op = true ∧ (s.box m).discard = false

/-- Mailbox m has answered the request it carried in s: DONE, the status, the payload, the tag, DONE_COUNT (R44, R51). -/
def Answered (m : Nat) (st : Status) (data : List Byte) (s t : State) : Prop :=
  (t.box m).st = .done ∧ (t.box m).resp.status = st ∧ (t.box m).resp.data = data
    ∧ (t.box m).resp.tag = (s.box m).req.tag ∧ (t.box m).doneCount = (s.box m).doneCount + 1

/-- The same without the count, for a command whose effect may complete other mailboxes first. -/
def Responded (m : Nat) (st : Status) (data : List Byte) (s t : State) : Prop :=
  (t.box m).st = .done ∧ (t.box m).resp.status = st ∧ (t.box m).resp.data = data
    ∧ (t.box m).resp.tag = (s.box m).req.tag

/-- Mailbox m has a live request, PENDING or EXECUTING, and a session that has not closed. -/
abbrev Live (m : Nat) (s : State) : Prop := m < 16 ∧ (s.box m).discard = false

/-- From s, whose mailbox m carried the request, the command has left u and then answered: the response with its
status, payload and tag, DONE, DONE_COUNT, the mailbox's cause bit and its source (R44, R45, R51); beyond that, what
goes out on a transport other than PCIe. Everything else is as in u. -/
def Answers (m : Nat) (st : Status) (data : List Byte) (s u t : State) : Prop :=
  (t.box m).st = .done ∧ (t.box m).resp.status = st ∧ (t.box m).resp.data = data
    ∧ (t.box m).resp.tag = (s.box m).req.tag ∧ (t.box m).doneCount = (s.box m).doneCount + 1
    ∧ t.cause .mbx = u.cause .mbx ||| bitMask 32 m
    ∧ t.evc = u.evc.occur (8 + m)
    ∧ t = { u with mbx := { u.mbx with boxes := t.mbx.boxes }, causes := t.causes, evc := t.evc, out := t.out }
    ∧ (∀ j, j ≠ m → t.box j = u.box j)
    ∧ (∀ r, r ≠ .mbx → t.cause r = u.cause r)
    ∧ (u.mbxTransport m = some .pcie → t.out = u.out)

/-- A request that may stage: its session is open and has a transaction that has not expired (R58, R60), and on the
SHADOW it is the mirror session's (R423). -/
abbrev MayStage (s : State) (m : Nat) (x : Session) (tx : Txn) : Prop :=
  s.mirrored (s.box m).req = true ∧ s.session? (s.box m).req.session.toNat = some x
    ∧ x.expired = false ∧ x.txn = some tx

/-- All sessions together have room for what the transaction holds once configuration c, with the objects objs, stands in
it; src is the staging object that the command takes its bytes from (R59). -/
abbrev HasRoom (s : State) (m : Nat) (objs : List Nat) (c : Cfg) (tx : Txn) (src : Option Nat := none) : Prop :=
  s.mayHold tx (heldBytes c (objs.foldl addOnce tx.changed) (objsAfter (s.box m) src tx.objs)) = true

/-- The state after a staging command: the transaction holds configuration c, the objects it changed, the staging objects
that remain, the bytes they make, and the instant of its latest command (R57 to R60). -/
def afterStage (s : State) (m : Nat) (x : Session) (tx : Txn) (objs : List Nat) (c : Cfg) (src : Option Nat := none) :
    State :=
  s.setSession (s.box m).req.session.toNat { x with txn := some { tx with
    cfg := c, changed := objs.foldl addOnce tx.changed, objs := objsAfter (s.box m) src tx.objs
    bytes := heldBytes c (objs.foldl addOnce tx.changed) (objsAfter (s.box m) src tx.objs), lastNs := s.elt } }

/-- The command i, where there is room, answers OK with c staged, and nothing else changes. -/
def Stages (i : Instr) (m : Nat) (objs : List Nat) (c : Cfg) (data : List Byte) (x : Session) (tx : Txn) (s : State)
    (src : Option Nat := none) : Prop :=
  HasRoom s m objs c tx src →
    ∃ t, exec i s = .next t ∧ Answers m .ok data s (afterStage s m x tx objs c src) t

/-- The command i answers e, as a rule refuses it, with an empty payload, and what was staged before stays; only the
transaction's idle time restarts (R58, R60). -/
def Refuses (i : Instr) (m : Nat) (e : Status) (x : Session) (tx : Txn) (s : State) : Prop :=
  ∃ t, exec i s = .next t
    ∧ Answers m e [] s (s.setSession (s.box m).req.session.toNat { x with txn := some { tx with lastNs := s.elt } }) t

/-- The command i answers e, for its privilege or the variant, before it looks for a transaction (R50): the rest of the
state stays. -/
def Denies (i : Instr) (m : Nat) (e : Status) (s : State) : Prop :=
  ∃ t, exec i s = .next t ∧ Answers m e [] s s t

/-! ## Rows of mailbox commands -/

/-- The mailbox and the opcode of a command row of chapter 02 and of each class's chapter. -/
def cmdOf : Instr → Option (Nat × Half)
  | .sessionOpen m _ _ => some (m, 0x0001#16)
  | .sessionAuth m _ => some (m, 0x0002#16)
  | .sessionClose m => some (m, 0x0003#16)
  | .sessionPing m => some (m, 0x0004#16)
  | .cfgBegin m => some (m, 0x0101#16)
  | .cfgCommit m _ => some (m, 0x0102#16)
  | .cfgAbort m => some (m, 0x0103#16)
  | .cfgLoadImage m _ _ => some (m, 0x0104#16)
  | .cfgStageChunk m _ _ _ => some (m, 0x0105#16)
  | .cfgStatus m => some (m, 0x0106#16)
  | .queryConfig m _ => some (m, 0x0201#16)
  | .queryStaged m _ => some (m, 0x0202#16)
  | .queryResourceMap m => some (m, 0x0203#16)
  | .queryTelemetry m _ => some (m, 0x0204#16)
  | .queryCounters m _ => some (m, 0x0205#16)
  | .timeSetAlign m _ _ => some (m, 0x0301#16)
  | .timeSetPtp m _ => some (m, 0x0302#16)
  | .timeSetServo m _ _ _ _ => some (m, 0x0303#16)
  | .timeForceStep m _ _ _ => some (m, 0x0304#16)
  | .timeStatus m => some (m, 0x0305#16)
  | .flowLoad m _ => some (m, 0x0401#16)
  | .flowSet m _ => some (m, 0x0402#16)
  | .flowParamSet m _ _ => some (m, 0x0403#16)
  | .flowSettings m _ => some (m, 0x0404#16)
  | .flowStatus m _ _ => some (m, 0x0405#16)
  | .flowDiag m _ _ _ => some (m, 0x0406#16)
  | .ethPortSet m _ _ => some (m, 0x0440#16)
  | .ethFilterSet m _ _ => some (m, 0x0441#16)
  | .ethRingSet m _ _ _ => some (m, 0x0442#16)
  | .ethRingRestart m _ _ => some (m, 0x0443#16)
  | .ethTx m _ _ _ _ => some (m, 0x0444#16)
  | .ethRxRead m _ _ _ => some (m, 0x0445#16)
  | .ethStatus m _ => some (m, 0x0446#16)
  | .linePortSet m _ _ => some (m, 0x0460#16)
  | .lineRdm m _ _ => some (m, 0x0461#16)
  | .lineRdmDiscover m _ _ => some (m, 0x0462#16)
  | .lineRdmUids m _ _ _ => some (m, 0x0463#16)
  | .lineStatus m _ => some (m, 0x0464#16)
  | .layerSet m _ _ => some (m, 0x0501#16)
  | .layerOrder m _ _ => some (m, 0x0502#16)
  | .canvasSet m _ _ _ _ => some (m, 0x0503#16)
  | .layerInputSet m _ _ => some (m, 0x0504#16)
  | .layerWrite m _ _ _ => some (m, 0x0505#16)
  | .layerStillLoad m _ _ _ _ _ _ => some (m, 0x0506#16)
  | .layerCoefSet m _ _ => some (m, 0x0507#16)
  | .layerStatus m _ => some (m, 0x0508#16)
  | .rasterHeadSet m _ => some (m, 0x0540#16)
  | .rasterTileSet m _ _ _ => some (m, 0x0541#16)
  | .rasterStatus m _ => some (m, 0x0542#16)
  | .rasterDpEdid m _ _ _ => some (m, 0x0543#16)
  | .mapLoad m _ => some (m, 0x0601#16)
  | .mapModelSet m _ _ => some (m, 0x0602#16)
  | .mapCurveSet m _ _ => some (m, 0x0603#16)
  | .mapSet m _ _ _ _ => some (m, 0x0604#16)
  | .mapPatch m _ => some (m, 0x0605#16)
  | .lampBinSet m _ => some (m, 0x0701#16)
  | .lampCircuitSet m _ => some (m, 0x0702#16)
  | .lampGroupSet m _ => some (m, 0x0703#16)
  | .lampCfgSet m _ _ _ _ _ => some (m, 0x0704#16)
  | .lampGroupReset m _ => some (m, 0x0705#16)
  | .lampStatus m _ _ _ => some (m, 0x0706#16)
  | .lampGroupStatus m _ _ => some (m, 0x0707#16)
  | .tackFixtureSet m _ => some (m, 0x0801#16)
  | .tackLoad m _ => some (m, 0x0802#16)
  | .tackStatus m _ => some (m, 0x0803#16)
  | .tackParamRead m _ _ => some (m, 0x0804#16)
  | .pdkGraphSet m _ => some (m, 0x0880#16)
  | .pdkCoreSet m _ => some (m, 0x0881#16)
  | .pdkCancel m _ _ _ => some (m, 0x0882#16)
  | .pdkTaskStatus m _ _ => some (m, 0x0883#16)
  | .cutArm m _ => some (m, 0x0901#16)
  | .cutDisarm m _ => some (m, 0x0902#16)
  | .cutFire m _ _ => some (m, 0x0903#16)
  | .cutStatus m => some (m, 0x0904#16)
  | .pairSet m _ => some (m, 0x0A01#16)
  | .pairSwap m => some (m, 0x0A02#16)
  | .pairStatus m => some (m, 0x0A03#16)
  | .feedSet m _ => some (m, 0x0A04#16)
  | .feedSwap m _ => some (m, 0x0A05#16)
  | .feedStatus m => some (m, 0x0A06#16)
  | .bridleSet m _ => some (m, 0x0B01#16)
  | .bridleStatus m => some (m, 0x0B02#16)
  | .bridleWait m _ => some (m, 0x0B03#16)
  | .bridleSensorClear m _ => some (m, 0x0B04#16)
  | .calSet m _ => some (m, 0x0C01#16)
  | .calRun m _ => some (m, 0x0C02#16)
  | .calRead m _ => some (m, 0x0C03#16)
  | .calRestore m _ => some (m, 0x0C04#16)
  | .checkRun m _ _ _ => some (m, 0x0D01#16)
  | .checkAbort m _ _ => some (m, 0x0D02#16)
  | .testSet m _ => some (m, 0x0E01#16)
  | .testRun m _ _ => some (m, 0x0E02#16)
  | .testStatus m => some (m, 0x0E03#16)
  | .updBegin m _ => some (m, 0x0F01#16)
  | .updManifest m _ _ => some (m, 0x0F02#16)
  | .updChunk m _ => some (m, 0x0F03#16)
  | .updInstall m _ _ => some (m, 0x0F04#16)
  | .updActivate m _ => some (m, 0x0F05#16)
  | .updConfirm m => some (m, 0x0F06#16)
  | .updEnd m => some (m, 0x0F07#16)
  | .updStatus m => some (m, 0x0F08#16)
  | .secStatus m => some (m, 0x1001#16)
  | .secLcSet m _ _ _ => some (m, 0x1002#16)
  | .secCredSet m _ => some (m, 0x1003#16)
  | .secCredDel m _ => some (m, 0x1004#16)
  | .secDebugUnlock m _ _ => some (m, 0x1005#16)
  | .secSettingsSet m _ _ _ => some (m, 0x1006#16)
  | .secKeyRevoke m _ => some (m, 0x1007#16)
  | .logRead m _ _ => some (m, 0x1101#16)
  | .logFlashRead m _ _ => some (m, 0x1102#16)
  | .logClear m => some (m, 0x1103#16)
  | _ => none

/-- The commands that stage: they change a transaction of their session and nothing of the effective configuration
(R58, R421). -/
def stagesCmd : Instr → Bool
  | .cfgLoadImage _ _ _ | .cfgStageChunk _ _ _ _ | .timeSetAlign _ _ _ | .timeSetPtp _ _
  | .timeSetServo _ _ _ _ _ | .layerSet _ _ _ | .layerOrder _ _ _ | .canvasSet _ _ _ _ _ | .layerInputSet _ _ _
  | .layerStillLoad _ _ _ _ _ _ _ | .layerCoefSet _ _ _ | .mapLoad _ _ | .mapModelSet _ _ _
  | .mapCurveSet _ _ _ | .mapSet _ _ _ _ _ | .mapPatch _ _ | .lampBinSet _ _ | .lampCircuitSet _ _
  | .lampGroupSet _ _ | .lampCfgSet _ _ _ _ _ _ | .pdkGraphSet _ _ | .pdkCoreSet _ _ | .tackFixtureSet _ _
  | .tackLoad _ _ | .flowLoad _ _ | .flowSet _ _ | .flowParamSet _ _ _ | .flowSettings _ _ | .ethPortSet _ _ _
  | .ethFilterSet _ _ _ | .ethRingSet _ _ _ _ | .linePortSet _ _ _ | .rasterHeadSet _ _
  | .rasterTileSet _ _ _ _ | .pairSet _ _ | .bridleSet _ _ | .calSet _ _ | .testSet _ _ => true
  | _ => false

/-! ## Stalls -/

/-- The Stall and the OP of a Tack row (R268, R269). -/
def tackOf : Instr → Option (Nat × Nat)
  | .add k => some (k, 0x00)
  | .sub k => some (k, 0x01)
  | .and k => some (k, 0x02)
  | .or k => some (k, 0x03)
  | .xor k => some (k, 0x04)
  | .shl k => some (k, 0x05)
  | .shr k => some (k, 0x06)
  | .sar k => some (k, 0x07)
  | .mul k => some (k, 0x08)
  | .mulh k => some (k, 0x09)
  | .mulq k => some (k, 0x0A)
  | .min k => some (k, 0x0B)
  | .max k => some (k, 0x0C)
  | .adds k => some (k, 0x0D)
  | .subs k => some (k, 0x0E)
  | .clz k => some (k, 0x0F)
  | .divu k => some (k, 0x10)
  | .sel k => some (k, 0x11)
  | .addi k => some (k, 0x12)
  | .andi k => some (k, 0x13)
  | .ori k => some (k, 0x14)
  | .xori k => some (k, 0x15)
  | .movi k => some (k, 0x16)
  | .movhi k => some (k, 0x17)
  | .cmpeq k => some (k, 0x18)
  | .cmplt k => some (k, 0x19)
  | .cmpltu k => some (k, 0x1A)
  | .plog k => some (k, 0x1B)
  | .br k => some (k, 0x1C)
  | .call k => some (k, 0x1D)
  | .ret k => some (k, 0x1E)
  | .dbnz k => some (k, 0x1F)
  | .endt k => some (k, 0x20)
  | .cancel k => some (k, 0x21)
  | .evt k => some (k, 0x22)
  | .srd k => some (k, 0x23)
  | .ldw k => some (k, 0x24)
  | .stw k => some (k, 0x25)
  | .ldh k => some (k, 0x26)
  | .sth k => some (k, 0x27)
  | .vld k => some (k, 0x28)
  | .vst k => some (k, 0x29)
  | .pld k _ => some (k, 0x2A)
  | .pst k => some (k, 0x2B)
  | .vpld k _ => some (k, 0x2C)
  | .vpst k => some (k, 0x2D)
  | .lst k _ => some (k, 0x2E)
  | .vlst k _ => some (k, 0x2F)
  | .cld k _ => some (k, 0x30)
  | .vadd k => some (k, 0x31)
  | .vsub k => some (k, 0x32)
  | .vmul k => some (k, 0x33)
  | .vminmax k => some (k, 0x34)
  | .vshf k => some (k, 0x35)
  | .vlog k => some (k, 0x36)
  | .vcmp k => some (k, 0x37)
  | .vmov k => some (k, 0x38)
  | .vlerp k => some (k, 0x39)
  | _ => none

/-- Stall k is at word w, whose OP is op, of the binary of the instance i it runs: it is in service, nothing waits,
seals or switches, its budget has not run out, and it is not halted (R263, R279, R280, R499). -/
abbrev AtWord (k : Nat) (i : Inst) (w : Word) (op : Nat) (s : State) : Prop :=
  k < s.nStalls ∧ s.running? k = some i ∧ (s.stall k).live = true ∧ DbgCore.stall k ∉ s.sec.halted
    ∧ fetch k i s = .ok w ∧ tOp w = op

/-- Stall k has retired an instruction that leaves the context c and took cost cycles: the budget counter, where there is
one, is lower by them, the instruction is counted, and nothing else changes (R263, R279, R290). -/
def Retires (k : Nat) (c : Core) (cost : Nat) (s t : State) : Prop :=
  t.stall k = { s.stall k with core := { c with budget := c.budget.map (· - cost) }, wait := .none
                               busyAcc := (s.stall k).busyAcc + cost }
    ∧ (∀ j, j ≠ k → t.stall j = s.stall j)
    ∧ t.count (.stlRetired k) = (s.count (.stlRetired k) + 1) % 2 ^ 64
    ∧ (∀ x : Ctr, x.key ≠ (Ctr.stlRetired k).key → t.count x = s.count x)
    ∧ t = { s with cnt := t.cnt, pdk := { s.pdk with stalls := t.pdk.stalls } }

/-- The row ins, whose OP is op, writes v into the register that rd of w names, moves to the next word and takes cost
cycles, where its guard holds (R267, R268). -/
def ScalarRow (ins : Instr) (op cost k : Nat) (i : Inst) (w v : Word) (s : State) : Prop :=
  AtWord k i w op s → guardOn (s.stall k).core w = true →
    ∃ t, exec ins s = .next t ∧ Retires k (((s.stall k).core.setS (tRd w) v).adv) cost s t

/-- The same for a row of format P: b goes into the predicate that pd names. -/
def PredicateRow (ins : Instr) (op k : Nat) (i : Inst) (w : Word) (b : Bool) (s : State) : Prop :=
  AtWord k i w op s → guardOn (s.stall k).core w = true →
    ∃ t, exec ins s = .next t ∧ Retires k (((s.stall k).core.setP (tPd w) b).adv) 1 s t

/-- The same for a lane-wise row: lane j of the result, in the register that vd names, is f j. -/
def VectorRow (ins : Instr) (op cost k : Nat) (i : Inst) (w : Word) (f : Nat → Half) (s : State) : Prop :=
  AtWord k i w op s → guardOn (s.stall k).core w = true →
    ∃ t v, exec ins s = .next t ∧ Retires k (((s.stall k).core.setV (tVd w) v).adv) cost s t
      ∧ ∀ j, j < 8 → lane v j = f j

/-- Stall k has terminated its instance with fault code e: the last-fault record, STL_FAULT_CNT and TACK_FAULT; the
registers are as the instruction before left them (R281). -/
def Faulted (e k : Nat) (i : Inst) (s t : State) : Prop :=
  (t.stall k).fault = BitVec.ofNat 32 (e * 2 ^ 28 + i.task) ∧ (t.stall k).faultFn = fnOf i.content
    ∧ (t.stall k).core = (s.stall k).core ∧ t.count (.stlFault k) = (s.count (.stlFault k) + 1) % 2 ^ 32
    ∧ bitOf (t.cause (.stl k)) 1 = true

/-- The row ins, where its guard holds, faults with code e. -/
def FaultsWith (ins : Instr) (op e k : Nat) (i : Inst) (w : Word) (s : State) : Prop :=
  AtWord k i w op s → guardOn (s.stall k).core w = true → ∃ t, exec ins s = .next t ∧ Faulted e k i s t

/-! ## Updates -/

/-- Over a port that is on and has its link, the frames of one UPDATE message with this SEQ have joined the best-effort
queue, after what stood there (R304, R516). -/
def SendsUpdate (port : Nat) (addr : BitVec 128) (seq : Word) (k : UpdKind) (status : Half) (id chunk : Nat)
    (data : List Byte) (s t : State) : Prop :=
  s.portOn port = true → (s.port port).link = true →
    (t.port port).be = (s.port port).be ++ updFrames s.cfg port addr seq k status id chunk data

/-- The staged image holds every component with its digest, and no component's read-back mismatches twice (R507). -/
def Installs (man : Manifest) (mism : List Nat) (s : State) : Prop :=
  ∀ i c, man.comps[i]? = some c → mism.getD i 0 < 2
    ∧ Config.sha384 (sl (s.sec.upd.image man.imageLen) c.offset c.length) = c.digest

end Sys2Proof.Machine
end

