-- ==== Sys2Proof/Certificates/Slice0/Obligations.lean ====
section
/-! DEFINITION. Certificates/Slice0/Obligations.lean: what is claimed of the model, each statement naming the rules
of spec/ it rests on. -/
open Sys2Proof Sys2Proof.Machine

/-- Right after reset ELT and FN are 0, YM_RATE reads 0x0000_EA60, YM_GATE_OFFSET 0x0003_0D40 and
YM_CUT_CTRL 0x0000_0802, TIME_INC_INT is 5, no access error is recorded, Groom does not shed, every mailbox
is IDLE, every event source has level 0 and every cause register reads 0, GLB_DEVICE_ID is 0x5748_1000, no
command waits and nothing has left the device. A read of BAR0 by any path finds the full-width reset values
that the register tables give for GLB_DOMAIN_STATUS, GLB_CLK_STATUS, TIME_SERVO, TIME_STATUS, YM_RATE,
YM_YL_CFG, COMP_ORDER, MAP_PQ_WHITE, LAMP_PROOF, PDK_CORE_CFG, STL_FREE, ETH_CFG, LP_DMX, RST_FRZ_CTRL,
PAIR_CFG, FEED_CFG, CAL_CFG, CHK_CHUNK and FAR_CFG, and a path other than Groom all ones where nothing is
mapped. (The variant of the reset state is a fuse value, the model's choice, log entry 2; the memories are
empty, log entry 31.) (R6, R14, R24, R31, R33, R34, R66, R69, R126, R128) -/
def Obligations.ResetRegistersHoldTheirResetValues : Prop :=
  State.reset.elt = 0 ∧ fnOf State.reset.frameNow = 0#32
    ∧ State.reset.cfg.ym.rate = 0x0000EA60#32 ∧ State.reset.cfg.ym.gateNs = 0x00030D40#32
    ∧ State.reset.cfg.ym.cutCtrl = 0x00000802#32 ∧ State.reset.tim.incInt = 5
    ∧ State.reset.glb.acc = {} ∧ State.reset.mbx.shedding = false
    ∧ (∀ m, (State.reset.box m).st = .idle ∧ (State.reset.box m).respLen = 0)
    ∧ (∀ n, (State.reset.evc.srcAt n).level = false ∧ (State.reset.evc.srcAt n).count = 0)
    ∧ (∀ r, State.reset.cause r = 0#32)
    ∧ State.reset.glb.deviceId = 0x57481000#32 ∧ State.reset.pending = [] ∧ State.reset.out = []
    ∧ (∀ (p : Path), [0x0, 0x8, 0xC, 0x300014, 0x380000, 0x400000, 0x400100, 0x600010, 0x700008, 0x70100C, 0x500000,
        0x880100, 0x900000, 0xA00024, 0xB00024, 0xC00000, 0xC00008, 0xD00004, 0xEF002C, 0xF00000].map
          (fun a => (State.reset.readReg p a).toNat)
      = [0x57481000, 0x1, 0x10, 0x640203E8, 0x20000000, 0xEA60, 0xB840785A, 0xFFFFFFFF, 0x3E8, 0xC803E8, 0x4, 0x04003C00,
        0x5DC, 0x5C0C00, 0x20000, 0x30000, 0x3C, 0x80000008, 0x40, 0x18E10258])
    ∧ (∀ p : Path, p ≠ .groom → State.reset.readReg p 0x1100000 = 0xFFFFFFFF#32)

/-- For every command c, queue rest and state s, a step of s with c at the front of its queue is exec of c
on s with the rest as its queue; on an empty queue a step is one rising edge of TIMECLK, which adds the
increment to the 64-bit accumulator and, where it carries out of LT, puts LT_WRAP at the front (the model's
choice, log entry 40). (00_scope.md, 95_what_each_step_holds.md) -/
def Obligations.StepRunsTheFrontCommand : Prop :=
  (∀ (c : Instr) (rest : List Instr) (s : State),
      step { s with pending := c :: rest } = exec c { s with pending := rest })
    ∧ (∀ s : State, s.pending = [] → ∃ t, step s = .next t
        ∧ t.tim.lt.toNat * 2 ^ 32 + t.tim.frac.toNat
          = (s.tim.lt.toNat * 2 ^ 32 + s.tim.frac.toNat + s.tim.inc) % 2 ^ 64
        ∧ t.pending = (if 2 ^ 64 ≤ s.tim.lt.toNat * 2 ^ 32 + s.tim.frac.toNat + s.tim.inc then [.ltWrap] else [])
        ∧ t = { s with tim := { s.tim with lt := t.tim.lt, frac := t.tim.frac, carry := t.tim.carry }
                       pending := t.pending })

/-- For every state s, reachable or not, a step answers a next state t whose GLB_DEVICE_ID and GLB_VARIANT
are those of s, whatever command stood at the front. (R6) -/
def Obligations.EveryStepKeepsTheIdentity : Prop :=
  ∀ s : State, ∃ t, step s = .next t ∧ t.glb.deviceId = s.glb.deviceId ∧ t.vcode = s.vcode

/-- From every state with n commands waiting, n steps answer a state in which none waits: no command, in no
state, stops the block, adds to the queue or takes more than its own place from it; the device's identity is
kept all the way. (That every misuse has an answer and nothing stops the machine is the model's reading of
the status codes, access errors and cause bits of R33, R68 and R69.) (00_scope.md, R6) -/
def Obligations.EveryQueueRunsToItsEnd : Prop :=
  ∀ (n : Nat) (s : State), s.pending.length = n →
    ∃ t, Host.Core.run Sys2Proof.core n s = .next t ∧ t.pending = [] ∧ sameDevice s t

/-- COLD_RESET, whatever boot finds, answers a state with ELT 0, the time unit, the frame clock and the
mailboxes at reset, no counter, no transaction or commit left, and keeps the flash copy of the event log and
the OTP (life-cycle state, revoked keys, security counter). WARM_RESET restarts the same blocks and keeps
the event log, the feeds, both parameter banks, the thermal state's level and the OTP. SUPPLY_COLLAPSE
enters cold reset when both feeds of VDD_CORE lie below 0.62 V, or both of VDD_AON below 0.66 V, and does
nothing otherwise. (What is kept across each reset is the model's reading, log entry 31.) (R25, R67, R128,
R413, R486, R490, R511, R524, R525) -/
def Obligations.ResetsRestartTheBlock : Prop :=
  (∀ (b : Boot) (s : State), ∃ t, exec (.coldReset b) s = .next t
      ∧ t.elt = 0 ∧ t.tim = {} ∧ t.ym = {} ∧ t.mbx = {} ∧ t.cnt = [] ∧ t.cap = [] ∧ t.sched = [] ∧ t.gen = 0
      ∧ t.log.flash = s.log.flash ∧ t.log.sram = [] ∧ t.sec.lc = s.sec.lc ∧ t.sec.revoked = s.sec.revoked
      ∧ t.sec.counter = s.sec.counter ∧ sameDevice s t)
    ∧ (∀ (b : Boot) (s : State), ∃ t, exec (.warmReset b) s = .next t
      ∧ t.elt = 0 ∧ t.tim = {} ∧ t.ym = {} ∧ t.mbx.sessions = [] ∧ t.sched = [] ∧ t.gen = 0
      ∧ t.log = s.log ∧ t.feeds = s.feeds ∧ t.pdk.bank0 = s.pdk.bank0 ∧ t.pdk.bank1 = s.pdk.bank1
      ∧ t.brd.level = s.brd.level ∧ t.sec.lc = s.sec.lc ∧ t.sec.revoked = s.sec.revoked
      ∧ t.sec.counter = s.sec.counter ∧ sameDevice s t)
    ∧ (∀ (core : Bool) (a b : Nat) (s : State),
        a < (if core then 620 else 660) → b < (if core then 620 else 660) →
        ∃ t, exec (.supplyCollapse core a b) s = .next t
          ∧ t.elt = 0 ∧ t.tim = {} ∧ t.ym = {} ∧ t.mbx = {} ∧ t.cnt = [] ∧ t.sched = []
          ∧ t.log.flash = s.log.flash ∧ t.log.sram = [] ∧ t.pair.out = false ∧ t.line = [] ∧ sameDevice s t)
    ∧ (∀ (core : Bool) (a b : Nat) (s : State),
        ((if core then 620 else 660) ≤ a ∨ (if core then 620 else 660) ≤ b) →
        exec (.supplyCollapse core a b) s = .next s)

/-- Where a reference is present, SERDES_REF_LOSS clears its bit of GLB_CLK_STATUS, raises CLOCK_FAULT,
takes down the links the reference serves (Ethernet ports 0 to 7 under REFCLK_SER0, 8 to 15 under
REFCLK_SER1) and loses no configuration; where it is absent nothing changes. SERDES_REF_RETURN sets the bit
again. ROOT_PLL_LOSS, while the PLL is locked, clears ROOT_LOCK, runs AON from the RC oscillator, leaves the
device faulted, releases the Halter, stops every Ethernet transmitter, raises CLOCK_FAULT and logs a FATAL
entry; a relock sets ROOT_LOCK while the device stays faulted and changes nothing else but what the
conditions of the guarantee show. PCIE_RESET closes every session opened over PCIe and keeps the
configuration. DOMAIN_POWER_ON powers on a domain that is off and that a scheduled commit needs. (R22, R23,
R24, R26, R27, R36) -/
def Obligations.ReferencesAndRootPll : Prop :=
  (∀ (r : RefClk) (s : State), s.glb.clk.ref r = true → ∃ t, exec (.serdesRefLoss r) s = .next t
      ∧ t.glb.clk.ref r = false ∧ bitOf (t.cause .glb) 1 = true ∧ t.cfg = s.cfg ∧ t.gen = s.gen
      ∧ (r = .ser0 → ∀ p, p < 8 → (t.port p).link = false)
      ∧ (r = .ser1 → ∀ p, 8 ≤ p → p < 16 → (t.port p).link = false))
    ∧ (∀ (r : RefClk) (s : State), s.glb.clk.ref r = false → exec (.serdesRefLoss r) s = .next s)
    ∧ (∀ (r : RefClk) (s : State), ∃ t, exec (.serdesRefReturn r) s = .next t
        ∧ t.glb.clk.ref r = true ∧ t = { s with glb := { s.glb with clk := t.glb.clk }, ym := t.ym })
    ∧ (∀ s : State, s.glb.clk.rootLock = true → ∃ t, exec .rootPllLoss s = .next t
        ∧ t.glb.clk.rootLock = false ∧ t.glb.clk.aonRc = true ∧ t.glb.faulted = true
        ∧ t.pair.out = false ∧ (∀ p, p < s.nEth → (t.port p).cur = none)
        ∧ bitOf (t.cause .glb) 1 = true ∧ t.cfg = s.cfg
        ∧ ∃ e, t.log.flash.getLast? = some e ∧ e.sev = 6)
    ∧ (∀ s : State, s.glb.faulted = true →
        ∃ t, exec .rootPllRelock s = .next t
          ∧ t = { s with glb := { s.glb with clk := { s.glb.clk with rootLock := true } }, ym := t.ym })
    ∧ (∀ s : State, ∃ t, exec .pcieReset s = .next t ∧ t.cfg = s.cfg ∧ t.sched = s.sched
        ∧ (tfrom 0 s.mbx.sessions = true → ∀ id x, t.session? id = some x → x.transport ≠ .pcie))
    ∧ (∀ (d : Nat) (s : State), d < 16 → s.domainOf d = 0 → (∃ x ∈ s.sched, needsDomain x.cfg d = true) →
        ∃ t, exec (.domainPowerOn d) s = .next t ∧ t.domainOf d = 1 ∧ t.cfg = s.cfg
          ∧ (∀ e, e < 16 → e ≠ d → t.domainOf e = s.domainOf e))

/-- COUNTER_LO_READ returns the low word of the value and latches its high word for that path alone.
NARROW_ACCESS of a path other than Groom's returns all ones to a read, changes nothing for a write, and
records an access error with cause 0x1; UNPERMITTED_ACCESS likewise with cause 0x2 for a write in a mapped
block and 0x3 otherwise. The first error is recorded whole; a later one only advances COUNT, which
saturates. A 1 written to VALID clears VALID and COUNT; a 0 changes nothing. REGISTER_WRITE takes the value
into TIME_TRIG_LO and _HI, an unlocked request window and EVC_TGT_CFG, and a write to a read-only place
changes nothing. (That Groom's accesses are never recorded is the model's choice, log entry 41; how reads
are answered, log entry 14.) In every state whose GLB_ACCESS_ERR.VALID is 1, an access of a path other than
Groom that the map refuses (a write the path may not make, a read it may not make) leaves VALID, PATH, CAUSE
and ADDR as they were and advances COUNT by one, short of 255, where it stays; no other part of the GLOBAL
block changes but what a read returned. (R8, R9, R11, R31, R33, R34, R35, R85, R153, R534) -/
def Obligations.RegisterAccesses : Prop :=
  ((∀ (p : Path) (r : Reg64) (s : State), ∃ t, exec (.counterLoRead p r) s = .next t
      ∧ Returns p (BitVec.ofNat 32 (s.value64 r)) s { t with glb := { t.glb with hiLatch := s.glb.hiLatch } }
      ∧ t.hiOf p r = BitVec.ofNat 32 (s.value64 r / 4294967296)
      ∧ (∀ q k, q ≠ p → t.hiOf q k = s.hiOf q k) ∧ t = { s with glb := t.glb })
    ∧ (∀ (p : Path) (w : Bool) (n a : Nat) (s : State), (n < 4 ∨ a % 4 ≠ 0) → p ≠ .groom → s.glb.acc.valid = false →
        ∃ t, exec (.narrowAccess p w n a) s = .next t
          ∧ t.glb.acc = { valid := true, path := p.code, cause := 1, count := 0, addr := BitVec.ofNat 26 a }
          ∧ t.readOf p = (if w then s.readOf p else some 0xFFFFFFFF#32)
          ∧ t = { s with glb := t.glb, evc := s.evc.occur 0 })
    ∧ (∀ (p : Path) (w : Bool) (n a : Nat) (s : State), (n < 4 ∨ a % 4 ≠ 0) → p ≠ .groom → s.glb.acc.valid = true →
        ∃ t, exec (.narrowAccess p w n a) s = .next t
          ∧ t.glb.acc = { s.glb.acc with count := satInc s.glb.acc.count } ∧ t = { s with glb := t.glb, evc := s.evc.occur 0 })
    ∧ (∀ (w : Bool) (n a : Nat) (s : State), (n < 4 ∨ a % 4 ≠ 0) →
        ∃ t, exec (.narrowAccess .groom w n a) s = .next t
          ∧ t.readOf .groom = (if w then s.readOf .groom else some 0xFFFFFFFF#32) ∧ t.glb.acc = s.glb.acc)
    ∧ (∀ (p : Path) (a : Nat) (s : State), p ≠ .groom → a < 0x4000000 → a % 4 = 0 → mayWriteAt s p a = false →
        s.glb.acc.valid = false → ∃ t, exec (.unpermittedAccess p true a) s = .next t
          ∧ t.glb.acc = { valid := true, path := p.code, cause := if a < 0x1100000 then 2 else 3, count := 0
                          addr := BitVec.ofNat 26 a }
          ∧ t = { s with glb := { s.glb with acc := t.glb.acc }, evc := s.evc.occur 0 })
    ∧ (∀ (p : Path) (a : Nat) (s : State), p ≠ .groom → a < 0x4000000 → a % 4 = 0 → mayReadAt s p a = false →
        s.glb.acc.valid = false → ∃ t, exec (.unpermittedAccess p false a) s = .next t
          ∧ t.readOf p = some 0xFFFFFFFF#32
          ∧ t.glb.acc = { valid := true, path := p.code, cause := 3, count := 0, addr := BitVec.ofNat 26 a })
    ∧ (∀ (v : Word) (s : State), bitOf v 31 = true → ∃ t, exec (.accessErrClear v) s = .next t
        ∧ t.glb.acc = { s.glb.acc with valid := false, count := 0 } ∧ (t.evc.srcAt 0).level = false
        ∧ t = { s with glb := { s.glb with acc := t.glb.acc }, evc := t.evc })
    ∧ (∀ (v : Word) (s : State), bitOf v 31 = false → exec (.accessErrClear v) s = .next s)
    ∧ (∀ (p : Path) (v : Word) (s : State), ∃ t, exec (.registerWrite p .trigLo v) s = .next t
        ∧ t.tim.trig.toNat % 2 ^ 32 = v.toNat ∧ t.tim.trig.toNat / 2 ^ 32 = s.tim.trig.toNat / 2 ^ 32
        ∧ t = { s with tim := { s.tim with trig := t.tim.trig } })
    ∧ (∀ (p : Path) (v : Word) (s : State), ∃ t, exec (.registerWrite p .trigHi v) s = .next t
        ∧ t.tim.trig.toNat / 2 ^ 32 = v.toNat ∧ t.tim.trig.toNat % 2 ^ 32 = s.tim.trig.toNat % 2 ^ 32
        ∧ t = { s with tim := { s.tim with trig := t.tim.trig } })
    ∧ (∀ (p : Path) (m i : Nat) (v : Word) (s : State), m < 16 → i < 1024 → (s.box m).locked = false →
        ∃ t, exec (.registerWrite p (.window m i) v) s = .next t ∧ tget (t.box m).window i 0 = v
          ∧ (∀ j, j ≠ i → tget (t.box m).window j 0 = tget (s.box m).window j 0)
          ∧ (∀ k, k ≠ m → t.box k = s.box k) ∧ t = { s with mbx := { s.mbx with boxes := t.mbx.boxes } })
    ∧ (∀ (p : Path) (t : Nat) (v : Word) (s : State), t < 4 → ∃ u, exec (.registerWrite p (.tgtCfg t) v) s = .next u
        ∧ (u.evc.tgtAt t).base.toNat = fld v 31 28 ∧ (u.evc.tgtAt t).bypass.toNat = fld v 27 24
        ∧ (u.evc.tgtAt t).modCnt.toNat = fld v 23 16 ∧ (u.evc.tgtAt t).modUs.toNat = fld v 15 0
        ∧ u = { s with evc := u.evc })
    ∧ (∀ (p : Path) (v : Word) (s : State), exec (.registerWrite p .readOnly v) s = .next s))
    ∧ (∀ (p : Path) (w : Bool) (a : Nat) (s : State), p ≠ .groom → a < 0x4000000 → a % 4 = 0 →
    (if w then mayWriteAt s p a else mayReadAt s p a) = false → s.glb.acc.valid = true →
    ∃ t, exec (.unpermittedAccess p w a) s = .next t
      ∧ t.glb.acc.valid = true ∧ t.glb.acc.path = s.glb.acc.path ∧ t.glb.acc.cause = s.glb.acc.cause
      ∧ t.glb.acc.addr = s.glb.acc.addr
      ∧ t.glb.acc.count.toNat = min 255 (s.glb.acc.count.toNat + 1)
      ∧ t = { s with glb := { s.glb with acc := t.glb.acc, readData := t.glb.readData }, evc := s.evc.occur 0 })

/-- GLB_, MBX_, YM_, TIME_, COMP_ and MAP_EVT_CAUSE clear the defined bits at which a 1 is written
(MBX_EVT_CAUSE those of the writing path's own mailboxes), and change no other bit. A read of LAMP_, PDK_,
STL_, ETH_TX_, ETH_RX_, FLW_TX_, YL_RX_, LP_, RST_, PAIR_, BRD_, FAR_ and, by Groom, SEC_EVT_CAUSE returns
the register and clears it, where the variant has the resource. No other cause register changes, and beyond
them only the event controller. (The read value is kept as the path's latest read, log entry 14.) (R11, R12,
R36, R45, R69, R126) -/
def Obligations.CauseRegistersClear : Prop :=
  (∀ (v : Word) (s : State), ∃ t, exec (.glbEvtCauseWrite v) s = .next t ∧ ClearsCause .glb (v &&& 0xE#32) s t ∧ t.glb = s.glb)
    ∧ (∀ (p : Path) (v : Word) (s : State), ∃ t w, exec (.mbxEvtCauseWrite p v) s = .next t
        ∧ ClearsCause .mbx w s t ∧ t.glb = s.glb
        ∧ ∀ m, m < 32 → (bitOf w m = true ↔ bitOf v m = true ∧ m < 16 ∧ (p = .groom ∨ s.boxPath m = some p)))
    ∧ (∀ (v : Word) (s : State), ∃ t, exec (.ymEvtCauseWrite v) s = .next t ∧ ClearsCause .ym (v &&& 0xFF#32) s t ∧ t.glb = s.glb)
    ∧ (∀ (v : Word) (s : State), ∃ t, exec (.timeEvtCauseWrite v) s = .next t ∧ ClearsCause .time (v &&& 0xFF#32) s t ∧ t.glb = s.glb)
    ∧ (∀ (v : Word) (s : State), ∃ t, exec (.compEvtCauseWrite v) s = .next t ∧ ClearsCause .comp (v &&& 0x1FFF#32) s t ∧ t.glb = s.glb)
    ∧ (∀ (v : Word) (s : State), ∃ t, exec (.mapEvtCauseWrite v) s = .next t ∧ ClearsCause .map (v &&& 0xF#32) s t ∧ t.glb = s.glb)
    ∧ (∀ (p : Path) (s : State), ∃ t, exec (.lampEvtCauseRead p) s = .next t
        ∧ ClearsCause .lamp 0xFFFFFFFF#32 s t ∧ Returns p (s.cause .lamp) s t)
    ∧ (∀ (p : Path) (k : Nat) (s : State), k < s.nStalls → ∃ t, exec (.pdkEvtCauseRead p k) s = .next t
        ∧ ClearsCause (.pdk k) 0xFFFFFFFF#32 s t ∧ Returns p (s.cause (.pdk k)) s t)
    ∧ (∀ (p : Path) (k : Nat) (s : State), k < s.nStalls → ∃ t, exec (.stlEvtCauseRead p k) s = .next t
        ∧ ClearsCause (.stl k) 0xFFFFFFFF#32 s t ∧ Returns p (s.cause (.stl k)) s t)
    ∧ (∀ (p : Path) (k : Nat) (s : State), k < s.nEth → ∃ t, exec (.ethTxEvtCauseRead p k) s = .next t
        ∧ ClearsCause (.ethTx k) 0xFFFFFFFF#32 s t ∧ Returns p (s.cause (.ethTx k)) s t)
    ∧ (∀ (p : Path) (k : Nat) (s : State), k < s.nEth → ∃ t, exec (.ethRxEvtCauseRead p k) s = .next t
        ∧ ClearsCause (.ethRx k) 0xFFFFFFFF#32 s t ∧ Returns p (s.cause (.ethRx k)) s t)
    ∧ (∀ (p : Path) (k : Nat) (s : State), k < s.nEth → ∃ t, exec (.flwTxEvtCauseRead p k) s = .next t
        ∧ ClearsCause (.flwTx k) 0xFFFFFFFF#32 s t ∧ Returns p (s.cause (.flwTx k)) s t)
    ∧ (∀ (p : Path) (k : Nat) (s : State), k < s.nEth → ∃ t, exec (.ylRxEvtCauseRead p k) s = .next t
        ∧ ClearsCause (.ylRx k) 0xFFFFFFFF#32 s t ∧ Returns p (s.cause (.ylRx k)) s t)
    ∧ (∀ (p : Path) (k : Nat) (s : State), k < s.nLine → ∃ t, exec (.lpEvtCauseRead p k) s = .next t
        ∧ ClearsCause (.lp k) 0xFFFFFFFF#32 s t ∧ Returns p (s.cause (.lp k)) s t)
    ∧ (∀ (p : Path) (k : Nat) (s : State), k < s.nHeads → ∃ t, exec (.rstEvtCauseRead p k) s = .next t
        ∧ ClearsCause (.rst k) 0xFFFFFFFF#32 s t ∧ Returns p (s.cause (.rst k)) s t)
    ∧ (∀ (p : Path) (s : State), ∃ t, exec (.pairEvtCauseRead p) s = .next t
        ∧ ClearsCause .pair 0xFFFFFFFF#32 s t ∧ Returns p (s.cause .pair) s t)
    ∧ (∀ (p : Path) (s : State), ∃ t, exec (.brdEvtCauseRead p) s = .next t
        ∧ ClearsCause .brd 0xFFFFFFFF#32 s t ∧ Returns p (s.cause .brd) s t)
    ∧ (∀ (p : Path) (s : State), ∃ t, exec (.farEvtCauseRead p) s = .next t
        ∧ ClearsCause .far 0xFFFFFFFF#32 s t ∧ Returns p (s.cause .far) s t)
    ∧ (∀ s : State, ∃ t, exec (.secEvtCauseRead .groom) s = .next t
        ∧ ClearsCause .sec 0xFFFFFFFF#32 s t ∧ Returns .groom (s.cause .sec) s t)

/-- SNAPSHOT of the Yardmaster, the compositor, the mapper, the Paddock, the Stalls, an Ethernet port, the
line ports, the raster heads, the pair and the Bridle makes every counter of the block read as it then
stands, and leaves what was captured of every other block. CLEAR makes every live counter of the block 0
(what was captured of it stays until the next capture, the model's choice, log entry 8) and leaves every
other block's. Nothing else changes. (R126, R152, R184, R209, R235, R261, R290, R408, R433) -/
def Obligations.CountersSnapshotAndClear : Prop :=
  (∀ s : State, ∃ t, exec .ymSnapshot s = .next t ∧ Captures 0x100000 0x200000 s t)
    ∧ (∀ s : State, ∃ t, exec .compSnapshot s = .next t ∧ Captures 0x200000 0x300000 s t)
    ∧ (∀ s : State, ∃ t, exec .mapSnapshot s = .next t ∧ Captures 0x300000 0x400000 s t)
    ∧ (∀ s : State, ∃ t, exec .pdkSnapshot s = .next t ∧ Captures 0x400000 0x500000 s t)
    ∧ (∀ s : State, ∃ t, exec .stlSnapshot s = .next t ∧ Captures 0x500000 0x600000 s t)
    ∧ (∀ (p : Nat) (s : State), p < 16 → ∃ t, exec (.ethSnapshot p) s = .next t
        ∧ Captures (0x600000 + 64 * p) (0x600040 + 64 * p) s t)
    ∧ (∀ s : State, ∃ t, exec .lpSnapshot s = .next t ∧ Captures 0x700000 0x800000 s t)
    ∧ (∀ s : State, ∃ t, exec .rstSnapshot s = .next t ∧ Captures 0x800000 0x900000 s t)
    ∧ (∀ s : State, ∃ t, exec .pairSnapshot s = .next t ∧ Captures 0x900000 0xA00000 s t)
    ∧ (∀ s : State, ∃ t, exec .brdSnapshot s = .next t ∧ Captures 0xA00000 0xB00000 s t)
    ∧ (∀ s : State, ∃ t, exec .ymClear s = .next t ∧ Clears 0x100000 0x200000 s t)
    ∧ (∀ s : State, ∃ t, exec .compClear s = .next t ∧ Clears 0x200000 0x300000 s t)
    ∧ (∀ s : State, ∃ t, exec .mapClear s = .next t ∧ Clears 0x300000 0x400000 s t)
    ∧ (∀ s : State, ∃ t, exec .pdkClear s = .next t ∧ Clears 0x400000 0x500000 s t)
    ∧ (∀ s : State, ∃ t, exec .stlClear s = .next t ∧ Clears 0x500000 0x600000 s t)
    ∧ (∀ (p : Nat) (s : State), p < 16 → ∃ t, exec (.ethClear p) s = .next t
        ∧ Clears (0x600000 + 64 * p) (0x600040 + 64 * p) s t)
    ∧ (∀ s : State, ∃ t, exec .lpClear s = .next t ∧ Clears 0x700000 0x800000 s t)
    ∧ (∀ s : State, ∃ t, exec .rstClear s = .next t ∧ Clears 0x800000 0x900000 s t)
    ∧ (∀ s : State, ∃ t, exec .pairClear s = .next t ∧ Clears 0x900000 0xA00000 s t)
    ∧ (∀ s : State, ∃ t, exec .brdClear s = .next t ∧ Clears 0xA00000 0xB00000 s t)

/-- From the path of mailbox m's own transport, RING in IDLE or DONE snapshots the request window, enters
PENDING and returns ABORT_RES to 0; in PENDING or EXECUTING it only advances MBX_RING_IGNORED. From another
path than Groom a doorbell write is discarded and recorded with cause 0x2. ABORT in IDLE or DONE only sets
ABORT_RES to 0b10; in PENDING it completes the mailbox with ABORTED and ABORT_RES 0b01 (the payload is empty
but for CFG_COMMIT, which names its base generation); while a command without an abort point here executes,
it waits for the completion. A write that sets both RING and ABORT acts as ABORT and counts its RING as
ignored. Where Groom runs and takes mailbox m: a request that repeats the tag of the last completed one is
answered again with the same response; while shedding, a tier-3 request completes at once with MBX_BUSY and
a hint from 10 to 1,000; a request that fails the checks of the header completes with the first failure and
the same payload, and changes nothing else; any other request enters EXECUTING, its descriptors, if any,
waiting to be moved. With no request, or while Groom is halted, nothing changes. (The hint's value is free,
log entry 5.) Each row of the shedding pair hands over 10 ms windows of load: LOAD_PCT is the latest of them
and PEAK_PCT the highest of the last hundred. Where the load has stayed above 90 per cent for 100 ms while
Groom does not shed, SHEDDING_ENTER sets SHEDDING, raises the Groom-load event and logs an entry of severity
NOTICE; where it has stayed below 80 per cent for 100 ms while it sheds, SHEDDING_LEAVE clears SHEDDING and
does the same; otherwise the two note the windows alone. (The severity number of NOTICE is R67's; the
entry's source and code are the model's choice, log entry 7.) (R38, R44, R46, R47, R534, R48, R50, R65, R66,
R499) -/
def Obligations.MailboxDoorbellsAndTake : Prop :=
  (((∀ (p : Path) (m : Nat) (s : State), m < 16 → p ≠ .groom → s.boxPath m = some p → (s.box m).locked = false →
      ∃ t, exec (.mbxRing p m) s = .next t ∧ (t.box m).st = .pending ∧ (t.box m).req = readReq (s.box m).window
        ∧ (t.box m).abortRes = 0 ∧ (t.box m).window = (s.box m).window ∧ (t.box m).doneCount = (s.box m).doneCount
        ∧ (t.box m).ringIgnored = (s.box m).ringIgnored ∧ (∀ j, j ≠ m → t.box j = s.box j)
        ∧ t = { s with mbx := { s.mbx with boxes := t.mbx.boxes, order := s.mbx.order + 1 } })
    ∧ (∀ (p : Path) (m : Nat) (s : State), m < 16 → p ≠ .groom → s.boxPath m = some p → (s.box m).locked = true →
        exec (.mbxRing p m) s = .next (s.setBox m { s.box m with ringIgnored := (s.box m).ringIgnored + 1 }))
    ∧ (∀ (p : Path) (m : Nat) (s : State), m < 16 → p ≠ .groom → s.boxPath m ≠ some p → s.glb.acc.valid = false →
        ∃ t, exec (.mbxRing p m) s = .next t
          ∧ t.glb.acc = { valid := true, path := p.code, cause := 2, count := 0, addr := BitVec.ofNat 26 (0x1F0000 + 16 * m) }
          ∧ t = { s with glb := { s.glb with acc := t.glb.acc }, evc := s.evc.occur 0 })
    ∧ (∀ (p : Path) (m : Nat) (r : Bool) (s : State), m < 16 → p ≠ .groom → s.boxPath m ≠ some p →
        s.glb.acc.valid = false → ∃ t, exec (.mbxAbort p m r) s = .next t ∧ t.glb.acc.cause = 2 ∧ t.mbx = s.mbx)
    ∧ (∀ (p : Path) (m : Nat) (s : State), m < 16 → p ≠ .groom → s.boxPath m = some p →
        ((s.box m).st = .idle ∨ (s.box m).st = .done) →
        exec (.mbxAbort p m false) s = .next (s.setBox m { s.box m with abortRes := 2 }))
    ∧ (∀ (p : Path) (m : Nat) (s : State), m < 16 → p ≠ .groom → s.boxPath m = some p →
        ((s.box m).st = .idle ∨ (s.box m).st = .done) →
        ∃ t, exec (.mbxAbort p m true) s = .next t ∧ (t.box m).abortRes = 2 ∧ (t.box m).st = (s.box m).st
          ∧ (t.box m).ringIgnored = (s.box m).ringIgnored + 1)
    ∧ (∀ (p : Path) (m : Nat) (s : State), Live m s → p ≠ .groom → s.boxPath m = some p → (s.box m).st = .pending →
        ∃ t, exec (.mbxAbort p m false) s = .next t ∧ Answered m .aborted (s.failData m) s t ∧ (t.box m).abortRes = 1
          ∧ (∀ j, j ≠ m → t.box j = s.box j))
    ∧ (∀ (p : Path) (m : Nat) (s : State), m < 16 → p ≠ .groom → s.boxPath m = some p → (s.box m).st = .executing →
        (s.box m).moving = false → atAbortPoint m s = none →
        exec (.mbxAbort p m false) s = .next (s.setBox m { s.box m with abortReq := true })))
    ∧ ((∀ (s : State) (m : Nat), DbgCore.groom ∉ s.sec.halted → s.nextBox = some m → m < 16 →
      (s.box m).lastTag = some (s.box m).req.tag →
      ∃ t, exec .mbxTake s = .next t ∧ (t.box m).st = .done ∧ (t.box m).resp = (s.box m).resp
        ∧ (t.box m).doneCount = (s.box m).doneCount + 1 ∧ t.mbx.sessions = s.mbx.sessions)
    ∧ (∀ (s : State) (m : Nat), DbgCore.groom ∉ s.sec.halted → s.nextBox = some m → Live m s →
        (s.box m).lastTag ≠ some (s.box m).req.tag → s.mbx.shedding = true → (s.box m).req.tier = 3 →
        ∃ t n, exec .mbxTake s = .next t ∧ 10 ≤ n ∧ n ≤ 1000 ∧ Answers m .mbxBusy (le 4 n) s s.takeFree t)
    ∧ (∀ (s : State) (m : Nat) (e : Status), DbgCore.groom ∉ s.sec.halted → s.nextBox = some m → Live m s →
        (s.box m).lastTag ≠ some (s.box m).req.tag → ¬(s.mbx.shedding = true ∧ (s.box m).req.tier = 3) →
        checkHeader s m (s.box m).req = .error e → ∃ t, exec .mbxTake s = .next t ∧ Answers m e (s.failData m) s s t)
    ∧ (∀ (s : State) (m : Nat), DbgCore.groom ∉ s.sec.halted → s.nextBox = some m → Live m s →
        (s.box m).lastTag ≠ some (s.box m).req.tag → ¬(s.mbx.shedding = true ∧ (s.box m).req.tier = 3) →
        checkHeader s m (s.box m).req = .ok () → ∃ t, exec .mbxTake s = .next t
          ∧ (t.box m).st = .executing ∧ (t.box m).req = (s.box m).req
          ∧ (t.box m).dma = (if (s.box m).req.descCount = 0 then none else some {})
          ∧ (∀ j, j ≠ m → t.box j = s.box j)
          ∧ t = { s with mbx := { s.mbx with boxes := t.mbx.boxes, sessions := t.mbx.sessions } })
    ∧ (∀ s : State, s.nextBox = none ∨ DbgCore.groom ∈ s.sec.halted → exec .mbxTake s = .next s)
    ∧ (∀ (s : State) (m : Nat) (q : Req),
        (q.hdrVer ≠ 1 ∨ 4 ≤ q.flags.toNat ∨ q.status ≠ 0 ∨ 4064 < q.len.toNat) → checkHeader s m q = .error .badHeader)
    ∧ (∀ (s : State) (m : Nat) (q : Req), q.hdrVer = 1 → q.flags = 1 → q.status = 0 → q.len.toNat ≤ 4064 →
        q.descCount = 0 → q.checkOk = false → checkHeader s m q = .error .badCheck)))
    ∧ ((∀ (ws : List Nat) (w : Nat) (s : State), (noteLoads (ws ++ [w]) s).loadStays (fun l => decide (90 < l)) = true → s.mbx.shedding = false →
      ∃ t, exec (.sheddingEnter ws w) s = .next t ∧ t.mbx = { (noteLoads (ws ++ [w]) s).mbx with shedding := true }
      ∧ bitOf (t.cause .glb) 2 = true ∧ t.evc = s.evc.occur 2
      ∧ (∃ e, t.log.sram.getLast? = some e ∧ e.sev = 2 ∧ e.seq = s.log.next) ∧ t.log.next = s.log.next + 1
      ∧ t = { s with mbx := t.mbx, causes := t.causes, evc := t.evc, log := t.log })
    ∧ (∀ (ws : List Nat) (w : Nat) (s : State), (noteLoads (ws ++ [w]) s).loadStays (fun l => decide (l < 80)) = true → s.mbx.shedding = true →
      ∃ t, exec (.sheddingLeave ws w) s = .next t ∧ t.mbx = { (noteLoads (ws ++ [w]) s).mbx with shedding := false }
      ∧ bitOf (t.cause .glb) 2 = true ∧ t.evc = s.evc.occur 2
      ∧ (∃ e, t.log.sram.getLast? = some e ∧ e.sev = 2 ∧ e.seq = s.log.next) ∧ t.log.next = s.log.next + 1
      ∧ t = { s with mbx := t.mbx, causes := t.causes, evc := t.evc, log := t.log })
    ∧ (∀ (ws : List Nat) (w : Nat) (s : State), (noteLoads (ws ++ [w]) s).loadStays (fun l => decide (90 < l)) = false ∨ s.mbx.shedding = true →
      exec (.sheddingEnter ws w) s = .next (noteLoads (ws ++ [w]) s))
    ∧ (∀ (ws : List Nat) (w : Nat) (s : State), (noteLoads (ws ++ [w]) s).loadStays (fun l => decide (l < 80)) = false ∨ s.mbx.shedding = false →
      exec (.sheddingLeave ws w) s = .next (noteLoads (ws ++ [w]) s))
    ∧ (∀ (ws : List Nat) (l : Nat) (s : State), ∃ x, (noteLoads (ws ++ [l]) s).mbx = { s.mbx with
        loads := x, load := BitVec.ofNat 8 l, peak := BitVec.ofNat 8 (x.foldl max 0) }
      ∧ x = (s.mbx.loads ++ ws ++ [l]).drop ((s.mbx.loads ++ ws ++ [l]).length - 100)))

/-- Where Groom runs and takes mailbox m next, m holds a PENDING request that it serves; every other mailbox
with a PENDING request it serves has a higher tier, or the same tier and a doorbell no earlier than m's. The
tiers are: 1 for SESSION-class commands and commands issued under SAFETY, 3 for the shed-able commands, 2
for all others. (The doorbell order is the order of MBX_RING commands; two doorbells are never at the same
instant here. The premise is the canonical form of the table of mailboxes.) (R65) -/
def Obligations.MbxTakeServesByTierThenOrder : Prop :=
  (∀ (s : State) (m : Nat), tfrom 0 s.mbx.boxes = true → s.nextBox = some m →
      (s.box m).st = .pending ∧ s.served m = true
        ∧ ∀ j, (s.box j).st = .pending → s.served j = true →
            (s.box m).req.tier < (s.box j).req.tier
              ∨ (s.box m).req.tier = (s.box j).req.tier ∧ (s.box m).order ≤ (s.box j).order)
    ∧ (∀ q : Req, q.tier = if opClass q.opcode = 0 ∨ q.priv = 3 then 1 else if shedAble q.opcode then 3 else 2)

/-- On UDP port 30811, while the management port has its reference, a datagram of an open association for
the association's own mailbox is taken: a request of one fragment is put into the window and rung, and an
abort message acts as ABORT. A datagram on another UDP port, outside an association or without the reference
is discarded, and a closure alert closes the association and drops its partial requests. A partial request
older than 50 ms is discarded, a younger one stays. A handshake opens an association that is not open, or
that has been idle for 300 s, drops its partial requests and presents the attestation certificate; an
association idle for 300 s closes. A segment whose descriptor is in order, whose accesses complete and whose
checksum, where one is given, holds, advances the descriptors consumed, and the transfer has ended with LAST
or at DESC_COUNT; a segment to the device puts its bytes at OFFSET of the target object, one to the host
puts LENGTH bytes at ADDR of host memory; a faulty one ends the command with DMA_FAULT. (The framing header
is most significant byte first, a descriptor least significant byte first, R10. The bytes that a segment to
the host carries are free, log entry 3.) (R10, R22, R23, R39, R40, R41, R55, R56) -/
def Obligations.ManagementPortAndBulkData : Prop :=
  ((∀ (x : MgmtMsg) (m : Nat) (s : State), (m = 12 ∨ m = 13) → s.mgmtLink = true → x.udp = 30811 → s.assocOf x.peer = some m →
      x.close = false → 8 ≤ x.bytes.length → x.mailbox = m → x.kind = 1 → x.count = 1 → x.index = 0 →
      x.data.length ≤ 1184 → (s.box m).locked = false → tfind? s.mbx.part (partKey m x.tag) = none →
      ∃ t, exec (.mgmtDatagram x) s = .next t ∧ (t.box m).st = .pending
        ∧ (∀ i, i < x.data.length → winByte (t.box m).window i = x.data.getD i 0)
        ∧ (t.box m).req = readReq (t.box m).window
        ∧ (tget t.mbx.assoc m {}).lastNs = s.elt ∧ (∀ j, j ≠ m → t.box j = s.box j))
    ∧ (∀ (x : MgmtMsg) (m : Nat) (s : State), (m = 12 ∨ m = 13) → s.mgmtLink = true → x.udp = 30811 →
        s.assocOf x.peer = some m → x.close = false → 8 ≤ x.bytes.length → x.mailbox = m → x.kind = 3 →
        (s.box m).st = .idle → ∃ t, exec (.mgmtDatagram x) s = .next t ∧ (t.box m).abortRes = 2 ∧ (t.box m).st = .idle)
    ∧ (∀ (x : MgmtMsg) (s : State), s.mgmtLink = false ∨ x.udp ≠ 30811 ∨ s.assocOf x.peer = none →
        exec (.mgmtDatagram x) s = .next s)
    ∧ (∀ (x : MgmtMsg) (m : Nat) (s : State), s.mgmtLink = true → x.udp = 30811 → s.assocOf x.peer = some m →
        x.close = true → ∃ t, exec (.mgmtDatagram x) s = .next t ∧ (tget t.mbx.assoc m {}).opened = false
          ∧ (∀ tag : Word, tfind? t.mbx.part (partKey m tag) = none)
          ∧ t = { s with mbx := { s.mbx with assoc := t.mbx.assoc, part := t.mbx.part } })
    ∧ (∀ (m : Nat) (tag : Word) (x : Partial) (s : State), tfind? s.mbx.part (partKey m tag) = some x →
        x.firstNs + 50000000 ≤ s.elt → ∃ t, exec (.mgmtAssemblyTimeout m tag) s = .next t
          ∧ tfind? t.mbx.part (partKey m tag) = none ∧ t = { s with mbx := { s.mbx with part := t.mbx.part } })
    ∧ (∀ (m : Nat) (tag : Word) (x : Partial) (s : State), tfind? s.mbx.part (partKey m tag) = some x →
        s.elt < x.firstNs + 50000000 → exec (.mgmtAssemblyTimeout m tag) s = .next s)
    ∧ (∀ (m peer : Nat) (s : State), (m = 12 ∨ m = 13) → s.mgmtLink = true → s.sec.lc ≠ .scrapped →
        ((tget s.mbx.assoc m {}).opened = false ∨ (tget s.mbx.assoc m {}).lastNs + 300000000000 ≤ s.elt) →
        ∃ t, exec (.dtlsHandshake { mailbox := m, peer := peer }) s = .next t
          ∧ tget t.mbx.assoc m {} = { opened := true, peer := peer, lastNs := s.elt }
          ∧ (∀ tag : Word, tfind? t.mbx.part (partKey m tag) = none)
          ∧ t.out = .dtlsAccept m peer Config.certDigest :: s.out
          ∧ t = { s with mbx := { s.mbx with assoc := t.mbx.assoc, part := t.mbx.part }, out := t.out })
    ∧ (∀ (m peer : Nat) (s : State), (tget s.mbx.assoc m {}).opened = true →
        s.elt < (tget s.mbx.assoc m {}).lastNs + 300000000000 → exec (.dtlsHandshake { mailbox := m, peer := peer }) s = .next s)
    ∧ (∀ (m : Nat) (s : State), (tget s.mbx.assoc m {}).opened = true →
        (tget s.mbx.assoc m {}).lastNs + 300000000000 ≤ s.elt → ∃ t, exec (.dtlsIdleExpire m) s = .next t
          ∧ (tget t.mbx.assoc m {}).opened = false
          ∧ t = { s with mbx := { s.mbx with assoc := t.mbx.assoc, part := t.mbx.part } }))
    ∧ ((∀ (m : Nat) (x : DmaSeg) (bs : List Byte) (d : Dma) (s : State), (s.box m).dma = some d → d.ended = false →
        (s.box m).st = .executing → (s.box m).abortReq = false → x.desc = some bs → bs.length = 32 → x.done = true →
        (readDesc bs).bad = false → (readDesc bs).toHost = false → x.data.length = (readDesc bs).length →
        ((readDesc bs).checked = true → crc32c x.data = (readDesc bs).crc) →
        ∃ t d', exec (.dmaSegmentDone m x) s = .next t ∧ (t.box m).dma = some d' ∧ d'.consumed = d.consumed + 1
          ∧ (d'.ended = true ↔ (readDesc bs).last = true ∨ (s.box m).req.descCount.toNat ≤ d.consumed + 1)
          ∧ (∀ i, i < x.data.length → mget d'.obj.data ((readDesc bs).offset + i) = x.data.getD i 0)
          ∧ (∀ a, a < (readDesc bs).offset ∨ (readDesc bs).offset + x.data.length ≤ a → mget d'.obj.data a = mget d.obj.data a)
          ∧ (t.box m).st = .executing ∧ (∀ j, j ≠ m → t.box j = s.box j)
          ∧ t = { s with mbx := { s.mbx with boxes := t.mbx.boxes } })
    ∧ (∀ (m : Nat) (x : DmaSeg) (bs : List Byte) (d : Dma) (s : State), (s.box m).dma = some d → d.ended = false →
        (s.box m).st = .executing → (s.box m).abortReq = false → x.desc = some bs → bs.length = 32 → x.done = true →
        (readDesc bs).bad = false → (readDesc bs).toHost = true → (readDesc bs).checked = false →
        ∃ t d' data, exec (.dmaSegmentDone m x) s = .next t ∧ (t.box m).dma = some d' ∧ d'.consumed = d.consumed + 1
          ∧ (d'.ended = true ↔ (readDesc bs).last = true ∨ (s.box m).req.descCount.toNat ≤ d.consumed + 1)
          ∧ d'.obj = d.obj ∧ data.length = (readDesc bs).length
          ∧ t.out = .hostWrite (readDesc bs).addr data :: s.out
          ∧ t = { s with mbx := { s.mbx with boxes := t.mbx.boxes }, out := t.out, freeCtr := s.freeCtr + 1 })
    ∧ (∀ (m : Nat) (x : DmaSeg) (d : Dma) (s : State), Live m s → (s.box m).dma = some d → d.ended = false →
        (s.box m).st = .executing →
        (match x.desc with
          | none => True
          | some bs => bs.length ≠ 32 ∨ (readDesc bs).bad = true ∨ x.done = false
              ∨ (readDesc bs).toHost = false ∧ x.data.length = (readDesc bs).length ∧ (readDesc bs).checked = true
                  ∧ crc32c x.data ≠ (readDesc bs).crc) →
        ∃ t, exec (.dmaSegmentDone m x) s = .next t ∧ Answers m .dmaFault (s.failData m) s s t)
    ∧ (∀ d : DmaDesc, d.bad = true ↔ 8 ≤ d.flags.toNat ∨ d.rest ≠ 0 ∨ d.length < 1 ∨ 16777216 < d.length))

/-- SESSION_OPEN with a well-formed mask and room in the table opens a session with what its transport
grants at once and answers its id and challenge; OPERATOR alone over PCIe is granted at once, with a
challenge of 48 zero bytes. A malformed mask answers BAD_PARAM and a full table NO_RESOURCE, and nothing
opens. SESSION_AUTH whose signature verifies under a credential that holds a requested class grants those
classes; one that fails answers AUTH_FAILED and grants nothing. SESSION_CLOSE of a session with no other
mailbox ends it with OK. SESSION_PING answers the whole seconds left of 300 since the session's latest
command. A session without a command for 300 s ends, and with it its update lock; before that nothing
changes. (R27, R52, R53, R422, R489, R504, R513) -/
def Obligations.SessionsOpenAuthenticateAndClose : Prop :=
  (∀ (m : Nat) (mask : Byte) (cred : Word) (tr : Transport) (s : State), Runs m 0x0001#16 s →
      s.mbxTransport m = some tr → maskOk mask = true → s.mbx.sessions.length < 32 →
      ∃ t x ch, exec (.sessionOpen m mask cred) s = .next t ∧ t.session? s.mbx.nextSes = some x
        ∧ x.transport = tr ∧ x.requested = mask ∧ x.granted = (mask &&& s.freeMask tr) ∧ x.cred = cred ∧ x.txn = none
        ∧ Answered m .ok (le 4 s.mbx.nextSes ++ be 48 ch) s t
        ∧ (tr = .pcie → mask = 0x02#8 → ch = 0)
        ∧ (∀ j, j ≠ s.mbx.nextSes → t.session? j = s.session? j))
    ∧ (∀ s : State, s.glb.recovery = false → s.lcNow ≠ .provisioned → s.freeMask .pcie = 0x02#8 ∧ s.freeMask .mgmt = 0
        ∧ s.freeMask .peer = 0)
    ∧ (∀ (m : Nat) (mask : Byte) (cred : Word) (tr : Transport) (s : State), Runs m 0x0001#16 s →
        s.mbxTransport m = some tr → maskOk mask = false →
        ∃ t, exec (.sessionOpen m mask cred) s = .next t ∧ Answers m .badParam [] s s t)
    ∧ (∀ (m : Nat) (mask : Byte) (cred : Word) (tr : Transport) (s : State), Runs m 0x0001#16 s →
        s.mbxTransport m = some tr → maskOk mask = true → 32 ≤ s.mbx.sessions.length →
        ∃ t, exec (.sessionOpen m mask cred) s = .next t ∧ Answers m .noResource [] s s t)
    ∧ (∀ (m : Nat) (x : Session) (c : Cred) (s : State), Runs m 0x0002#16 s →
        s.session? (s.box m).req.session.toNat = some x → s.credFor x = some c →
        x.requested &&& c.mask &&& ~~~(x.requested &&& s.freeMask x.transport) ≠ 0 →
        ∃ t y, exec (.sessionAuth m true) s = .next t ∧ t.session? (s.box m).req.session.toNat = some y
          ∧ y.granted = (x.requested &&& (c.mask ||| s.freeMask x.transport)) ∧ y.transport = x.transport
          ∧ Answered m .ok (le 1 y.granted.toNat) s t)
    ∧ (∀ (m : Nat) (x : Session) (s : State), Runs m 0x0002#16 s →
        s.session? (s.box m).req.session.toNat = some x → x.requested &&& s.freeMask x.transport ≠ 0 →
        ∃ t y, exec (.sessionAuth m false) s = .next t ∧ t.session? (s.box m).req.session.toNat = some y
          ∧ y.granted = (x.requested &&& s.freeMask x.transport) ∧ Answered m .authFailed [] s t)
    ∧ (∀ (m : Nat) (x : Session) (s : State), Runs m 0x0003#16 s →
        s.session? (s.box m).req.session.toNat = some x → s.mbx.sessions.all (fun e => e.2.closing.isNone) = true →
        s.mbx.boxes.all (fun e => e.1 = m ∨ e.2.owner ≠ (s.box m).req.session.toNat) = true →
        ∃ t, exec (.sessionClose m) s = .next t ∧ t.session? (s.box m).req.session.toNat = none
          ∧ Answered m .ok [] s t ∧ t.cfg = s.cfg ∧ t.sched = s.sched)
    ∧ (∀ (m : Nat) (x : Session) (s : State), Runs m 0x0004#16 s → s.session? (s.box m).req.session.toNat = some x →
        ∃ t, exec (.sessionPing m) s = .next t
          ∧ Answers m .ok (le 4 ((x.lastNs + 300000000000 - s.elt) / 1000000000)) s s t)
    ∧ (∀ (id : Nat) (x : Session) (s : State), s.session? id = some x → x.closing = none → x.lastNs + 300000000000 ≤ s.elt →
        ∃ t, exec (.sessionIdleExpire id) s = .next t ∧ t.session? id = none
          ∧ (∀ l, t.sec.upd.lock = some l → l.session ≠ some id) ∧ t.cfg = s.cfg ∧ t.sched = s.sched)
    ∧ (∀ (id : Nat) (x : Session) (s : State), s.session? id = some x → s.elt < x.lastNs + 300000000000 →
        exec (.sessionIdleExpire id) s = .next s)

/-- CFG_BEGIN opens a transaction from the newest configuration with its generation as the base, and answers
its id and base; while one is open it answers CFG_TXN_OPEN, without an open session NO_SESSION, after an
expiry once CFG_TXN_EXPIRED, opening nothing. CFG_ABORT discards an open transaction, and without one
answers CFG_NO_TXN or, after a commit, ALREADY_COMMITTED. CFG_STAGE_CHUNK writes its bytes into its staging
object, leaves every other byte of it, and answers their count; where the staged data of all sessions
together would exceed 1 GiB it answers CFG_TOO_LARGE and writes nothing. (What counts as staged data is the
model's choice, log entry 60.) A transaction without a command for 600 s is discarded, marked as expired and
logged at WARNING. LOG_CLEAR empties the SRAM log and leaves the flash copy and the numbering. (R57, R58,
R59, R60, R62, R67, R421) -/
def Obligations.TransactionsOpenStageAndEnd : Prop :=
  (∀ (m : Nat) (x : Session) (s : State), Runs m 0x0101#16 s → s.mirrored (s.box m).req = true →
      s.session? (s.box m).req.session.toNat = some x → x.expired = false → x.txn = none →
      ∃ t, exec (.cfgBegin m) s = .next t
        ∧ Answers m .ok (le 4 s.mbx.nextTxn ++ le 4 s.newestGen) s
            ({ s with mbx := { s.mbx with nextTxn := s.mbx.nextTxn + 1 } }.setSession (s.box m).req.session.toNat
              { x with committed := false, txn := some { id := s.mbx.nextTxn, base := s.newestGen, cfg := s.newestCfg
                                                         lastNs := s.elt } }) t)
    ∧ (∀ (m : Nat) (x : Session) (tx : Txn) (s : State), Runs m 0x0101#16 s → s.mirrored (s.box m).req = true →
        s.session? (s.box m).req.session.toNat = some x → x.expired = false → x.txn = some tx →
        ∃ t, exec (.cfgBegin m) s = .next t ∧ Answers m .cfgTxnOpen [] s s t)
    ∧ (∀ (m : Nat) (s : State), Runs m 0x0101#16 s → s.session? (s.box m).req.session.toNat = none →
        ∃ t, exec (.cfgBegin m) s = .next t ∧ Answers m .noSession [] s s t)
    ∧ (∀ (m : Nat) (x : Session) (s : State), Runs m 0x0101#16 s → s.mirrored (s.box m).req = true →
        s.session? (s.box m).req.session.toNat = some x → x.expired = true →
        ∃ t, exec (.cfgBegin m) s = .next t ∧ Answers m .cfgTxnExpired [] s
          (s.setSession (s.box m).req.session.toNat { x with expired := false }) t)
    ∧ (∀ (m : Nat) (x : Session) (tx : Txn) (s : State), Runs m 0x0103#16 s → s.mirrored (s.box m).req = true →
        s.session? (s.box m).req.session.toNat = some x → x.expired = false → x.txn = some tx →
        s.committing (s.box m).req.session.toNat m = [] →
        ∃ t, exec (.cfgAbort m) s = .next t
          ∧ Answers m .ok [] s (s.setSession (s.box m).req.session.toNat { x with txn := none }) t)
    ∧ (∀ (m : Nat) (x : Session) (s : State), Runs m 0x0103#16 s → s.mirrored (s.box m).req = true →
        s.session? (s.box m).req.session.toNat = some x → x.expired = false → x.txn = none →
        ∃ t, exec (.cfgAbort m) s = .next t ∧ Answers m (if x.committed then .alreadyCommitted else .cfgNoTxn) [] s s t)
    ∧ (∀ (m obj off : Nat) (data : List Byte) (x : Session) (tx : Txn) (s : State), Runs m 0x0105#16 s →
        MayStage s m x tx → data.length ≤ 4000 →
        s.mayHold tx (heldBytes tx.cfg tx.changed (tset tx.objs obj ((tget tx.objs obj {}).put off data))) = true →
        ∃ t x' tx', exec (.cfgStageChunk m obj off data) s = .next t ∧ Answered m .ok (le 4 data.length) s t
          ∧ t.session? (s.box m).req.session.toNat = some x' ∧ x'.txn = some tx'
          ∧ (∀ i, i < data.length → mget (tget tx'.objs obj {}).data (off + i) = data.getD i 0)
          ∧ (∀ a, a < off ∨ off + data.length ≤ a → mget (tget tx'.objs obj {}).data a = mget (tget tx.objs obj {}).data a)
          ∧ (∀ o, o ≠ obj → tget tx'.objs o {} = tget tx.objs o {}) ∧ tx'.cfg = tx.cfg ∧ t.cfg = s.cfg)
    ∧ (∀ (m obj off : Nat) (data : List Byte) (x : Session) (tx : Txn) (s : State), Runs m 0x0105#16 s →
        MayStage s m x tx → data.length ≤ 4000 →
        s.mayHold tx (heldBytes tx.cfg tx.changed (tset tx.objs obj ((tget tx.objs obj {}).put off data))) = false →
        Refuses (.cfgStageChunk m obj off data) m .cfgTooLarge x tx s)
    ∧ (∀ (s : State) (tx : Txn) (n : Nat), s.mayHold tx n = true ↔ s.stagedBytes - tx.bytes + n ≤ 1073741824)
    ∧ (∀ (id : Nat) (x : Session) (tx : Txn) (s : State), s.session? id = some x → x.txn = some tx →
        tx.lastNs + 600000000000 ≤ s.elt → ∃ t e, exec (.cfgTxnExpire id) s = .next t
          ∧ t.session? id = some { x with txn := none, expired := true, expiredNs := tx.lastNs, expiredBase := tx.base }
          ∧ t.log.sram.getLast? = some e ∧ e.sev = 3 ∧ e.seq = s.log.next ∧ e.code = Status.cfgTxnExpired.code
          ∧ t = { s with mbx := t.mbx, log := t.log })
    ∧ (∀ (id : Nat) (x : Session) (tx : Txn) (s : State), s.session? id = some x → x.txn = some tx →
        s.elt < tx.lastNs + 600000000000 → exec (.cfgTxnExpire id) s = .next s)
    ∧ (∀ (m : Nat) (s : State), Runs m 0x1103#16 s → ∃ t, exec (.logClear m) s = .next t
        ∧ Answers m .ok [] s { s with log := { s.log with sram := [] } } t)

/-- On an unpaired device CFG_COMMIT of a transaction whose base is the newest generation, below Bridle
level 3, with fewer than two commits scheduled, whose configuration keeps the rules and is admitted,
schedules it under the next generation at a frame later than the present one and no earlier than any commit
scheduled before, answers that frame and generation, and closes the transaction; the effective configuration
stays. At level 3 it answers BRIDLE_LEVEL, with an older base CFG_STALE_BASE, with two commits scheduled
NO_RESOURCE, each with the base generation alone in the payload and the transaction open. On a formed pair
both devices must come to the same CONFIG_HASH, or CFG_HASH_MISMATCH is answered; the LEAD's frame follows
the later completion, and the SHADOW takes the LEAD's. CFG_LOAD_IMAGE of bytes that pass steps 1 to 7 of
R64, whose sections are in order, stages its objects and answers their number; bytes that fail a step answer
that step's status and stage nothing. (R58, R61, R64, R95, R96, R98, R537) -/
def Obligations.CommitsAreScheduledOrRefused : Prop :=
  (∀ (m : Nat) (peer : PeerCommit) (x : Session) (tx : Txn) (s : State), Runs m 0x0102#16 s → MayStage s m x tx →
      s.brd.level < 3 → tx.base = s.newestGen → s.sched.length < 2 → commitRules s tx.cfg = .ok () → s.paired = false →
      admission tx.cfg s.pool = none →
      ∃ t M late, exec (.cfgCommit m peer) s = .next t
        ∧ Answered m .ok (le 4 (fnOf M).toNat ++ le 4 (s.newestGen + 1) ++ le 24 0 ++ be 48 (s.configHash tx.cfg).toNat) s t
        ∧ t.sched = s.sched ++ [{ frame := M, gen := s.newestGen + 1, cfg := tx.cfg, changed := tx.changed }]
        ∧ s.cfg.ym.frameAt s.elt < M ∧ (∀ c, s.sched.getLast? = some c → c.frame ≤ M)
        ∧ (late = true ↔ s.cfg.ym.frameAt s.elt + 1 < M) ∧ bitOf (t.box m).resp.flags 2 = late ∧ t.ym.pendFlag = late
        ∧ t.session? (s.box m).req.session.toNat = some { x with txn := none, committed := true }
        ∧ t.cfg = s.cfg ∧ t.gen = s.gen)
    ∧ (∀ (m : Nat) (peer : PeerCommit) (x : Session) (tx : Txn) (s : State), Runs m 0x0102#16 s → MayStage s m x tx →
      s.brd.level < 3 → tx.base = s.newestGen → s.sched.length < 2 → commitRules s tx.cfg = .ok () → s.paired = true →
      s.configHash tx.cfg = peer.hash → admission tx.cfg s.pool = none → peer.refuse = none →
      ∃ t M, exec (.cfgCommit m peer) s = .next t
        ∧ t.sched = s.sched ++ [{ frame := M, gen := s.newestGen + 1, cfg := tx.cfg, changed := tx.changed }]
        ∧ (s.pair.role = .shadow → M = peer.frame)
        ∧ (s.pair.role ≠ .shadow → M = effectiveFrame s tx.cfg (max s.elt peer.doneNs))
        ∧ Answered m .ok (le 4 (fnOf M).toNat ++ le 4 (s.newestGen + 1) ++ le 24 0 ++ be 48 peer.hash.toNat) s t)
    ∧ (∀ (m : Nat) (peer : PeerCommit) (x : Session) (tx : Txn) (s : State), Runs m 0x0102#16 s → MayStage s m x tx →
      s.brd.level < 3 → tx.base = s.newestGen → s.sched.length < 2 → commitRules s tx.cfg = .ok () → s.paired = true →
      s.configHash tx.cfg ≠ peer.hash → ∃ t, exec (.cfgCommit m peer) s = .next t
        ∧ Answered m .cfgHashMismatch (commitFailed tx.base) s t ∧ t.sched = s.sched)
    ∧ (∀ (m : Nat) (peer : PeerCommit) (x : Session) (tx : Txn) (s : State), Runs m 0x0102#16 s → MayStage s m x tx →
        3 ≤ s.brd.level → ∃ t, exec (.cfgCommit m peer) s = .next t ∧ Answered m .bridleLevel (commitFailed tx.base) s t
          ∧ t.sched = s.sched ∧ t.session? (s.box m).req.session.toNat = some { x with txn := some { tx with lastNs := s.elt } })
    ∧ (∀ (m : Nat) (peer : PeerCommit) (x : Session) (tx : Txn) (s : State), Runs m 0x0102#16 s → MayStage s m x tx →
        s.brd.level < 3 → tx.base ≠ s.newestGen → ∃ t, exec (.cfgCommit m peer) s = .next t
          ∧ Answered m .cfgStaleBase (commitFailed tx.base) s t ∧ t.sched = s.sched
          ∧ t.session? (s.box m).req.session.toNat = some { x with txn := some { tx with lastNs := s.elt } })
    ∧ (∀ (m : Nat) (peer : PeerCommit) (x : Session) (tx : Txn) (s : State), Runs m 0x0102#16 s → MayStage s m x tx →
        s.brd.level < 3 → tx.base = s.newestGen → 2 ≤ s.sched.length → ∃ t, exec (.cfgCommit m peer) s = .next t
          ∧ Answered m .noResource (commitFailed tx.base) s t ∧ t.sched = s.sched)
    ∧ (∀ (m len obj : Nat) (bs : List Byte) (k : Session) (tx : Txn) (c : Cfg) (s : State), Runs m 0x0104#16 s →
        MayStage s m k tx → s.bulk m obj = some bs → checkContainer bs s.vcode len = .ok () →
        stageImage s (s.box m).req.session.toNat bs (bitOf k.granted 3) tx.cfg = .ok c →
        Stages (.cfgLoadImage m len obj) m (imageObjects bs) c (le 4 ((readDir bs).filter DirEntry.known).length) k tx s (some obj))
    ∧ (∀ (m len obj : Nat) (bs : List Byte) (e : Status) (k : Session) (tx : Txn) (s : State), Runs m 0x0104#16 s →
        MayStage s m k tx → s.bulk m obj = some bs → checkContainer bs s.vcode len = .error e →
        Refuses (.cfgLoadImage m len obj) m e k tx s)

/-- In every state whose sources stand in order, a read of EVC_CLAIM of target t on its own path returns,
with VALID, priority and number, the presentable source of the highest priority, the lower number on a tie,
marks that source active for t and no other, and raises t's threshold to exactly its priority. With no
presentable source it returns 0 and changes nothing. From any other path it returns the highest active
source, or 0 with none, and has no side effect. (What a read returned stands in the model's record of the
path's latest read, log entry 14.) (R74) -/
def Obligations.ClaimReturnsTheHighestPresentable : Prop :=
  (∀ (p : Path) (t n : Nat) (pd : Pend) (s : State), t < 4 → ownPath t = some p → tfrom 0 s.evc.src = true →
      (n, pd) ∈ s.evc.presentable t →
      (∀ x ∈ s.evc.presentable t, x.2.prio.toNat < pd.prio.toNat ∨ x.2.prio = pd.prio ∧ n ≤ x.1) →
      ∃ u, exec (.evcClaim p t) s = .next u
        ∧ u.readOf p = some (BitVec.ofNat 32 (2 ^ 31 + pd.prio.toNat * 2 ^ 16 + n % 256))
        ∧ tfind? (u.evc.srcAt n).act t = some pd ∧ u.evc.threshold t = pd.prio.toNat
        ∧ (∀ k, k ≠ n → u.evc.srcAt k = s.evc.srcAt k)
        ∧ u = { s with evc := u.evc, glb := { s.glb with readData := u.glb.readData } })
    ∧ (∀ (p : Path) (t : Nat) (s : State), t < 4 → ownPath t = some p → s.evc.presentable t = [] →
        ∃ u, exec (.evcClaim p t) s = .next u ∧ u.readOf p = some 0
          ∧ u = { s with glb := { s.glb with readData := u.glb.readData } })
    ∧ (∀ (p : Path) (t n : Nat) (pd : Pend) (s : State), t < 4 → ownPath t ≠ some p → tfrom 0 s.evc.src = true →
        (n, pd) ∈ s.evc.actives t →
        (∀ x ∈ s.evc.actives t, x.2.prio.toNat < pd.prio.toNat ∨ x.2.prio = pd.prio ∧ n ≤ x.1) →
        ∃ u, exec (.evcClaim p t) s = .next u
          ∧ u.readOf p = some (BitVec.ofNat 32 (2 ^ 31 + pd.prio.toNat * 2 ^ 16 + n % 256))
          ∧ u = { s with glb := { s.glb with readData := u.glb.readData } })
    ∧ (∀ (p : Path) (t : Nat) (s : State), t < 4 → ownPath t ≠ some p → s.evc.actives t = [] →
        ∃ u, exec (.evcClaim p t) s = .next u ∧ u.readOf p = some 0
          ∧ u = { s with glb := { s.glb with readData := u.glb.readData } })

/-- A read of EVC_VCLAIM by PCIe claims like EVC_CLAIM among the presentable host sources of its vector, and
returns 0 and changes nothing where there is none. EVC_COMPLETE on the target's own path ends the active
state of the source, which becomes pending again with its present PRIORITY and VECTOR while its level is 1
and its enable in effect; of a source that is not active it only advances BAD_COMPLETE, which saturates;
from another path it is discarded and recorded with cause 0x2. EVC_SRC_COUNT returns and clears the count,
EVC_TGT_STATUS returns its word and clears BAD_COMPLETE. (R74, R76, R77, R83, R85) -/
def Obligations.VectorClaimsAndCompletions : Prop :=
  (∀ (v n : Nat) (pd : Pend) (s : State), v < 32 → tfrom 0 s.evc.src = true →
      (n, pd) ∈ s.evc.presentable 0 → pd.vec.toNat = v →
      (∀ x ∈ s.evc.presentable 0, x.2.vec.toNat = v →
        x.2.prio.toNat < pd.prio.toNat ∨ x.2.prio = pd.prio ∧ n ≤ x.1) →
      ∃ u, exec (.evcVclaim .pcie v) s = .next u
        ∧ u.readOf .pcie = some (BitVec.ofNat 32 (2 ^ 31 + pd.prio.toNat * 2 ^ 16 + n % 256))
        ∧ tfind? (u.evc.srcAt n).act 0 = some pd ∧ (∀ k, k ≠ n → u.evc.srcAt k = s.evc.srcAt k)
        ∧ u = { s with evc := u.evc, glb := { s.glb with readData := u.glb.readData } })
    ∧ (∀ (v : Nat) (s : State), v < 32 → (∀ x ∈ s.evc.presentable 0, x.2.vec.toNat ≠ v) →
        ∃ u, exec (.evcVclaim .pcie v) s = .next u ∧ u.readOf .pcie = some 0
          ∧ u = { s with glb := { s.glb with readData := u.glb.readData } })
    ∧ (∀ (p : Path) (v : Nat) (s : State), v < 32 → p ≠ .pcie → ∃ u, exec (.evcVclaim p v) s = .next u ∧ u.evc = s.evc
        ∧ ((∀ x ∈ s.evc.actives 0, x.2.vec.toNat ≠ v) → u.readOf p = some 0))
    ∧ (∀ (p : Path) (t n : Nat) (pd : Pend) (s : State), t < 4 → ownPath t = some p →
        tfind? (s.evc.srcAt n).act t = some pd → ∃ u, exec (.evcComplete p t n) s = .next u
          ∧ tfind? (u.evc.srcAt n).act t = none ∧ (u.evc.srcAt n).level = (s.evc.srcAt n).level
          ∧ ((s.evc.srcAt n).level = true → bitOf (s.evc.srcAt n).effective t = true → tfind? (s.evc.srcAt n).pend t = none →
              tfind? (u.evc.srcAt n).pend t = some { prio := (s.evc.srcAt n).priority, vec := (s.evc.srcAt n).vector })
          ∧ (∀ k, k ≠ n → u.evc.srcAt k = s.evc.srcAt k) ∧ (u.evc.tgtAt t).bad = (s.evc.tgtAt t).bad
          ∧ u = { s with evc := u.evc })
    ∧ (∀ (p : Path) (t n : Nat) (s : State), t < 4 → ownPath t = some p → tfind? (s.evc.srcAt n).act t = none →
        ∃ u, exec (.evcComplete p t n) s = .next u
          ∧ (u.evc.tgtAt t).bad.toNat = min 255 ((s.evc.tgtAt t).bad.toNat + 1) ∧ u.evc.src = s.evc.src
          ∧ u = { s with evc := { s.evc with tgt := u.evc.tgt } })
    ∧ (∀ (p : Path) (t n : Nat) (s : State), t < 4 → ownPath t ≠ some p → s.glb.acc.valid = false →
        ∃ u, exec (.evcComplete p t n) s = .next u ∧ u.glb.acc.cause = 2 ∧ u.glb.acc.valid = true
          ∧ u = { s with glb := { s.glb with acc := u.glb.acc }, evc := s.evc.occur 0 })
    ∧ (∀ (p : Path) (n : Nat) (s : State), n < 256 → ∃ u, exec (.evcSrcCountRead p n) s = .next u
        ∧ u.readOf p = some ((s.evc.srcAt n).count.setWidth 32) ∧ u.evc.srcAt n = { s.evc.srcAt n with count := 0 }
        ∧ (∀ k, k ≠ n → u.evc.srcAt k = s.evc.srcAt k)
        ∧ u = { s with evc := { s.evc with src := u.evc.src }, glb := { s.glb with readData := u.glb.readData } })
    ∧ (∀ (p : Path) (t : Nat) (s : State), t < 4 → ∃ u, exec (.evcTgtStatusRead p t) s = .next u
        ∧ u.readOf p = some (s.evc.tgtStatus t) ∧ u.evc.tgtAt t = { s.evc.tgtAt t with bad := 0 }
        ∧ (∀ k, k ≠ t → u.evc.tgtAt k = s.evc.tgtAt k)
        ∧ u = { s with evc := { s.evc with tgt := u.evc.tgt }, glb := { s.glb with readData := u.glb.readData } })

/-- A write of EVC_SRC_CFG takes VECTOR and PRIORITY and the enable bits the path may write (Groom all,
debug those of targets 0 and 3, any other that of the host), and a source keeps what it holds while it stays
pending; a written enable takes effect when applied, for its target alone. A write of EVC_SW clears the
CLEAR bits and sets the LEVEL bits, sets and counts an occurrence of each source so set and clears the level
of each cleared. The end of the moderation timer, MOD_TIMER_US after it started and no sooner, releases what
the target holds. Unmasking a vector sends what was pending. An MSI-X table entry takes its words. While the
link sleeps nothing else changes, and its return ends the sleep. Groom's poll finds the sources at level 1
that it has enabled. (R69, R70, R77, R78, R79, R80, R81, R82, R84, R85) -/
def Obligations.EventControllerRegisters : Prop :=
  (∀ (p : Path) (n : Nat) (v : Word) (s : State), n < 256 → ∃ u, exec (.evcSrcCfgWrite p n v) s = .next u
      ∧ (u.evc.srcAt n).vector.toNat = fld v 12 8 ∧ (u.evc.srcAt n).priority.toNat = fld v 7 4
      ∧ (let mask : BitVec 4 := if p = .groom then 15 else if p = .debug then 9 else 1
         (u.evc.srcAt n).enable = ((s.evc.srcAt n).enable &&& ~~~mask) ||| (BitVec.ofNat 4 v.toNat &&& mask))
      ∧ (u.evc.srcAt n).effective = (s.evc.srcAt n).effective ∧ (u.evc.srcAt n).level = (s.evc.srcAt n).level
      ∧ (∀ t pd, t < 4 → (s.evc.srcAt n).pends t = true → tfind? (s.evc.srcAt n).pend t = some pd →
          tfind? (u.evc.srcAt n).pend t = some pd)
      ∧ (∀ k, k ≠ n → u.evc.srcAt k = s.evc.srcAt k) ∧ u = { s with evc := u.evc })
    ∧ (∀ (n t : Nat) (s : State), n < 256 → t < 4 → ∃ u, exec (.evcEnableApply n t) s = .next u
        ∧ bitOf (u.evc.srcAt n).effective t = bitOf (s.evc.srcAt n).enable t
        ∧ (∀ k, k < 4 → k ≠ t → bitOf (u.evc.srcAt n).effective k = bitOf (s.evc.srcAt n).effective k)
        ∧ (∀ k, k ≠ n → u.evc.srcAt k = s.evc.srcAt k) ∧ u = { s with evc := u.evc })
    ∧ (∀ (v : Word) (s : State), ∃ u, exec (.evcSwWrite v) s = .next u
        ∧ u.evc.sw = (s.evc.sw &&& ~~~(BitVec.ofNat 16 (fld v 31 16))) ||| v.setWidth 16
        ∧ (∀ i, i < 16 → bitOf v i = true → (u.evc.srcAt (240 + i)).level = true
            ∧ (u.evc.srcAt (240 + i)).count.toNat = min 255 ((s.evc.srcAt (240 + i)).count.toNat + 1))
        ∧ (∀ i, i < 16 → bitOf v i = false → bitOf v (16 + i) = true → (u.evc.srcAt (240 + i)).level = false)
        ∧ (∀ i, i < 16 → bitOf v i = false → bitOf v (16 + i) = false → u.evc.srcAt (240 + i) = s.evc.srcAt (240 + i))
        ∧ (∀ n, n < 240 → u.evc.srcAt n = s.evc.srcAt n) ∧ u = { s with evc := u.evc })
    ∧ (∀ (t : Nat) (s : State), t < 4 → (s.evc.tgtAt t).running = true → (s.evc.tgtAt t).modUs ≠ 0 →
        1000 * (s.evc.tgtAt t).modUs.toNat ≤ (s.evc.tgtAt t).age → ∃ u, exec (.modTimerExpire t) s = .next u ∧ (u.evc.tgtAt t).held = [] ∧ (u.evc.tgtAt t).count = 0
          ∧ (u.evc.tgtAt t).running = false ∧ (u.evc.tgtAt t).age = 0 ∧ u.evc.src = s.evc.src ∧ u = { s with evc := u.evc })
    ∧ (∀ (t : Nat) (s : State), (s.evc.tgtAt t).running = false ∨ (s.evc.tgtAt t).modUs = 0 ∨
        (s.evc.tgtAt t).age < 1000 * (s.evc.tgtAt t).modUs.toNat →
        exec (.modTimerExpire t) s = .next s)
    ∧ (∀ (v : Nat) (s : State), v < 32 → exec (.msixUnmask v) s = .next { s with evc := { s.evc with
          vec := tset s.evc.vec v { s.evc.vecAt v with mask := false, pending := false }
          sent := if (s.evc.vecAt v).pending then .msix v :: s.evc.sent else s.evc.sent } })
    ∧ (∀ (p : Path) (v : Nat) (w : Word) (s : State), v < 32 → ∃ u a, exec (.registerWrite p (.msix v 2) w) s = .next u
        ∧ exec (.registerWrite p (.msix v 0) w) s = .next a
        ∧ u.evc.vecAt v = { s.evc.vecAt v with data := w }
        ∧ (a.evc.vecAt v).addr.toNat % 2 ^ 32 = w.toNat
        ∧ (a.evc.vecAt v).addr.toNat / 2 ^ 32 = (s.evc.vecAt v).addr.toNat / 2 ^ 32)
    ∧ (∀ (d3 : Bool) (s : State), exec (.pcieL1OrD3hotEntry d3) s
        = .next { s with evc := { s.evc with d3hot := d3 || s.evc.d3hot, linkL1 := !d3 || s.evc.linkL1 } })
    ∧ (∀ s : State, ∃ u, exec .pcieLinkL0Return s = .next u ∧ u.evc.linkL1 = false ∧ u.evc.d3hot = false
        ∧ u.evc.wakeHeld = [] ∧ u.evc.src = s.evc.src ∧ u.evc.tgt = s.evc.tgt ∧ u = { s with evc := u.evc })
    ∧ (∀ s : State, tfrom 0 s.evc.src = true → ∃ u, exec .groomEventPoll s = .next u
        ∧ (∀ n, n ∈ u.evc.polled ↔ (s.evc.srcAt n).level = true ∧ bitOf (s.evc.srcAt n).enable 1 = true)
        ∧ u = { s with evc := { s.evc with polled := u.evc.polled } })

/-- For a rate with NUM of 24,000 or more, FB(n) is the first TIMECLK edge, a multiple of 5 ns of device
time, at or after n x T, with T = 10^12 / NUM ns (1,001 x 10^9 / NUM with DEN_1001), PT(n) the first edge at
or after n x T + G; the frame count at an instant between FB(n) and FB(n + 1) is n; boundaries rise
strictly. (That the edges are the multiples of 5 ns of ELT is the model's reading, log entry 40.)
FRAME_BOUNDARY, where the next boundary has come and boundaries are issued (the root PLL locked, the device
neither faulted nor in recovery nor dark, the time unit set), issues it: YM_FN names it and YM_FB_NS its
instant. With no hold and one scheduled commit due, that commit's configuration and generation are in effect
afterwards and nothing stays scheduled; with none scheduled the configuration and the generation stay.
Before its time nothing changes. GATE_FIRE, where the oldest content in flight has reached PT, lights that
content with the conditions that failed for it, takes it out of flight and leaves boundaries and
configuration alone; with none in flight, or before PT, nothing changes. (R14, R86, R87, R144, R16, R24,
R88, R93, R114, R115, R116, R126) -/
def Obligations.FrameBoundaryAndGate : Prop :=
  (∀ (c : YmCfg) (n : Nat), 24000 ≤ c.num → c.num ≤ 240000 →
    n * c.tNum ≤ c.fbAt n * c.num ∧ c.fbAt n * c.num < n * c.tNum + 5 * c.num ∧ c.fbAt n % 5 = 0 ∧ c.ptAt n % 5 = 0
      ∧ n * c.tNum + c.gateNs.toNat * c.num ≤ c.ptAt n * c.num
      ∧ c.ptAt n * c.num < n * c.tNum + c.gateNs.toNat * c.num + 5 * c.num
      ∧ (∀ t, c.fbAt n ≤ t → t < c.fbAt (n + 1) → c.frameAt t = n)
      ∧ c.fbAt n < c.fbAt (n + 1)
      ∧ c.tNum = (if bitOf c.rate 31 then 1001000000000 else 1000000000000))
    ∧ ((∀ (copied : List Nat) (s : State), boundaryDue s = true → ∃ t, exec (.frameBoundary copied) s = .next t
      ∧ t.ym.latest = some s.ym.next ∧ t.ym.fbNs = s.cfg.ym.fbAt s.ym.next)
    ∧ (∀ s : State, boundaryDue s = true ↔ (s.glb.clk.rootLock = true ∧ s.glb.faulted = false ∧ s.glb.recovery = false
        ∧ s.brd.dark = false ∧ s.tim.st ≠ .unset ∧ s.cfg.ym.fbAt s.ym.next ≤ s.elt))
    ∧ (∀ (copied : List Nat) (s : State) (x : Sched), boundaryDue s = true → s.ym.noRelease = false →
        s.brd.hold = none → s.brd.level < 3 → s.brd.cal.quiet = none → s.sched = [x] → x.frame ≤ s.ym.next →
        ∃ t, exec (.frameBoundary copied) s = .next t ∧ t.cfg = x.cfg ∧ t.gen = x.gen ∧ t.sched = []
          ∧ bitOf (t.cause .ym) 1 = true)
    ∧ (∀ (copied : List Nat) (s : State), boundaryDue s = true → s.sched = [] →
        ∃ t, exec (.frameBoundary copied) s = .next t ∧ t.cfg = s.cfg ∧ t.gen = s.gen ∧ t.sched = [])
    ∧ (∀ (copied : List Nat) (s : State), boundaryDue s = false → exec (.frameBoundary copied) s = .next s)
    ∧ (∀ (errs : List LineBad) (x : Flight) (r : List Flight) (s : State), s.ym.flights = x :: r →
        s.glb.clk.rootLock = true → s.glb.faulted = false → s.brd.dark = false →
        (s.cfgFor x.n).ym.ptAt x.n ≤ s.elt → ∃ t, exec (.gateFire errs) s = .next t
          ∧ t.ym.lit = some x.n ∧ t.ym.litFail = x.fail ∧ (∀ y ∈ t.ym.flights, x.n < y.n)
          ∧ t.ym.latest = s.ym.latest ∧ t.ym.next = s.ym.next ∧ t.cfg = s.cfg ∧ t.sched = s.sched)
    ∧ (∀ (errs : List LineBad) (s : State),
        s.ym.flights = [] ∨ (∃ x r, s.ym.flights = x :: r ∧ s.elt < (s.cfgFor x.n).ym.ptAt x.n) →
        exec (.gateFire errs) s = .next s))

/-- CUT_ARM of a cut that exists and whose line ports can take part answers OK and arms it where it names no
enabled Yardline flow, and otherwise waits, unarmed, for its receivers until 500 ms have passed, when it
answers CUT_NOT_ARMED. CUT_DISARM ends the armed state. A trigger that names an armed cut within the frame's
limit and that TRIGGERS enables fires it: CUT_FIRED is raised, the cut and its count are recorded, its SEQ
and the frame's count advance. CUT_FIRE, YM_CUT_TRIGGER and the peer's trigger fire so; an unarmed cut is
rejected with reason 1, one beyond PER_FRAME with 2, one not enabled with 3, and CUT_FIRE then answers
CUT_NOT_ARMED where the cut is unarmed; a write without FIRE and a trigger from a device without a pair
change nothing. (R118, R120, R121, R122, R123, R124, R126, R319, R423) -/
def Obligations.CutsArmFireAndReject : Prop :=
  (∀ (m c : Nat) (x : Cut) (s : State), Runs m 0x0901#16 s → s.mirrored (s.box m).req = true → s.cutRec c = some x →
      x.lines.any (noCutPort s) = false → s.cutFlows x = [] → s.ym.arming.all (fun a => a.cut ≠ c) = true →
      ∃ t, exec (.cutArm m c) s = .next t ∧ Answered m .ok [] s t ∧ c ∈ t.ym.armed ∧ t.cfg = s.cfg)
    ∧ (∀ (m c : Nat) (x : Cut) (s : State), Runs m 0x0901#16 s → s.mirrored (s.box m).req = true → s.cutRec c = some x →
        x.lines.any (noCutPort s) = false → s.cutFlows x ≠ [] → s.ym.arming.all (fun a => a.cut ≠ c) = true →
        ∃ t a, exec (.cutArm m c) s = .next t ∧ (t.box m).waiting = true ∧ (t.box m).st = .executing ∧ c ∉ t.ym.armed
          ∧ a ∈ t.ym.arming ∧ a.cut = c ∧ a.mailbox = m ∧ a.deadline = s.elt + 500000000
          ∧ a.waiting.map (·.1) = (s.cutFlows x).map (·.1))
    ∧ (∀ (m c : Nat) (s : State), Runs m 0x0901#16 s → s.mirrored (s.box m).req = true → s.cutRec c = none →
        ∃ t, exec (.cutArm m c) s = .next t ∧ Answers m .badParam [] s s t)
    ∧ (∀ (m : Nat) (a : Arming) (s : State), s.ym.arming.find? (fun a => a.mailbox = m) = some a → a.deadline ≤ s.elt →
        Live m s → s.waits m 0x0901#16 = true → ∃ t, exec (.cutArmTimeout m) s = .next t
          ∧ Answered m .cutNotArmed [] s t ∧ (t.ym.arming.all (fun b => b.mailbox ≠ m)) = true ∧ t.ym.armed = s.ym.armed)
    ∧ (∀ (m : Nat) (a : Arming) (s : State), s.ym.arming.find? (fun a => a.mailbox = m) = some a → s.elt < a.deadline →
        exec (.cutArmTimeout m) s = .next s)
    ∧ (∀ (m c : Nat) (s : State), Runs m 0x0902#16 s → s.mirrored (s.box m).req = true → c < 64 →
        s.ym.arming.all (fun a => a.cut ≠ c) = true → ∃ t, exec (.cutDisarm m c) s = .next t
          ∧ Answers m .ok [] s { s with ym := { s.ym with armed := s.ym.armed.filter (· ≠ c) } } t)
    ∧ (∀ (m c : Nat) (errs : List LineBad) (x : Cut) (s : State), Runs m 0x0903#16 s → s.mirrored (s.box m).req = true →
        c < 64 → c ∈ s.ym.armed → s.cutRec c = some x → s.ym.firedNow < s.perFrame → bitOf x.triggers 4 = true →
        ∃ t, exec (.cutFire m c errs) s = .next t ∧ Responded m .ok [] s t ∧ t.ym.fired = s.ym.fired + 1
          ∧ t.ym.lastCut = BitVec.ofNat 6 x.index ∧ t.ym.firedNow = s.ym.firedNow + 1 ∧ t.ym.cutSeq = s.ym.cutSeq + 1
          ∧ bitOf (t.cause .ym) 2 = true ∧ t.cfg = s.cfg)
    ∧ (∀ (m c : Nat) (errs : List LineBad) (s : State), Runs m 0x0903#16 s → s.mirrored (s.box m).req = true →
        c < 64 → c ∉ s.ym.armed → ∃ t, exec (.cutFire m c errs) s = .next t ∧ Answered m .cutNotArmed [] s t
          ∧ t.ym = { s.ym with reject := 1 } ∧ bitOf (t.cause .ym) 5 = true)
    ∧ (∀ (v : Word) (errs : List LineBad) (x : Cut) (s : State), bitOf v 31 = true → s.cutRec (fld v 5 0) = some x →
        fld v 5 0 ∈ s.ym.armed → s.ym.firedNow < s.perFrame → bitOf x.triggers 4 = true →
        ∃ t, exec (.cutTriggerWrite v errs) s = .next t ∧ t.ym.fired = s.ym.fired + 1
          ∧ t.ym.lastCut = BitVec.ofNat 6 x.index ∧ t.ym.firedNow = s.ym.firedNow + 1 ∧ bitOf (t.cause .ym) 2 = true)
    ∧ (∀ (v : Word) (errs : List LineBad) (x : Cut) (s : State), bitOf v 31 = true → s.cutRec (fld v 5 0) = some x →
        fld v 5 0 ∈ s.ym.armed → s.perFrame ≤ s.ym.firedNow →
        ∃ t, exec (.cutTriggerWrite v errs) s = .next t ∧ t.ym = { s.ym with reject := 2 } ∧ bitOf (t.cause .ym) 5 = true)
    ∧ (∀ (v : Word) (errs : List LineBad) (x : Cut) (s : State), bitOf v 31 = true → s.cutRec (fld v 5 0) = some x →
        fld v 5 0 ∈ s.ym.armed → s.ym.firedNow < s.perFrame → bitOf x.triggers 4 = false →
        ∃ t, exec (.cutTriggerWrite v errs) s = .next t ∧ t.ym = { s.ym with reject := 3 } ∧ bitOf (t.cause .ym) 5 = true)
    ∧ (∀ (v : Word) (errs : List LineBad) (s : State), bitOf v 31 = false → exec (.cutTriggerWrite v errs) s = .next s)
    ∧ (∀ (c : Nat) (errs : List LineBad) (x : Cut) (s : State), s.paired = true → s.cutRec c = some x →
        c ∈ s.ym.armed → s.ym.firedNow < s.perFrame → ∃ t, exec (.peerCutTrigger c errs) s = .next t
          ∧ t.ym.fired = s.ym.fired + 1 ∧ t.ym.lastCut = BitVec.ofNat 6 x.index ∧ bitOf (t.cause .ym) 2 = true)
    ∧ (∀ (c : Nat) (errs : List LineBad) (s : State), s.paired = false → exec (.peerCutTrigger c errs) s = .next s)

/-- For every value written with GO set, in every state, the four capture registers hold ELT, the
nanoseconds and the seconds of DT formed from it and the FN of the latest boundary, one that is due on that
edge included, whatever they held; nothing else changes. Without GO nothing changes. (R131) -/
def Obligations.CaptureTakesOneInstant : Prop :=
  (∀ (v : Word) (s : State), bitOf v 0 = true → ∃ t, exec (.timeCapture v) s = .next t
      ∧ t.tim.capElt.toNat = s.elt ∧ t.tim.capNs.toNat = s.elt % 1000000000
      ∧ t.tim.capSec.toNat = s.elt / 1000000000 ∧ t.tim.capFn = fnOf (if boundaryDue s then s.ym.next else s.frameNow)
      ∧ t = { s with tim := { s.tim with capElt := t.tim.capElt, capNs := t.tim.capNs, capSec := t.tim.capSec
                                         capFn := t.tim.capFn } })
    ∧ (∀ (v : Word) (s : State), bitOf v 0 = false → exec (.timeCapture v) s = .next s)

/-- LT_WRAP counts a carry into WRAP once. TIME_FORCE_STEP within its bounds schedules the step for the
first boundary at least 120 us ahead and answers that boundary and the step (mode 0 the negated offset that
the disciplining reference last measured, mode 1 the value given; on the SHADOW the LEAD's boundary and
step, which the LEAD forwards); one already scheduled, an offset measured more than 2 s ago (which the
SHADOW, told by the LEAD, does not need), a value beyond 2^62, UNSET and a scheduled change of rate or
source are refused with their status and schedule nothing. After an alignment change the first measurement,
kept by a house edge or a Sync and named by the row, steps ELT by its offset modulo 2^64, keeps the
fraction, raises STEP_APPLIED, enters ACQUIRING and logs a NOTICE; without one, or with another offset,
nothing happens. The armed time trigger fires once its target is reached, and not before; its control write
arms it, clears LATE and notes a target already past. The SHADOW takes the LEAD's offset and clears its
count of bad ones within 4 ns. An increment not written for 2 s under a source loses a reference held;
HOLDOVER beyond its limit is noted. (R127, R133, R134, R135, R137, R138, R149, R150, R153) -/
def Obligations.TimeStepsTriggersAndTimeouts : Prop :=
  (∀ s : State, s.tim.carry = true → exec .ltWrap s
      = .next { s with tim := { s.tim with wrap := s.tim.wrap + 1, carry := false } })
    ∧ (∀ s : State, s.tim.carry = false → exec .ltWrap s = .next s)
    ∧ (∀ (m : Nat) (ns : Int) (s : State), Runs m 0x0304#16 s → s.mirrored (s.box m).req = true → s.pair.role ≠ .shadow →
        ns.natAbs ≤ 2 ^ 62 → s.tim.forced = none → s.tim.st ≠ .unset →
        s.sched.any (fun c => retimes s.cfg c.cfg) = false → ∃ t, exec (.timeForceStep m 1 ns none) s = .next t
          ∧ Answers m .ok (le 4 (fnOf s.boundaryIn120).toNat ++ leInt 8 ns) s
              { s with tim := { s.tim with forced := some { m := s.boundaryIn120, ns := ns } }
                       out := if s.paired ∧ s.pair.role = .lead then .stepForward s.boundaryIn120 ns :: s.out else s.out } t)
    ∧ (∀ s : State, 24000 ≤ s.cfg.ym.num → s.elt + 120000 ≤ s.cfg.ym.fbAt s.boundaryIn120)
    ∧ (∀ (m a : Nat) (s : State), Runs m 0x0304#16 s → s.mirrored (s.box m).req = true → s.pair.role ≠ .shadow →
        s.tim.measAt = some a → s.elt ≤ a + 2000000000 → s.tim.forced = none → s.tim.st ≠ .unset →
        s.sched.any (fun c => retimes s.cfg c.cfg) = false → ∃ t, exec (.timeForceStep m 0 0 none) s = .next t
          ∧ Answers m .ok (le 4 (fnOf s.boundaryIn120).toNat ++ leInt 8 (-s.tim.refOff)) s
              { s with tim := { s.tim with forced := some { m := s.boundaryIn120, ns := -s.tim.refOff } }
                       out := if s.paired ∧ s.pair.role = .lead then .stepForward s.boundaryIn120 (-s.tim.refOff) :: s.out
                              else s.out } t)
    ∧ (∀ (m mode n : Nat) (ns step : Int) (s : State), Runs m 0x0304#16 s → s.mirrored (s.box m).req = true →
        s.pair.role = .shadow → mode ≤ 1 → ns.natAbs ≤ 2 ^ 62 → s.tim.forced = none → s.tim.st ≠ .unset →
        s.sched.any (fun c => retimes s.cfg c.cfg) = false → ∃ t, exec (.timeForceStep m mode ns (some (n, step))) s = .next t
          ∧ Answers m .ok (le 4 (fnOf n).toNat ++ leInt 8 step) s
              { s with tim := { s.tim with forced := some { m := n, ns := step } } } t)
    ∧ (∀ (m : Nat) (ns : Int) (l : Option (Nat × Int)) (s : State), Runs m 0x0304#16 s → 2 ^ 62 < ns.natAbs →
        ∃ t, exec (.timeForceStep m 1 ns l) s = .next t ∧ Answers m .badParam [] s s t)
    ∧ (∀ (m : Nat) (ns : Int) (l : Option (Nat × Int)) (s : State), Runs m 0x0304#16 s → ns.natAbs ≤ 2 ^ 62 →
        s.tim.forced.isSome = true → ∃ t, exec (.timeForceStep m 1 ns l) s = .next t ∧ Answers m .timeStepPending [] s s t)
    ∧ (∀ (m : Nat) (l : Option (Nat × Int)) (s : State), Runs m 0x0304#16 s → s.tim.forced = none →
        s.pair.role ≠ .shadow ∨ l = none → (∀ a, s.tim.measAt = some a → a + 2000000000 < s.elt) →
        ∃ t, exec (.timeForceStep m 0 0 l) s = .next t ∧ Answers m .timeNotLocked [] s s t)
    ∧ (∀ (m : Nat) (ns : Int) (l : Option (Nat × Int)) (s : State), Runs m 0x0304#16 s → ns.natAbs ≤ 2 ^ 62 → s.tim.forced = none →
        (s.tim.st = .unset ∨ s.sched.any (fun c => retimes s.cfg c.cfg) = true ∨ s.mirrored (s.box m).req = false) →
        ∃ t, exec (.timeForceStep m 1 ns l) s = .next t ∧ Answers m .badState [] s s t)
    ∧ (∀ (off : Int) (s : State), s.tim.st = .unset → s.tim.first = some off → ∃ t e, exec (.alignFirstMeasurement off) s = .next t
        ∧ t.elt = (((s.elt : Int) - off) % 2 ^ 64).toNat ∧ t.tim.frac = s.tim.frac ∧ t.tim.st = .acquiring
        ∧ t.tim.first = none
        ∧ bitOf (t.cause .time) 4 = true ∧ t.log.sram.getLast? = some e ∧ e.sev = 2)
    ∧ (∀ (off : Int) (s : State), s.tim.st ≠ .unset ∨ s.tim.first ≠ some off → exec (.alignFirstMeasurement off) s = .next s)
    ∧ (∀ s : State, s.tim.arm = true → s.tim.trig.toNat ≤ s.elt → ∃ t, exec .timeTriggerFire s = .next t
        ∧ t.tim = { s.tim with arm := false, late := s.tim.late || s.tim.trigPast, trigPast := false }
        ∧ bitOf (t.cause .time) 6 = true)
    ∧ (∀ s : State, s.tim.arm = false ∨ s.elt < s.tim.trig.toNat → exec .timeTriggerFire s = .next s)
    ∧ (∀ (v : Word) (s : State), exec (.timeTrigCtrlWrite v) s = .next { s with tim := { s.tim with
          arm := bitOf v 0, late := s.tim.late && !bitOf v 1
          trigPast := bitOf v 0 && decide (s.tim.trig.toNat < s.elt) } })
    ∧ (∀ (off : Int) (s : State), s.pair.role = .shadow → s.pair.lane0 = true →
        (s.pair.st = .forming ∨ s.pair.st = .inSync ∨ s.pair.st = .handover) →
        ∃ t, exec (.peerTimeExchange off) s = .next t ∧ t.tim.offset = off ∧ t.tim.peerRef = true
          ∧ t.tim.peerBad = (if 4 < off.natAbs then s.tim.peerBad + 1 else 0)
          ∧ (t.tim.peerBad = 8 → bitOf (t.cause .time) 7 = true) ∧ incMin ≤ t.tim.inc ∧ t.tim.inc ≤ incMax)
    ∧ (∀ (off : Int) (s : State), s.pair.role ≠ .shadow ∨ s.pair.lane0 = false → exec (.peerTimeExchange off) s = .next s)
    ∧ (∀ s : State, s.alignSrc ≠ 0 → s.tim.incAt + 2000000000 ≤ s.elt → (s.tim.st = .acquiring ∨ s.tim.st = .locked) →
        ∃ t, exec .incrementWriteTimeout s = .next t ∧ t.tim.st = .holdover ∧ t.tim.holdAt = some s.elt
          ∧ bitOf (t.cause .time) 1 = true)
    ∧ (∀ s : State, s.alignSrc = 0 ∨ s.elt < s.tim.incAt + 2000000000 → exec .incrementWriteTimeout s = .next s)
    ∧ (∀ (a : Nat) (s : State), s.tim.holdAt = some a → s.tim.st = .holdover → s.tim.holdOver = false →
        a + s.holdoverS * 1000000000 < s.elt → ∃ t, exec .holdoverExpire s = .next t
          ∧ t.tim = { s.tim with holdOver := true } ∧ t.timeOk = false)
    ∧ (∀ (a : Nat) (s : State), s.tim.holdAt = some a → s.elt ≤ a + s.holdoverS * 1000000000 ∨ s.tim.holdOver = true →
        exec .holdoverExpire s = .next s)

/-- A slave port measures the offset that remains of a Sync after the path delay and ASYMMETRY: under PTP it
disciplines (under UNSET it is kept as the first measurement), else it is only reported. An Announce of the
port's domain that is the first, that comes from the selected master or that is better than it makes the
port its slave, unless the device itself is better and may be master, which makes the port master; a worse
one, and one of another domain, changes nothing. Another grandmaster than the latest one is counted, raises
GM_CHANGE and leaves LOCKED; a device that was grandmaster itself leaves FREE for ACQUIRING. A Delay_Req
joins the port's queue with the next number and asks for a stamp, and the Delay_Resp to the outstanding one
alone sets the path delay to half the sum. A master port queues Sync, which asks for a stamp in two-step
operation, Announce with clockClass 248 and DT as a PTP timestamp, and Delay_Resp with the arrival at the
medium; a port that is neither does nothing. No Announce within the receipt timeout, and under PTP no Sync
within four intervals, lose the reference; so do three missing edges of the selected house port. A port that
listens and may be master becomes it at the receipt timeout. A house edge of the polarity not selected only
marks the port present; the selected edge of the source's port measures, and the cuts that name it are then
rejected with reason 3. (The order of the data set comparison, and what makes a port other than the source's
absent, are the model's, log entry 66. The latencies between stamp and medium are Config's, log entry 5.)
(R128, R136, R137, R139, R140, R142, R143, R144, R145, R147, R149) -/
def Obligations.PtpPortAndHouseSync : Prop :=
  ((∀ (t1 t2 : Int) (s : State), s.ptpOn = true → s.tim.port = .slave → ∃ t, exec (.ptpSyncRx t1 t2) s = .next t
      ∧ t.tim.offset = t2 - t1 - (s.tim.pathDelay + sval s.cfg.time.asym) ∧ t.tim.syncAt = s.elt ∧ t.tim.syncDelta = t2 - t1
      ∧ (s.alignSrc = 1 → t.tim.measAt = some s.elt ∧ t.tim.refOff = t.tim.offset)
      ∧ (s.alignSrc = 1 → s.tim.st = .unset → t.tim.first = some (s.tim.first.getD t.tim.offset) ∧ t.tim.st = .unset)
      ∧ (s.alignSrc ≠ 1 → t.tim.st = s.tim.st ∧ t.tim.good = s.tim.good ∧ t.tim.measAt = s.tim.measAt
          ∧ t.tim.refOff = s.tim.refOff))
    ∧ (∀ (t1 t2 : Int) (s : State), s.ptpOn = false ∨ s.tim.port ≠ .slave → exec (.ptpSyncRx t1 t2) s = .next s)
    ∧ (∀ (a : Announce) (s : State), s.ptpOn = true → a.domain = (ownAnnounce s).domain →
        (∀ b, s.tim.best = some b → a.sender = b.sender ∨ a.better b = true) →
        (s.ptpSlaveOnly = true ∨ (ownAnnounce s).better a = false) →
        (s.tim.port = .slave ∨ s.tim.gmId ≠ 0) → s.tim.gmId ≠ a.gm →
        ∃ t, exec (.ptpAnnounceRx a) s = .next t ∧ t.tim.gmId = a.gm ∧ t.tim.best = some a ∧ t.tim.port = .slave
          ∧ t.tim.gmChanges = s.tim.gmChanges + 1 ∧ t.tim.annAt = s.elt ∧ bitOf (t.cause .time) 3 = true
          ∧ (s.tim.st = .locked → s.alignSrc = 1 → t.tim.st = .acquiring ∧ bitOf (t.cause .time) 1 = true))
    ∧ (∀ (a : Announce) (s : State), s.ptpOn = true → a.domain = (ownAnnounce s).domain →
        (∀ b, s.tim.best = some b → a.sender = b.sender ∨ a.better b = true) →
        (s.ptpSlaveOnly = true ∨ (ownAnnounce s).better a = false) →
        (s.tim.gmId = a.gm ∨ s.tim.port ≠ PtpSt.slave ∧ s.tim.gmId = 0) →
        exec (.ptpAnnounceRx a) s = .next ({ s with tim := { s.tim with
          annAt := s.elt, best := some a, gmId := a.gm, port := .slave
          syncAt := if s.tim.port = PtpSt.slave ∧ s.tim.gmId = a.gm then s.tim.syncAt else s.elt
          st := if s.alignSrc = 1 ∧ s.tim.st = TimeSt.free then TimeSt.acquiring else s.tim.st } }).noteCond)
    ∧ (∀ (a b : Announce) (s : State), s.ptpOn = true → a.domain = (ownAnnounce s).domain → s.tim.best = some b →
        a.sender ≠ b.sender → a.better b = false → (s.ptpSlaveOnly = true ∨ (ownAnnounce s).better b = false) →
        exec (.ptpAnnounceRx a) s = .next s)
    ∧ (∀ (a : Announce) (s : State), s.ptpOn = true → a.domain = (ownAnnounce s).domain → s.ptpSlaveOnly = false →
        (s.tim.best = none ∨ s.tim.best = some a) → (ownAnnounce s).better a = true → s.tim.port ≠ .master →
        ∃ t, exec (.ptpAnnounceRx a) s = .next t ∧ t.tim.port = .master ∧ t.tim.best = none
          ∧ (s.alignSrc = 1 → t.tim.st = .free)
          ∧ (s.alignSrc = 1 → s.tim.st = .locked → bitOf (t.cause .time) 1 = true))
    ∧ (∀ (a : Announce) (s : State), s.ptpOn = false ∨ a.domain ≠ (ownAnnounce s).domain →
        exec (.ptpAnnounceRx a) s = .next s)
    ∧ (∀ s : State, s.ptpOn = true → s.tim.port = .slave → ∃ t, exec .ptpDelayReqTx s = .next t
        ∧ t = { s with tim := { s.tim with delaySeq := s.tim.delaySeq + 1, delayOut := none, delayAt := s.elt }, eth := t.eth }
        ∧ (s.portOn s.ptpPort = true → (s.port s.ptpPort).link = true → ∃ y,
            (t.port s.ptpPort).be = (s.port s.ptpPort).be ++ [y] ∧ y.kind = .ptp (.delayReq s.tim.delaySeq)
              ∧ y.tag = some s.tim.delaySeq))
    ∧ (∀ (q : Half) (t3 t4 : Int) (s : State), s.ptpOn = true → s.tim.port = .slave → s.tim.delayOut = some q →
        exec (.ptpDelayRespRx q t3 t4) s
          = .next { s with tim := { s.tim with pathDelay := (s.tim.syncDelta + (t4 - t3)) / 2, delayOut := none } })
    ∧ (∀ (q : Half) (t3 t4 : Int) (s : State), s.tim.delayOut ≠ some q → exec (.ptpDelayRespRx q t3 t4) s = .next s)
    ∧ (∀ s : State, s.ptpOn = true → s.tim.port = .master → ∃ t, exec .ptpSyncTx s = .next t
        ∧ t = { s with tim := { s.tim with syncSeq := s.tim.syncSeq + 1 }, eth := t.eth }
        ∧ (s.portOn s.ptpPort = true → (s.port s.ptpPort).link = true → ∃ y,
            (t.port s.ptpPort).be = (s.port s.ptpPort).be ++ [y] ∧ y.kind = .ptp (.sync s.tim.syncSeq {})
              ∧ y.tag = if s.ptpTwoStep then some s.tim.syncSeq else none))
    ∧ (∀ s : State, s.ptpOn = true → s.tim.port = .master → ∃ t, exec .ptpAnnounceTx s = .next t
        ∧ t = { s with tim := { s.tim with annSeq := s.tim.annSeq + 1 }, eth := t.eth }
        ∧ (s.portOn s.ptpPort = true → (s.port s.ptpPort).link = true → ∃ y,
            (t.port s.ptpPort).be = (s.port s.ptpPort).be ++ [y] ∧ y.kind = .ptp (.announce s.tim.annSeq 248 (toPtp s.elt))))
    ∧ (∀ (q : Half) (s : State), s.ptpOn = true → s.tim.port = .master → ∃ t, exec (.ptpDelayReqRx q) s = .next t
        ∧ t = { s with eth := t.eth, freeCtr := s.freeCtr + 1 }
        ∧ (s.portOn s.ptpPort = true → (s.port s.ptpPort).link = true → ∃ y,
            (t.port s.ptpPort).be = (s.port s.ptpPort).be ++ [y]
              ∧ y.kind = .ptp (.delayResp q (toPtp (s.rxInstant s.ptpPort / 65536)) (BitVec.ofNat 16 (s.rxInstant s.ptpPort)))))
    ∧ (∀ n : Nat, n < 2 ^ 64 → (toPtp n).sec.toNat = n / 1000000000 ∧ (toPtp n).ns.toNat = n % 1000000000)
    ∧ (∀ (q : Half) (s : State), s.ptpOn = false → exec (.ptpDelayReqRx q) s = .next s
        ∧ exec .ptpSyncTx s = .next s ∧ exec .ptpDelayReqTx s = .next s ∧ exec .ptpAnnounceTx s = .next s))
    ∧ ((∀ s : State, s.ptpOn = true → s.tim.port = .slave → s.tim.annAt + s.receipt * intervalNs s.annLog ≤ s.elt →
        ∃ t, exec .announceReceiptTimeout s = .next t ∧ t.tim.port = .listening
          ∧ (s.alignSrc = 1 → s.tim.st = .locked → t.tim.st = .holdover ∧ bitOf (t.cause .time) 1 = true))
    ∧ (∀ s : State, s.ptpOn = true → s.tim.port = .listening → s.ptpSlaveOnly = false → s.tim.st ≠ .acquiring →
        s.tim.st ≠ .locked → s.tim.annAt + s.receipt * intervalNs s.annLog ≤ s.elt →
        ∃ t, exec .announceReceiptTimeout s = .next t ∧ t.tim.port = .master ∧ (s.alignSrc = 1 → t.tim.st = .free))
    ∧ (∀ s : State, s.elt < s.tim.annAt + s.receipt * intervalNs s.annLog → exec .announceReceiptTimeout s = .next s)
    ∧ (∀ s : State, s.alignSrc = 1 → s.tim.syncAt + 4 * intervalNs s.syncLog ≤ s.elt → s.tim.st = .locked →
        ∃ t, exec .syncTimeout s = .next t ∧ t.tim.st = .holdover ∧ t.tim.holdAt = some s.elt
          ∧ bitOf (t.cause .time) 1 = true)
    ∧ (∀ s : State, s.elt < s.tim.syncAt + 4 * intervalNs s.syncLog → exec .syncTimeout s = .next s)
    ∧ (∀ (p a : Nat) (s : State), p < 2 → 2 ≤ s.alignSrc → fld s.cfg.time.align 27 27 = p → s.tim.st = .locked →
        (if p = 0 then s.tim.edge0 else s.tim.edge1) = some a → a + 3 * s.edgePeriod < s.elt →
        ∃ t, exec (.houseSyncLoss p) s = .next t ∧ t.tim.st = .holdover ∧ bitOf (t.cause .time) 5 = true
          ∧ bitOf (t.cause .time) 1 = true ∧ (if p = 0 then t.tim.hs0 else t.tim.hs1) = false)
    ∧ (∀ (p : Nat) (s : State), p < 2 → 2 ≤ s.alignSrc → fld s.cfg.time.align 27 27 = p →
        (∀ a, (if p = 0 then s.tim.edge0 else s.tim.edge1) = some a → s.elt ≤ a + 3 * s.edgePeriod) →
        exec (.houseSyncLoss p) s = .next s)
    ∧ (∀ (p : Nat) (s : State), p < 2 → s.alignSrc < 2 ∨ fld s.cfg.time.align 27 27 ≠ p →
        exec (.houseSyncLoss p) s = .next { s with tim :=
          if p = 0 then { s.tim with hs0 := false, edge0 := none } else { s.tim with hs1 := false, edge1 := none } })
    ∧ (∀ (p : Nat) (errs : List LineBad) (s : State), p < 2 →
        exec (.houseEdge p (bitOf s.cfg.time.align 26) errs) s
          = .next { s with tim := if p = 0 then { s.tim with hs0 := true } else { s.tim with hs1 := true } })
    ∧ (∀ (p : Nat) (errs : List LineBad) (x : Cut) (s : State), p < 2 → s.alignSrc = 2 → fld s.cfg.time.align 27 27 = p →
        s.cfg.ym.cuts = [x] → x.index < 64 → bitOf x.triggers p = true → x.index ∈ s.ym.armed →
        s.ym.firedNow < s.perFrame → ∃ t, exec (.houseEdge p (!bitOf s.cfg.time.align 26) errs) s = .next t
          ∧ t.tim.offset = pulseOffset s ∧ t.tim.measAt = some s.elt ∧ t.ym.reject = 3 ∧ t.ym.fired = s.ym.fired
          ∧ (if p = 0 then t.tim.edge0 else t.tim.edge1) = some s.elt))

/-- Under PTP, with STATE not UNSET and DT not disciplined by a LEAD: eight consecutive measurements within
the lock limit enter LOCKED and raise it, two consecutive ones above it leave it for ACQUIRING and raise
LOCK_LOST; an offset beyond what the slew limit removes in 1 s and within the jump limit schedules a step of
its negative at the first boundary at least 120 us ahead, where none is scheduled and none has been refused;
beyond the jump limit it is refused, REFUSED is set, TIME_JUMP_REFUSED raised and the increment slewed by
all of SLEW_PPM about the reference's own; within the slew limit REFUSED clears. After every measurement the
increment lies within 300 ppm of 5 ns. (The reference's own frequency, and how far within SLEW_PPM the servo
slews, are free, log entry 5.) (R129, R132, R136, R137, R138, R142) -/
def Obligations.MeasurementsLockStepAndSlew : Prop :=
  ∀ (t1 t2 off : Int) (s : State), s.ptpOn = true → s.tim.port = .slave → s.alignSrc = 1 → s.tim.st ≠ .unset →
    ¬(s.tim.peerRef = true ∧ s.pair.role = .shadow) → off = t2 - t1 - (s.tim.pathDelay + sval s.cfg.time.asym) →
    ∃ t, exec (.ptpSyncRx t1 t2) s = .next t
      ∧ incMin ≤ t.tim.inc ∧ t.tim.inc ≤ incMax
      ∧ (s.tim.st = .acquiring → s.tim.good = 7 → off.natAbs ≤ s.lockLimit →
          t.tim.st = .locked ∧ bitOf (t.cause .time) 2 = true)
      ∧ (s.tim.st = .acquiring → s.tim.good < 7 → t.tim.st = .acquiring
          ∧ t.tim.good = if off.natAbs ≤ s.lockLimit then s.tim.good + 1 else 0)
      ∧ (s.tim.st = .locked → s.tim.bad = 1 → s.lockLimit < off.natAbs →
          t.tim.st = .acquiring ∧ bitOf (t.cause .time) 1 = true)
      ∧ (s.tim.st = .locked → s.tim.bad = 0 → t.tim.st = .locked)
      ∧ (s.slewPpm * 1000 < off.natAbs → off.natAbs ≤ s.cfg.time.jump.toNat → s.tim.refused = false → s.tim.step = none →
          t.tim.step = some { m := s.boundaryIn120, ns := -off })
      ∧ (s.slewPpm * 1000 < off.natAbs → s.cfg.time.jump.toNat < off.natAbs → s.tim.refused = false →
          t.tim.refused = true ∧ t.tim.refusedNs = -off ∧ t.tim.step = s.tim.step ∧ bitOf (t.cause .time) 0 = true
          ∧ t.tim.inc = max incMin (min incMax (slewed (Config.refIncrement s.freeCtr) (decide (off < 0))
              (s.slewPpm * 5 * 4294967296 / 1000000))))
      ∧ (off.natAbs ≤ s.slewPpm * 1000 → t.tim.refused = false ∧ t.tim.step = s.tim.step)

/-- Each of these commands, executing in a mailbox whose session is open, answers at once and changes
nothing but its mailbox. CFG_STATUS: no transaction, an open one with its idle milliseconds and staged
bytes, or one expired. QUERY_CONFIG and QUERY_STAGED: an object of the effective configuration, of the
session's own transaction. QUERY_TELEMETRY: at most 4,064 bytes (its contents are free, log entry 5).
QUERY_COUNTERS of a block that does not exist: BAD_PARAM. LOG_READ and LOG_FLASH_READ: the entries from the
one asked for, at most COUNT; LOG_RANGE with the oldest number where it asks before that; BAD_PARAM for a
count outside 1 to 127. The others: the values their registers read. The layouts are the model's own (log
entry 9). (R32, R60, R66, R67, R88, R136, R433, R454, R457, R477, R483, R519) -/
def Obligations.QueriesAnswerFromTheState : Prop :=
  (∀ (m : Nat) (s : State) (x : Session), Runs m 0x0106#16 s → s.session? (s.box m).req.session.toNat = some x →
      ∃ t d, exec (.cfgStatus m) s = .next t ∧ Answers m .ok d s s t ∧ d.length = 16
        ∧ (∀ tx, x.txn = some tx → d.take 4 = le 4 1 ∧ d.drop 8 = le 8 tx.bytes
            ∧ (tx.lastNs ≤ s.elt → s.elt - tx.lastNs < 1000000000000000 → unle ((d.drop 4).take 4) = (s.elt - tx.lastNs) / 1000000))
        ∧ (x.txn = none → d.take 4 = le 4 (if x.expired then 2 else 0)))
    ∧ (∀ (m : Nat) (id : Word) (s : State), Runs m 0x0201#16 s →
        ∃ t, exec (.queryConfig m id) s = .next t
          ∧ Answers m (objectReply s s.cfg id.toNat).status (objectReply s s.cfg id.toNat).data s s t)
    ∧ (∀ (m : Nat) (id : Word) (x : Session) (tx : Txn) (s : State), Runs m 0x0202#16 s →
        s.session? (s.box m).req.session.toNat = some x → x.txn = some tx →
        ∃ t, exec (.queryStaged m id) s = .next t
          ∧ Answers m (objectReply s tx.cfg id.toNat).status (objectReply s tx.cfg id.toNat).data s s t)
    ∧ (∀ (m : Nat) (id : Word) (s : State), Runs m 0x0202#16 s →
        (s.session? (s.box m).req.session.toNat).bind (·.txn) = none →
        ∃ t, exec (.queryStaged m id) s = .next t ∧ Answers m .cfgNoTxn [] s s t)
    ∧ (∀ (s : State) (c : Cfg) (id : Nat) (b : List Byte), objectBytes c id = some b → s.hasObject id = true →
        objectReply s c id = { status := .ok, data := b.take 4064 })
    ∧ (∀ (s : State) (c : Cfg) (id : Nat), objectBytes c id = none → objectReply s c id = { status := .badParam })
    ∧ (∀ (m block : Nat) (s : State), Runs m 0x0204#16 s → block ≤ 16 →
        ∃ t d, exec (.queryTelemetry m block) s = .next t ∧ d.length ≤ 4064 ∧ Answers m .ok d s s.takeFree t)
    ∧ (∀ (m block : Nat) (s : State), Runs m 0x0205#16 s → block ≤ 16 →
        ∃ t d, exec (.queryCounters m block) s = .next t ∧ d.length ≤ 4064 ∧ Answers m .ok d s s t)
    ∧ (∀ (m block : Nat) (s : State), 16 < block → (Runs m 0x0204#16 s →
          ∃ t, exec (.queryTelemetry m block) s = .next t ∧ Answers m .badParam [] s s t)
        ∧ (Runs m 0x0205#16 s → ∃ t, exec (.queryCounters m block) s = .next t ∧ Answers m .badParam [] s s t))
    ∧ (∀ (m : Nat) (first : Word) (count : Nat) (s : State), Runs m 0x1101#16 s → ∃ t, exec (.logRead m first count) s = .next t
          ∧ Answers m (readLog s.log.sram s.log.next first count).status (readLog s.log.sram s.log.next first count).data s s t)
    ∧ (∀ (m : Nat) (first : Word) (count : Nat) (s : State), Runs m 0x1102#16 s → ∃ t, exec (.logFlashRead m first count) s = .next t
          ∧ Answers m (readLog s.log.flash s.log.next first count).status (readLog s.log.flash s.log.next first count).data s s t)
    ∧ (∀ (es : List LogEntry) (next first : Word) (count : Nat), count < 1 ∨ 127 < count →
        readLog es next first count = { status := .badParam })
    ∧ (∀ (e : LogEntry) (es : List LogEntry) (next first : Word) (count : Nat), 1 ≤ count → count ≤ 127 →
        fnLater e.seq first = true → readLog (e :: es) next first count = { status := .logRange, data := le 4 e.seq.toNat })
    ∧ (∀ (e : LogEntry) (es : List LogEntry) (next first : Word) (count : Nat), 1 ≤ count → count ≤ 127 →
        fnLater e.seq first = false → (readLog (e :: es) next first count).status = .ok
          ∧ (readLog (e :: es) next first count).data.length
              = 32 * min count ((e :: es).filter (fun x => !fnLater first x.seq)).length)
    ∧ (∀ (m : Nat) (s : State), Runs m 0x0904#16 s → ∃ t, exec (.cutStatus m) s = .next t
          ∧ Answers m .ok (le 8 s.armedMask ++ le 4 s.ym.lastCut.toNat ++ le 4 s.ym.fired.toNat) s s t)
    ∧ (∀ (m : Nat) (s : State), Runs m 0x0305#16 s → ∃ t, exec (.timeStatus m) s = .next t
          ∧ Answers m .ok (le 4 s.tim.st.code ++ leInt 4 (max (-2147483648) (min 2147483647 s.tim.offset)) ++ le 8 s.tim.gmId.toNat ++ le 8 s.elt
              ++ leInt 8 s.tim.refusedNs) s s t)
    ∧ (∀ (m : Nat) (s : State), Runs m 0x0A03#16 s → ∃ t, exec (.pairStatus m) s = .next t
          ∧ Answers m .ok (le 4 (pairStatusWord s) ++ le 4 s.pair.variant.toNat ++ le 4 s.pair.proto.toNat
              ++ (List.range 5).flatMap (fun w => le 4 (s.captured (.pair w)))) s s t)
    ∧ (∀ (m : Nat) (s : State), Runs m 0x0A06#16 s → ∃ t, exec (.feedStatus m) s = .next t
          ∧ Answers m .ok (le 4 (feedStatusWord s.feeds) ++ [5, 6, 7].flatMap (fun w => le 4 (s.captured (.pair w)))
              ++ le 4 s.feeds.core.a.mv ++ le 4 s.feeds.core.b.mv ++ le 4 s.feeds.aon.a.mv ++ le 4 s.feeds.aon.b.mv) s s t)
    ∧ (∀ (m : Nat) (s : State), Runs m 0x0B02#16 s → ∃ t d, exec (.bridleStatus m) s = .next t
          ∧ Answers m .ok (le 4 (brdStatusWord s.brd) ++ d) s s t ∧ d.length = 192)
    ∧ (∀ (m : Nat) (seq : Word) (s : State), Runs m 0x0C03#16 s → ∃ t, exec (.calRead m seq) s = .next t
          ∧ Answers m .ok (calRecord s seq) s s t ∧ (calRecord s seq).take 4 = le 4 0x4C435848)
    ∧ (∀ (m : Nat) (s : State), Runs m 0x0E03#16 s → ∃ t d, exec (.testStatus m) s = .next t
          ∧ Answers m .ok (le 4 (farStatus s) ++ (farMasks s).flatMap (le 4) ++ d) s s t ∧ d.length = 32)
    ∧ (∀ (m : Nat) (s : State), Runs m 0x0203#16 s → ∃ t d, exec (.queryResourceMap m) s = .next t
          ∧ Answers m .ok (d ++ (farMasks s).flatMap (le 4)) s s t ∧ d.length = 20)
    ∧ (∀ (m : Nat) (s : State), Runs m 0x1001#16 s → ∃ t d, exec (.secStatus m) s = .next t
          ∧ Answers m .ok (le 4 (secStatus s) ++ d) s s t)

/-- Each of these commands, executing in a mailbox whose session is open, answers at once and changes
nothing but its mailbox (ETH_RX_READ also removes what it returns from its queue). LAYER_STATUS: 12 bytes
per layer of the mask. LAMP_STATUS: a status nibble per pixel, with the currents where asked.
LAMP_GROUP_STATUS: 32 bytes per group, LAMP_STATUS and it refuse a count outside their range.
PDK_TASK_STATUS: 16 bytes per task. TACK_STATUS: 44 bytes per Stall of the mask, read as at reset while the
Stall's domain is off. TACK_PARAM_READ: the frame number and 128 bytes per fixture while the banks hold it;
outside that window it waits; fixtures beyond the variant answer VARIANT_UNSUPPORTED. FLOW_STATUS: the live
fields of each flow. ETH_STATUS: 12 bytes per port. LINE_STATUS: 40 bytes per port. A mask that names a port
or a Stall beyond the variant answers VARIANT_UNSUPPORTED. LINE_RDM_UIDS: 6 bytes per UID. RASTER_STATUS: 40
bytes per head. RASTER_DP_EDID: blocks of 128 bytes of the sink's EDID (what lies beyond it is free, log
entry 5). The layouts are the model's own (log entry 9). (R164, R184, R223, R228, R259, R289, R292, R326,
R360, R361, R370, R407) -/
def Obligations.StatusOfTheDataPathAnswersFromTheState : Prop :=
  (∀ (m : Nat) (mask : Word) (s : State), Runs m 0x0508#16 s → (bitOf mask 8 = false ∨ s.isP = true) →
      ∃ t d, exec (.layerStatus m mask) s = .next t ∧ Answers m .ok d s s t
        ∧ d.length = 12 * ((List.range 9).filter (fun l => bitOf mask l)).length)
    ∧ (∀ (m : Nat) (mask : Word) (s : State), Runs m 0x0508#16 s → bitOf mask 8 = true → s.isP = false →
        ∃ t, exec (.layerStatus m mask) s = .next t ∧ Answers m .variantUnsupported [] s s t)
    ∧ (∀ (m first count : Nat) (b : Bool) (s : State), Runs m 0x0706#16 s → 1 ≤ count → count ≤ 8000 →
        ∃ t d, exec (.lampStatus m first count b) s = .next t ∧ Answers m .ok d s s t
          ∧ d.length = (count + 1) / 2 + (if b then 2 * count else 0)
          ∧ (∀ i, i < count → (s.lamp.pixAt (first + i)).status < 16 →
              (d.getD (i / 2) 0).toNat / 16 ^ (i % 2) % 16 = (s.lamp.pixAt (first + i)).status
              ∨ ∃ j, j < count ∧ 16 ≤ (s.lamp.pixAt (first + j)).status))
    ∧ (∀ (m first count : Nat) (b : Bool) (s : State), count < 1 ∨ 8000 < count → Runs m 0x0706#16 s →
        ∃ t, exec (.lampStatus m first count b) s = .next t ∧ Answers m .badParam [] s s t)
    ∧ (∀ (m first count : Nat) (s : State), Runs m 0x0707#16 s → 1 ≤ count → count ≤ 127 →
        ∃ t d, exec (.lampGroupStatus m first count) s = .next t ∧ Answers m .ok d s s t ∧ d.length = 32 * count
          ∧ (∀ i, i < count → (d.drop (32 * i)).take 4 = le 4 (if (s.lamp.grpAt (first + i)).off then 0 else 1)))
    ∧ (∀ (m first count : Nat) (s : State), count < 1 ∨ 127 < count → Runs m 0x0707#16 s →
        ∃ t, exec (.lampGroupStatus m first count) s = .next t ∧ Answers m .badParam [] s s t)
    ∧ (∀ (m first count : Nat) (s : State), Runs m 0x0883#16 s → 1 ≤ count → count ≤ 63 →
        first + count ≤ s.cfg.stl.graph.tasks.length → ∃ t, exec (.pdkTaskStatus m first count) s = .next t
          ∧ Answers m .ok ((List.range count).flatMap (fun j => taskStatus s (first + j))) s s t)
    ∧ (∀ (m first count : Nat) (s : State), Runs m 0x0883#16 s →
        (count < 1 ∨ 63 < count ∨ s.cfg.stl.graph.tasks.length < first + count) →
        ∃ t, exec (.pdkTaskStatus m first count) s = .next t ∧ Answers m .badParam [] s s t)
    ∧ (∀ (m : Nat) (mask : Word) (s : State), Runs m 0x0803#16 s → mask.toNat < 2 ^ s.nStalls →
        ∃ t, exec (.tackStatus m mask) s = .next t
          ∧ Answers m .ok (((List.range s.nStalls).filter (fun k => bitOf mask k)).flatMap
              (fun k => tackStatusOf (s.shown (stallDomain k)) k)) s s t)
    ∧ (∀ (m : Nat) (mask : Word) (s : State), Runs m 0x0803#16 s → 2 ^ s.nStalls ≤ mask.toNat →
        ∃ t, exec (.tackStatus m mask) s = .next t ∧ Answers m .variantUnsupported [] s s t)
    ∧ (∀ (s : State) (k : Nat), (tackStatusOf s k).length = 44)
    ∧ (∀ (m first count : Nat) (s : State), Runs m 0x0804#16 s → 1 ≤ count → count ≤ 31 → first + count ≤ s.nFixtures →
        s.paramWindow = true → ∃ t d, exec (.tackParamRead m first count) s = .next t
          ∧ Answers m .ok (le 4 (fnOf s.ym.litFrom).toNat ++ d) s s t ∧ d.length = 128 * count)
    ∧ (∀ (m first count : Nat) (s : State), Runs m 0x0804#16 s → 1 ≤ count → count ≤ 31 → first + count ≤ s.nFixtures →
        s.paramWindow = false → ∃ t, exec (.tackParamRead m first count) s = .next t
          ∧ (t.box m).st = .executing ∧ (t.box m).waiting = true
          ∧ t.mbx.paramReads = s.mbx.paramReads ++ [(m, first, count)])
    ∧ (∀ (m first count : Nat) (s : State), Runs m 0x0804#16 s → s.nFixtures < first + count →
        ∃ t, exec (.tackParamRead m first count) s = .next t ∧ Answers m .variantUnsupported [] s s t)
    ∧ (∀ (m first count : Nat) (s : State), Runs m 0x0405#16 s → 1 ≤ count → count ≤ 250 → first + count ≤ 65536 →
        ∃ t d, exec (.flowStatus m first count) s = .next t ∧ Answers m .ok d s s t ∧ d.length = 16 * count
          ∧ (∀ j, j < count → let l := tget s.flw.live (first + j) {}
              (d.drop (16 * j)).take 16 = le 4 l.miss.toNat ++ le 4 l.missFn.toNat ++ le 4 l.sentFn.toNat ++ le 4 l.cause.toNat))
    ∧ (∀ (m first count : Nat) (s : State), Runs m 0x0405#16 s → (count < 1 ∨ 250 < count ∨ 65536 < first + count) →
        ∃ t, exec (.flowStatus m first count) s = .next t ∧ Answers m .badParam [] s s t)
    ∧ (∀ (m : Nat) (mask : Half) (s : State), Runs m 0x0446#16 s → mask.toNat < 2 ^ s.nEth → ∃ t d, exec (.ethStatus m mask) s = .next t
          ∧ Answers m .ok d s s t ∧ d.length = 12 * ((List.range s.nEth).filter (fun p => bitOf mask p)).length)
    ∧ (∀ (m : Nat) (mask : Half) (s : State), Runs m 0x0446#16 s → 2 ^ s.nEth ≤ mask.toNat →
        ∃ t, exec (.ethStatus m mask) s = .next t ∧ Answers m .variantUnsupported [] s s t)
    ∧ (∀ (m : Nat) (mask : DWord) (s : State), Runs m 0x0464#16 s → mask.toNat < 2 ^ s.nLine →
        ∃ t d, exec (.lineStatus m mask) s = .next t
          ∧ Answers m .ok d s s t ∧ d.length = 40 * ((List.range s.nLine).filter (fun n => bitOf mask n)).length)
    ∧ (∀ (m : Nat) (mask : DWord) (s : State), Runs m 0x0464#16 s → 2 ^ s.nLine ≤ mask.toNat →
        ∃ t, exec (.lineStatus m mask) s = .next t ∧ Answers m .variantUnsupported [] s s t)
    ∧ (∀ (m n first count : Nat) (s : State), Runs m 0x0463#16 s → n < s.nLine → 1 ≤ count → count ≤ 512 →
        ∃ t d, exec (.lineRdmUids m n first count) s = .next t ∧ Answers m .ok d s s t
          ∧ d.length = 6 * min count ((s.lp n).uids.length - first))
    ∧ (∀ (m n first count : Nat) (s : State), Runs m 0x0463#16 s → n < s.nLine → (count < 1 ∨ 512 < count) →
        ∃ t, exec (.lineRdmUids m n first count) s = .next t ∧ Answers m .badParam [] s s t)
    ∧ (∀ (m : Nat) (mask : Word) (s : State), Runs m 0x0542#16 s → s.nHeads ≠ 0 → mask.toNat < 2 ^ s.nHeads →
        ∃ t d, exec (.rasterStatus m mask) s = .next t ∧ Answers m .ok d s s t
          ∧ d.length = 40 * ((List.range s.nHeads).filter (fun h => bitOf mask h)).length)
    ∧ (∀ (m : Nat) (mask : Word) (s : State), Runs m 0x0542#16 s → 2 ^ s.nHeads ≤ mask.toNat →
        ∃ t, exec (.rasterStatus m mask) s = .next t ∧ Answers m .variantUnsupported [] s s t)
    ∧ (∀ (m h first count : Nat) (s : State), Runs m 0x0543#16 s → h < s.nHeads → 1 ≤ count → count ≤ 4 →
        (s.head h).hpd = true → 128 * (first + count) ≤ (s.head h).edid.length →
        ∃ t, exec (.rasterDpEdid m h first count) s = .next t
          ∧ Answers m .ok (((s.head h).edid.drop (128 * first)).take (128 * count)) s s t)
    ∧ (∀ (m h first count : Nat) (s : State), Runs m 0x0543#16 s → h < s.nHeads → 1 ≤ count → count ≤ 4 →
        (s.head h).hpd = false → ∃ t, exec (.rasterDpEdid m h first count) s = .next t ∧ Answers m .badState [] s s t)
    ∧ (∀ (m p q count : Nat) (s : State), Runs m 0x0445#16 s → p < s.nEth → q < 8 → 1 ≤ count → count ≤ 16 →
        fld (rxqCfg s.cfg.eth p q) 31 30 = 2 → let x := tget (s.port p).rxq q {}
        ∃ t, exec (.ethRxRead m p q count) s = .next t
          ∧ Answers m .ok ((x.stored.take count).flatMap rxStoredBytes) s (setRxq p q { x with stored := x.stored.drop count } s) t)
    ∧ (∀ (m p q count : Nat) (s : State), Runs m 0x0445#16 s → p < s.nEth → q < 8 → 1 ≤ count → count ≤ 16 →
        fld (rxqCfg s.cfg.eth p q) 31 30 ≠ 2 → ∃ t, exec (.ethRxRead m p q count) s = .next t ∧ Answers m .badState [] s s t)

/-- For every mailbox command of the command set, with every payload, in every state: unless its mailbox
executes a request of that command's opcode, not waiting, with its bulk data moved, the row leaves the state
as it is. (That such a row does not occur is the model's reading, log entry 3; the table of mailbox and
opcode of each row is cmdOf.) (R43, R44, R55) -/
def Obligations.CommandsRunOnlyInTheirMailbox : Prop :=
  ∀ (i : Instr) (m : Nat) (op : Half) (s : State), cmdOf i = some (m, op) → s.executes m op = false → exec i s = .next s

/-- For every staging command of every class, with every payload, in every state: the next state differs
from the state before at most in the mailboxes and sessions, the cause registers and the event controller
(the mailbox's completion) and in what goes out on the management port or to the pair peer. The effective
configuration, its generation, the scheduled commits, the frame clock, the counters and every block stay as
they are. (R58, R59, R61, R421) -/
def Obligations.StagingChangesNothingInEffect : Prop :=
  ∀ (i : Instr) (s t : State), stagesCmd i = true → exec i s = .next t →
    t = { s with mbx := t.mbx, causes := t.causes, evc := t.evc, out := t.out }

/-- For every staging command of every class, with every payload, executing in a mailbox: unless its
privilege or the variant refuses it first (R50), on the SHADOW from another session than the mirror session
it answers BAD_STATE; in a session without a transaction CFG_NO_TXN; as the first such command after the
session's transaction has expired CFG_TXN_EXPIRED, which uses the report up. Nothing is staged. (R50, R58,
R60, R423) -/
def Obligations.StagingNeedsAnOpenTransaction : Prop :=
  ∀ (i : Instr) (m : Nat) (op : Half) (s : State), stagesCmd i = true → cmdOf i = some (m, op) → Runs m op s →
    Denies i m .privDenied s ∨ Denies i m .variantUnsupported s ∨
    (s.mirrored (s.box m).req = false → ∃ t, exec i s = .next t ∧ Answers m .badState [] s s t)
    ∧ (∀ x, s.mirrored (s.box m).req = true → s.session? (s.box m).req.session.toNat = some x → x.expired = false →
        x.txn = none → ∃ t, exec i s = .next t ∧ Answers m .cfgNoTxn [] s s t)
    ∧ (∀ x, s.mirrored (s.box m).req = true → s.session? (s.box m).req.session.toNat = some x → x.expired = true →
        ∃ t, exec i s = .next t ∧ Answers m .cfgTxnExpired [] s
          (s.setSession (s.box m).req.session.toNat { x with expired := false }) t)

/-- In a session with an open transaction and room for its bytes, a payload within its ranges is staged in
its own object alone, and the answer is OK with nothing else changed; one outside them answers BAD_PARAM and
the earlier staging stays. TIME_SET_SERVO: JUMP_LIMIT 100 ns to 1 s, SLEW_PPM 1 to 200, LOCK_LIMIT_NS 100 to
65,535, HOLDOVER_S to 60. TIME_SET_PTP: the port is one the variant has (VARIANT_UNSUPPORTED, before any
transaction is looked for), the overrides lie in their ranges. TIME_SET_ALIGN: WC_DEN and the word clock's
ratio count under HOUSE_WORD alone. Pairing needs a P variant. Reserved bits of an image are ignored. A
request that would exceed 1 GiB of staged data answers CFG_TOO_LARGE. (R59, R139, R144, R146, R151, R403,
R436, R456, R484) -/
def Obligations.StagingOfTimePairThermalCalibrationTests : Prop :=
  (∀ (m jump slew lock hold : Nat) (x : Session) (tx : Txn) (s : State), Runs m 0x0303#16 s → MayStage s m x tx → 100 ≤ jump → jump ≤ 1000000000 → 1 ≤ slew → slew ≤ 200 → 100 ≤ lock → lock ≤ 65535 → hold ≤ 60 →
      Stages (.timeSetServo m jump slew lock hold) m [0x03030000]
        { tx.cfg with time := { tx.cfg.time with
            jump := BitVec.ofNat 32 jump, servo := BitVec.ofNat 32 (slew * 16777216 + hold * 65536 + lock) } } [] x tx s)
    ∧ (∀ (m jump slew lock hold : Nat) (x : Session) (tx : Txn) (s : State), Runs m 0x0303#16 s → MayStage s m x tx →
        (jump < 100 ∨ 1000000000 < jump ∨ slew < 1 ∨ 200 < slew ∨ lock < 100 ∨ 65535 < lock ∨ 60 < hold) →
        Refuses (.timeSetServo m jump slew lock hold) m .badParam x tx s)
    ∧ (∀ (m jump slew lock hold : Nat) (x : Session) (tx : Txn) (s : State), Runs m 0x0303#16 s → MayStage s m x tx →
        ¬ HasRoom s m [0x03030000] { tx.cfg with time := { tx.cfg.time with
            jump := BitVec.ofNat 32 jump, servo := BitVec.ofNat 32 (slew * 16777216 + hold * 65536 + lock) } } tx →
        100 ≤ jump → jump ≤ 1000000000 → 1 ≤ slew → slew ≤ 200 → 100 ≤ lock → lock ≤ 65535 → hold ≤ 60 →
        Refuses (.timeSetServo m jump slew lock hold) m .cfgTooLarge x tx s)
    ∧ (∀ (m : Nat) (a w : Word) (x : Session) (tx : Txn) (s : State), Runs m 0x0301#16 s → MayStage s m x tx → 1 ≤ fld a 25 22 → fld a 25 22 ≤ 8 →
        (fld a 31 28 ≤ 2 ∨ fld a 31 28 = 3 ∧ 1 ≤ fld a 21 19 ∧ fld a 21 19 ≤ 5 ∧ 1 ≤ fld w 17 0 ∧ fld w 17 0 ≤ 192000
          ∧ fld a 17 0 * 1000000000 * tx.cfg.ym.num = fld a 21 19 * fld w 17 0 * tx.cfg.ym.tNum) →
        Stages (.timeSetAlign m a w) m [0x03010000]
          { tx.cfg with time := { tx.cfg.time with align := a &&& 0xFFFBFFFF#32, wcRate := w &&& 0x0003FFFF#32 } } [] x tx s)
    ∧ (∀ (m : Nat) (a w : Word) (x : Session) (tx : Txn) (s : State), Runs m 0x0301#16 s → MayStage s m x tx →
        (3 < fld a 31 28 ∨ fld a 25 22 < 1 ∨ 8 < fld a 25 22
          ∨ (fld a 31 28 = 3 ∧ (fld a 21 19 < 1 ∨ 5 < fld a 21 19 ∨ fld w 17 0 < 1 ∨ 192000 < fld w 17 0
              ∨ fld a 17 0 * 1000000000 * tx.cfg.ym.num ≠ fld a 21 19 * fld w 17 0 * tx.cfg.ym.tNum))) →
        Refuses (.timeSetAlign m a w) m .badParam x tx s)
    ∧ (∀ (m : Nat) (p : PtpSet) (x : Session) (tx : Txn) (s : State), Runs m 0x0302#16 s → MayStage s m x tx → fld p.ptp 23 20 < s.nEth → fld p.ptp 31 28 ≤ 2 → fld p.ptp 15 8 ≤ 127 → inRange p.syncLog (-7) 1 = true →
        inRange p.annLog (-3) 3 = true → inRange p.delayLog (-7) 3 = true →
        (∀ n, p.receipt = some n → 2 ≤ n ∧ n ≤ 10) →
        Stages (.timeSetPtp m p) m [0x03020000] { tx.cfg with time := { tx.cfg.time with
          ptp := p.ptp &&& 0xFFF0FFFF#32, priority2 := p.priority2, syncLog := p.syncLog, annLog := p.annLog
          receipt := p.receipt, delayLog := p.delayLog, asym := p.asym } } [] x tx s)
    ∧ (∀ (m : Nat) (p : PtpSet) (s : State), Runs m 0x0302#16 s → s.nEth ≤ fld p.ptp 23 20 →
        Denies (.timeSetPtp m p) m .variantUnsupported s)
    ∧ (∀ (m : Nat) (p : PairCfg) (x : Session) (tx : Txn) (s : State), Runs m 0x0A01#16 s → MayStage s m x tx → fld p.cfg 30 29 ≠ 3 → fld p.cfg 23 16 ≠ 0 →
        (p.swap = 0 ∨ 3600 ≤ p.swap.toNat ∧ p.swap.toNat ≤ 604800) → (s.isP = true ∨ bitOf p.cfg 31 = false) →
        Stages (.pairSet m p) m [0x0A010000] { tx.cfg with pair := { p with cfg := p.cfg &&& 0xE0FF0000#32 } } [] x tx s)
    ∧ (∀ (m : Nat) (p : PairCfg) (s : State), Runs m 0x0A01#16 s → s.isP = false → bitOf p.cfg 31 = true →
        Denies (.pairSet m p) m .variantUnsupported s)
    ∧ (∀ (m : Nat) (p : PairCfg) (x : Session) (tx : Txn) (s : State), Runs m 0x0A01#16 s → MayStage s m x tx →
        (s.isP = true ∨ bitOf p.cfg 31 = false) → (fld p.cfg 30 29 = 3 ∨ fld p.cfg 23 16 = 0 ∨ (p.swap ≠ 0 ∧ p.swap.toNat < 3600) ∨ 604800 < p.swap.toNat) →
        Refuses (.pairSet m p) m .badParam x tx s)
    ∧ (∀ (m : Nat) (w : Word) (x : Session) (tx : Txn) (s : State), Runs m 0x0B01#16 s → MayStage s m x tx → 1 ≤ fld w 8 0 → fld w 8 0 ≤ 300 →
        Stages (.bridleSet m w) m [0x0B010000]
          { tx.cfg with brd := { tx.cfg.brd with brd := w &&& 0x800001FF#32 } } [] x tx s)
    ∧ (∀ (m : Nat) (w : Word) (x : Session) (tx : Txn) (s : State), Runs m 0x0B01#16 s → MayStage s m x tx →
        (fld w 8 0 < 1 ∨ 300 < fld w 8 0) → Refuses (.bridleSet m w) m .badParam x tx s)
    ∧ (∀ (m : Nat) (w : Word) (x : Session) (tx : Txn) (s : State), Runs m 0x0C01#16 s → MayStage s m x tx → 2 ≤ fld w 5 0 → fld w 5 0 ≤ 32 →
        Stages (.calSet m w) m [0x0C010000]
          { tx.cfg with brd := { tx.cfg.brd with cal := w &&& 0x8000003F#32 } } [] x tx s)
    ∧ (∀ (m : Nat) (w : Word) (x : Session) (tx : Txn) (s : State), Runs m 0x0C01#16 s → MayStage s m x tx →
        (fld w 5 0 < 2 ∨ 32 < fld w 5 0) → Refuses (.calSet m w) m .badParam x tx s)
    ∧ (∀ (m : Nat) (w : Word) (x : Session) (tx : Txn) (s : State), Runs m 0x0E01#16 s → MayStage s m x tx → 1 ≤ fld w 30 24 → fld w 30 24 ≤ 168 → 60 ≤ fld w 23 12 → 10 ≤ fld w 11 0 →
        Stages (.testSet m w) m [0x0E010000] { tx.cfg with far := w } [] x tx s)
    ∧ (∀ (m : Nat) (w : Word) (x : Session) (tx : Txn) (s : State), Runs m 0x0E01#16 s → MayStage s m x tx →
        (fld w 30 24 < 1 ∨ 168 < fld w 30 24 ∨ fld w 23 12 < 60 ∨ fld w 11 0 < 10) →
        Refuses (.testSet m w) m .badParam x tx s)

/-- In a session with an open transaction and room, each LAYER staging command whose resulting layers object
keeps the rules of the canvas and the layers stages its part of that object alone and answers OK with
nothing else changed: CANVAS_SET the canvas, LAYER_ORDER the order, LAYER_SET one layer's registers
(BEST_EFFORT of layer 8 reads 0), LAYER_INPUT_SET one input record, LAYER_STILL_LOAD one still whose bytes,
moved or staged, have the right length, LAYER_COEF_SET one set of 64 phases that each sum to 16,384. Refused
before any transaction is looked for: layer 8 without SAFETY (PRIV_DENIED) or on an S variant
(VARIANT_UNSUPPORTED), an order that lists layer 8 on an S variant, a still that layer 8 names, now or as
staged, without SAFETY, an opacity fixture or a port the variant lacks. Refused, the earlier staging kept: a
canvas beyond its limits, an order that names a layer twice or index 8, a set whose phases do not sum, an
input out of range. (R50, R154, R161, R166, R169, R170, R172, R176, R184, R537) -/
def Obligations.StagingOfTheCanvasAndLayers : Prop :=
  (∀ (m : Nat) (size ctrl bgRg bgB : Word) (x : Session) (tx : Txn) (s : State), Runs m 0x0503#16 s → MayStage s m x tx →
      let c : CompCfg := { tx.cfg.comp with size := size &&& 0x7FFF7FFF#32, ctrl := ctrl &&& 0x0000000F#32, bgRg := bgRg
                                            bgB := bgB &&& 0x0000FFFF#32 }
      (compCheck c false = .ok () → Stages (.canvasSet m size ctrl bgRg bgB) m [0x000A0000] { tx.cfg with comp := c } [] x tx s)
        ∧ ((16384 < canvasW c ∨ 16384 < canvasH c ∨ 16777216 < canvasW c * canvasH c) →
            Refuses (.canvasSet m size ctrl bgRg bgB) m .badParam x tx s))
    ∧ (∀ (m : Nat) (prog : Bool) (order : Word) (x : Session) (tx : Txn) (s : State), Runs m 0x0502#16 s → MayStage s m x tx →
        let c : CompCfg := { tx.cfg.comp with order := order, ctrl := setFld tx.cfg.comp.ctrl 3 3 (if prog then 1 else 0) }
        (s.isP = true ∨ 8 ∉ listed order → compCheck c false = .ok () →
            Stages (.layerOrder m prog order) m [0x000A0000] { tx.cfg with comp := c } [] x tx s)
          ∧ (s.isP = true → (fld order 3 0 = 8 ∨ (fld order 3 0 ≤ 7 ∧ fld order 7 4 = fld order 3 0)) →
              Refuses (.layerOrder m prog order) m .badParam x tx s))
    ∧ (∀ (m : Nat) (prog : Bool) (order : Word) (s : State), Runs m 0x0502#16 s → s.isP = false → 8 ∈ listed order →
        Denies (.layerOrder m prog order) m .variantUnsupported s)
    ∧ (∀ (m l : Nat) (r : LayerRegs) (x : Session) (tx : Txn) (s : State), Runs m 0x0501#16 s → MayStage s m x tx →
        (l ≤ 7 ∨ l = 8 ∧ s.isP = true ∧ (s.box m).req.cls = some .safety) →
        (bitOf r.opac 31 = false ∨ fld r.opacSrc 22 6 < s.nFixtures) →
        let r' : LayerRegs := { ctrl := r.ctrl &&& (if l = 8 then 0xFFFFDE00#32 else 0xFFFFFE00#32), src := r.src &&& 0x7FFF7FFF#32
                                pos := r.pos &&& 0x7FFF7FFF#32, dst := r.dst &&& 0x7FFF7FFF#32
                                opac := r.opac &&& 0x8000FFFF#32, opacSrc := r.opacSrc &&& 0x007FFFFF#32 }
        let c : CompCfg := { tx.cfg.comp with layers := tset tx.cfg.comp.layers l r' }
        compCheck c false = .ok () → Stages (.layerSet m l r) m [0x000A0000] { tx.cfg with comp := c } [] x tx s)
    ∧ (∀ (m : Nat) (r : LayerRegs) (s : State), Runs m 0x0501#16 s →
        ((s.box m).req.cls ≠ some .safety → Denies (.layerSet m 8 r) m .privDenied s)
          ∧ ((s.box m).req.cls = some .safety → s.isP = false → Denies (.layerSet m 8 r) m .variantUnsupported s))
    ∧ (∀ (m l : Nat) (r : LayerRegs) (s : State), Runs m 0x0501#16 s → l ≠ 8 → bitOf r.opac 31 = true →
        s.nFixtures ≤ fld r.opacSrc 22 6 → Denies (.layerSet m l r) m .variantUnsupported s)
    ∧ (∀ (m i : Nat) (r : InputRec) (x : Session) (tx : Txn) (s : State), Runs m 0x0504#16 s → MayStage s m x tx → i < 8 →
        r.port < s.nEth → let c : CompCfg := { tx.cfg.comp with inputs := tset tx.cfg.comp.inputs i r }
        (inputOk r = true → compCheck c false = .ok () →
            Stages (.layerInputSet m i r) m [0x000A0000] { tx.cfg with comp := c } [] x tx s)
          ∧ (r.enable = true → (r.width < 2 ∨ 3840 < r.width ∨ r.height < 1 ∨ 2160 < r.height) →
              Refuses (.layerInputSet m i r) m .badParam x tx s))
    ∧ (∀ (m i : Nat) (r : InputRec) (s : State), Runs m 0x0504#16 s → s.nEth ≤ r.port →
        Denies (.layerInputSet m i r) m .variantUnsupported s)
    ∧ (∀ (m i f w h obj : Nat) (pm : Bool) (d : List Byte) (x : Session) (tx : Txn) (s : State), Runs m 0x0506#16 s →
        MayStage s m x tx → s.bulk m obj = some d →
        i < 64 → (f = 0 ∨ f = 1 ∨ f = 2 ∨ f = 5) → 1 ≤ w → w ≤ 16384 → 1 ≤ h → h ≤ 16384 → d.length = frameBytes f w h →
        ((s.box m).req.cls = some .safety ∨ protectedIndex tx.cfg.comp ≠ some i ∧ protectedIndex s.cfg.comp ≠ some i) →
        let st : Still := { format := f, width := w, height := h, premult := pm, data := mwrite [] 0 d }
        let c : CompCfg := { tx.cfg.comp with stills := tset tx.cfg.comp.stills i st }
        compCheck c false = .ok () →
          Stages (.layerStillLoad m i f w h pm obj) m [0x000A0000] { tx.cfg with comp := c } [] x tx s (some obj))
    ∧ (∀ (m i f w h obj : Nat) (pm : Bool) (s : State), Runs m 0x0506#16 s → (s.box m).req.cls ≠ some .safety →
        (protectedIndex (s.standing (s.box m).req).comp = some i ∨ protectedIndex s.cfg.comp = some i) →
        Denies (.layerStillLoad m i f w h pm obj) m .privDenied s)
    ∧ (∀ c : CompCfg, protectedIndex c = if (layerOf c 8).kind = 3 then some (layerOf c 8).index else none)
    ∧ (∀ (m i : Nat) (k : CoefSet) (x : Session) (tx : Txn) (s : State), Runs m 0x0507#16 s → MayStage s m x tx →
        let c : CompCfg := { tx.cfg.comp with coefs := tset tx.cfg.comp.coefs i k }
        (1 ≤ i → i ≤ 15 → coefOk k = true → compCheck c false = .ok () →
            Stages (.layerCoefSet m i k) m [0x000A0000] { tx.cfg with comp := c } [] x tx s)
          ∧ ((i = 0 ∨ 15 < i ∨ ∃ p, p ∈ k.phases ∧ (p.take 8).sum ≠ 16384) →
              Refuses (.layerCoefSet m i k) m .badParam x tx s))

/-- In a session with an open transaction and room, each MAP and LAMP staging command whose records keep
their rules stages them in its object alone and answers OK with nothing else changed; a refused one answers
the status of the rule and leaves the earlier staging. MAP_LOAD, MAP_MODEL_SET and LAMP_GROUP_SET read their
records out of the bytes moved or staged (MAP_MODEL_SET after what of them the payload itself carries, log
entry 9), and answer that reading's failure. MAP_LOAD of more records than the variant has mapped pixels,
and a fixture beyond the variant, answer VARIANT_UNSUPPORTED before any transaction is looked for; MAP_PATCH
beyond the map BAD_PARAM; a PQ white outside 100 to 10,000, a curve entry above 0x1000000, EMITTERS outside
1 to 8 BAD_PARAM; no free slot for a changed model or curve, or more than 512 changed bins NO_RESOURCE; a
member in two groups, staged or effective, LAMP_GROUP_CONFLICT; a proof duty above 1/4,000 BAD_PARAM. The
records' rules are those of the functions named (mapRules, modelRules, curveOk, binOk, circuitOk, groupOk).
(R50, R185, R192, R194, R198, R204, R208, R211, R213, R219, R225, R226) -/
def Obligations.StagingOfTheMapAndLamps : Prop :=
  (∀ (m obj : Nat) (p : PixMap) (x : Session) (tx : Txn) (s : State), Runs m 0x0601#16 s → MayStage s m x tx →
      s.bulkAs m obj readMap = .ok p →
      (mapRules s.nPixels s.nFixtures tx.cfg.map.models tx.cfg.lamp.groups false p = .ok () →
          Stages (.mapLoad m obj) m [0x00020000] { tx.cfg with map := { tx.cfg.map with map := p } } [] x tx s (some obj))
        ∧ (p.recs.length ≤ s.nPixels → (∀ r, r ∈ p.recs → r.fixture < s.nFixtures) → (p.segs = [] ↔ p.recs ≠ []) →
            Refuses (.mapLoad m obj) m .badParam x tx s))
    ∧ (∀ (m obj : Nat) (p : PixMap) (s : State), Runs m 0x0601#16 s → s.bulkAs m obj readMap = .ok p →
        (s.nPixels < p.recs.length ∨ ∃ r, r ∈ p.recs ∧ s.nFixtures ≤ r.fixture) →
        Denies (.mapLoad m obj) m .variantUnsupported s)
    ∧ (∀ (m obj n : Nat) (hd : List Byte) (e : Status) (x : Session) (tx : Txn) (s : State), MayStage s m x tx →
        (Runs m 0x0601#16 s → s.bulkAs m obj readMap = .error e → Refuses (.mapLoad m obj) m e x tx s)
          ∧ (Runs m 0x0602#16 s → s.bulkAs m obj (fun bs => readModel (hd ++ bs)) = .error e → Refuses (.mapModelSet m hd obj) m e x tx s)
          ∧ (Runs m 0x0703#16 s → s.bulkAs m obj (readGroups n) = .error e → Refuses (.lampGroupSet m { count := n, obj := obj }) m e x tx s))
    ∧ (∀ (m : Nat) (ps : List (Nat × PixRec)) (x : Session) (tx : Txn) (s : State), Runs m 0x0605#16 s → MayStage s m x tx →
        (∀ e, e ∈ ps → e.2.fixture < s.nFixtures) →
        (ps.length ≤ 203 → (∀ e, e ∈ ps → e.1 < tx.cfg.map.map.recs.length) →
            mapRules s.nPixels s.nFixtures tx.cfg.map.models tx.cfg.lamp.groups false (patchMap tx.cfg.map.map ps) = .ok () →
            Stages (.mapPatch m ps) m [0x00020000] { tx.cfg with map := { tx.cfg.map with map := patchMap tx.cfg.map.map ps } } [] x tx s)
          ∧ ((∃ e, e ∈ ps ∧ tx.cfg.map.map.recs.length ≤ e.1) →
              Refuses (.mapPatch m ps) m .badParam x tx s))
    ∧ (∀ (m : Nat) (ps : List (Nat × PixRec)) (s : State), Runs m 0x0605#16 s → (∃ e, e ∈ ps ∧ s.nFixtures ≤ e.2.fixture) →
        Denies (.mapPatch m ps) m .variantUnsupported s)
    ∧ (∀ (m obj i : Nat) (hd : List Byte) (d : Model) (x : Session) (tx : Txn) (s : State), Runs m 0x0602#16 s → MayStage s m x tx →
        s.bulkAs m obj (fun bs => readModel (hd ++ bs)) = .ok (i, d) →
        let c : Cfg := { tx.cfg with map := { tx.cfg.map with models := tset tx.cfg.map.models i d } }
        (modelRules tx.cfg.map.curves false i d = .ok () → modelSlots s (s.box m).req.session.toNat c = true →
            Stages (.mapModelSet m hd obj) m [0x00030000] c [] x tx s (some obj))
          ∧ ((256 ≤ i ∨ d.emitters < 1 ∨ 8 < d.emitters) → Refuses (.mapModelSet m hd obj) m .badParam x tx s)
          ∧ (modelRules tx.cfg.map.curves false i d = .ok () → modelSlots s (s.box m).req.session.toNat c = false →
              Refuses (.mapModelSet m hd obj) m .noResource x tx s))
    ∧ (∀ (m i : Nat) (d : List Nat) (x : Session) (tx : Txn) (s : State), Runs m 0x0603#16 s → MayStage s m x tx →
        let c : Cfg := { tx.cfg with map := { tx.cfg.map with curves := tset tx.cfg.map.curves i d } }
        (1 ≤ i → i ≤ 63 → d.length = 1025 → (∀ v, v ∈ d → v ≤ 0x1000000) →
            curveSlots s (s.box m).req.session.toNat c = true → Stages (.mapCurveSet m i d) m [0x00040000] c [] x tx s)
          ∧ (1 ≤ i → i ≤ 63 → d.length = 1025 → (∀ v, v ∈ d → v ≤ 0x1000000) →
              curveSlots s (s.box m).req.session.toNat c = false → Refuses (.mapCurveSet m i d) m .noResource x tx s)
          ∧ ((∃ v, v ∈ d ∧ 0x1000000 < v) → Refuses (.mapCurveSet m i d) m .badParam x tx s))
    ∧ (∀ (m : Nat) (pq gm src probe : Word) (x : Session) (tx : Txn) (s : State), Runs m 0x0604#16 s → MayStage s m x tx →
        (bitOf gm 31 = false ∨ fld src 22 6 < s.nFixtures) →
        (100 ≤ fld pq 15 0 → fld pq 15 0 ≤ 10000 →
            Stages (.mapSet m pq gm src probe) m [0x06040000] { tx.cfg with map := { tx.cfg.map with
                  pqWhite := pq &&& 0x0000FFFF#32, gm := gm &&& 0x8000FFFF#32, gmSrc := src &&& 0x007FFFFF#32
                  probe := probe &&& 0x807FFFFF#32 } } [] x tx s)
          ∧ ((fld pq 15 0 < 100 ∨ 10000 < fld pq 15 0) →
              Refuses (.mapSet m pq gm src probe) m .badParam x tx s))
    ∧ (∀ (m : Nat) (pq gm src probe : Word) (s : State), Runs m 0x0604#16 s → bitOf gm 31 = true →
        s.nFixtures ≤ fld src 22 6 → Denies (.mapSet m pq gm src probe) m .variantUnsupported s)
    ∧ (∀ (m : Nat) (rs : List (Nat × BinRec)) (x : Session) (tx : Txn) (s : State), Runs m 0x0701#16 s → MayStage s m x tx →
        rs.length ≤ 28 → rs.all binOk = true →
        let c : Cfg := { tx.cfg with lamp := { tx.cfg.lamp with bins := rs.foldl (fun b e => tset b e.1 e.2) tx.cfg.lamp.bins } }
        (binSlots s (s.box m).req.session.toNat c = true → Stages (.lampBinSet m rs) m [0x00050000] c [] x tx s)
          ∧ (binSlots s (s.box m).req.session.toNat c = false → Refuses (.lampBinSet m rs) m .noResource x tx s))
    ∧ (∀ (m : Nat) (rs : List (Nat × Circuit)) (x : Session) (tx : Txn) (s : State), Runs m 0x0702#16 s → MayStage s m x tx →
        (rs.length ≤ 254 → (∀ e, e ∈ rs → e.1 ≤ 2046 ∧ 1 ≤ e.2.budget ∧ e.2.budget ≤ 4294967295 ∧ e.2.idle < e.2.budget) →
            Stages (.lampCircuitSet m rs) m [0x00060000] { tx.cfg with lamp := { tx.cfg.lamp with
              circuits := rs.foldl (fun b e => tset b e.1 e.2) tx.cfg.lamp.circuits } } [] x tx s)
          ∧ ((∃ e, e ∈ rs ∧ (2046 < e.1 ∨ e.2.budget ≤ e.2.idle)) →
              Refuses (.lampCircuitSet m rs) m .badParam x tx s))
    ∧ (∀ (m n obj : Nat) (rs : List (Nat × Group)) (x : Session) (tx : Txn) (s : State), Runs m 0x0703#16 s →
        MayStage s m x tx → s.bulkAs m obj (readGroups n) = .ok rs →
        let g := rs.foldl (fun b e => tset b e.1 e.2) tx.cfg.lamp.groups
        (rs.all groupOk = true → (g.map (fun e => e.2.members.length)).sum ≤ 65536 → groupsApart g = true →
            groupsClear s.cfg.lamp.groups rs = true → diagnosed g tx.cfg.map.map ≤ 65536 →
            Stages (.lampGroupSet m { count := n, obj := obj }) m [0x00060000] { tx.cfg with lamp := { tx.cfg.lamp with groups := g } } [] x tx s (some obj))
          ∧ ((∃ e, e ∈ rs ∧ e.2.period * 1000 < e.2.tMeasUs * 4000) →
              Refuses (.lampGroupSet m { count := n, obj := obj }) m .badParam x tx s)
          ∧ (rs.all groupOk = true → (g.map (fun e => e.2.members.length)).sum ≤ 65536 → (groupsApart g = false ∨ groupsClear s.cfg.lamp.groups rs = false) →
              Refuses (.lampGroupSet m { count := n, obj := obj }) m .lampGroupConflict x tx s))
    ∧ (∀ (m : Nat) (fl sd te pr mc : Word) (x : Session) (tx : Txn) (s : State), Runs m 0x0704#16 s → MayStage s m x tx →
        (fld fl 16 0 ≤ 0x10000 → fld sd 16 0 ≤ 0x10000 → 10 ≤ fld te 15 0 → fld te 15 0 ≤ 60000 →
            1 ≤ fld pr 31 16 → fld pr 31 16 ≤ 15000 → 100 ≤ fld pr 15 0 → fld pr 15 0 ≤ 60000 →
            fld pr 31 16 * 4000 ≤ fld pr 15 0 * 1000 → Stages (.lampCfgSet m fl sd te pr mc) m [0x07040000] { tx.cfg with lamp := { tx.cfg.lamp with
                  floor := fl &&& 0x0001FFFF#32, staleD := sd &&& 0x0001FFFF#32, telem := te &&& 0x0000FFFF#32
                  proof := pr, measCode := mc &&& 0x0000FFFF#32 } } [] x tx s)
          ∧ ((0x10000 < fld fl 16 0 ∨ 0x10000 < fld sd 16 0 ∨ fld te 15 0 < 10 ∨ 60000 < fld te 15 0
                ∨ fld pr 15 0 * 1000 < fld pr 31 16 * 4000) →
              Refuses (.lampCfgSet m fl sd te pr mc) m .badParam x tx s))

/-- In a session with an open transaction and room, each command whose bytes, moved or staged, decode and
whose records keep their own rules and those across objects stages them in its object alone and answers OK
(TACK_LOAD with the number of binaries) with nothing else changed; a refused one answers the status of the
rule and leaves the earlier staging: before a transaction is looked for VARIANT_UNSUPPORTED (a Stall, a
fixture or a port beyond the variant's count); data that does not decode or is not there BAD_PARAM; slots
outside 1 to 64 BAD_PARAM, a bad binary TACK_BAD_BINARY, a core image with the reserved MODE bit BAD_PARAM,
its reserved bits ignored, more than 63 flow records or 1,015 map entries BAD_PARAM, entries beyond the
parameter map NO_RESOURCE. A gap below the first entry of FLOW_PARAM_SET is filled with zeros (the model's
reading, log entry 24). The records' rules are those of the functions named. (R238, R259, R260, R284, R287,
R288, R289, R292, R293, R294, R326, R327) -/
def Obligations.StagingOfTasksProgramsAndFlows : Prop :=
  (∀ (m obj : Nat) (g : Graph) (x : Session) (tx : Txn) (s : State), Runs m 0x0880#16 s → MayStage s m x tx →
      s.bulkAs m obj readGraph = .ok g →
      let c : Cfg := { tx.cfg with stl := { tx.cfg.stl with graph := g } }
      (graphRules s.nStalls g = .ok () → graphTackCross c.stl false = .ok () → graphHwCross c false = .ok () →
          (c.flow.flows = [] ∨ c.stl.tack.args = [] ∨ packCross c = .ok ()) →
          Stages (.pdkGraphSet m obj) m [0x00080000] c [] x tx s (some obj))
        ∧ (∀ e, graphFits s.nStalls g = true → graphRules s.nStalls g = .error e →
            Refuses (.pdkGraphSet m obj) m e x tx s))
    ∧ (∀ (m obj : Nat) (g : Graph) (s : State), Runs m 0x0880#16 s → s.bulkAs m obj readGraph = .ok g →
        graphFits s.nStalls g = false → Denies (.pdkGraphSet m obj) m .variantUnsupported s)
    ∧ (∀ (m obj : Nat) (e : Status) (x : Session) (tx : Txn) (s : State), MayStage s m x tx →
        (Runs m 0x0880#16 s → s.bulkAs m obj readGraph = .error e → Refuses (.pdkGraphSet m obj) m e x tx s)
          ∧ (Runs m 0x0801#16 s → s.bulkAs m obj readFixtures = .error e → Refuses (.tackFixtureSet m obj) m e x tx s)
          ∧ (Runs m 0x0802#16 s → s.bulkAs m obj readTack = .error e → Refuses (.tackLoad m obj) m e x tx s)
          ∧ (Runs m 0x0401#16 s → s.bulkAs m obj readFlows = .error e → Refuses (.flowLoad m obj) m e x tx s))
    ∧ (∀ (m : Nat) (ws : List Word) (x : Session) (tx : Txn) (s : State), Runs m 0x0881#16 s → MayStage s m x tx →
        (ws.length = 16 → (∀ w, w ∈ ws → bitOf w 1 = false) →
            Stages (.pdkCoreSet m ws) m [0x08810000]
              { tx.cfg with stl := { tx.cfg.stl with cores := (List.range 16).zip (ws.map (· &&& 7#32)) } } [] x tx s)
          ∧ ((ws.length ≠ 16 ∨ ∃ w, w ∈ ws ∧ bitOf w 1 = true) →
              Refuses (.pdkCoreSet m ws) m .badParam x tx s))
    ∧ (∀ (m obj : Nat) (fx : Tab Fixture) (x : Session) (tx : Txn) (s : State), Runs m 0x0801#16 s → MayStage s m x tx →
        s.bulkAs m obj readFixtures = .ok fx → (∀ e, e ∈ fx → e.1 < s.nFixtures) →
        (rising (fx.map (·.1)) = true → (∀ e, e ∈ fx → fixtureOk e.2 = true) →
            Stages (.tackFixtureSet m obj) m [0x00010000]
              { tx.cfg with stl := { tx.cfg.stl with fixtures := fx } } [] x tx s (some obj))
          ∧ ((rising (fx.map (·.1)) = false ∨ ∃ e, e ∈ fx ∧ (e.2.slots < 1 ∨ 64 < e.2.slots)) →
              Refuses (.tackFixtureSet m obj) m .badParam x tx s))
    ∧ (∀ (m obj : Nat) (fx : Tab Fixture) (s : State), Runs m 0x0801#16 s → s.bulkAs m obj readFixtures = .ok fx →
        (∃ e, e ∈ fx ∧ s.nFixtures ≤ e.1) → Denies (.tackFixtureSet m obj) m .variantUnsupported s)
    ∧ (∀ (m obj : Nat) (k y : TackCfg) (x : Session) (tx : Txn) (s : State), Runs m 0x0802#16 s → MayStage s m x tx →
        s.bulkAs m obj readTack = .ok k →
        let c : Cfg := { tx.cfg with stl := { tx.cfg.stl with tack := y } }
        (tackRules s k = .ok () → placeTack s k = .ok y →
            (c.stl.graph.tasks = [] ∨ c.flow.flows = [] ∧ graphTackCross c.stl false = .ok ()) →
            Stages (.tackLoad m obj) m [0x00070000] c (le 4 k.bins.length) x tx s (some obj))
          ∧ (∀ e, tackRules s k = .ok () → placeTack s k = .error e → Refuses (.tackLoad m obj) m e x tx s)
          ∧ ((∃ b, b ∈ k.bins ∧ binaryOk b = false) →
              Refuses (.tackLoad m obj) m .tackBadBinary x tx s))
    ∧ (∀ (m obj : Nat) (k : FlowCfg) (x : Session) (tx : Txn) (s : State), Runs m 0x0401#16 s → MayStage s m x tx →
        s.bulkAs m obj readFlows = .ok k → let c : Cfg := { tx.cfg with flow := k }
        (flowRules s.nEth s.nLine false k = .ok () → paramCross c false = .ok () → cutThroughCross c = .ok () →
            c.stl.graph.tasks = [] → Stages (.flowLoad m obj) m [0x00090000] c [] x tx s (some obj))
          ∧ (∀ e, flowsFit s.nEth s.nLine k = true → flowRules s.nEth s.nLine false k = .error e →
              Refuses (.flowLoad m obj) m e x tx s))
    ∧ (∀ (m obj : Nat) (k : FlowCfg) (s : State), Runs m 0x0401#16 s → s.bulkAs m obj readFlows = .ok k →
        flowsFit s.nEth s.nLine k = false → Denies (.flowLoad m obj) m .variantUnsupported s)
    ∧ (∀ (m : Nat) (rs : List (Nat × FlowRec)) (x : Session) (tx : Txn) (s : State), Runs m 0x0402#16 s → MayStage s m x tx →
        let k : FlowCfg := { tx.cfg.flow with flows := rs.foldl (fun t e => tset t e.1 e.2) tx.cfg.flow.flows }
        let c : Cfg := { tx.cfg with flow := k }
        (rs.length ≤ 63 → flowRules s.nEth s.nLine false k = .ok () → paramCross c false = .ok () →
            cutThroughCross c = .ok () → c.stl.graph.tasks = [] →
            Stages (.flowSet m rs) m [0x00090000] c [] x tx s)
          ∧ (rs.length ≤ 63 → flowsFit s.nEth s.nLine k = false → Denies (.flowSet m rs) m .variantUnsupported s)
          ∧ (63 < rs.length → Refuses (.flowSet m rs) m .badParam x tx s))
    ∧ (∀ (m first : Nat) (es : List Word) (x : Session) (tx : Txn) (s : State), Runs m 0x0403#16 s → MayStage s m x tx →
        let k : FlowCfg := { tx.cfg.flow with params := putParams tx.cfg.flow.params first es }
        let c : Cfg := { tx.cfg with flow := k }
        (es.length ≤ 1015 → first + es.length ≤ 1048576 → flowRules s.nEth s.nLine false k = .ok () →
            paramCross c false = .ok () → cutThroughCross c = .ok () → c.stl.graph.tasks = [] →
            Stages (.flowParamSet m first es) m [0x00090000] c [] x tx s)
          ∧ (1015 < es.length → Refuses (.flowParamSet m first es) m .badParam x tx s)
          ∧ (es.length ≤ 1015 → 1048576 < first + es.length →
              Refuses (.flowParamSet m first es) m .noResource x tx s))
    ∧ (∀ (ps : List Word) (first : Nat) (es : List Word) (i : Nat), i < first + es.length →
        (putParams ps first es).getD i 0 = if i < first then ps.getD i 0 else es.getD (i - first) 0)
    ∧ (∀ (m : Nat) (b : FlowSet) (x : Session) (tx : Txn) (s : State), Runs m 0x0404#16 s → MayStage s m x tx → let k : FlowCfg := { tx.cfg.flow with set := b.masked }
        let c : Cfg := { tx.cfg with flow := k }
        flowRules s.nEth s.nLine false k = .ok () → paramCross c false = .ok () → cutThroughCross c = .ok () →
        c.stl.graph.tasks = [] → Stages (.flowSettings m b) m [0x00090000] c [] x tx s)

/-- In a session with an open transaction and room, each command whose records keep their rules stages them
in the object of that port, line or head alone and answers OK with nothing else changed; reserved bits of an
image are ignored; the earlier staging stays where it is refused: a port, line or head that the variant
lacks, or a locked head 0 without a second head, VARIANT_UNSUPPORTED before any transaction is looked for;
an IP MTU outside 1,280 to 9,198, a ring base not aligned to 64 bytes, a host ring from another transport
than PCIe, register images outside their rules BAD_PARAM. (R4, R331, R337, R338, R342, R361, R371, R385,
R402, R406, R537) -/
def Obligations.StagingOfPortsLinesAndHeads : Prop :=
  (∀ (m p : Nat) (r : PortRegs) (x : Session) (tx : Txn) (s : State), Runs m 0x0440#16 s → MayStage s m x tx →
      let c : Cfg := { tx.cfg with eth := { tx.cfg.eth with ports := tset tx.cfg.eth.ports p r.masked } }
      (p < s.nEth → portRegsOk p r = true → cutThroughCross c = .ok () → mtuCross c = .ok () →
          Stages (.ethPortSet m p r) m [0x04400000 + p] c [] x tx s)
        ∧ (s.nEth ≤ p → Denies (.ethPortSet m p r) m .variantUnsupported s)
        ∧ (p < s.nEth → (fld r.cfg 13 0 < 1280 ∨ 9198 < fld r.cfg 13 0) →
            Refuses (.ethPortSet m p r) m .badParam x tx s))
    ∧ (∀ (m p : Nat) (r : FilterRegs) (x : Session) (tx : Txn) (s : State), Runs m 0x0441#16 s → MayStage s m x tx →
        (p < s.nEth → r.filters.length = 16 → r.rxq.length = 8 → (∀ w, w ∈ r.rxq → rxqOk w = true) →
            (s.onPcie m = true ∨ ∀ w, w ∈ r.rxq → fld w 31 30 ≠ 1) →
            Stages (.ethFilterSet m p r) m [0x04410000 + p]
              { tx.cfg with eth := { tx.cfg.eth with filters := tset tx.cfg.eth.filters p r.masked } } [] x tx s)
          ∧ (s.nEth ≤ p → Denies (.ethFilterSet m p r) m .variantUnsupported s)
          ∧ (p < s.nEth → s.onPcie m = false → (∃ w, w ∈ r.rxq ∧ fld w 31 30 = 1) →
              Refuses (.ethFilterSet m p r) m .badParam x tx s))
    ∧ (∀ (m p q : Nat) (a : DWord) (x : Session) (tx : Txn) (s : State), Runs m 0x0442#16 s → MayStage s m x tx →
        (p < s.nEth → q < 8 → a.toNat % 64 = 0 →
            (s.onPcie m = true ∨ fld (rxqCfg tx.cfg.eth p q) 31 30 ≠ 1) →
            Stages (.ethRingSet m p q a) m [0x04420000 + p]
              { tx.cfg with eth := { tx.cfg.eth with bases := tset tx.cfg.eth.bases (8 * p + q) a } } [] x tx s)
          ∧ (p < s.nEth → (8 ≤ q ∨ a.toNat % 64 ≠ 0) →
              Refuses (.ethRingSet m p q a) m .badParam x tx s)
          ∧ (s.nEth ≤ p → Denies (.ethRingSet m p q a) m .variantUnsupported s))
    ∧ (∀ (m n : Nat) (r : LineRegs) (x : Session) (tx : Txn) (s : State), Runs m 0x0460#16 s → MayStage s m x tx →
        let c : Cfg := { tx.cfg with line := tset tx.cfg.line n r.masked }
        (n < s.nLine → lineRegsOk r = true → lineCross c = .ok () →
            Stages (.linePortSet m n r) m [0x04600000 + n] c [] x tx s)
          ∧ (s.nLine ≤ n → Denies (.linePortSet m n r) m .variantUnsupported s)
          ∧ (n < s.nLine → lineRegsOk r = false → Refuses (.linePortSet m n r) m .badParam x tx s))
    ∧ (∀ (m : Nat) (hs : List (Nat × HeadRegs)) (x : Session) (tx : Txn) (s : State), Runs m 0x0540#16 s → MayStage s m x tx →
        let c : Cfg := { tx.cfg with rst := { tx.cfg.rst with heads := hs.foldl (fun x e => tset x e.1 e.2.masked) tx.cfg.rst.heads } }
        (s.nHeads ≠ 0 → (∀ e, e ∈ hs → e.1 < s.nHeads ∧ (1 < s.nHeads ∨ e.2.lock = false)) →
            rasterRules s.nHeads false c = .ok () →
            Stages (.rasterHeadSet m hs) m (hs.map (fun e => 0x05400000 + e.1)) c [] x tx s)
          ∧ ((s.nHeads = 0 ∨ ∃ e, e ∈ hs ∧ (s.nHeads ≤ e.1 ∨ s.nHeads = 1 ∧ e.2.lock = true)) →
              Denies (.rasterHeadSet m hs) m .variantUnsupported s)
          ∧ (s.nHeads ≠ 0 → (∀ e, e ∈ hs → e.1 < s.nHeads ∧ (1 < s.nHeads ∨ e.2.lock = false)) → ∀ e, rasterRules s.nHeads false c = .error e →
              Refuses (.rasterHeadSet m hs) m e x tx s))
    ∧ (∀ (m h k : Nat) (r : TileRegs) (x : Session) (tx : Txn) (s : State), Runs m 0x0541#16 s → MayStage s m x tx →
        let c : Cfg := { tx.cfg with rst := { tx.cfg.rst with tiles := tset tx.cfg.rst.tiles (4 * h + k) r.masked } }
        (h < s.nHeads → k < 4 → rasterRules s.nHeads false c = .ok () →
            Stages (.rasterTileSet m h k r) m [0x05410000 + 4 * h + k] c [] x tx s)
          ∧ (s.nHeads ≤ h → Denies (.rasterTileSet m h k r) m .variantUnsupported s)
          ∧ (h < s.nHeads → 4 ≤ k → Refuses (.rasterTileSet m h k r) m .badParam x tx s))

/-- For every Tack row on Stall k: where the word at the PC has another OP, or the Stall runs nothing,
waits, seals, is out of service or is halted, the row leaves the state as it is; where the fetch fails, the
instance is terminated with that fault; where the guard does not hold, the instruction only moves the PC on
and takes one cycle. A word outside the code is RANGE (3), one with an uncorrectable error MEM (9), one that
fails decoding ILLEGAL (1). The row of another word than the one at the PC does not occur (the model's
reading, log entry 3). (R263, R267, R268, R281, R287, R499, R538) -/
def Obligations.TackRowsFetchGuardAndFault : Prop :=
  ∀ (ins : Instr) (k op : Nat) (s : State), tackOf ins = some (k, op) →
    (∀ i w op', AtWord k i w op' s → op' ≠ op → exec ins s = .next s)
    ∧ (s.running? k = none → exec ins s = .next s)
    ∧ ((s.stall k).live = false ∨ DbgCore.stall k ∈ s.sec.halted → (s.stall k).runtime = false → exec ins s = .next s)
    ∧ (∀ i w, AtWord k i w op s → guardOn (s.stall k).core w = false →
        ∃ t, exec ins s = .next t ∧ Retires k (s.stall k).core.adv 1 s t)
    ∧ (∀ i e, k < s.nStalls → s.running? k = some i → (s.stall k).live = true → DbgCore.stall k ∉ s.sec.halted →
        fetch k i s = .error e → e ≠ 0 → ∃ t, exec ins s = .next t ∧ Faulted e k i s t)
    ∧ (∀ i, (s.codeOf i).code.length ≤ (s.stall k).core.pc → fetch k i s = .error 3)
    ∧ (∀ i w, (s.codeOf i).code[(s.stall k).core.pc]? = some w →
        codeBase (s.stlOf i) (s.binOf i) + (s.stall k).core.pc ∉ (s.stall k).bad →
        fetch k i s = if validWord w then .ok w else .error 1)

/-- For every word that stands at the PC with its guard holding, each row writes its result into the
register that rd names, moves to the next word, takes its cycles from the budget and retires; all other
registers, memory and the rest of the state stay. s0 reads 0 and a write to it is discarded. ADD, SUB, MUL
and the immediates are modulo 2^32; ADDS, SUBS and MULQ saturate; MULH is the high half of the signed
product; MIN and MAX are signed; DIVU by 0 gives all ones; CLZ counts the leading zero bits; a shift takes
its amount from FN or from 5 bits of rb. (R263, R267, R268, R270) -/
def Obligations.TackScalarRows : Prop :=
  (∀ (k : Nat) (i : Inst) (w : Word) (s : State), let c := (s.stall k).core; let a := c.sr (tRa w); let b := c.sr (tRb w)
      let n := if bitOf w 5 then fld w 4 0 else b.toNat % 32
      ScalarRow (.add k) 0x00 1 k i w (BitVec.ofNat 32 (a.toNat + b.toNat)) s
      ∧ ScalarRow (.sub k) 0x01 1 k i w (BitVec.ofInt 32 (a.toInt - b.toInt)) s
      ∧ ScalarRow (.and k) 0x02 1 k i w (a &&& b) s ∧ ScalarRow (.or k) 0x03 1 k i w (a ||| b) s
      ∧ ScalarRow (.xor k) 0x04 1 k i w (a ^^^ b) s
      ∧ ScalarRow (.shl k) 0x05 1 k i w (BitVec.ofNat 32 (a.toNat * 2 ^ n)) s
      ∧ ScalarRow (.shr k) 0x06 1 k i w (BitVec.ofNat 32 (a.toNat / 2 ^ n)) s
      ∧ ScalarRow (.sar k) 0x07 1 k i w (BitVec.ofInt 32 (a.toInt / 2 ^ n)) s
      ∧ ScalarRow (.mul k) 0x08 2 k i w (BitVec.ofNat 32 (a.toNat * b.toNat)) s
      ∧ ScalarRow (.mulh k) 0x09 2 k i w (BitVec.ofInt 32 (a.toInt * b.toInt / 2 ^ 32)) s
      ∧ ScalarRow (.mulq k) 0x0A 2 k i w (BitVec.ofInt 32 (max (-2147483648) (min 2147483647 ((a.toInt * b.toInt + 2 ^ 15) / 2 ^ 16)))) s
      ∧ ScalarRow (.min k) 0x0B 1 k i w (BitVec.ofInt 32 (min a.toInt b.toInt)) s
      ∧ ScalarRow (.max k) 0x0C 1 k i w (BitVec.ofInt 32 (max a.toInt b.toInt)) s
      ∧ ScalarRow (.adds k) 0x0D 1 k i w (BitVec.ofInt 32 (max (-2147483648) (min 2147483647 (a.toInt + b.toInt)))) s
      ∧ ScalarRow (.subs k) 0x0E 1 k i w (BitVec.ofInt 32 (max (-2147483648) (min 2147483647 (a.toInt - b.toInt)))) s
      ∧ (∀ z : Nat, z ≤ 32 → a.toNat < 2 ^ (32 - z) → (z = 32 ∨ 2 ^ (31 - z) ≤ a.toNat) →
          ScalarRow (.clz k) 0x0F 1 k i w (BitVec.ofNat 32 z) s)
      ∧ ScalarRow (.divu k) 0x10 18 k i w (if b.toNat = 0 then 0xFFFFFFFF#32 else BitVec.ofNat 32 (a.toNat / b.toNat)) s
      ∧ ScalarRow (.sel k) 0x11 1 k i w (if c.pr (fld w 2 0) then a else b) s
      ∧ ScalarRow (.addi k) 0x12 1 k i w (BitVec.ofInt 32 (a.toInt + tImmS w)) s
      ∧ ScalarRow (.andi k) 0x13 1 k i w (a &&& BitVec.ofNat 32 (tImm w)) s
      ∧ ScalarRow (.ori k) 0x14 1 k i w (a ||| BitVec.ofNat 32 (tImm w)) s
      ∧ ScalarRow (.xori k) 0x15 1 k i w (a ^^^ BitVec.ofNat 32 (tImm w)) s
      ∧ (∀ v : Int, -65536 ≤ v → v < 65536 → (v - fld w 16 0) % 131072 = 0 →
          ScalarRow (.movi k) 0x16 1 k i w (BitVec.ofInt 32 v) s)
      ∧ ScalarRow (.movhi k) 0x17 1 k i w (BitVec.ofNat 32 (fld w 15 0 * 65536 + (c.sr (tRd w)).toNat % 65536)) s)
    ∧ (∀ (c : Core) (j n : Nat) (v : Word), c.sr 0 = 0 ∧ c.setS 0 v = c
        ∧ (j ≠ 0 → (c.setS j v).sr j = v) ∧ (n ≠ j → (c.setS j v).sr n = c.sr n)
        ∧ (c.setS j v).v = c.v ∧ (c.setS j v).p = c.p ∧ (c.setS j v).pc = c.pc)

/-- With its guard holding, a compare writes its predicate (p0 reads 1 and discards writes); PLOG combines
two; BR moves the PC by its offset in two cycles; CALL also leaves the byte address of the next word in s31;
RET goes to the word that ra holds inside the code, and any other address is BRANCH (8); DBNZ decrements rd
and branches while it is not 0; ENDT ends the instance: with an output block the seal begins; CANCEL of a
task that is no direct successor is CANCEL (7); EVT records its code and raises SOFT_EVENT; SRD reads the
frame number, the task, and waits for the argument record. (R248, R263, R268, R271, R275, R279, R281, R282)
-/
def Obligations.TackPredicatesAndControl : Prop :=
  (∀ (k : Nat) (i : Inst) (w : Word) (s : State), let c := (s.stall k).core; let a := c.sr (tRa w); let b := c.sr (tRb w)
      PredicateRow (.cmpeq k) 0x18 k i w (decide (a = b)) s
      ∧ PredicateRow (.cmplt k) 0x19 k i w (decide (a.toInt < b.toInt)) s
      ∧ PredicateRow (.cmpltu k) 0x1A k i w (decide (a.toNat < b.toNat)) s
      ∧ PredicateRow (.plog k) 0x1B k i w
          (let x := c.pr (fld w 14 12); let y := c.pr (fld w 9 7)
           (bitOf w 2).xor (match fld w 1 0 with | 0 => x && y | 1 => x || y | 2 => x.xor y | _ => x && !y)) s
      ∧ (AtWord k i w 0x1C s → guardOn c w = true →
          ∃ t, exec (.br k) s = .next t ∧ Retires k { c with pc := ((c.pc : Int) + tOff w).toNat } 2 s t)
      ∧ (AtWord k i w 0x1D s → guardOn c w = true → ∃ t, exec (.call k) s = .next t ∧ Retires k
          ({ c with pc := ((c.pc : Int) + tOff w).toNat }.setS 31
            (BitVec.ofNat 32 (4 * (codeBase (s.stlOf i) (s.binOf i) + c.pc) + 4))) 2 s t)
      ∧ (∀ p, AtWord k i w 0x1E s → guardOn c w = true → p < (s.codeOf i).code.length →
          a.toNat = 4 * (codeBase (s.stlOf i) (s.binOf i) + p) →
          ∃ t, exec (.ret k) s = .next t ∧ Retires k { c with pc := p } 2 s t)
      ∧ ((a.toNat % 4 ≠ 0 ∨ a.toNat < 4 * codeBase (s.stlOf i) (s.binOf i)
            ∨ 4 * (codeBase (s.stlOf i) (s.binOf i) + (s.codeOf i).code.length) ≤ a.toNat) → FaultsWith (.ret k) 0x1E 8 k i w s)
      ∧ (AtWord k i w 0x1F s → guardOn c w = true → c.sr (tRd w) ≠ 1 → ∃ t, exec (.dbnz k) s = .next t
          ∧ Retires k { c.setS (tRd w) (c.sr (tRd w) - 1) with pc := ((c.pc : Int) + tOff w).toNat } 2 s t)
      ∧ (AtWord k i w 0x1F s → guardOn c w = true → c.sr (tRd w) = 1 → ∃ t, exec (.dbnz k) s = .next t
          ∧ Retires k (c.setS (tRd w) 0).adv 1 s t)
      ∧ (AtWord k i w 0x20 s → guardOn c w = true → (s.stall k).runtime = false → (argsOf (s.stlOf i) i.task).count ≠ 0 →
          ∃ t, exec (.endt k) s = .next t ∧ (t.stall k).sealing = some .completed ∧ (t.stall k).run = (s.stall k).run
            ∧ t.count (.stlRetired k) = (s.count (.stlRetired k) + 1) % 2 ^ 64 ∧ t.pdk.insts = s.pdk.insts
            ∧ (∀ j, j ≠ k → t.stall j = s.stall j))
      ∧ ((false, a.toNat) ∉ (s.stlOf i).graph.succs i.task → FaultsWith (.cancel k) 0x21 7 k i w s)
      ∧ (AtWord k i w 0x21 s → guardOn c w = true → (false, a.toNat) ∈ (s.stlOf i).graph.succs i.task →
          (s.inst? a.toNat i.content = none) → ∃ t, exec (.cancel k) s = .next t
            ∧ (t.stall k).core.sr (tRd w) = 0 ∧ (t.stall k).core.pc = c.pc + 1 ∧ t.pdk.insts = s.pdk.insts)
      ∧ (AtWord k i w 0x22 s → guardOn c w = true → ∃ t, exec (.evt k) s = .next t
          ∧ (t.stall k).soft = BitVec.ofNat 32 (fld w 7 0 * 2 ^ 24 + i.task) ∧ (t.stall k).core.pc = c.pc + 1
          ∧ bitOf (t.cause (.stl k)) 4 = true
          ∧ t.count (.stlSoftEvt k) = (s.count (.stlSoftEvt k) + 1) % 2 ^ 32)
      ∧ (tImm w = 0 → ScalarRow (.srd k) 0x23 1 k i w (fnOf i.content) s)
      ∧ (tImm w = 1 → ScalarRow (.srd k) 0x23 1 k i w (BitVec.ofNat 32 i.task) s)
      ∧ (tImm w = 6 → (s.stall k).core.argsIn = true →
          ScalarRow (.srd k) 0x23 1 k i w (BitVec.ofNat 32 (argsOf (s.stlOf i) i.task).first) s)
      ∧ (AtWord k i w 0x23 s → guardOn c w = true → 6 ≤ tImm w → tImm w ≤ 11 → (s.stall k).core.argsIn = false →
          exec (.srd k) s = .next (s.setStall k { s.stall k with wait := .args })))
    ∧ (∀ (c : Core) (j n : Nat) (b : Bool), c.pr 0 = true ∧ c.setP 0 b = c ∧ (0 < j → j < 8 → (c.setP j b).pr j = b)
        ∧ (n ≠ j → j < 8 → n < 8 → (c.setP j b).pr n = c.pr n) ∧ (c.setP j b).s = c.s ∧ (c.setP j b).v = c.v)

/-- With its guard holding, each row writes its eight lanes into the register that vd names, moves on and
retires; nothing else changes. VADD and VSUB wrap, saturate without sign or saturate signed by FN; VMUL is
the low half, the rounded unsigned fraction or the rounded saturated signed fraction; VMINMAX, VLOG, VCMP
and VSHF by FN; VMOV broadcasts, inserts or extracts a lane; VLERP interpolates with the fraction in vd. A
read of the lanes of a vector that eight lanes form gives those lanes. (R263, R267, R268, R269, R270) -/
def Obligations.TackVectorRows : Prop :=
  (∀ (k : Nat) (i : Inst) (w : Word) (s : State), let c := (s.stall k).core
      let a := fun j => lane (c.vr (tVa w)) j; let b := fun j => lane (c.vr (tVb w)) j; let f := fld w 1 0
      VectorRow (.vadd k) 0x31 1 k i w (fun j => if f = 0 then a j + b j
        else if f = 1 then BitVec.ofNat 16 (min 65535 ((a j).toNat + (b j).toNat))
        else BitVec.ofInt 16 (max (-32768) (min 32767 ((a j).toInt + (b j).toInt)))) s
      ∧ VectorRow (.vsub k) 0x32 1 k i w (fun j => if f = 0 then a j - b j
        else if f = 1 then BitVec.ofNat 16 ((a j).toNat - (b j).toNat)
        else BitVec.ofInt 16 (max (-32768) (min 32767 ((a j).toInt - (b j).toInt)))) s
      ∧ VectorRow (.vmul k) 0x33 2 k i w (fun j => if f = 0 then BitVec.ofNat 16 ((a j).toNat * (b j).toNat)
        else if f = 1 then BitVec.ofNat 16 (((a j).toNat * (b j).toNat + 2 ^ 15) / 2 ^ 16)
        else BitVec.ofInt 16 (max (-32768) (min 32767 (((a j).toInt * (b j).toInt + 2 ^ 14) / 2 ^ 15)))) s
      ∧ VectorRow (.vminmax k) 0x34 1 k i w (fun j =>
          if f = 0 then BitVec.ofNat 16 (min (a j).toNat (b j).toNat)
          else if f = 1 then BitVec.ofNat 16 (max (a j).toNat (b j).toNat)
          else if f = 2 then BitVec.ofInt 16 (min (a j).toInt (b j).toInt)
          else BitVec.ofInt 16 (max (a j).toInt (b j).toInt)) s
      ∧ (fld w 6 5 ≠ 3 → VectorRow (.vshf k) 0x35 1 k i w (fun j =>
          let n := if bitOf w 4 then (b j).toNat % 16 else fld w 3 0
          if fld w 6 5 = 0 then BitVec.ofNat 16 ((a j).toNat * 2 ^ n)
          else if fld w 6 5 = 1 then BitVec.ofNat 16 ((a j).toNat / 2 ^ n)
          else BitVec.ofInt 16 ((a j).toInt / 2 ^ n)) s)
      ∧ VectorRow (.vlog k) 0x36 1 k i w (fun j =>
          if f = 0 then a j &&& b j else if f = 1 then a j ||| b j else if f = 2 then a j ^^^ b j else a j &&& ~~~(b j)) s
      ∧ VectorRow (.vcmp k) 0x37 1 k i w (fun j =>
          if (if f = 0 then decide (a j = b j) else if f = 1 then decide ((a j).toInt < (b j).toInt)
              else decide ((a j).toNat < (b j).toNat)) then 0xFFFF#16 else 0) s
      ∧ (fld w 6 5 = 0 → VectorRow (.vmov k) 0x38 1 k i w (fun _ => (c.sr (tRa w)).setWidth 16) s)
      ∧ (fld w 6 5 = 1 → VectorRow (.vmov k) 0x38 1 k i w (fun j =>
          if j = fld w 2 0 then (c.sr (tRa w)).setWidth 16 else lane (c.vr (tVd w)) j) s)
      ∧ (fld w 6 5 = 2 → ScalarRow (.vmov k) 0x38 1 k i w ((a (fld w 2 0)).setWidth 32) s)
      ∧ VectorRow (.vlerp k) 0x39 2 k i w (fun j => BitVec.ofInt 16
          ((a j).toNat + (((b j).toNat - (a j).toNat : Int) * (lane (c.vr (tVd w)) j).toNat + 2 ^ 15) / 2 ^ 16)) s)
    ∧ (∀ (f : Nat → Half) (j : Nat), j < 8 → lane (vec8 f) j = f j)
    ∧ (∀ (c : Core) (j n : Nat) (v : BitVec 128), (c.setV j v).vr j = v ∧ (n ≠ j → (c.setV j v).vr n = c.vr n)
        ∧ (c.setV j v).s = c.s ∧ (c.setV j v).p = c.p ∧ (c.setV j v).pc = c.pc)

/-- In the scratch window, which the running priority's own area backs, LDW and LDH (zero-extended) read the
word or half, VLD four words; STW, STH and VST write exactly the word, the half or the four words and leave
every other word and every other priority's area alone; a word not written since the instance's first
dispatch reads 0. A word of the binary's constants reads its four bytes, least significant first. A
misaligned address faults with ALIGN (2), a store outside the window with RANGE (3), a load from a word with
an uncorrectable error with MEM (9). (R263, R264, R265, R266, R268, R281, R288) -/
def Obligations.TackDataMemoryRows : Prop :=
  (∀ (k x : Nat) (i : Inst) (w : Word) (s : State), let c := (s.stall k).core; let p := (s.descOf i).prio
      let a : Int := (c.sr (tRa w)).toNat; let m := (s.stall k).area p
      (a + 4 * tImmS w = 0x20000 + 4 * x → x < 1536 → scratchBad p (4 * x) ∉ (s.stall k).bad →
          ScalarRow (.ldw k) 0x24 2 k i w (tget m x 0) s)
      ∧ (a + 4 * tImmS w = 0x20000 + 4 * x → x < 1536 → scratchBad p (4 * x) ∈ (s.stall k).bad → (tfind? m x).isSome = true →
          FaultsWith (.ldw k) 0x24 9 k i w s)
      ∧ (a + 4 * tImmS w = constBase (s.stlOf i) (s.binOf i) + 4 * x → 4 * x + 4 ≤ (s.codeOf i).consts.length →
          (a + 4 * tImmS w) % 4 = 0 → a + 4 * tImmS w + 4 ≤ 0x20000 →
          0x10000 + constBase (s.stlOf i) (s.binOf i) + 4 * x ∉ (s.stall k).bad →
          ScalarRow (.ldw k) 0x24 2 k i w (BitVec.ofNat 32 (unle (((s.codeOf i).consts.drop (4 * x)).take 4))) s)
      ∧ (a + 2 * tImmS w = 0x20000 + 2 * x → x < 3072 → scratchBad p (2 * x) ∉ (s.stall k).bad →
          ScalarRow (.ldh k) 0x26 2 k i w (BitVec.ofNat 32 ((tget m (x / 2) 0).toNat / 2 ^ (16 * (x % 2)) % 65536)) s)
      ∧ (a + 16 * tImmS w = 0x20000 + 16 * x → x < 384 → (∀ j, j < 4 → scratchBad p (16 * x + 4 * j) ∉ (s.stall k).bad) →
          AtWord k i w 0x28 s → guardOn c w = true → ∃ t v, exec (.vld k) s = .next t
            ∧ Retires k (c.setV (tVd w) v).adv 2 s t
            ∧ ∀ j, j < 4 → v.extractLsb' (32 * j) 32 = tget m (4 * x + j) 0)
      ∧ (a + 4 * tImmS w = 0x20000 + 4 * x → x < 1536 → AtWord k i w 0x25 s → guardOn c w = true →
          ∃ t, exec (.stw k) s = .next t ∧ (t.stall k).core.pc = c.pc + 1 ∧ (t.stall k).core.s = c.s
            ∧ (∀ n, tget ((t.stall k).area p) n 0 = if n = x then c.sr (tRd w) else tget m n 0)
            ∧ (∀ q, q ≠ p → (t.stall k).area q = (s.stall k).area q) ∧ (∀ j, j ≠ k → t.stall j = s.stall j)
            ∧ t.pdk.bank0 = s.pdk.bank0 ∧ t.comp = s.comp)
      ∧ (a + 2 * tImmS w = 0x20000 + 2 * x → x < 3072 → AtWord k i w 0x27 s → guardOn c w = true →
          ∃ t, exec (.sth k) s = .next t ∧ (t.stall k).core.pc = c.pc + 1
            ∧ (∀ n, (tget ((t.stall k).area p) (n / 2) 0).toNat / 2 ^ (16 * (n % 2)) % 65536
                = if n = x then (c.sr (tRd w)).toNat % 65536 else (tget m (n / 2) 0).toNat / 2 ^ (16 * (n % 2)) % 65536)
            ∧ (∀ q, q ≠ p → (t.stall k).area q = (s.stall k).area q))
      ∧ (a + 16 * tImmS w = 0x20000 + 16 * x → x < 384 → AtWord k i w 0x29 s → guardOn c w = true →
          ∃ t, exec (.vst k) s = .next t ∧ (t.stall k).core.pc = c.pc + 1
            ∧ (∀ j, j < 4 → tget ((t.stall k).area p) (4 * x + j) 0 = (c.vr (tVd w)).extractLsb' (32 * j) 32)
            ∧ (∀ n, n < 4 * x ∨ 4 * x + 4 ≤ n → tget ((t.stall k).area p) n 0 = tget m n 0)
            ∧ (∀ q, q ≠ p → (t.stall k).area q = (s.stall k).area q))
      ∧ ((a + 4 * tImmS w) % 4 ≠ 0 → FaultsWith (.ldw k) 0x24 2 k i w s ∧ FaultsWith (.stw k) 0x25 2 k i w s)
      ∧ ((a + 2 * tImmS w) % 2 ≠ 0 → FaultsWith (.ldh k) 0x26 2 k i w s ∧ FaultsWith (.sth k) 0x27 2 k i w s)
      ∧ ((a + 16 * tImmS w) % 16 ≠ 0 → FaultsWith (.vld k) 0x28 2 k i w s ∧ FaultsWith (.vst k) 0x29 2 k i w s)
      ∧ ((a + 4 * tImmS w) % 4 = 0 → (a + 4 * tImmS w < 0x20000 ∨ 0x21800 ≤ a + 4 * tImmS w) →
          FaultsWith (.stw k) 0x25 3 k i w s))

/-- PST and VPST write slots of a fixture of the task's own block into what the running instance has
written, which its seal puts into the bank; the banks themselves and the other instances stay. A load of the
own block with BANK 0 gives what the instance has written, else the slot's previous value; of a static
fixture INIT; with BANK 1 the previous value; of another block its bank once its writer has ended. A store
outside the block is BLOCK (4), a bad fixture or slot RANGE (3), a read before the writer has ended ORDER
(5). A load that misses waits, and completes with the same value when the line has come, in no fewer than 6
cycles. The argument record, once fetched, completes a waiting SRD. (R268, R271, R273, R274, R275, R276,
R281) -/
def Obligations.TackParameterStoreRows : Prop :=
  (∀ (k : Nat) (i : Inst) (w : Word) (s : State), let c := (s.stall k).core; let f := (c.sr (tRa w)).toNat
      let g := s.stlOf i; let n := tSlot w; let own := (argsOf g i.task).holds f
      (f < s.nFixtures → n < slotsOf g f → own = true → tBank w = 0 → AtWord k i w 0x2B s → guardOn c w = true →
          ∃ t j, exec (.pst k) s = .next t ∧ (t.stall k).core.pc = c.pc + 1 ∧ (t.stall k).core.s = c.s
            ∧ t.running? k = some j ∧ j = { i with writes := j.writes }
            ∧ (∀ a, tfind? j.writes a = if a = 64 * f + n then some ((c.sr (tRd w)).setWidth 16) else tfind? i.writes a)
            ∧ t.pdk.bank0 = s.pdk.bank0 ∧ t.pdk.bank1 = s.pdk.bank1 ∧ (∀ x, x ≠ k → t.stall x = s.stall x))
      ∧ (f < s.nFixtures → n + 8 ≤ slotsOf g f → own = true → tBank w = 0 → AtWord k i w 0x2D s → guardOn c w = true →
          ∃ t j, exec (.vpst k) s = .next t ∧ (t.stall k).core.pc = c.pc + 1
            ∧ t.running? k = some j ∧ j = { i with writes := j.writes }
            ∧ (∀ a, a < 8 → tfind? j.writes (64 * f + n + a) = some (lane (c.vr (tVd w)) a))
            ∧ (∀ a, a < 64 * f + n ∨ 64 * f + n + 8 ≤ a → tfind? j.writes a = tfind? i.writes a)
            ∧ t.pdk.bank0 = s.pdk.bank0 ∧ t.pdk.bank1 = s.pdk.bank1)
      ∧ ((s.nFixtures ≤ f ∨ slotsOf g f ≤ n) → FaultsWith (.pst k) 0x2B 3 k i w s ∧ FaultsWith (.pld k true) 0x2A 3 k i w s)
      ∧ ((s.nFixtures ≤ f ∨ slotsOf g f < n + 8) → FaultsWith (.vpst k) 0x2D 3 k i w s)
      ∧ (f < s.nFixtures → n < slotsOf g f → (own = false ∨ tBank w = 1) → FaultsWith (.pst k) 0x2B 4 k i w s)
      ∧ (f < s.nFixtures → n < slotsOf g f → tBank w = 0 → isStatic g f = false → own = true →
          ScalarRow (.pld k true) 0x2A 6 k i w
            (((tfind? i.writes (64 * f + n)).getD (prevSlot s g i.content f n)).setWidth 32) s)
      ∧ (f < s.nFixtures → n < slotsOf g f → isStatic g f = true →
          ScalarRow (.pld k true) 0x2A 6 k i w ((initOf g f n).setWidth 32) s)
      ∧ (f < s.nFixtures → n < slotsOf g f → tBank w = 1 → isStatic g f = false →
          ScalarRow (.pld k true) 0x2A 6 k i w ((prevSlot s g i.content f n).setWidth 32) s)
      ∧ (∀ x, f < s.nFixtures → n < slotsOf g f → tBank w = 0 → isStatic g f = false → own = false → writerOf g f = some x →
          (writerEnded s x i.content = true → ScalarRow (.pld k true) 0x2A 6 k i w ((s.pdk.slotAt i.content f n).setWidth 32) s)
            ∧ (writerEnded s x i.content = false → FaultsWith (.pld k true) 0x2A 5 k i w s))
      ∧ (∀ vs, readSlots s i (tBank w) f n 8 = .ok vs → VectorRow (.vpld k true) 0x2C 6 k i w (fun j => vs.getD j 0) s)
      ∧ (∀ v, readSlot s i (tBank w) f n = .ok v → AtWord k i w 0x2A s → guardOn c w = true →
          exec (.pld k false) s = .next (s.setStall k { s.stall k with wait := .miss }))
      ∧ (∀ v cyc, readSlot s i (tBank w) f n = .ok v → s.running? k = some i → (s.stall k).wait = .miss →
          (s.codeOf i).code[c.pc]? = some w → tOp w = 0x2A → ∃ t, exec (.cacheMissFill k cyc) s = .next t
            ∧ Retires k (c.setS (tRd w) (v.setWidth 32)).adv (max 6 cyc) s t)
      ∧ (∀ cyc, (s.stall k).wait ≠ .miss → exec (.cacheMissFill k cyc) s = .next s)
      ∧ (∀ cyc, s.running? k = some i → c.argsIn = false → (s.stall k).wait = .args →
          (s.codeOf i).code[c.pc]? = some w → ∃ t, exec (.argRecordFetched k cyc) s = .next t
            ∧ Retires k (({ c with argsIn := true } : Core).setS (tRd w) (selValue i s (tImm w))).adv (max 1 cyc)
                (s.setStall k { s.stall k with core := { c with argsIn := true } }) t)
      ∧ (∀ cyc, s.running? k = some i → c.argsIn = false → (s.stall k).wait ≠ .args →
          exec (.argRecordFetched k cyc) s = .next (s.setStall k { s.stall k with core := { c with argsIn := true } }))
      ∧ (∀ cyc, s.running? k = none ∨ c.argsIn = true → exec (.argRecordFetched k cyc) s = .next s))

/-- LST and VLST write exactly their bytes into the buffer of a Stall-drawn layer that the content draws, at
their address, and take at least 2 cycles; a misaligned address is ALIGN (2), a layer that is off or of
another kind, or an address beyond it, LAYER (6); without a buffer the write is discarded and the first one
raises LAYER_NO_BUF. CLD reads the canvas word at a position once its row is visible, in at least 6 cycles,
0 where there is no canvas; a position beyond it is RANGE (3); before the row is visible it waits, and
completes when it is. (R160, R165, R268, R277, R278, R281) -/
def Obligations.TackLayerAndCanvasRows : Prop :=
  (∀ (k cyc : Nat) (i : Inst) (w : Word) (s : State), let c := (s.stall k).core; let a := (c.sr (tRa w)).toNat
      let l := tLayer w; let r := layerOf (s.cfgFor i.content).comp l; let b := (s.comp.layer l).buf (drawBuf i.content)
      (a % 4 = 0 → r.on = true → r.kind = 2 → a + 4 ≤ layerBytes r → (l, i.content) ∉ s.pdk.noBuf → b.st ≠ .ready → b.st ≠ .latched →
          AtWord k i w 0x2E s → guardOn c w = true → ∃ t, exec (.lst k cyc) s = .next t
            ∧ (t.stall k).core.pc = c.pc + 1 ∧ (t.stall k).busyAcc = (s.stall k).busyAcc + max 2 cyc
            ∧ ((t.comp.layer l).buf (drawBuf i.content)).st = .filling
            ∧ (∀ n, mget ((t.comp.layer l).buf (drawBuf i.content)).data n
                = if a ≤ n ∧ n < a + 4 then (c.sr (tRd w)).extractLsb' (8 * (n - a)) 8 else mget b.data n)
            ∧ (∀ j, j ≠ l → t.comp.layer j = s.comp.layer j))
      ∧ (a % 16 = 0 → r.on = true → r.kind = 2 → a + 16 ≤ layerBytes r → (l, i.content) ∉ s.pdk.noBuf → b.st ≠ .ready →
          b.st ≠ .latched → AtWord k i w 0x2F s → guardOn c w = true → ∃ t, exec (.vlst k cyc) s = .next t
            ∧ (t.stall k).core.pc = c.pc + 1 ∧ ((t.comp.layer l).buf (drawBuf i.content)).st = .filling
            ∧ (∀ n, mget ((t.comp.layer l).buf (drawBuf i.content)).data n
                = if a ≤ n ∧ n < a + 16 then (c.vr (tVd w)).extractLsb' (8 * (n - a)) 8 else mget b.data n))
      ∧ (a % 4 = 0 → r.on = true → r.kind = 2 → a + 4 ≤ layerBytes r → (l, i.content) ∈ s.pdk.noBuf →
          (l, i.content) ∉ s.pdk.noBufTold → AtWord k i w 0x2E s → guardOn c w = true →
          ∃ t, exec (.lst k cyc) s = .next t ∧ t.comp = s.comp ∧ (t.stall k).core.pc = c.pc + 1
            ∧ bitOf (t.cause (.stl k)) 5 = true ∧ t.pdk.noBufTold = s.pdk.noBufTold ++ [(l, i.content)])
      ∧ (a % 4 ≠ 0 → FaultsWith (.lst k cyc) 0x2E 2 k i w s) ∧ (a % 16 ≠ 0 → FaultsWith (.vlst k cyc) 0x2F 2 k i w s)
      ∧ (a % 4 = 0 → (r.on = false ∨ r.kind ≠ 2 ∨ layerBytes r < a + 4) → FaultsWith (.lst k cyc) 0x2E 6 k i w s)
      ∧ (a % 16 = 0 → (r.on = false ∨ r.kind ≠ 2 ∨ layerBytes r < a + 16) → FaultsWith (.vlst k cyc) 0x2F 6 k i w s))
    ∧ (∀ (k cyc x y : Nat) (i : Inst) (w : Word) (s : State), let c := (s.stall k).core
        (c.sr (tRa w)).toNat = y * 65536 + x → x < 65536 →
        let v := tget (tget s.comp.canvas (i.content % 3) {}).words (y * 16384 + x) 0; let cv := (s.cfgFor i.content).comp
        (canvasOn cv = true → x < canvasW cv → y < canvasH cv → rowVisible s i.content y = true →
            ScalarRow (.cld k cyc) 0x30 (max 6 cyc) k i w v s)
          ∧ (canvasOn cv = false → ScalarRow (.cld k cyc) 0x30 (max 6 cyc) k i w 0 s)
          ∧ (canvasOn cv = true → (canvasW cv ≤ x ∨ canvasH cv ≤ y) → FaultsWith (.cld k cyc) 0x30 3 k i w s)
          ∧ (canvasOn cv = true → x < canvasW cv → y < canvasH cv → rowVisible s i.content y = false →
            AtWord k i w 0x30 s → guardOn c w = true →
            exec (.cld k cyc) s = .next (s.setStall k { s.stall k with wait := .row }))
          ∧ (canvasOn cv = true → x < canvasW cv → y < canvasH cv → rowVisible s i.content y = true →
            s.running? k = some i → (s.stall k).wait = .row → (s.codeOf i).code[c.pc]? = some w →
            ∃ t, exec (.cldRowVisible k cyc) s = .next t ∧ Retires k (c.setS (tRd w) v).adv (max 6 cyc) s t)
          ∧ ((s.stall k).wait ≠ .row → exec (.cldRowVisible k cyc) s = .next s))

/-- A budget counter at 0 before ENDT terminates the instance: OVERRUN with code 0, TACK_OVERRUN,
STL_OVERRUN_CNT; otherwise the row changes nothing. A completed seal ends the instance with the END it was
sealed for, frees its Stall, puts into the bank what a completed instance wrote and the previous values for
the rest of its block, and decrements its successors: where no slot or fan-out entry of the Paddock is bad,
a successor that waited for it alone becomes READY. A corrected scrub read is counted and raises MEM_CORR;
an uncorrectable one stays with its word and raises MEM_UNCORR; a clean one changes nothing. (R242, R243,
R254, R266, R275, R279, R280) -/
def Obligations.StallsEndTheirInstances : Prop :=
  (∀ (k : Nat) (i : Inst) (s : State), s.running? k = some i → (s.stall k).core.budget = some 0 → (s.stall k).wait = .none →
      (s.stall k).sealing = none → (s.stall k).runtime = false → ∃ t, exec (.budgetExhausted k) s = .next t
        ∧ (t.stall k).fault = BitVec.ofNat 32 i.task ∧ (t.stall k).faultFn = fnOf i.content
        ∧ t.count (.stlOverrun k) = (s.count (.stlOverrun k) + 1) % 2 ^ 32 ∧ bitOf (t.cause (.stl k)) 0 = true
        ∧ (t.stall k).core = (s.stall k).core)
    ∧ (∀ (k : Nat) (s : State), (s.stall k).core.budget ≠ some 0 ∨ s.running? k = none → exec (.budgetExhausted k) s = .next s)
    ∧ (∀ (k : Nat) (i : Inst) (e : TaskEnd) (s : State), s.running? k = some i → (s.stall k).sealing = some e → i.stall = some k → s.pdk.bad = [] →
        ∃ t j, exec (.sealComplete k) s = .next t ∧ t.inst? i.task i.content = some j ∧ j.st = .ended ∧ j.fin = some e
          ∧ (t.stall k).run = none ∧ (t.stall k).sealing = none ∧ (∀ n, n ≠ k → t.stall n = s.stall n) ∧ t.cfg = s.cfg
          ∧ (∀ (f n : Nat), i.content % 2 = 0 → (∀ x, x ∈ i.writes → (argsOf (s.stlOf i) i.task).holds (x.1 / 64) = true) → (argsOf (s.stlOf i) i.task).holds f = false → n < 64 →
              tget t.pdk.bank0 (64 * f + n) 0 = tget s.pdk.bank0 (64 * f + n) 0))
    ∧ (∀ (k : Nat) (i y : Inst) (s : State), s.running? k = some i → (s.stall k).sealing = some .completed →
        (s.stlOf i).graph.succs i.task = [(false, y.task)] → y.task ≠ i.task → s.inst? y.task i.content = some y →
        y.st = .waiting → y.dep = 1 → y.noSlot = false → (s.descOf y).delayUs = 0 → (s.descOf i).layerFinish = false → s.pdk.bad = [] →
        ∃ t j, exec (.sealComplete k) s = .next t ∧ t.inst? y.task i.content = some j ∧ j.st = .ready ∧ j.dep = 0)
    ∧ (∀ (k : Nat) (s : State), s.running? k = none ∨ (s.stall k).sealing = none → exec (.sealComplete k) s = .next s)
    ∧ (∀ (k a : Nat) (s : State), k < s.nStalls → ∃ t, exec (.stallScrubRead k a .corrected) s = .next t
        ∧ t.count (.stlMemCorr k) = (s.count (.stlMemCorr k) + 1) % 2 ^ 32 ∧ bitOf (t.cause (.stl k)) 2 = true ∧ t.pdk = s.pdk)
    ∧ (∀ (k a : Nat) (s : State), k < s.nStalls → ∃ t, exec (.stallScrubRead k a .uncorrectable) s = .next t
        ∧ (t.stall k).bad = (s.stall k).bad ++ [a] ∧ bitOf (t.cause (.stl k)) 3 = true
        ∧ (t.stall k).core = (s.stall k).core ∧ (∀ n, n ≠ k → t.stall n = s.stall n))
    ∧ (∀ (k a : Nat) (s : State), exec (.stallScrubRead k a .clean) s = .next s)

/-- An idle Stall takes the best READY task, with its registers 0, the PC at the entry point, the budget
BOUND less the seal's time; a READY task whose slot reads uncorrectable is cancelled instead, with
LOFT_ERROR at its home Stall; one that resumes a displaced task takes the context of its priority's frame,
whatever MODE is then. A READY task of strictly higher priority displaces the running one: in PREEMPT mode
the context goes into the frame of the running priority, in INTERRUPT mode the switch handler opens, and a
save still open is completed in hardware. A delay that is met makes a DELAYED task READY. A free slot takes
a released task that found none (SLOT_STALL), else the next task in priming order; a freed slot takes the
head of a Loft list. A Stall with STANDBY_OK that is idle is granted to Farrier. Each 1 ms PDK_BUSY takes
the cycles of the window. Where its condition fails, each row changes nothing. (R242, R245, R246, R247,
R248, R250, R257, R258, R263, R279) -/
def Obligations.PaddockDispatchesAndDisplaces : Prop :=
  (∀ (k : Nat) (y : Inst) (s : State), k < s.nStalls → (s.stall k).idle = true → DbgCore.stall k ∉ s.sec.halted →
      s.bestSuspended k = none → s.best k = some y → s.takesFirst k y = true → s.pdk.badWord (.slot y.task y.content) = none →
      ∃ t z, exec (.taskDispatch k none) s = .next t ∧ (t.stall k).run = some (y.task, y.content)
        ∧ (t.stall k).core = { pc := fld (s.descOf y).entry 13 0
                               budget := if (s.descOf y).bound = 0 then none
                                 else some ((s.descOf y).bound.toNat - sealTime (s.stlOf y) y.task) }
        ∧ t.inst? y.task y.content = some z ∧ z.st = .running ∧ z.stall = some k
        ∧ t.count (.pdkDispatch k) = (s.count (.pdkDispatch k) + 1) % 2 ^ 32
        ∧ ((t.stall k).area (s.descOf y).prio = []) ∧ (∀ j, j ≠ k → t.stall j = s.stall j) ∧ t.cfg = s.cfg)
    ∧ (∀ (k : Nat) (x : Inst) (s : State), k < s.nStalls → (s.stall k).idle = true → DbgCore.stall k ∉ s.sec.halted →
        s.bestSuspended k = some x → s.best k = none →
        ∃ t, exec (.taskDispatch k none) s = .next t ∧ (t.stall k).run = some (x.task, x.content)
          ∧ (t.stall k).core = tget (s.stall k).frames (s.descOf x).prio {} ∧ (∀ j, j ≠ k → t.stall j = s.stall j))
    ∧ (∀ (k : Nat) (y : Inst) (h : Hit) (s : State), k < s.nStalls → (s.stall k).idle = true → DbgCore.stall k ∉ s.sec.halted →
        s.bestSuspended k = none → s.best k = some y → s.takesFirst k y = true → s.inst? y.task y.content = some y →
        (s.descOf y).succ = [] → ∃ t z, exec (.taskDispatch k (some h)) s = .next t ∧ t.inst? y.task y.content = some z
          ∧ z.st = .ended ∧ z.fin = some .cancelled ∧ bitOf (t.cause (.pdk (s.descOf y).home)) 1 = true ∧ (t.stall k).run = none)
    ∧ (∀ (k : Nat) (b : Option Hit) (s : State), (s.stall k).idle = false ∨ DbgCore.stall k ∈ s.sec.halted
          ∨ (s.best k = none ∧ s.bestSuspended k = none) → exec (.taskDispatch k b) s = .next s)
    ∧ (∀ (k : Nat) (i y : Inst) (s : State), k < s.nStalls → s.running? k = some i → s.best k = some y →
        (s.stall k).sealing = none → (s.stall k).wait = .none → (s.stall k).runtime = false →
        (s.descOf i).prio < (s.descOf y).prio → bitOf (s.coreCfg k) 0 = false →
        ∃ t z, exec (.taskPreempt k) s = .next t ∧ tget (t.stall k).frames (s.descOf i).prio {} = (s.stall k).core
          ∧ (t.stall k).run = none ∧ t.inst? i.task i.content = some z ∧ z.st = .suspended
          ∧ t.count (.pdkSwitch k) = (s.count (.pdkSwitch k) + 1) % 2 ^ 32
          ∧ (∀ q, q ≠ (s.descOf i).prio → tget (t.stall k).frames q {} = tget (s.stall k).frames q {})
          ∧ (∀ j, j ≠ k → t.stall j = s.stall j))
    ∧ (∀ (k : Nat) (i y : Inst) (s : State), k < s.nStalls → s.running? k = some i → s.best k = some y →
        (s.stall k).sealing = none → (s.stall k).wait = .none → (s.stall k).runtime = false →
        (s.descOf i).prio < (s.descOf y).prio → bitOf (s.coreCfg k) 0 = true →
        ∃ t, exec (.taskPreempt k) s = .next t ∧ t.stall k = { s.stall k with runtime := true }
          ∧ t.pdk.insts = s.pdk.insts ∧ (∀ j, j ≠ k → t.stall j = s.stall j))
    ∧ (∀ (k : Nat) (i y : Inst) (s : State), s.running? k = some i → s.best k = some y → (s.descOf y).prio ≤ (s.descOf i).prio →
        exec (.taskPreempt k) s = .next s)
    ∧ (∀ (k : Nat) (i : Inst) (s : State), s.running? k = some i → (s.stall k).runtime = true →
        ∃ t, exec (.switchHandlerTimeout k) s = .next t ∧ tget (t.stall k).frames (s.descOf i).prio {} = (s.stall k).core
          ∧ (t.stall k).run = none ∧ (t.stall k).runtime = false)
    ∧ (∀ (k : Nat) (s : State), (s.stall k).runtime = false → exec (.switchHandlerTimeout k) s = .next s)
    ∧ (∀ (d : Nat) (i : Inst) (s : State),
        s.pdk.insts.reverse.find? (fun i => decide (i.task = d) && decide (i.st ≠ .ended) && !i.delayMet) = some i →
        (s.descOf i).delayUs ≠ 0 → (i.relNs + 1000 * (s.descOf i).delayUs.toNat ≤ s.elt →
            ∃ t z, exec (.delayMet d) s = .next t ∧ t.inst? i.task i.content = some z ∧ z.delayMet = true
              ∧ z.st = (if i.st = .delayed then .ready else i.st))
          ∧ (s.elt < i.relNs + 1000 * (s.descOf i).delayUs.toNat → exec (.delayMet d) s = .next s))
    ∧ (∀ (d : TaskDesc) (s : State), s.slotsUsed < 4096 → s.pdk.insts.find? (fun i => i.noSlot && decide (i.st ≠ .ended)) = none →
        s.nextGraph.primeOrder.find? (fun d => decide (d.task ∉ s.pdk.primed)) = some d →
        exec .slotPrime s = .next { s with pdk := { s.pdk with primed := s.pdk.primed ++ [d.task] } })
    ∧ (∀ (i : Inst) (s : State), s.slotsUsed < 4096 → s.pdk.insts.find? (fun i => i.noSlot && decide (i.st ≠ .ended)) = some i →
        ∃ t z, exec .slotPrime s = .next t ∧ bitOf (t.cause (.pdk (s.descOf i).home)) 2 = true
          ∧ t.inst? i.task i.content = some z ∧ z.noSlot = false)
    ∧ (∀ s : State, 4096 ≤ s.slotsUsed → exec .slotPrime s = .next s ∧ exec (.loftRefill none) s = .next s)
    ∧ (∀ (k : Nat) (i : Inst) (s : State), s.slotsUsed < 4096 → s.refillStall = some k → firstOf s (s.loftOf k) = some i →
        exec (.loftRefill none) s = .next (s.setInst { i with loft := false }))
    ∧ (∀ (k : Nat) (x : Slice) (s : State), s.farWants k = some x → k < s.nStalls → bitOf (s.coreCfg k) 2 = true →
        (s.stall k).idle = true → s.bestSuspended k = none →
        (∀ i, i ∈ s.pdk.insts → i.st = .ready → (s.descOf i).home ≠ k) →
        ∃ t, exec (.farrierGrant k) s = .next t ∧ (t.stall k).slice = true ∧ (t.stall k).core = {} ∧ (t.stall k).frames = []
          ∧ t.far.active = some { x with sinceNs := s.elt } ∧ (∀ j, j ≠ k → t.stall j = s.stall j))
    ∧ (∀ (k : Nat) (s : State), s.farWants k = none ∨ bitOf (s.coreCfg k) 2 = false ∨ (s.stall k).idle = false →
        exec (.farrierGrant k) s = .next s)
    ∧ (∀ (k : Nat) (r : StallRec) (s : State), s.pdk.winMs < s.elt / 1000000 → tfind? s.pdk.stalls k = some r →
        ∃ t, exec .pdkBusyWindow s = .next t ∧ t.stall k = { r with busy := min 1280000 r.busyAcc, busyAcc := 0 }
          ∧ t.pdk.winMs = s.elt / 1000000)
    ∧ (∀ s : State, s.elt / 1000000 ≤ s.pdk.winMs → exec .pdkBusyWindow s = .next s)

/-- PDK_CANCEL of an instance that is WAITING, DELAYED, READY, RUNNING or SUSPENDED ends it with END
cancelled, counts it at its home Stall, raises CANCELLED there and answers the number of instances
cancelled; without successors that number is 1. An instance that has completed or whose seal is in progress
answers ALREADY_DONE, one already cancelled OK with 0, and neither changes anything; no such instance, or a
task beyond the graph, answers BAD_PARAM. (R251, R252, R253, R259, R272, R289) -/
def Obligations.CancelEndsAnInstanceWithItsCascade : Prop :=
  (∀ (m task : Nat) (fn : Word) (i : Inst) (s : State), Runs m 0x0882#16 s → task < s.cfg.stl.graph.tasks.length →
      s.lastInst task = some i → s.inst? i.task i.content = some i → i.st ≠ .ended → i.stall = none → (s.stlOf i).graph.succs i.task = [] →
      ∃ t j, exec (.pdkCancel m task 1 fn) s = .next t ∧ Responded m .ok (le 4 1) s t
        ∧ t.inst? i.task i.content = some j ∧ j.st = .ended ∧ j.fin = some .cancelled
        ∧ bitOf (t.cause (.pdk (s.descOf i).home)) 0 = true
        ∧ t.count (.pdkCancel (s.descOf i).home) = (s.count (.pdkCancel (s.descOf i).home) + 1) % 2 ^ 32
        ∧ t.cfg = s.cfg ∧ (∀ k, (t.stall k).core = (s.stall k).core))
    ∧ (∀ (m task : Nat) (fn : Word) (i : Inst) (s : State), Runs m 0x0882#16 s → task < s.cfg.stl.graph.tasks.length →
        s.lastInst task = some i → i.st = .ended → i.fin = some .completed →
        ∃ t, exec (.pdkCancel m task 1 fn) s = .next t ∧ Answers m .alreadyDone [] s s t)
    ∧ (∀ (m task : Nat) (fn : Word) (i : Inst) (s : State), Runs m 0x0882#16 s → task < s.cfg.stl.graph.tasks.length →
        s.lastInst task = some i → i.st = .ended → i.fin = some .cancelled →
        ∃ t, exec (.pdkCancel m task 1 fn) s = .next t ∧ Answers m .ok (le 4 0) s s t)
    ∧ (∀ (m task : Nat) (fn : Word) (i : Inst) (k : Nat) (s : State), Runs m 0x0882#16 s → task < s.cfg.stl.graph.tasks.length →
        s.lastInst task = some i → i.st ≠ .ended → i.stall = some k → (s.stall k).run = some (i.task, i.content) →
        (s.stall k).sealing ≠ none → ∃ t, exec (.pdkCancel m task 1 fn) s = .next t ∧ Answers m .alreadyDone [] s s t)
    ∧ (∀ (m task flags : Nat) (fn : Word) (s : State), Runs m 0x0882#16 s →
        (flags % 2 = 1 → s.lastInst task = none) → (flags % 2 = 0 → s.pdk.insts.all (fun i => decide (i.task ≠ task) || decide (fnOf i.content ≠ fn))) →
        ∃ t, exec (.pdkCancel m task flags fn) s = .next t ∧ Answers m .badParam [] s s t)

/-- For every Tack instruction on Stall k, in every state, whether it retires, faults, waits, ends its
instance or cancels others: the registers, the context frames, the data memory, the fault record and the
memory errors of every other Stall stay as they are, and so do the configuration in effect, the queue of
frames due and the mailboxes. (R249, R263, R264, R265, R272, R282) -/
def Obligations.TackRowsLeaveOtherStallsAlone : Prop :=
  ∀ (ins : Instr) (k op j : Nat) (s t : State), tackOf ins = some (k, op) → exec ins s = .next t → j ≠ k →
    (t.stall j).core = (s.stall j).core ∧ (t.stall j).frames = (s.stall j).frames ∧ (t.stall j).scratch = (s.stall j).scratch
      ∧ (t.stall j).bad = (s.stall j).bad ∧ (t.stall j).fault = (s.stall j).fault ∧ (t.stall j).soft = (s.stall j).soft
      ∧ t.cfg = s.cfg ∧ t.sched = s.sched ∧ t.mbx = s.mbx

/-- A packet of an input that matches the geometry writes its rows into the buffers being filled, and
nowhere else; with the marker, once every octet of every line is there, those buffers become READY; a line
not whole at the marker, a row or octet beyond the record, a lost packet or no FREE buffer discards the
frame, frees its buffers, counts it and raises INPUT_INCOMPLETE; a packet of another geometry frees them and
raises INPUT_FORMAT; an input that is not enabled takes nothing. A paired device notes what the peer holds
complete. A stripe adds its rows to the canvas buffer, advances ROWS_DONE and releases the segments whose
rows it completes, DATA_ERROR where a word failed; the end of a composition frees the buffers no longer
LATCHED, except those that a waiting composition reads, and starts the waiting content. LAYER_WRITE puts the
frame that its descriptors have moved, READY, into a FREE buffer under the first boundary at least 120 us
after its completion, on a LEAD after the later one of its own and the SHADOW's copy, and not before its
target; it waits where no buffer is FREE or an earlier write to the layer waits, and is refused with its
status; one that waited completes once a buffer is FREE. An earlier LAYER_WRITE comes first. The SHADOW
keeps the LEAD's copy. (R155, R158, R162, R163, R164, R179, R180, R181, R182, R243) -/
def Obligations.CompositionAndItsSources : Prop :=
  (∀ (i : Nat) (p : VideoPkt) (s : State), 8 ≤ i ∨ (tget s.cfg.comp.inputs i {}).enable = false →
      exec (.inputPacket i p) s = .next s)
    ∧ (∀ (i : Nat) (p : VideoPkt) (s : State), i < 8 → (tget s.cfg.comp.inputs i {}).enable = true → p.fits = false →
        ∃ t, exec (.inputPacket i p) s = .next t ∧ bitOf (t.cause .comp) 11 = true ∧ t.cnt = s.cnt
          ∧ (tget t.comp.inputs i {}).mismatch = true ∧ (tget t.comp.inputs i {}).bufs = []
          ∧ (∀ e, e ∈ (tget s.comp.inputs i {}).bufs → ((t.comp.layer e.1).buf e.2).st = .free) ∧ t.cfg = s.cfg)
    ∧ (∀ (i l : Nat) (p : VideoPkt) (s : State), i < 8 → (tget s.cfg.comp.inputs i {}).enable = true → p.fits = true →
        (tget s.comp.inputs i {}).ts = none → l ∈ inputLayers s.cfg.comp i → (s.comp.layer l).freeBuf = none →
        ∃ t, exec (.inputPacket i p) s = .next t ∧ bitOf (t.cause .comp) 10 = true
          ∧ t.count (.compRxIncomplete i) = (s.count (.compRxIncomplete i) + 1) % 2 ^ 32
          ∧ (∀ n b, (t.comp.layer n).buf b = (s.comp.layer n).buf b) ∧ (tget t.comp.inputs i {}).dropped = true)
    ∧ (∀ (i n : Nat) (p : VideoPkt) (s : State), i < 8 → (tget s.cfg.comp.inputs i {}).enable = true → p.fits = true →
        (tget s.comp.inputs i {}).ts = some p.ts → (tget s.comp.inputs i {}).dropped = false →
        (tget s.comp.inputs i {}).nextSeq = some n → n ≠ p.seq →
        ∃ t, exec (.inputPacket i p) s = .next t ∧ bitOf (t.cause .comp) 10 = true
          ∧ t.count (.compRxIncomplete i) = (s.count (.compRxIncomplete i) + 1) % 2 ^ 32
          ∧ (∀ e, e ∈ (tget s.comp.inputs i {}).bufs → ((t.comp.layer e.1).buf e.2).st = .free)
          ∧ (tget t.comp.inputs i {}).bufs = [])
    ∧ (∀ (i : Nat) (p : VideoPkt) (f : RowFrag) (s : State), i < 8 → (tget s.cfg.comp.inputs i {}).enable = true → p.fits = true →
        (tget s.comp.inputs i {}).ts = some p.ts → (tget s.comp.inputs i {}).dropped = false →
        (tget s.comp.inputs i {}).nextSeq = some p.seq → p.marker = false → p.rows = [f] →
        f.row < (tget s.cfg.comp.inputs i {}).height → f.off < (tget s.cfg.comp.inputs i {}).width →
        (tget s.cfg.comp.inputs i {}).offBytes f.off + f.data.length ≤ (tget s.cfg.comp.inputs i {}).rowBytes →
        ((tget s.comp.inputs i {}).bufs.map (·.1)).Nodup →
        ∃ t, exec (.inputPacket i p) s = .next t ∧ t = { s with comp := t.comp }
          ∧ (∀ e a, e ∈ (tget s.comp.inputs i {}).bufs →
              a = f.row * (tget s.cfg.comp.inputs i {}).rowBytes + (tget s.cfg.comp.inputs i {}).offBytes f.off →
              mread ((t.comp.layer e.1).buf e.2).data a f.data.length = f.data
                ∧ (∀ x, x < a ∨ a + f.data.length ≤ x →
                    mget ((t.comp.layer e.1).buf e.2).data x = mget ((s.comp.layer e.1).buf e.2).data x)
                ∧ (∀ b, b ≠ e.2 → (t.comp.layer e.1).buf b = (s.comp.layer e.1).buf b))
          ∧ (∀ l, l ∉ (tget s.comp.inputs i {}).bufs.map (·.1) → (t.comp.layer l).bufs = (s.comp.layer l).bufs))
    ∧ (∀ (i : Nat) (p : VideoPkt) (s : State), i < 8 → (tget s.cfg.comp.inputs i {}).enable = true → p.fits = true →
        (tget s.comp.inputs i {}).ts = some p.ts → (tget s.comp.inputs i {}).dropped = false →
        (tget s.comp.inputs i {}).nextSeq = some p.seq → p.marker = true → p.rows = [] →
        (∀ y, y < (tget s.cfg.comp.inputs i {}).height →
          (tget s.cfg.comp.inputs i {}).rowBytes ≤ covered (tget (tget s.comp.inputs i {}).rows y [])) →
        ((tget s.comp.inputs i {}).bufs.map (·.1)).Nodup →
        ∃ t, exec (.inputPacket i p) s = .next t ∧ (tget t.comp.inputs i {}).bufs = [] ∧ t.cnt = s.cnt ∧ t.causes = s.causes
          ∧ (∀ e, e ∈ (tget s.comp.inputs i {}).bufs →
              (t.comp.layer e.1).buf e.2 = { (s.comp.layer e.1).buf e.2 with st := .ready })
          ∧ (s.pair.role = .lead ∨ s.pair.role = .shadow → t.out = .inputComplete i p.ts :: s.out)
          ∧ (s.pair.role ≠ .lead → s.pair.role ≠ .shadow → t.out = s.out))
    ∧ (∀ (i : Nat) (p : VideoPkt) (s : State), i < 8 → (tget s.cfg.comp.inputs i {}).enable = true → p.fits = true →
        (tget s.comp.inputs i {}).ts = some p.ts → (tget s.comp.inputs i {}).dropped = false →
        (tget s.comp.inputs i {}).nextSeq = some p.seq →
        (p.marker = true ∧ p.rows = [] ∧ (∃ y, y < (tget s.cfg.comp.inputs i {}).height
            ∧ covered (tget (tget s.comp.inputs i {}).rows y []) < (tget s.cfg.comp.inputs i {}).rowBytes))
          ∨ (∃ f, f ∈ p.rows ∧ ((tget s.cfg.comp.inputs i {}).height ≤ f.row
            ∨ (tget s.cfg.comp.inputs i {}).rowBytes < (tget s.cfg.comp.inputs i {}).offBytes f.off + f.data.length)) →
        ∃ t, exec (.inputPacket i p) s = .next t ∧ bitOf (t.cause .comp) 10 = true
          ∧ t.count (.compRxIncomplete i) = (s.count (.compRxIncomplete i) + 1) % 2 ^ 32
          ∧ (∀ e, e ∈ (tget s.comp.inputs i {}).bufs → ((t.comp.layer e.1).buf e.2).st = .free)
          ∧ (tget t.comp.inputs i {}).bufs = [])
    ∧ (∀ (i : Nat) (ts : Word) (s : State), i < 8 → (s.pair.role = .lead ∨ s.pair.role = .shadow) →
        ∃ t, exec (.peerInputComplete i ts) s = .next t ∧ t = { s with comp := t.comp } ∧ t.comp.layers = s.comp.layers
          ∧ (tget t.comp.inputs i {}).peerDone = ((ts, s.elt) :: (tget s.comp.inputs i {}).peerDone).take 16)
    ∧ (∀ (i : Nat) (ts : Word) (s : State), 8 ≤ i ∨ (s.pair.role ≠ .lead ∧ s.pair.role ≠ .shadow) → exec (.peerInputComplete i ts) s = .next s)
    ∧ (∀ (ls : List LineErr) (bs : List BankErr) (n : Nat) (s : State), s.comp.composing = some n →
        s.comp.rowsDone < canvasH s.comp.cfg → ∃ t, exec (.stripeDone ls bs) s = .next t
          ∧ t.comp.rowsDone = s.comp.rowsDone + min 64 (canvasH s.comp.cfg - s.comp.rowsDone)
          ∧ (∃ w, (tget t.comp.canvas (n % 3) {}).words = (tget s.comp.canvas (n % 3) {}).words ++ w)
          ∧ (∀ b, b ≠ n % 3 → tget t.comp.canvas b {} = tget s.comp.canvas b {})
          ∧ t.comp.layers = s.comp.layers ∧ t.cfg = s.cfg
          ∧ (ls = [] → bs = [] → s.pdk.bad = [] → t.causes = s.causes) ∧ (ls ≠ [] ∨ bs ≠ [] → bitOf (t.cause .comp) 12 = true)
          ∧ (∀ j g, s.pdk.content = some n → s.comp.rowsDone / 64 < 256 → s.cfg.map.map.segs[j]? = some g →
              segStripe s.cfg.comp g = s.comp.rowsDone / 64 → tget s.pdk.hw (256 + j) 0 = 1 → (n, 256 + j) ∈ t.pdk.ready))
    ∧ (∀ (ls : List LineErr) (bs : List BankErr) (s : State),
        s.comp.composing = none ∨ canvasH s.comp.cfg ≤ s.comp.rowsDone → exec (.stripeDone ls bs) s = .next s)
    ∧ (∀ s : State, s.comp.composing.isSome = true → canvasH s.comp.cfg ≤ s.comp.rowsDone → s.comp.queue = [] →
        ∃ t, exec .compositionEnd s = .next t ∧ t = { s with comp := t.comp } ∧ t.comp.composing = none
          ∧ (∀ l b, l < 8 → b < 3 → ((s.comp.layer l).buf b).st = .latched → (s.comp.layer l).latched ≠ some b →
              ((t.comp.layer l).buf b).st = .free)
          ∧ (∀ l b, ((s.comp.layer l).buf b).st ≠ .latched ∨ (s.comp.layer l).latched = some b →
              (t.comp.layer l).buf b = (s.comp.layer l).buf b))
    ∧ (∀ (w : CompWait) (r : List CompWait) (s : State), s.comp.composing.isSome = true →
        canvasH s.comp.cfg ≤ s.comp.rowsDone → s.comp.queue = w :: r → ∃ t, exec .compositionEnd s = .next t
          ∧ t = { s with comp := t.comp } ∧ t.comp.composing = some w.content ∧ t.comp.cfg = w.cfg ∧ t.comp.snaps = w.snaps
          ∧ t.comp.queue = r ∧ t.comp.rowsDone = 0 ∧ t.comp.overrun = true
          ∧ (∀ x b, x ∈ w.snaps → x.buf = some b → (t.comp.layer x.layer).buf b = (s.comp.layer x.layer).buf b))
    ∧ (∀ s : State, s.comp.composing = none ∨ s.comp.rowsDone < canvasH s.comp.cfg → exec .compositionEnd s = .next s)
    ∧ (∀ (m l b : Nat) (target : Word) (held : Option Nat) (data : List Byte) (s : State), Runs m 0x0505#16 s →
        s.writeBefore m = false → l ≤ 8 → (l = 8 → s.isP = true) → (layerOf s.cfg.comp l).kind = 1 →
        (∀ w, w ∈ s.comp.waits → w.layer ≠ l) → s.pair.role ≠ .shadow → s.mbxTransport m = some .pcie →
        s.moved m = some data →
        data.length = frameBytes (layerOf s.cfg.comp l).format (layerOf s.cfg.comp l).sw (layerOf s.cfg.comp l).sh →
        (s.comp.layer l).freeBuf = some b →
        let f := max (s.fullOf target) (max s.ym.next
          (s.cfg.ym.firstFrom ((if s.pair.role = .lead then max s.elt (held.getD 0) else s.elt) + 120000)))
        ((∀ e, freeingFrame l s.cfg.comp s.sched = some e → f < e) → ∃ t, exec (.layerWrite m l target held) s = .next t
            ∧ Responded m .ok (le 4 (fnOf f).toNat) s t
            ∧ (t.comp.layer l).buf b = { st := .ready, data := mwrite [] 0 data, frame := f }
            ∧ (∀ j, j ≠ l → t.comp.layer j = s.comp.layer j) ∧ t.cfg = s.cfg
            ∧ (s.pair.role = .lead → t.out = .layerCopy l f data :: s.out) ∧ (s.pair.role ≠ .lead → t.out = s.out))
          ∧ (∀ e, freeingFrame l s.cfg.comp s.sched = some e → e ≤ f →
            ∃ t, exec (.layerWrite m l target held) s = .next t ∧ Answers m .badState [] s s t))
    ∧ (∀ (m l : Nat) (target : Word) (held : Option Nat) (s : State), Runs m 0x0505#16 s → s.writeBefore m = false →
        l ≤ 8 → (l = 8 → s.isP = true) → (layerOf s.cfg.comp l).kind = 1 →
        (∃ w, w ∈ s.comp.waits ∧ w.layer = l) ∨ (s.pair.role ≠ .shadow ∧ (s.comp.layer l).freeBuf = none
          ∧ ∃ data, s.moved m = some data ∧ data.length
              = frameBytes (layerOf s.cfg.comp l).format (layerOf s.cfg.comp l).sw (layerOf s.cfg.comp l).sh) →
        ∃ t, exec (.layerWrite m l target held) s = .next t ∧ t.waits m 0x0505#16 = true
          ∧ t.comp = { s.comp with waits := s.comp.waits ++ [{ mailbox := m, layer := l, target := target }] })
    ∧ (∀ (m l : Nat) (target : Word) (held : Option Nat) (s : State), Runs m 0x0505#16 s → s.writeBefore m = false →
        (8 < l → ∃ t, exec (.layerWrite m l target held) s = .next t ∧ Answers m .badParam [] s s t)
          ∧ (l = 8 → s.isP = false → ∃ t, exec (.layerWrite m l target held) s = .next t
              ∧ Answers m .variantUnsupported [] s s t)
          ∧ (l < 8 → (layerOf s.cfg.comp l).kind ≠ 1 → ∃ t, exec (.layerWrite m l target held) s = .next t
              ∧ Answers m .badState [] s s t)
          ∧ (l < 8 → (layerOf s.cfg.comp l).kind = 1 → (∀ w, w ∈ s.comp.waits → w.layer ≠ l) →
              (s.pair.role = .shadow → ∃ t, exec (.layerWrite m l target held) s = .next t ∧ Answers m .badState [] s s t)
              ∧ (s.pair.role ≠ .shadow → (∀ data, s.moved m = some data → data.length
                  ≠ frameBytes (layerOf s.cfg.comp l).format (layerOf s.cfg.comp l).sw (layerOf s.cfg.comp l).sh) →
                ∃ t, exec (.layerWrite m l target held) s = .next t ∧ Answers m .badParam [] s s t)))
    ∧ (∀ (m l : Nat) (target : Word) (held : Option Nat) (s : State), s.writeBefore m = true →
        exec (.layerWrite m l target held) s = .next s)
    ∧ (∀ (m b : Nat) (w : LayerWait) (held : Option Nat) (data : List Byte) (s : State), Live m s →
        s.comp.waits.find? (fun x => x.mailbox = m) = some w →
        (s.comp.waits.find? (fun x => x.layer = w.layer)).map (·.mailbox) = some m → (s.comp.layer w.layer).freeBuf = some b →
        (layerOf s.cfg.comp w.layer).kind = 1 → s.pair.role ≠ .shadow → s.moved m = some data →
        data.length = frameBytes (layerOf s.cfg.comp w.layer).format (layerOf s.cfg.comp w.layer).sw
          (layerOf s.cfg.comp w.layer).sh →
        let f := s.latchFrame w.target (if s.pair.role = .lead then max s.elt (held.getD 0) else s.elt)
        (∀ e, freeingFrame w.layer s.cfg.comp s.sched = some e → f < e) →
        ∃ t, exec (.layerWriteBufferFree { mailbox := m, held := held }) s = .next t ∧ Responded m .ok (le 4 (fnOf f).toNat) s t
          ∧ ((t.comp.layer w.layer).buf b).st = .ready ∧ ((t.comp.layer w.layer).buf b).data = mwrite [] 0 data
          ∧ t.comp.waits = s.comp.waits.filter (fun x => x.mailbox ≠ m))
    ∧ (∀ (m : Nat) (held : Option Nat) (s : State), s.comp.waits.find? (fun x => x.mailbox = m) = none →
        exec (.layerWriteBufferFree { mailbox := m, held := held }) s = .next s)
    ∧ (∀ (l b frame : Nat) (data : List Byte) (s : State), s.pair.role = .shadow → (s.comp.layer l).freeBuf = some b →
        ∃ t, exec (.peerLayerCopy l frame data) s = .next t ∧ t = { s with comp := t.comp }
          ∧ (t.comp.layer l).buf b = { st := .ready, data := mwrite [] 0 data, frame := frame }
          ∧ (∀ j, j ≠ l → t.comp.layer j = s.comp.layer j))
    ∧ (∀ (l frame : Nat) (data : List Byte) (s : State), s.pair.role ≠ .shadow ∨ (s.comp.layer l).freeBuf = none →
        exec (.peerLayerCopy l frame data) s = .next s)

/-- The segment the mapper takes, where its rings have room, is mapped: its pixels, those not packed and
those that depend on a failing word are counted, and the codes of a packed pixel stand at its positions of
its flow, 0 for a pixel of an OFF group or one that a failing word strikes; it is finished, the
configuration stays. Without room, the mapper waits once, counted and raised per port, and takes no other
segment. A window that closes on segments not mapped counts them once and maps on. A packing group is packed
into its flow; a flow whose entries fail is silenced for the content; without room for any ready group the
packer waits; freed space lets the waiting producer go on. From 100 us to 20 us before its next boundary the
LEAD sends the number of the last message accepted more than 100 us before that boundary; the SHADOW takes
what is forwarded. LAMP_GROUP_RESET schedules the reset for the first boundary at least 120 us ahead, on a
SHADOW for the LEAD's where it has it, and answers it; no such group is BAD_PARAM, a faulty member or
MEMBERSHIP BAD_STATE. (R188, R201, R202, R203, R206, R207, R214, R229, R295, R297) -/
def Obligations.MappingPackingAndLampMessages : Prop :=
  (∀ (j n : Nat) (g : MapSeg) (errs : List FillErr) (s : State), s.nextSeg = some (n, j) → s.flw.waitSeg = none →
      (s.cfgFor n).map.map.segs[j]? = some g →
      let u : State := { s with cfg := s.cfgFor n }; let rs := segRecs u.cfg.map.map g
      let bad := fun i => errs.any (fun e => e.strikes u.cfg (g.first + i) (rs.getD i {}) (pixelOut u n (rs.getD i {})))
      (fullPorts u n g = [] →
        ∃ t, exec (.segmentMapped j errs) s = .next t ∧ (n, j) ∈ t.map.done ∧ t.map.content = some n ∧ t.cfg = s.cfg
          ∧ t.comp = s.comp ∧ t.flw.waitSeg = none
          ∧ t.count .mapPixels = (s.count .mapPixels + rs.length) % 2 ^ 64
          ∧ (s.count .mapUnpacked < 2 ^ 32 →
              t.count .mapUnpacked = (s.count .mapUnpacked + (rs.filter (isUnpacked u.cfg)).length) % 2 ^ 32)
          ∧ (s.count .mapDataErr < 2 ^ 32 →
              t.count .mapDataErr = (s.count .mapDataErr + ((List.range rs.length).filter bad).length) % 2 ^ 32)
          ∧ (errs.any FillErr.mapped = true → bitOf (t.cause .map) 0 = true)
          ∧ (∀ (i e : Nat) (r : PixRec) (f : FlowRec), rs[i]? = some r →
              packedInto u.cfg r = some f → r.flow < 65536 → e < f.emitters →
              (∀ (k : Nat) (y : PixRec), k ≠ i → rs[k]? = some y →
                y.flow < 65536 ∧ (y.flow ≠ r.flow ∨ y.offset ≠ r.offset)) →
              tget (tget t.flw.pix (pixKey r.flow n) []) (r.offset * f.emitters + e) 0
                = (pixelCodes u n (g.first + i) r (pixelOut u n r) (bad i)).getD e 0
              ∧ (bad i = true ∨ isDark u n (g.first + i) = true →
                  tget (tget t.flw.pix (pixKey r.flow n) []) (r.offset * f.emitters + e) 0 = 0)))
      ∧ (fullPorts u n g ≠ [] →
        ∃ t, exec (.segmentMapped j errs) s = .next t ∧ t.flw = { s.flw with waitSeg := some (n, j) } ∧ t.map = s.map
          ∧ t.pdk = s.pdk
          ∧ (∀ p, p ∈ fullPorts u n g → bitOf (t.cause (.flwTx p)) 1 = true
              ∧ t.count (.flwRingWait p) = (s.count (.flwRingWait p) + 1) % 2 ^ 32)))
    ∧ (∀ (j : Nat) (errs : List FillErr) (s : State), s.flw.waitSeg.isSome = true ∨ (∀ n, s.nextSeg ≠ some (n, j)) →
        exec (.segmentMapped j errs) s = .next s)
    ∧ (∀ (n x : Nat) (s : State), s.pdk.ready.find? (fun e => decide (256 ≤ e.2) && decide (e.2 < 4352)) = some (n, x) →
        (s.cfgFor n).ym.ptAt n ≤ s.elt + 50000 → (n, x - 256) ∉ s.map.overruns →
        ∃ t l, exec .mapWindowClose s = .next t ∧ bitOf (t.cause .map) 2 = true ∧ t.map.overruns = s.map.overruns ++ l
          ∧ (n, x - 256) ∈ l ∧ t.count .mapOverrun = (s.count .mapOverrun + l.length) % 2 ^ 32 ∧ t.pdk = s.pdk
          ∧ t.map.done = s.map.done ∧ t.flw = s.flw)
    ∧ (∀ (n x : Nat) (s : State), s.pdk.ready.find? (fun e => decide (256 ≤ e.2) && decide (e.2 < 4352)) = some (n, x) →
        s.elt + 50000 < (s.cfgFor n).ym.ptAt n → exec .mapWindowClose s = .next s)
    ∧ (∀ (n g f : Nat) (r : FlowRec) (errs : List FillErr) (s : State),
        s.packReady.find? (fun e => (groupFull s e.1 e.2).isEmpty) = some (n, g) → groupFlows (s.cfgFor n) g = [(f, r)] →
        (n, f) ∉ s.flw.dead → (∀ h, .flow f h ∉ errs) → r.onLine = true →
        r.kind ≠ 2 ∨ s.elt + 50000 ≤ (s.cfgFor n).ym.ptAt n →
        ∃ t, exec (.packDone errs) s = .next t ∧ t.flw.waitPack = false ∧ t.cfg = s.cfg ∧ t.map = s.map
          ∧ (errs = [] → t.eth = s.eth) ∧ tget (t.lp r.port).next n [] = (messageOf { s with cfg := s.cfgFor n } n f r).1
          ∧ (∀ p, p ≠ r.port → t.lp p = s.lp p))
    ∧ (∀ (n g f : Nat) (r : FlowRec) (errs : List FillErr) (s : State),
        s.packReady.find? (fun e => (groupFull s e.1 e.2).isEmpty) = some (n, g) → groupFlows (s.cfgFor n) g = [(f, r)] →
        (n, f) ∉ s.flw.dead → errs = [] → r.onLine = false →
        (∀ k, s.ym.lit = some k → k < n) →
        frameCount { s with cfg := s.cfgFor n } n f r = 1 →
        (let u : State := { s with cfg := s.cfgFor n }
         (s.port r.port).link = true → u.portOn r.port = true → (s.port r.port).lpi = false → (s.port r.port).since ≤ n →
           u.cutHolds f n = false → u.netOn n = true → r.guaranteed = true →
           ∃ t, exec (.packDone errs) s = .next t ∧ t.line = s.line ∧ t.cfg = s.cfg
             ∧ (t.port r.port).guar = (s.port r.port).guar ++ [messageFrame u n f r 0]
             ∧ (t.port r.port).be = (s.port r.port).be))
    ∧ (∀ (n g : Nat) (errs : List FillErr) (s : State), s.packReady.find? (fun e => (groupFull s e.1 e.2).isEmpty) = some (n, g) →
        ∃ t, exec (.packDone errs) s = .next t ∧ t.flw.waitPack = false ∧ t.cfg = s.cfg ∧ t.map = s.map
          ∧ (∀ f h, .flow f h ∈ errs → (n, f) ∈ t.flw.dead))
    ∧ (∀ (n g : Nat) (q : List (Nat × Nat)) (errs : List FillErr) (s : State), s.packReady = (n, g) :: q →
        (∀ e, e ∈ s.packReady → groupFull s e.1 e.2 ≠ []) → s.flw.waitPack = false →
        ∃ t, exec (.packDone errs) s = .next t ∧ t.flw = { s.flw with waitPack := true } ∧ t.pdk = s.pdk
          ∧ (∀ p, p ∈ groupFull s n g → bitOf (t.cause (.flwTx p)) 1 = true
              ∧ t.count (.flwRingWait p) = (s.count (.flwRingWait p) + 1) % 2 ^ 32))
    ∧ (∀ (errs : List FillErr) (s : State), s.packReady = [] → exec (.packDone errs) s = .next s)
    ∧ (∀ (errs : List FillErr) (n j : Nat) (g : MapSeg) (s : State), s.flw.waitSeg = some (n, j) → (n, 256 + j) ∈ s.pdk.ready →
        (s.cfgFor n).map.map.segs[j]? = some g → fullPorts { s with cfg := s.cfgFor n } n g = [] →
        ∃ t, exec (.ringSpaceFreed errs) s = .next t ∧ (n, j) ∈ t.map.done ∧ t.flw.waitSeg = none ∧ t.cfg = s.cfg)
    ∧ (∀ (errs : List FillErr) (e : Nat × Nat) (s : State), s.flw.waitSeg = none → e ∈ s.packReady → groupFull s e.1 e.2 = [] →
        exec (.ringSpaceFreed errs) s = .next { s with flw := { s.flw with waitPack := false } })
    ∧ (∀ (errs : List FillErr) (s : State), s.flw.waitSeg = none → s.flw.waitPack = false → exec (.ringSpaceFreed errs) s = .next s)
    ∧ (∀ s : State, let fb := s.cfg.ym.fbAt s.ym.next
        (s.pair.role = .lead → fb ≤ s.elt + 100000 → s.elt + 20000 ≤ fb → ∃ t n, exec .lampSetNumberSend s = .next t
            ∧ t = { s with lamp := { s.lamp with setNumber := some n }, out := .lampForward (.setNumber n) :: s.out }
            ∧ (∀ a, a ∈ s.lamp.acc → a.atNs + 100000 < fb → a.number ≤ n)
            ∧ ((∃ a, a ∈ s.lamp.acc ∧ a.atNs + 100000 < fb) → ∃ a, a ∈ s.lamp.acc ∧ a.atNs + 100000 < fb ∧ n = a.number)
            ∧ (s.lamp.acc = [] → n = s.lamp.next - 1))
          ∧ (s.pair.role ≠ .lead ∨ s.elt + 100000 < fb ∨ fb < s.elt + 20000 → exec .lampSetNumberSend s = .next s))
    ∧ (∀ (k : Nat) (m : LampMsg) (s : State), s.pair.role = .shadow → exec (.peerLampForward (.msg k m)) s = .next { s with
        lamp := { s.lamp with acc := s.lamp.acc ++ [{ number := k, atNs := s.elt, msg := m }], next := k + 1 } })
    ∧ (∀ (k : Nat) (s : State), s.pair.role = .shadow → exec (.peerLampForward (.setNumber k)) s
        = .next { s with lamp := { s.lamp with setNumber := some k } })
    ∧ (∀ (f : LampFwd) (s : State), s.pair.role ≠ .shadow → exec (.peerLampForward f) s = .next s)
    ∧ (∀ (m g : Nat) (lead : Option Nat) (r : Group) (s : State), Runs m 0x0705#16 s → s.mirrored (s.box m).req = true →
        tfind? s.cfg.lamp.groups g = some r →
        (∀ p, p ∈ r.members → (s.lamp.pixAt p).status ≠ 2 ∧ (s.lamp.pixAt p).status ≠ 3) → (s.lamp.grpAt g).member = false →
        let f := if s.pair.role = .shadow then lead.getD s.boundaryIn120 else s.boundaryIn120
        ∃ t, exec (.lampGroupReset m { group := g, lead := lead }) s = .next t
          ∧ Answers m .ok (le 4 (fnOf f).toNat) s { s with
              lamp := { s.lamp with grp := tset s.lamp.grp g { s.lamp.grpAt g with resetAt := some f } }
              out := if s.pair.role = .lead then .groupReset g f :: s.out else s.out } t)
    ∧ (∀ (m g : Nat) (lead : Option Nat) (r : Group) (s : State), Runs m 0x0705#16 s → s.mirrored (s.box m).req = true →
        tfind? s.cfg.lamp.groups g = some r →
        (∃ p, p ∈ r.members ∧ ((s.lamp.pixAt p).status = 2 ∨ (s.lamp.pixAt p).status = 3)) ∨ (s.lamp.grpAt g).member = true →
        ∃ t, exec (.lampGroupReset m { group := g, lead := lead }) s = .next t ∧ Answers m .badState [] s s t)
    ∧ (∀ (m g : Nat) (lead : Option Nat) (s : State), Runs m 0x0705#16 s → s.mirrored (s.box m).req = true →
        tfind? s.cfg.lamp.groups g = none →
        ∃ t, exec (.lampGroupReset m { group := g, lead := lead }) s = .next t ∧ Answers m .badParam [] s s t)

/-- A port that is on, has its link, is idle and not paused starts its first Gate frame, else the first
guaranteed frame of the content in transmission, else the first best-effort one, taken out of its queue and
stamped with the instant its SFD passes the medium, which a one-step Sync carries as its originTimestamp and
a forwarded event message's correctionField grows by less its arrival; within the Gate guard it starts none
but a Gate frame. A frame that has left is counted with its octets; the last frame of a data message notes
the content as sent; a stamp asked for joins the queue; an ETH_TX without one is answered. A Delay_Req is
outstanding once its stamp is queued; with 64 entries queued the stamp is lost, counted, raised and its tag
kept, and the exchange is discarded. An underrun of a cut-through frame raises the threshold by 256 up to
9,216, 4,096 frames without one lower it, never below ETH_CT. A drained stamp answers its ETH_TX, and that
of a Sync goes out in a Follow_Up. Link up, where the port's reference is present: LINK_UP, the next content
on. Link down: the calendar is dropped, LINK_DOWN. Every 60 s each flow destination is resolved again, every
30 s LLDP goes out. LPI is entered once idle, with neither the Gate nor a Delay_Req near (one interval after
the latest, log 45), and left before the Gate; PAUSE ends when its time is over; every 10 s discovery goes
out. Where the condition fails nothing changes. (R91, R140, R298, R322, R333, R345, R346, R348, R350, R351,
R352, R353) -/
def Obligations.EthernetPortsTransmit : Prop :=
  (∀ (p : Nat) (x : TxFrame) (r : List TxFrame) (s : State), s.portOn p = true → (s.port p).link = true →
      (s.port p).paused = false → (s.port p).cur = none → s.glb.clk.rootLock = true → s.glb.faulted = false →
      s.brd.txStop = false → (s.port p).gates = x :: r → ∃ t y, exec (.ethFrameTxStart p) s = .next t
        ∧ t.port p = { s.port p with gates := r, cur := some y, lpi := false }
        ∧ ((∀ q o, x.kind ≠ .ptp (.sync q o)) → y.kind = x.kind) ∧ (x.ingress = none → y.body = x.body)
        ∧ y.sfdLt = BitVec.ofNat 32 (s.txInstant p / 65536) ∧ (∀ q, q ≠ p → t.port q = s.port q)
        ∧ t = { s with eth := t.eth, freeCtr := t.freeCtr })
    ∧ (∀ (p : Nat) (s : State), bitOf (s.ethCfg p) 30 = false →
        s.txInstant p = s.elt * 65536 + fld s.tim.frac 31 16 + 24166400)
    ∧ (∀ (p : Nat) (x : TxFrame) (s : State), s.portOn p = true → (s.port p).link = true →
        (s.port p).paused = false → (s.port p).cur = none → s.glb.clk.rootLock = true → s.glb.faulted = false →
        s.brd.txStop = false → (s.port p).gates = [] → beforeGate s p x = true →
        ((s.port p).guar.find? (mayStart s) = some x → ∃ t y, exec (.ethFrameTxStart p) s = .next t
          ∧ t.port p = { s.port p with guar := (s.port p).guar.erase x, cur := some y, lpi := false }
          ∧ ((∀ q o, x.kind ≠ .ptp (.sync q o)) → y.kind = x.kind) ∧ (x.ingress = none → y.body = x.body)
          ∧ t = { s with eth := t.eth, freeCtr := t.freeCtr })
        ∧ ((s.port p).guar.find? (mayStart s) = none → (s.port p).be.find? (mayStart s) = some x →
          ∃ t y, exec (.ethFrameTxStart p) s = .next t
            ∧ t.port p = { s.port p with be := (s.port p).be.erase x, cur := some y, lpi := false }
            ∧ ((∀ q o, x.kind ≠ .ptp (.sync q o)) → y.kind = x.kind) ∧ (x.ingress = none → y.body = x.body)
            ∧ (∀ q o, x.kind = .ptp (.sync q o) → x.tag = none → y.kind = .ptp (.sync q (toPtp (s.txInstant p / 65536))))
            ∧ (∀ a, x.kind = .forward → x.ingress = some a → y.body = addResidence x.body (s.txInstant p - a))
            ∧ t = { s with eth := t.eth, freeCtr := t.freeCtr }))
    ∧ (∀ (p a : Nat) (s : State), (s.port p).gates = [] → s.nextPt = some a → a ≤ s.elt + gateGuard s.cfg p → s.elt < a →
        exec (.ethFrameTxStart p) s = .next s)
    ∧ (∀ (p : Nat) (s : State), s.portOn p = false ∨ (s.port p).link = false ∨ (s.port p).paused = true
          ∨ (s.port p).cur.isSome = true ∨ s.glb.clk.rootLock = false ∨ s.brd.txStop = true →
        exec (.ethFrameTxStart p) s = .next s)
    ∧ (∀ (p : Nat) (x : TxFrame) (s : State), p < s.nEth → (s.port p).cur = some x →
        ∃ t, exec (.ethFrameTxDone p) s = .next t ∧ (t.port p).cur = none
          ∧ t.count (.eth p 2) = (s.count (.eth p 2) + 1) % 2 ^ 32
          ∧ t.count (.eth p 0) = (s.count (.eth p 0) + x.octets) % 2 ^ 64
          ∧ (∀ f n g, x.kind = .data f n g 1 → x.tag = none →
              (tget s.flw.live f {}).fragsOf ≠ n ∨ (tget s.flw.live f {}).frags = 0 → t.out = .frame p s.elt x :: s.out ∧ t.mbx = s.mbx
              ∧ t.count (.flwTxMsg p) = (s.count (.flwTxMsg p) + 1) % 2 ^ 32 ∧ (tget t.flw.live f {}).sent = some n
              ∧ (tget t.flw.live f {}).sentFn = fnOf n)
          ∧ (∀ a, x.tag = some a → (s.port p).tsq.length < 64 → x.stream = false → ∃ (b : Option Nat) (c : Bool),
              (t.port p).tsq = (s.port p).tsq ++ [{ tag := a, mailbox := b, sync := c, lt := x.sfdLt, frac := x.sfdFrac
                                                    aborted := x.broken }])
          ∧ (∀ q, x.kind = .ptp (.delayReq q) → x.tag = some q → x.stream = false →
              t.tim.delayOut = (if (s.port p).tsq.length < 64 then some q else none)
                ∧ (64 ≤ (s.port p).tsq.length → bitOf (t.cause (.ethTx p)) 2 = true ∧ (t.port p).lostTag = q
                    ∧ t.count (.eth p 11) = (s.count (.eth p 11) + 1) % 2 ^ 32))
          ∧ (∀ m, x.kind = .ethTx m → x.tag = none → Live m s → s.waits m 0x0444#16 = true →
              Responded m .ok (le 4 0 ++ le 4 0 ++ le 2 0) s t))
    ∧ (∀ (p : Nat) (s : State), (s.port p).cur = none → exec (.ethFrameTxDone p) s = .next s)
    ∧ (∀ (p : Nat) (x : TxFrame) (s : State), p < s.nEth → (s.port p).cur = some x → x.stream = true →
        ∃ t, exec (.ctUnderrun p) s = .next t ∧ (t.port p).cur = none
          ∧ (t.port p).ctThr = min 9216 ((s.port p).ctThr + 256) ∧ (t.port p).ctGood = 0
          ∧ t.count (.eth p 10) = (s.count (.eth p 10) + 1) % 2 ^ 32 ∧ bitOf (t.cause (.ethTx p)) 3 = true)
    ∧ (∀ (p : Nat) (s : State), (∀ x, (s.port p).cur = some x → x.stream = false) → exec (.ctUnderrun p) s = .next s)
    ∧ (∀ (p : Nat) (s : State), 4096 ≤ (s.port p).ctGood → exec (.ctThresholdDecay p) s = .next (s.setPort p { s.port p with
          ctThr := max (fld (s.portRegs p).ct 13 0) ((s.port p).ctThr - 256), ctGood := 0 }))
    ∧ (∀ (p : Nat) (s : State), (s.port p).ctGood < 4096 → exec (.ctThresholdDecay p) s = .next s)
    ∧ (∀ (p : Nat) (a : TxStamp) (r : List TxStamp) (s : State), (s.port p).tsq = a :: r →
        (a.mailbox = none → a.sync = false ∨ a.aborted = true →
            exec (.tsqDrain p) s = .next (s.setPort p { s.port p with tsq := r }))
          ∧ (a.mailbox = none → a.sync = true → a.aborted = false → p < s.nEth → s.portOn p = true → (s.port p).link = true →
              ∃ t y, exec (.tsqDrain p) s = .next t ∧ (t.port p).tsq = r ∧ (t.port p).be = (s.port p).be ++ [y]
                ∧ y.kind = .ptp (.followUp a.tag (toPtp (extendLt a.lt s.elt)) a.frac) ∧ t = { s with eth := t.eth })
          ∧ (∀ m, a.mailbox = some m → Live m s → s.waits m 0x0444#16 = true → ∃ t, exec (.tsqDrain p) s = .next t
              ∧ (t.port p).tsq = r
              ∧ Responded m .ok (le 4 (if a.aborted then 0 else 1) ++ le 4 a.lt.toNat ++ le 2 a.frac.toNat) s t))
    ∧ (∀ (p : Nat) (s : State), (s.port p).tsq = [] → exec (.tsqDrain p) s = .next s)
    ∧ (∀ (p : Nat) (s : State), s.portOn p = true → (s.port p).link = false → s.serRef p = true → ∃ t, exec (.ethLinkUp p) s = .next t
        ∧ t.port p = { s.port p with link := true, since := s.txContent + 1, idleAt := s.elt, lldpAt := none, agreed := false, tlvSent := false
                                     tlvHeard := false }
        ∧ bitOf (t.cause (.ethTx p)) 1 = true ∧ t.cfg = s.cfg ∧ t.cnt = s.cnt ∧ (∀ q, q ≠ p → t.port q = s.port q))
    ∧ (∀ (p : Nat) (s : State), s.portOn p = false ∨ (s.port p).link = true ∨ s.serRef p = false → exec (.ethLinkUp p) s = .next s)
    ∧ (∀ (p : Nat) (s : State), (s.port p).link = true → ∃ t, exec (.ethLinkDown p) s = .next t
        ∧ (t.port p).link = false ∧ (t.port p).gates = [] ∧ (t.port p).guar = [] ∧ (t.port p).be = []
        ∧ (t.port p).cur = none ∧ bitOf (t.cause (.ethTx p)) 0 = true ∧ t.cfg = s.cfg
        ∧ (∀ q, q ≠ p → t.port q = s.port q)
        ∧ (∀ m x, (s.port p).be = [x] → (s.port p).cur = none → x.kind = .ethTx m → Live m s → s.waits m 0x0444#16 = true →
            Responded m .badState [] s t))
    ∧ (∀ (p : Nat) (s : State), (s.port p).link = false → exec (.ethLinkDown p) s = .next s)
    ∧ (∀ (p : Nat) (s : State), s.portOn p = true → (s.port p).link = true → (s.port p).arpAt + 60000000000 ≤ s.elt →
        ∃ t, exec (.arpRefresh p) s = .next t ∧ (t.port p).arpAt = s.elt ∧ t = { s with eth := t.eth }
          ∧ (∀ e, e ∈ s.cfg.flow.flows → e.2.enable = true → e.2.onEth = true → e.2.port = p → e.2.dst ≠ 0 →
              ∃ y, y ∈ (t.port p).be ∧ y.kind = .resolve e.2.dst)
          ∧ (∀ y, y ∈ (s.port p).be → y ∈ (t.port p).be) ∧ (t.port p).guar = (s.port p).guar)
    ∧ (∀ (p : Nat) (s : State), s.portOn p = false ∨ (s.port p).link = false ∨ s.elt < (s.port p).arpAt + 60000000000 →
        exec (.arpRefresh p) s = .next s)
    ∧ (∀ (p : Nat) (s : State), s.portOn p = true → (s.port p).link = true →
        (∀ a, (s.port p).lldpAt = some a → a + 30000000000 ≤ s.elt) →
        ∃ t, exec (.lldpTx p) s = .next t ∧ (t.port p).lldpAt = some s.elt
          ∧ (t.port p).be = (s.port p).be ++ [{ kind := .lldp }] ∧ t = { s with eth := t.eth })
    ∧ (∀ (p a : Nat) (s : State), (s.port p).lldpAt = some a → s.elt < a + 30000000000 → exec (.lldpTx p) s = .next s)
    ∧ (∀ (p : Nat) (s : State), s.portOn p = true → (s.port p).link = true → (s.port p).lpi = false →
        (s.port p).agreed = true → bitOf (s.ethCfg p) 27 = true → (s.port p).quiet = true →
        (s.port p).idleAt + fld (s.portRegs p).eee 31 16 ≤ s.elt → s.ym.armed = [] → (s.port p).noLpi = none →
        gateNear s p = false → delayReqNear s p = false →
        ∃ t, exec (.lpiEnter p) s = .next t ∧ t.port p = { s.port p with lpi := true }
          ∧ t.count (.eth p 15) = (s.count (.eth p 15) + 1) % 2 ^ 32 ∧ t = { s with eth := t.eth, cnt := t.cnt })
    ∧ (∀ (p : Nat) (s : State), (s.port p).quiet = false ∨ (s.port p).agreed = false ∨ gateNear s p = true ∨ delayReqNear s p = true
          ∨ s.elt < (s.port p).idleAt + fld (s.portRegs p).eee 31 16
          ∨ (∃ c f, c ∈ s.cfg.ym.cuts ∧ c.index ∈ s.ym.armed ∧ f ∈ c.flows ∧ (tget s.cfg.flow.flows f {}).onEth = true
              ∧ (tget s.cfg.flow.flows f {}).port = p) → exec (.lpiEnter p) s = .next s)
    ∧ (∀ (p a : Nat) (s : State), s.nextPt = some a → (s.port p).lpi = true →
        (a ≤ s.elt + fld (s.portRegs p).eee 15 0 + 100 →
            exec (.lpiGateWake p) s = .next (s.setPort p { s.port p with lpi := false }))
          ∧ (s.elt + fld (s.portRegs p).eee 15 0 + 100 < a → exec (.lpiGateWake p) s = .next s))
    ∧ (∀ (p : Nat) (s : State), (s.port p).lpi = false ∨ s.nextPt = none → exec (.lpiGateWake p) s = .next s)
    ∧ (∀ (p : Nat) (s : State), (s.port p).paused = true → (s.port p).pauseEnd ≤ s.elt →
        ∃ t, exec (.pauseExpire p) s = .next t ∧ t.port p = { s.port p with paused := false }
          ∧ (∀ q, q ≠ p → t.port q = s.port q) ∧ t = { s with eth := t.eth, ym := t.ym })
    ∧ (∀ (p : Nat) (s : State), (s.port p).paused = false ∨ s.elt < (s.port p).pauseEnd → exec (.pauseExpire p) s = .next s)
    ∧ (∀ s : State, s.flw.discAt + 10000000000 ≤ s.elt → s.netOn s.txContent = true → ∃ t, exec .sacnDiscoveryTx s = .next t
        ∧ t.flw = { s.flw with discAt := s.elt } ∧ t = { s with flw := t.flw, eth := t.eth }
        ∧ (∀ p, p < s.nEth → s.portOn p = true → (s.port p).link = true →
            (t.port p).be = (s.port p).be ++ discoveryFrames s.cfg p ∧ (t.port p).guar = (s.port p).guar))
    ∧ (∀ s : State, s.elt < s.flw.discAt + 10000000000 ∨ s.netOn s.txContent = false → exec .sacnDiscoveryTx s = .next s)

/-- A port that is off or without link receives nothing. A frame with a bad FCS or one too long is counted
and raised and goes nowhere, nor does one that meets an uncorrectable word in staging. A PAUSE frame stops
the port for its time where HONOUR_PAUSE is set, and is counted in any case; one of zero quanta ends the
pause and raises nothing. A frame that a filter sends to a DRAM ring with room is stored; one without room
is dropped, counted and raised, and the ring stays; one that no filter matches is counted. A through pair
forwards another's Yardline frame to the partner. A queue that waits for OWN reads it again after POLL_US;
ETH_RING_RESTART frees the queues it names. A Yardline message with a bad header is counted and raised, one
of an unknown stream too, a duplicate is counted, and none changes what is held; a whole new lamp message is
accepted under the next number; an incomplete one is kept. FLOW_DIAG sends one request and waits; with no
answer in time it completes with RESPONDED 0. (R214, R311, R312, R313, R319, R326, R335, R337, R339, R341,
R348, R358) -/
def Obligations.ReceptionAndYardlineMessages : Prop :=
  (∀ (p : Nat) (f : RxFrame) (s : State), s.portOn p = false ∨ (s.port p).link = false → exec (.ethFrameRx p f) s = .next s)
    ∧ (∀ (p : Nat) (f : RxFrame) (s : State), s.portOn p = true → (s.port p).link = true →
        (f.fcsOk = false → ∃ t, exec (.ethFrameRx p f) s = .next t ∧ t.count (.eth p 5) = (s.count (.eth p 5) + 1) % 2 ^ 32
          ∧ bitOf (t.cause (.ethRx p)) 1 = true ∧ t.eth = s.eth ∧ t.out = s.out)
        ∧ (f.fcsOk = true → 9216 < f.bytes.length + 4 → ∃ t, exec (.ethFrameRx p f) s = .next t
          ∧ t.count (.eth p 6) = (s.count (.eth p 6) + 1) % 2 ^ 32
          ∧ bitOf (t.cause (.ethRx p)) 2 = true ∧ t.eth = s.eth ∧ t.out = s.out)
        ∧ (f.fcsOk = true → f.bytes.length + 4 ≤ 9216 → f.staging.isSome = true → ∃ t, exec (.ethFrameRx p f) s = .next t
          ∧ bitOf (t.cause (.ethRx p)) 3 = true ∧ t.eth = s.eth ∧ t.out = s.out))
    ∧ (∀ (p q : Nat) (f : RxFrame) (s : State), s.portOn p = true → (s.port p).link = true → f.fcsOk = true →
        f.bytes.length + 4 ≤ 9216 → f.staging = none → f.yl = false → f.body = .pause q →
        (bitOf (s.ethCfg p) 28 = true → ∃ t, exec (.ethFrameRx p f) s = .next t ∧ (q ≠ 0 → bitOf (t.cause (.ethTx p)) 4 = true)
          ∧ (q = 0 → t.causes = s.causes) ∧ t.port p = { s.port p with
              paused := decide (q ≠ 0), pauseEnd := s.elt + ceilDiv (q * 512) (if bitOf (s.ethCfg p) 30 then 25 else 10) }
          ∧ t.count (.eth p 12) = (s.count (.eth p 12) + 1) % 2 ^ 32)
        ∧ (bitOf (s.ethCfg p) 28 = false → ∃ t, exec (.ethFrameRx p f) s = .next t ∧ t.eth = s.eth
          ∧ t.count (.eth p 12) = (s.count (.eth p 12) + 1) % 2 ^ 32))
    ∧ (∀ (p i q : Nat) (f : RxFrame) (s : State), s.portOn p = true → (s.port p).link = true → f.fcsOk = true →
        f.bytes.length + 4 ≤ 9216 → f.staging = none → f.yl = false → f.body = .other →
        filterFor s.cfg.eth p f = some i →
        q = fld ((((tget s.cfg.eth.filters p {}).filters[i]?).map (·.1)).getD 0) 30 28 →
        fld (rxqCfg s.cfg.eth p q) 31 30 = 2 →
        (let x := tget (s.port p).rxq q {}
         let used := (x.stored.map (fun y => max 1 (ceilDiv y.bytes.length 2048))).sum
         (used + max 1 (ceilDiv f.bytes.length 2048) ≤ 2 ^ fld (rxqCfg s.cfg.eth p q) 3 0 →
            ∃ t y, exec (.ethFrameRx p f) s = .next t ∧ (tget (t.port p).rxq q {}).stored = x.stored ++ [y]
              ∧ y.bytes = f.bytes ∧ y.filter = i ∧ y.seq = x.seq ∧ y.lt = BitVec.ofNat 32 (s.rxInstant p / 65536)
              ∧ (tget (t.port p).rxq q {}).seq = x.seq + 1 ∧ (∀ k, k ≠ q → tget (t.port p).rxq k {} = tget (s.port p).rxq k {})
              ∧ t.count (.eth p 3) = (s.count (.eth p 3) + 1) % 2 ^ 32
              ∧ t.count (.eth p 1) = (s.count (.eth p 1) + (f.bytes.length + 4)) % 2 ^ 64)
          ∧ (2 ^ fld (rxqCfg s.cfg.eth p q) 3 0 < used + max 1 (ceilDiv f.bytes.length 2048) →
            ∃ t, exec (.ethFrameRx p f) s = .next t ∧ (tget (t.port p).rxq q {}).stored = x.stored
              ∧ (tget (t.port p).rxq q {}).head = x.head ∧ (tget (t.port p).rxq q {}).discard = true
              ∧ t.count (.eth p 4) = (s.count (.eth p 4) + 1) % 2 ^ 32 ∧ bitOf (t.cause (.ethRx p)) 0 = true)))
    ∧ (∀ (p : Nat) (f : RxFrame) (s : State), s.portOn p = true → (s.port p).link = true → f.fcsOk = true →
        f.bytes.length + 4 ≤ 9216 → f.staging = none → f.yl = false → f.body = .other → filterFor s.cfg.eth p f = none →
        ∃ t, exec (.ethFrameRx p f) s = .next t ∧ t = { s with cnt := t.cnt }
          ∧ t.count (.eth p 7) = (s.count (.eth p 7) + 1) % 2 ^ 32)
    ∧ (∀ (p q : Nat) (f : RxFrame) (s : State), s.portOn p = true → (s.port p).link = true → f.fcsOk = true →
        f.bytes.length + 4 ≤ 9216 → f.staging = none → f.yl = true → f.own = false → partner s p = some q →
        (((s.port q).be.filter (fun x => match x.kind with | .forward => true | _ => false)).map (·.octets)).sum
          + (f.bytes.length + 4) ≤ 65536 → s.portOn q = true → (s.port q).link = true →
        ∃ t y, exec (.ethFrameRx p f) s = .next t ∧ (t.port q).be = (s.port q).be ++ [y] ∧ y.kind = .forward
          ∧ y.body = f.bytes ∧ t.count (.eth q 13) = (s.count (.eth q 13) + 1) % 2 ^ 32)
    ∧ (∀ (p q : Nat) (own : Bool) (s : State), (tget (s.port p).rxq q {}).waitOwn = true →
        (tget (s.port p).rxq q {}).restart = false →
        (tget (s.port p).rxq q {}).pollAt + 1000 * fld (rxqCfg s.cfg.eth p q) 29 20 ≤ s.elt →
        ∃ t, exec (.rxDescPoll p q own) s = .next t
          ∧ tget (t.port p).rxq q {} = { tget (s.port p).rxq q {} with waitOwn := !own, pollAt := s.elt }
          ∧ (∀ k, k ≠ q → tget (t.port p).rxq k {} = tget (s.port p).rxq k {}) ∧ t = { s with eth := t.eth })
    ∧ (∀ (p q : Nat) (own : Bool) (s : State), (tget (s.port p).rxq q {}).waitOwn = false
          ∨ (tget (s.port p).rxq q {}).restart = true
          ∨ s.elt < (tget (s.port p).rxq q {}).pollAt + 1000 * fld (rxqCfg s.cfg.eth p q) 29 20 →
        exec (.rxDescPoll p q own) s = .next s)
    ∧ (∀ (m p : Nat) (mask : Byte) (s : State), Runs m 0x0443#16 s → p < s.nEth →
        ∃ t, exec (.ethRingRestart m p mask) s = .next t ∧ Responded m .ok [] s t
          ∧ (∀ q, q < 8 → bitOf mask q = true → tget (t.port p).rxq q {} = { tget (s.port p).rxq q {} with restart := false })
          ∧ (∀ q, bitOf mask q = false → tget (t.port p).rxq q {} = tget (s.port p).rxq q {})
          ∧ (∀ k, k ≠ p → t.port k = s.port k))
    ∧ (∀ (m p : Nat) (mask : Byte) (s : State), Runs m 0x0443#16 s → s.nEth ≤ p →
        ∃ t, exec (.ethRingRestart m p mask) s = .next t
          ∧ Answers m .variantUnsupported [] s s t)
    ∧ (∀ (p : Nat) (x : YlMsg) (errs : List LineBad) (s : State),
        s.portOn p = false ∨ (s.port p).link = false ∨ (badHeader x = false ∧ zerosOk x.type x.payload = true ∧ x.type = 9) →
        exec (.yardlineReceive p x errs) s = .next s)
    ∧ (∀ (p : Nat) (x : YlMsg) (errs : List LineBad) (s : State), s.portOn p = true → (s.port p).link = true →
        badHeader x = true → ∃ t, exec (.yardlineReceive p x errs) s = .next t
          ∧ t.count (.ylRxBad p) = (s.count (.ylRxBad p) + 1) % 2 ^ 32 ∧ bitOf (t.cause (.ylRx p)) 0 = true
          ∧ t.flw = s.flw ∧ t.lamp = s.lamp ∧ t.ym = s.ym ∧ t.mbx = s.mbx)
    ∧ (∀ (p : Nat) (x : YlMsg) (errs : List LineBad) (s : State), s.portOn p = true → (s.port p).link = true →
        badHeader x = false → zerosOk x.type x.payload = true → x.type ≠ 9 → knownStream s.cfg x.stream = false →
        ∃ t, exec (.yardlineReceive p x errs) s = .next t
          ∧ t.count (.ylRxUnknown p) = (s.count (.ylRxUnknown p) + 1) % 2 ^ 32 ∧ bitOf (t.cause (.ylRx p)) 1 = true
          ∧ t.flw = s.flw ∧ t.lamp = s.lamp ∧ t.ym = s.ym ∧ t.mbx = s.mbx)
    ∧ (∀ (p : Nat) (x : YlMsg) (u : UpSeq) (errs : List LineBad) (s : State), s.portOn p = true → (s.port p).link = true →
        badHeader x = false → zerosOk x.type x.payload = true → knownStream s.cfg x.stream = true → upType x.type = true →
        (∀ a, a ∈ s.flw.asm → a.stream = x.stream → a.seq ≠ x.seq) → tfind? s.flw.up x.stream = some u →
        s.elt ≤ u.heard + 1000000000 → x.seq = u.h ∨ 2 ^ 32 - 1023 ≤ (x.seq - u.h).toNat →
        ∃ t, exec (.yardlineReceive p x errs) s = .next t ∧ t = { s with cnt := t.cnt }
          ∧ t.count (.ylRxDup p) = (s.count (.ylRxDup p) + 1) % 2 ^ 32)
    ∧ (∀ (p : Nat) (x : YlMsg) (e : Nat × FlowRec) (msg : LampMsg) (errs : List LineBad) (s : State),
        s.portOn p = true → (s.port p).link = true → badHeader x = false → zerosOk x.type x.payload = true →
        (x.type = 6 ∨ x.type = 7) → x.fragOff = 0 → x.total = x.payload.length →
        (∀ a, a ∈ s.flw.asm → a.stream = x.stream → a.seq ≠ x.seq) →
        (∀ u, tfind? s.flw.up x.stream = some u → u.heard + 1000000000 < s.elt ∨ (x.seq ≠ u.h ∧ (x.seq - u.h).toNat < 2 ^ 31)) →
        streamFlow s.cfg x.stream = some e → lampMsgOf s.cfg e.1 e.2 x.type (x.ptSec.toNat * 1000000000 + x.ptNs.toNat) x.payload = some msg →
        s.pair.role ≠ .shadow → s.pair.role ≠ .lead →
        ∃ t, exec (.yardlineReceive p x errs) s = .next t
          ∧ t.lamp = { s.lamp with acc := s.lamp.acc ++ [{ number := s.lamp.next, atNs := s.elt, msg := msg }]
                                   next := s.lamp.next + 1 }
          ∧ tfind? t.flw.up x.stream = some { h := x.seq, heard := s.elt } ∧ t.cnt = s.cnt ∧ t.out = s.out)
    ∧ (∀ (p : Nat) (x : YlMsg) (errs : List LineBad) (s : State),
        s.portOn p = true → (s.port p).link = true → badHeader x = false → x.payload.length < x.total → upType x.type = true →
        knownStream s.cfg x.stream = true → (∀ a, a ∈ s.flw.asm → a.stream = x.stream → a.seq ≠ x.seq) →
        tfind? s.flw.up x.stream = none →
        ∃ t a, exec (.yardlineReceive p x errs) s = .next t ∧ t.flw.asm = s.flw.asm ++ [a] ∧ a.stream = x.stream
          ∧ a.seq = x.seq ∧ a.total = x.total ∧ t.lamp = s.lamp ∧ t.cnt = s.cnt)
    ∧ (∀ (m stream code : Nat) (data : List Byte) (f : Nat) (r : FlowRec) (s : State), Runs m 0x0406#16 s → data.length ≤ 1024 →
        code ≤ 65535 → streamFlow s.cfg stream = some (f, r) → s.pair.role ≠ .shadow →
        ∃ t, exec (.flowDiag m stream code data) s = .next t ∧ t.waits m 0x0406#16 = true
          ∧ t.flw.diags = s.flw.diags ++ [(m, stream, s.elt + 100000000, code)] ∧ t.ym.ctrlSeq = s.ym.ctrlSeq + 1
          ∧ t.cfg = s.cfg ∧ (s.portOn r.port = true → (s.port r.port).link = true →
              ∃ y, y ∈ (t.port r.port).be ∧ y.kind = .diag m))
    ∧ (∀ (m stream code : Nat) (data : List Byte) (s : State), Runs m 0x0406#16 s →
        (1024 < data.length ∨ 65535 < code ∨ streamFlow s.cfg stream = none →
            ∃ t, exec (.flowDiag m stream code data) s = .next t ∧ Answers m .badParam [] s s t)
          ∧ (data.length ≤ 1024 → code ≤ 65535 → (streamFlow s.cfg stream).isSome = true → s.pair.role = .shadow →
            ∃ t, exec (.flowDiag m stream code data) s = .next t ∧ Answers m .badState [] s s t))
    ∧ (∀ (m : Nat) (d : Nat × Nat × Nat × Nat) (s : State), s.flw.diags.find? (fun x => x.1 = m) = some d →
        (d.2.2.1 ≤ s.elt → Live m s → s.waits m 0x0406#16 = true → ∃ t, exec (.flowDiagTimeout m) s = .next t
            ∧ Responded m .ok (le 4 0) s t ∧ t.flw.diags = s.flw.diags.filter (fun x => x.1 ≠ m))
          ∧ (s.elt < d.2.2.1 → exec (.flowDiagTimeout m) s = .next s))
    ∧ (∀ (m : Nat) (s : State), s.flw.diags.find? (fun x => x.1 = m) = none → exec (.flowDiagTimeout m) s = .next s)

/-- A pixel-line port starts its packed frame so that it ends at PT, or the previous one again, counted and
raised; it puts it on the wire only where it drives. A DMX packet ends into the idle span. The head RDM
request starts where the span leaves at least W; a good response goes to the Manger, a bad one ends CORRUPT,
one that does not fit is rewound, counted and dropped, no response within t_wait ends NO_RESPONSE, no window
within 1 s NO_WINDOW; discovery splits, mutes and keeps what it finds. Groom's read of a whole response
answers its LINE_RDM. A drive enable that falls ends what is queued with HALTER_LOST; one that returns
restarts a frame that can still end, else skips it. The selected trigger edge is stamped and counted; a
pulse ends at its end; a short is noted, and shuts the drivers off outside energy-limited mode. LINE_RDM and
LINE_RDM_DISCOVER queue a request or are refused with their status. (R363, R364, R366, R367, R368, R369,
R370, R374, R376, R379, R380, R382) -/
def Obligations.LinePortsRunFramesAndRdm : Prop :=
  (∀ (n a f0 : Nat) (f : FlowRec) (p : List Byte) (s : State), n < s.nLine → (s.lp n).regs.on = true →
      ((s.lp n).regs.kind = 1 ∨ (s.lp n).regs.kind = 2) → lineFlow (s.cfgFor s.txContent) n = some (f0, f) → f.kind = 3 →
      s.nextPt = some a → a ≤ s.elt + frameNs (s.lp n).regs f → s.elt < a → (s.lp n).tx = none → (s.lp n).cutShown = none →
      (tfind? (s.lp n).next s.txContent = some p → ∃ t, exec (.lineFrameStart n []) s = .next t
          ∧ (t.lp n).tx = some { content := s.txContent, payload := p, start := s.elt, dur := frameNs (s.lp n).regs f }
          ∧ (t.lp n).last = p ∧ t.count (.lp n 0) = (s.count (.lp n 0) + 1) % 2 ^ 32 ∧ t.causes = s.causes
          ∧ (∀ k, k ≠ n → t.lp k = s.lp k) ∧ t = { s with line := t.line, cnt := t.cnt, out := t.out, ym := t.ym }
          ∧ (t.lp n).shortOff = false ∧ ((s.lp n).shortOff = false → t.ym = s.ym)
          ∧ ((s.lp n).drive = true → t.out = .lineFrame n s.txContent (lineBits (s.lp n).regs f p) :: s.out)
          ∧ ((s.lp n).drive = false → t.out = s.out))
        ∧ (tfind? (s.lp n).next s.txContent = none → (s.lp n).last ≠ [] → ∃ t, exec (.lineFrameStart n []) s = .next t
          ∧ (t.lp n).tx = some { content := s.txContent, payload := (s.lp n).last, again := true, start := s.elt
                                 dur := frameNs (s.lp n).regs f }
          ∧ t.count (.lp n 1) = (s.count (.lp n 1) + 1) % 2 ^ 32 ∧ bitOf (t.cause (.lp n)) 0 = true)
        ∧ (∀ b errs, b ∈ errs → b.port = n → ∃ t, exec (.lineFrameStart n errs) s = .next t ∧ bitOf (t.cause (.lp n)) 6 = true))
    ∧ (∀ (n a f0 c : Nat) (f : FlowRec) (p : List Byte) (s : State), n < s.nLine → (s.lp n).regs.on = true →
        ((s.lp n).regs.kind = 1 ∨ (s.lp n).regs.kind = 2) → lineFlow (s.cfgFor s.txContent) n = some (f0, f) → f.kind = 3 →
        s.nextPt = some a → a ≤ s.elt + frameNs (s.lp n).regs f → s.elt < a → (s.lp n).clear s.elt = true →
        (s.lp n).cutShown = some c → s.cutShows c s.txContent = true → tfind? (s.lp n).cuts c = some p →
        ∃ t, exec (.lineFrameStart n []) s = .next t ∧ t.count (.lp n 0) = (s.count (.lp n 0) + 1) % 2 ^ 32
          ∧ (t.lp n).tx = some { content := s.txContent, payload := p, cut := some c, start := s.elt
                                 dur := frameNs (s.lp n).regs f }
          ∧ (t.lp n).last = (s.lp n).last ∧ (t.lp n).next = (s.lp n).next ∧ t.causes = s.causes)
    ∧ (∀ (n : Nat) (errs : List LineBad) (s : State),
          (∃ x, (s.lp n).tx = some x ∧ (x.cut = none ∨ s.elt < x.start + x.dur + stepsNs (fld (s.lp n).regs.gap 19 0)))
          ∨ (s.lp n).regs.on = false
          ∨ s.nextPt = none ∨ lineFlow (s.cfgFor s.txContent) n = none
          ∨ (∃ a f, s.nextPt = some a ∧ lineFlow (s.cfgFor s.txContent) n = some f
              ∧ (s.elt + frameNs (s.lp n).regs f.2 < a ∨ a ≤ s.elt)) → exec (.lineFrameStart n errs) s = .next s)
    ∧ (∀ (n : Nat) (x : LineTx) (s : State), (s.lp n).tx = some x → (s.lp n).regs.kind = 0 →
        (x.start + x.dur ≤ s.elt → exec (.dmxPacketEnd n) s = .next (s.setLp n { s.lp n with tx := none, idle := true }))
          ∧ (s.elt < x.start + x.dur → exec (.dmxPacketEnd n) s = .next s))
    ∧ (∀ (n m : Nat) (q : RdmReq) (s : State), headAsk (s.lp n) = some (m, .user q) → n < s.nLine → (s.lp n).drive = true →
        (s.lp n).regs.kind = 0 → (s.lp n).tx = none → (s.lp n).txn = none → q.broadcast = false →
        (∀ a, nextBreak s n = some a → s.elt + 1000 * windowUs (s.lp n).regs (.user q) ≤ a) →
        ∃ t, exec (.rdmTxnStart n) s = .next t ∧ t.out = .rdm n (s.lp n).txnNum (.user q) :: s.out
          ∧ t.lp n = { s.lp n with txnNum := (s.lp n).txnNum + 1
                                   txn := some { mailbox := m, num := (s.lp n).txnNum, ask := .user q
                                                 deadline := s.elt + 1000 * (reqUs (s.lp n).regs (.user q) + waitUs (s.lp n).regs (.user q)) } }
          ∧ t.count (.lp n 2) = (s.count (.lp n 2) + 1) % 2 ^ 32 ∧ t = { s with line := t.line, cnt := t.cnt, out := t.out })
    ∧ (∀ (n m : Nat) (q : RdmReq) (s : State), headAsk (s.lp n) = some (m, .user q) → n < s.nLine → (s.lp n).drive = true →
        (s.lp n).regs.kind = 0 → (s.lp n).tx = none → (s.lp n).txn = none → q.broadcast = true →
        (∀ a, nextBreak s n = some a → s.elt + 1000 * windowUs (s.lp n).regs (.user q) ≤ a) → Live m s →
        s.waits m 0x0461#16 = true → ∃ t, exec (.rdmTxnStart n) s = .next t ∧ Responded m .ok (le 4 0) s t
          ∧ (t.lp n).txn = none)
    ∧ (∀ (n m a : Nat) (k : RdmAsk) (s : State), headAsk (s.lp n) = some (m, k) → nextBreak s n = some a →
        a < s.elt + 1000 * windowUs (s.lp n).regs k → exec (.rdmTxnStart n) s = .next s)
    ∧ (∀ (n : Nat) (s : State), headAsk (s.lp n) = none ∨ (s.lp n).drive = false ∨ (s.lp n).txn.isSome = true →
        exec (.rdmTxnStart n) s = .next s)
    ∧ (∀ (n : Nat) (brk : Word) (x : RdmTxn) (q : RdmReq) (bytes : List Byte) (s : State), (s.lp n).txn = some x → x.ask = .user q →
        (s.lp n).drive = true → bytes ≠ [] → bytes.length ≤ 257 →
        ((s.lp n).commit.toNat < 8192 → ((s.lp n).commit - (s.lp n).read).toNat + (8 + bytes.length) ≤ 4096 →
          ∃ t, exec (.rdmResponse n brk bytes true) s = .next t ∧ (t.lp n).txn = none
            ∧ (t.lp n).commit = align32 ((s.lp n).commit + BitVec.ofNat 13 (8 + bytes.length)) ∧ (t.lp n).write = (t.lp n).commit
            ∧ (t.lp n).read = (s.lp n).read ∧ (t.lp n).owed = (s.lp n).owed ++ [(x.num, x.mailbox)]
            ∧ (∀ i b, (le 4 brk.toNat ++ le 2 bytes.length ++ [1, x.num] ++ bytes)[i]? = some b →
                mget (t.lp n).mem (((s.lp n).commit.toNat + i) % 4096) = b))
        ∧ (4096 < ((s.lp n).commit - (s.lp n).read).toNat + (8 + bytes.length) → Live x.mailbox s →
          s.waits x.mailbox 0x0461#16 = true → ∃ t v, exec (.rdmResponse n brk bytes true) s = .next t
            ∧ (t.lp n).commit = (s.lp n).commit ∧ (t.lp n).write = (s.lp n).commit ∧ (t.lp n).mem = (s.lp n).mem
            ∧ t.count (.lp n 5) = (s.count (.lp n 5) + 1) % 2 ^ 32 ∧ bitOf (t.cause (.lp n)) 2 = true
            ∧ Responded x.mailbox .ok (le 4 v) s t ∧ (t.lp n).txn = none)
        ∧ (Live x.mailbox s → s.waits x.mailbox 0x0461#16 = true → ∃ t, exec (.rdmResponse n brk bytes false) s = .next t
            ∧ Responded x.mailbox .ok (le 4 2) s t ∧ t.count (.lp n 4) = (s.count (.lp n 4) + 1) % 2 ^ 32
            ∧ bitOf (t.cause (.lp n)) 1 = true ∧ (t.lp n).mem = (s.lp n).mem ∧ (t.lp n).commit = (s.lp n).commit))
    ∧ (∀ (n : Nat) (brk : Word) (x : RdmTxn) (d : Disc) (bytes : List Byte) (s : State), (s.lp n).txn = some x → (s.lp n).disc = some d →
        (s.lp n).drive = true → bytes ≠ [] → bytes.length ≤ 257 → (s.box x.mailbox).abortReq = false →
        (∀ lo hi, x.ask = .branch lo hi → ∃ t, exec (.rdmResponse n brk bytes true) s = .next t
            ∧ (t.lp n).disc = some { d with toMute := some (discUid bytes) } ∧ (t.lp n).uids = (s.lp n).uids)
        ∧ (∀ u, x.ask = .mute u → u ∉ (s.lp n).uids → (s.lp n).uids.length < 512 →
            ∃ t, exec (.rdmResponse n brk bytes true) s = .next t ∧ (t.lp n).uids = (s.lp n).uids ++ [u]))
    ∧ (∀ (n : Nat) (brk : Word) (bytes : List Byte) (good : Bool) (s : State), (s.lp n).txn = none ∨ (s.lp n).drive = false ∨ bytes = [] →
        exec (.rdmResponse n brk bytes good) s = .next s)
    ∧ (∀ (n : Nat) (x : RdmTxn) (s : State), (s.lp n).txn = some x → (s.elt < x.deadline → exec (.rdmResponseTimeout n) s = .next s)
        ∧ (∀ q, x.ask = .user q → x.deadline ≤ s.elt → Live x.mailbox s → s.waits x.mailbox 0x0461#16 = true →
            ∃ t, exec (.rdmResponseTimeout n) s = .next t ∧ Responded x.mailbox .ok (le 4 1) s t
              ∧ t.count (.lp n 3) = (s.count (.lp n 3) + 1) % 2 ^ 32 ∧ (t.lp n).txn = none ∧ (t.lp n).commit = (s.lp n).commit)
        ∧ (∀ lo hi d, x.ask = .branch lo hi → (s.lp n).disc = some d → x.deadline ≤ s.elt →
            ∃ t, exec (.rdmResponseTimeout n) s = .next t ∧ t.count (.lp n 3) = (s.count (.lp n 3) + 1) % 2 ^ 32
              ∧ (t.lp n).uids = (s.lp n).uids ∧ (t.lp n).txn = none))
    ∧ (∀ (n : Nat) (x : RdmItem) (q : RdmReq) (r : List RdmItem) (s : State), (s.lp n).queue = x :: r → x.req = some q →
        (s.lp n).txn = none → x.atNs + 1000000000 ≤ s.elt → Live x.mailbox s → s.waits x.mailbox 0x0461#16 = true →
        ∃ t, exec (.rdmNoWindow n) s = .next t ∧ Responded x.mailbox .ok (le 4 3) s t
          ∧ (t.lp n).queue = (s.lp n).queue.filter (fun y => y.mailbox ≠ x.mailbox))
    ∧ (∀ (n : Nat) (s : State), (s.lp n).queue = [] ∨ (s.lp n).txn.isSome = true
          ∨ (∃ x r, (s.lp n).queue = x :: r ∧ s.elt < x.atNs + 1000000000) → exec (.rdmNoWindow n) s = .next s)
    ∧ (∀ (n : Nat) (s : State), (s.lp n).read = (s.lp n).commit → exec (.mangerRead n) s = .next s)
    ∧ (∀ (n : Nat) (acc : List Byte) (s : State), (s.lp n).read ≠ (s.lp n).commit →
        acc = (s.lp n).reading ++ (List.range 32).map (fun k => mget (s.lp n).mem (((s.lp n).read.toNat + k) % 4096)) →
        (acc.length < 8 + unle ((acc.drop 4).take 2) → exec (.mangerRead n) s
            = .next (s.setLp n { s.lp n with read := (s.lp n).read + 32, reading := acc }))
        ∧ (∀ e, 8 + unle ((acc.drop 4).take 2) ≤ acc.length →
            (s.lp n).owed.find? (fun x => x.1 = (acc[7]?).getD 0) = some e → Live e.2 s → s.waits e.2 0x0461#16 = true →
            ∃ t, exec (.mangerRead n) s = .next t ∧ (t.lp n).read = (s.lp n).read + 32 ∧ (t.lp n).reading = []
              ∧ Responded e.2 .ok (le 4 0 ++ (acc.take (8 + unle ((acc.drop 4).take 2))).drop 8) s t))
    ∧ (∀ (n : Nat) (s : State), (s.lp n).drive = true → driveCond s n = false → ∃ t, exec (.driveEnableCollapse n) s = .next t
        ∧ (t.lp n).drive = false ∧ (t.lp n).txn = none ∧ (t.lp n).write = (s.lp n).commit ∧ bitOf (t.cause (.lp n)) 5 = true
        ∧ (∀ k, k ≠ n → t.lp k = s.lp k) ∧ t.cfg = s.cfg
        ∧ (∀ x q, (s.lp n).queue = [x] → x.req = some q → Live x.mailbox s → s.waits x.mailbox 0x0461#16 = true →
            Responded x.mailbox .ok (le 4 4) s t))
    ∧ (∀ (n : Nat) (s : State), (s.lp n).drive = false ∨ driveCond s n = true → exec (.driveEnableCollapse n) s = .next s)
    ∧ (∀ (n : Nat) (s : State), n < s.nLine → (s.lp n).drive = false → driveCond s n = true →
        ((s.lp n).tx = none → exec (.driveEnableReturn n) s = .next (s.setLp n { s.lp n with drive := true }))
        ∧ (∀ x f, (s.lp n).tx = some x → lineFlow (s.cfgFor x.content) n = some f →
            ((∀ e, (if f.2.kind = 2 then nextBreak s n else s.nextPt) = some e → s.elt + x.dur ≤ e) →
              ∃ t, exec (.driveEnableReturn n) s = .next t ∧ t.lp n = { s.lp n with drive := true, tx := some { x with start := s.elt } }
                ∧ t.out.length = s.out.length + 1)
            ∧ (∀ e, (if f.2.kind = 2 then nextBreak s n else s.nextPt) = some e → e < s.elt + x.dur →
              ∃ t, exec (.driveEnableReturn n) s = .next t ∧ t.out = s.out
                ∧ t.lp n = { s.lp n with drive := true, tx := none, skip := some x.content })))
    ∧ (∀ (n : Nat) (s : State), (s.lp n).drive = true ∨ driveCond s n = false → exec (.driveEnableReturn n) s = .next s)
    ∧ (∀ (n : Nat) (rising : Bool) (errs : List LineBad) (s : State), n < s.nLine → (s.lp n).regs.on = true →
        (s.lp n).regs.kind = 3 → edgeSelected (fld (s.lp n).regs.trig 31 30) rising = true →
        (∀ c x, s.cutRec c = some x → x.trigLine.toNat ≠ n) → ∃ t, exec (.triggerInputEdge n rising errs) s = .next t
          ∧ t.lp n = { s.lp n with stamp := s.tim.lt } ∧ t.count (.lp n 7) = (s.count (.lp n 7) + 1) % 2 ^ 32
          ∧ bitOf (t.cause (.lp n)) 3 = true ∧ t.ym = s.ym ∧ (∀ k, k ≠ n → t.lp k = s.lp k))
    ∧ (∀ (n : Nat) (rising : Bool) (errs : List LineBad) (s : State), (s.lp n).regs.kind ≠ 3
          ∨ edgeSelected (fld (s.lp n).regs.trig 31 30) rising = false → exec (.triggerInputEdge n rising errs) s = .next s)
    ∧ (∀ (n a : Nat) (s : State), (s.lp n).pulse = some a →
        (a ≤ s.elt → exec (.triggerPulseEnd n) s = .next (s.setLp n { s.lp n with pulse := none }))
          ∧ (s.elt < a → exec (.triggerPulseEnd n) s = .next s))
    ∧ (∀ (n : Nat) (s : State), n < s.nLine → (s.lp n).drive = true →
        ∃ t, exec (.shortDetect n) s = .next t ∧ t.lp n = { s.lp n with short := true, shortAt := s.elt }
          ∧ t.count (.lp n 6) = (s.count (.lp n 6) + 1) % 2 ^ 32 ∧ bitOf (t.cause (.lp n)) 4 = true
          ∧ (∀ k, k ≠ n → t.lp k = s.lp k))
    ∧ (∀ (n : Nat) (s : State), (s.lp n).drive = false → exec (.shortDetect n) s = .next s)
    ∧ (∀ (n : Nat) (s : State), (s.lp n).short = true → (s.lp n).regs.limited = false → (s.lp n).shortAt + 90000 ≤ s.elt →
        ∃ t, exec (.shortShutoff n) s = .next t ∧ t.lp n = { s.lp n with shortOff := true, short := false }
          ∧ (∀ k, k ≠ n → t.lp k = s.lp k) ∧ t = { s with line := t.line, ym := t.ym })
    ∧ (∀ (n : Nat) (s : State), (s.lp n).short = false ∨ (s.lp n).regs.limited = true ∨ s.elt < (s.lp n).shortAt + 90000 →
        exec (.shortShutoff n) s = .next s)
    ∧ (∀ (m n : Nat) (q : RdmReq) (full : Bool) (s : State),
        (Runs m 0x0461#16 s → q.data.length ≤ 231 → q.rmax ≤ 257 →
          (∀ e, rdmPort s n = .error e → ∃ t, exec (.lineRdm m n q) s = .next t ∧ Answers m e [] s s t)
          ∧ (rdmPort s n = .ok () → ∃ t, exec (.lineRdm m n q) s = .next t ∧ t.waits m 0x0461#16 = true
              ∧ (t.lp n).queue = (s.lp n).queue ++ [{ mailbox := m, req := some q, atNs := s.elt }]))
        ∧ (Runs m 0x0461#16 s → n < s.nLine → (231 < q.data.length ∨ 257 < q.rmax) → ∃ t, exec (.lineRdm m n q) s = .next t
            ∧ Answers m .badParam [] s s t)
        ∧ (Runs m 0x0462#16 s → (∀ e, rdmPort s n = .error e → ∃ t, exec (.lineRdmDiscover m n full) s = .next t
              ∧ Answers m e [] s s t)
          ∧ (rdmPort s n = .ok () → ∃ t, exec (.lineRdmDiscover m n full) s = .next t ∧ t.waits m 0x0462#16 = true
              ∧ (t.lp n).queue = (s.lp n).queue ++ [{ mailbox := m, req := none, full := full, atNs := s.elt }])))
    ∧ (∀ (n : Nat) (s : State), (rdmPort s n = .ok () ↔ n < s.nLine ∧ (s.lp n).regs.kind = 0 ∧ (s.lp n).regs.on = true
          ∧ s.halter = true ∧ (s.lp n).queue.length < 16)
        ∧ (s.nLine ≤ n → rdmPort s n = .error .variantUnsupported)
        ∧ (n < s.nLine → (s.lp n).regs.kind ≠ 0 → rdmPort s n = .error .badParam)
        ∧ (n < s.nLine → (s.lp n).regs.kind = 0 → (s.lp n).regs.on = true → s.halter = true → 16 ≤ (s.lp n).queue.length →
            rdmPort s n = .error .noResource))

/-- At its instant a running head begins its next head frame under the settings taken for it; each is
counted, and one of a restart is background and counted so; every line that underran, those of rows not yet
visible among them, is counted and raised. At line V_ACTIVE of the last head frame the head takes the
settings in effect from the next boundary. When the freeze window ends, its signature and FN are kept; the
count rises by 1 for a content with the same signature that changed at source, returns to 0 otherwise, and
FREEZE is raised and counted once as it reaches FRAMES. A due packet of a tile joins the queue of its flow's
class. A sink's hot-plug keeps its EDID and brings the link up where training succeeds, LINK_UP raised; a
lost link is raised, and an unplugged sink forgotten. Where its condition fails, each row changes nothing.
(R388, R389, R393, R394, R398, R399, R401, R403, R405, R407) -/
def Obligations.RasterHeadsScanAndWatch : Prop :=
  (∀ (h n j : Nat) (s : State), nextFrame s h = some (n, j) → h < s.nHeads → (s.head h).run = true →
      s.glb.clk.rootLock = true → s.glb.faulted = false →
      s.reached (lineAt s.rst.ym (if j = 0 then (s.head h).shadow else (s.head h).regs) n j 0) = true →
      ((s.head h).link = false → (unseenLines s (if j = 0 then (s.head h).shadow else (s.head h).regs) n = []
            ∨ (s.head h).restart = some n ∨ canvasW (s.cfgFor n).comp = 0) → ∃ t, exec (.headFrameStart h []) s = .next t
          ∧ t.head h = { s.head h with
              content := n, begun := j + 1, bg := decide ((s.head h).restart = some n)
              regs := if j = 0 then (s.head h).shadow else (s.head h).regs, under := [], sent := [] }
          ∧ t.count (.rst h 0) = (s.count (.rst h 0) + 1) % 2 ^ 32
          ∧ ((s.head h).restart = some n → t.count (.rst h 4) = (s.count (.rst h 4) + 1) % 2 ^ 32)
          ∧ (∀ k, k ≠ h → t.head k = s.head k) ∧ t = { s with rst := t.rst, cnt := t.cnt })
      ∧ (∀ us : List Underrun, us ≠ [] → (s.head h).restart ≠ some n → canvasW (s.cfgFor n).comp ≠ 0 →
          (∀ u, u ∈ us → u.line < (if j = 0 then (s.head h).shadow else (s.head h).regs).va) →
          unseenLines s (if j = 0 then (s.head h).shadow else (s.head h).regs) n = [] →
          ∃ t, exec (.headFrameStart h us) s = .next t ∧ (t.head h).under = us
            ∧ t.count (.rst h 1) = (s.count (.rst h 1) + us.length) % 2 ^ 32 ∧ bitOf (t.cause (.rst h)) 0 = true)
      ∧ ((s.head h).restart ≠ some n → canvasW (s.cfgFor n).comp ≠ 0 → ∃ t, exec (.headFrameStart h []) s = .next t
          ∧ (t.head h).under = unseenLines s (if j = 0 then (s.head h).shadow else (s.head h).regs) n
          ∧ t.count (.rst h 1) = (s.count (.rst h 1)
              + (unseenLines s (if j = 0 then (s.head h).shadow else (s.head h).regs) n).length) % 2 ^ 32)
      ∧ (((if j = 0 then (s.head h).shadow else (s.head h).regs).dp = true) → (s.head h).link = true →
          ∃ t px a b, exec (.headFrameStart h []) s = .next t ∧ t.out = .dpFrame h n j px a b :: s.out
            ∧ px.length = (if j = 0 then (s.head h).shadow else (s.head h).regs).va
                * (if j = 0 then (s.head h).shadow else (s.head h).regs).ha))
    ∧ (∀ (h : Nat) (us : List Underrun) (s : State), nextFrame s h = none ∨ (s.head h).run = false ∨ s.glb.clk.rootLock = false
          ∨ s.glb.faulted = true ∨ (∃ n j, nextFrame s h = some (n, j)
              ∧ s.reached (lineAt s.rst.ym (if j = 0 then (s.head h).shadow else (s.head h).regs) n j 0) = false) →
        exec (.headFrameStart h us) s = .next s)
    ∧ (∀ (h : Nat) (s : State), (s.head h).run = true → (s.head h).begun = (s.head h).regs.mul →
        s.reached (lineAt s.rst.ym (s.head h).regs (s.head h).content ((s.head h).begun - 1) (s.head h).regs.va) = true →
        ((∀ c, c ∈ s.sched → s.ym.next < c.frame) →
            exec (.headShadowTake h) s = .next (s.setHead h { s.head h with shadow := headOf s.cfg h }))
          ∧ (∀ c, s.sched = [c] → c.frame ≤ s.ym.next →
            exec (.headShadowTake h) s = .next (s.setHead h { s.head h with shadow := headOf c.cfg h })))
    ∧ (∀ (h : Nat) (s : State), (s.head h).run = false ∨ (s.head h).begun ≠ (s.head h).regs.mul
          ∨ s.reached (lineAt s.rst.ym (s.head h).regs (s.head h).content ((s.head h).begun - 1) (s.head h).regs.va) = false →
        exec (.headShadowTake h) s = .next s)
    ∧ (∀ (h : Nat) (s : State), (s.head h).run = true → (s.head h).regs.frzOn = true → (s.head h).begun = 1 →
        (s.head h).sigDone ≠ some (s.head h).content →
        s.reached (lineAt s.rst.ym (s.head h).regs (s.head h).content 0
          (vert (s.head h).regs.frzPos + vert (s.head h).regs.frzSize)) = true →
        ∃ t, exec (.headSignatureDone h) s = .next t ∧ (t.head h).sig = crc32 (frzBytes s h)
          ∧ (t.head h).sigFn = fnOf (s.head h).content ∧ (t.head h).sigDone = some (s.head h).content
          ∧ (∀ k, k ≠ h → t.head k = s.head k)
          ∧ ((s.head h).sig ≠ crc32 (frzBytes s h) ∨ changedAtSource s h (s.head h).content = false ∨ (s.head h).bg = true →
              (t.head h).frzCount = 0)
          ∧ ((s.head h).sigDone = some ((s.head h).content - 1) → (s.head h).sig = crc32 (frzBytes s h) →
              changedAtSource s h (s.head h).content = true → (s.head h).bg = false →
              (t.head h).frzCount = satInc (s.head h).frzCount
                ∧ ((s.head h).frzCount.toNat + 1 = fld (s.head h).regs.frzCtrl 23 16 →
                    bitOf (t.cause (.rst h)) 1 = true ∧ t.count (.rst h 3) = (s.count (.rst h 3) + 1) % 2 ^ 32)
                ∧ (fld (s.head h).regs.frzCtrl 23 16 ≤ (s.head h).frzCount.toNat → t.causes = s.causes ∧ t.cnt = s.cnt)))
    ∧ (∀ (h : Nat) (s : State), (s.head h).run = false ∨ (s.head h).regs.frzOn = false ∨ (s.head h).begun ≠ 1
          ∨ (s.head h).sigDone = some (s.head h).content → exec (.headSignatureDone h) s = .next s)
    ∧ (∀ (h i f : Nat) (fr : FlowRec) (s : State), tileFlow s.cfg h i = some (f, fr) → h < s.nHeads → i < 4 →
        (tileOf s.cfg h i).on = true → (s.head h).run = true → (s.head h).begun ≠ 0 →
        tget (s.head h).sent i 0 < (tileOf s.cfg h i).pkts →
        s.reached (tileDue s h i (tget (s.head h).sent i 0)) = true →
        ∃ t, exec (.tilePacketDue h i) s = .next t ∧ tget (t.head h).sent i 0 = tget (s.head h).sent i 0 + 1
          ∧ (s.netOn (s.head h).content = true → (s.port fr.port).link = true → s.portOn fr.port = true →
              fr.guaranteed = true → ∃ y, (t.port fr.port).guar = (s.port fr.port).guar ++ [y]
                ∧ y.body = tilePacket s h i (tget (s.head h).sent i 0) ∧ t.causes = s.causes)
          ∧ (s.netOn (s.head h).content = true → (s.port fr.port).link = false → (f, (s.head h).content) ∉ s.rst.missed →
              bitOf (t.cause (.rst (fld (tget s.cfg.flow.flows f {}).stream 2 2))) 5 = true ∧ t.eth = s.eth))
    ∧ (∀ (h i : Nat) (s : State), tileFlow s.cfg h i = none ∨ (tileOf s.cfg h i).on = false ∨ (s.head h).run = false
          ∨ (tileOf s.cfg h i).pkts ≤ tget (s.head h).sent i 0
          ∨ s.reached (tileDue s h i (tget (s.head h).sent i 0)) = false → exec (.tilePacketDue h i) s = .next s)
    ∧ (∀ (h : Nat) (edid : List Byte) (s : State), h < s.nHeads → (headOf s.cfg h).dp = true →
        (s.glb.clk.serRef1 = true → ∃ t, exec (.dpHotplug h edid true) s = .next t
            ∧ t.head h = { s.head h with hpd := true, edid := edid, link := true } ∧ bitOf (t.cause (.rst h)) 4 = true
            ∧ (∀ k, k ≠ h → t.head k = s.head k))
          ∧ exec (.dpHotplug h edid false) s = .next (s.setHead h { s.head h with hpd := true, edid := edid, link := false }))
    ∧ (∀ (h : Nat) (edid : List Byte) (trained : Bool) (s : State), s.nHeads ≤ h ∨ (headOf s.cfg h).dp = false →
        exec (.dpHotplug h edid trained) s = .next s)
    ∧ (∀ (h : Nat) (s : State), (s.head h).link = true → ∃ t, exec (.dpLinkLoss h false) s = .next t
        ∧ t.head h = { s.head h with link := false } ∧ bitOf (t.cause (.rst h)) 3 = true
        ∧ (∀ k, k ≠ h → t.head k = s.head k))
    ∧ (∀ (h : Nat) (s : State), (s.head h).hpd = true → ∃ t, exec (.dpLinkLoss h true) s = .next t
        ∧ t.head h = { s.head h with link := false, hpd := false, edid := [] } ∧ (∀ k, k ≠ h → t.head k = s.head k))
    ∧ (∀ (h : Nat) (s : State), (s.head h).link = false → exec (.dpLinkLoss h false) s = .next s)

/-- A sample outside the fault limits puts a feed into FAULT, counted and raised; where it supplied the rail
and the other is STANDBY, the rail changes to that one at once, counted, raised and logged; where the other
is in FAULT too, the rail has failed and that is raised. A sample in the window brings a feed in FAULT into
RESYNC, and 500 ms there make it STANDBY, or ACTIVE where it supplies the rail. The periodic swap changes
the core rail after its minutes, the AON rail one second later; a standby feed that cannot take over is
left, and that is raised. FEED_SET takes up to 1,440 minutes, FEED_SWAP swaps the rails of its mask where
both can, each refused with its status otherwise. Where its condition fails, a row changes nothing.
PAIR_SWAP on a pair that is IN_SYNC and unmuted joins the swap that waits and waits itself; elsewhere it is
refused with PAIR_NOT_PAIRED, on a SHADOW outside the mirror with BAD_STATE. The LEAD starts a swap in a gap
idle on every line port, of a content whose window began at least 1 ms after the request, or with FORCE once
another content is lit: it lowers HALTER_OUT and becomes SHADOW in HANDOVER. The SHADOW keeps a gap start
announced at least 100 us ahead. No gap within 10 s ends the waiting commands with PAIR_SWAP_POSTPONED,
raised. The LEAD requests a swap each SWAP_INTERVAL, and 30 s after all is well where the other side is
preferred; where its condition fails a row changes nothing. (R409, R410, R412, R413, R414, R432, R433, R423,
R428, R429, R430, R431) -/
def Obligations.FeedsAndRoleSwaps : Prop :=
  ((∀ (k : Rail) (b : Bool) (v : Nat) (s : State), k.limits.1 ≤ v → v ≤ k.limits.2.1 → exec (.feedFault k b v) s = .next s)
    ∧ (∀ (k : Rail) (b : Bool) (v : Nat) (s : State), v < k.limits.1 ∨ k.limits.2.1 < v → ((s.rail k).feed b).st ≠ .fault →
        ((s.rail k).onB = b → ((s.rail k).feed (!b)).st = .standby → ∃ t e, exec (.feedFault k b v) s = .next t
          ∧ (t.rail k).onB = !b ∧ ((t.rail k).feed b).st = .fault ∧ ((t.rail k).feed b).mv = v / 10
          ∧ ((t.rail k).feed (!b)).st = .active
          ∧ t.count (.pair 7) = (s.count (.pair 7) + 1) % 2 ^ 32 ∧ t.count k.ctr = (s.count k.ctr + 1) % 2 ^ 32
          ∧ bitOf (t.cause .pair) 10 = true ∧ bitOf (t.cause .pair) 11 = true ∧ t.log.sram.getLast? = some e ∧ e.sev = 4)
        ∧ (((s.rail k).feed (!b)).st = .fault → ∃ t, exec (.feedFault k b v) s = .next t
          ∧ (t.rail k).onB = (s.rail k).onB ∧ ((t.rail k).feed b).st = .fault ∧ bitOf (t.cause .pair) 10 = true
          ∧ bitOf (t.cause .pair) 13 = true ∧ t.count (.pair 7) = (s.count (.pair 7) + 1) % 2 ^ 32))
    ∧ (∀ (k : Rail) (b : Bool) (v : Nat) (s : State),
        (((s.rail k).feed b).st = .fault ∨ ((s.rail k).feed b).st = .resync) → k.limits.2.2.1 ≤ v → v ≤ k.limits.2.2.2 →
        ∃ t, exec (.feedInWindow k b v) s = .next t
          ∧ (t.rail k).feed b = { (s.rail k).feed b with st := .resync, since := s.elt }
          ∧ (t.rail k).feed (!b) = (s.rail k).feed (!b) ∧ (t.rail k).onB = (s.rail k).onB
          ∧ t = { s with feeds := t.feeds, ym := t.ym })
    ∧ (∀ (k : Rail) (b : Bool) (v : Nat) (s : State), v < k.limits.2.2.1 ∨ k.limits.2.2.2 < v
          ∨ ((s.rail k).feed b).st = .active ∨ ((s.rail k).feed b).st = .standby → exec (.feedInWindow k b v) s = .next s)
    ∧ (∀ (k : Rail) (b : Bool) (s : State), ((s.rail k).feed b).st = .resync →
        (((s.rail k).feed b).since + 500000000 ≤ s.elt → ∃ t, exec (.feedResyncComplete k b) s = .next t
          ∧ ((t.rail k).feed b).st = (if (s.rail k).onB = b then .active else .standby) ∧ bitOf (t.cause .pair) 12 = true
          ∧ (t.rail k).feed (!b) = (s.rail k).feed (!b) ∧ (t.rail k).onB = (s.rail k).onB)
        ∧ (s.elt < ((s.rail k).feed b).since + 500000000 → exec (.feedResyncComplete k b) s = .next s))
    ∧ (∀ (k : Rail) (b : Bool) (s : State), ((s.rail k).feed b).st ≠ .resync → exec (.feedResyncComplete k b) s = .next s)
    ∧ (∀ s : State, fld s.feeds.cfg 10 0 ≠ 0 → s.feeds.swapAt + fld s.feeds.cfg 10 0 * 60000000000 ≤ s.elt →
        ∃ t, exec .feedPeriodicSwap s = .next t ∧ t.feeds.swapAt = s.elt ∧ t.feeds.aonDue = some (s.elt + 1000000000)
          ∧ t.feeds.aon = s.feeds.aon
          ∧ (s.feeds.core.ready = true → (s.feeds.core.feed s.feeds.core.onB).st = .active →
              t.feeds.core.onB = (!s.feeds.core.onB) ∧ (t.feeds.core.feed s.feeds.core.onB).st = .standby
                ∧ (t.feeds.core.feed (!s.feeds.core.onB)).st = .active
                ∧ t.count (.pair 5) = (s.count (.pair 5) + 1) % 2 ^ 32 ∧ bitOf (t.cause .pair) 11 = true)
          ∧ (s.feeds.core.ready = false → t.feeds.core = s.feeds.core ∧ bitOf (t.cause .pair) 14 = true ∧ t.cnt = s.cnt))
    ∧ (∀ s : State, fld s.feeds.cfg 10 0 = 0 ∨ s.elt < s.feeds.swapAt + fld s.feeds.cfg 10 0 * 60000000000 →
        exec .feedPeriodicSwap s = .next s)
    ∧ (∀ (a : Nat) (s : State), s.feeds.aonDue = some a → a ≤ s.elt → ∃ t, exec .feedAonSwap s = .next t
        ∧ t.feeds.aonDue = none ∧ t.feeds.core = s.feeds.core
        ∧ (s.feeds.aon.ready = true → t.feeds.aon.onB = (!s.feeds.aon.onB)
            ∧ (t.feeds.aon.feed (!s.feeds.aon.onB)).st = .active ∧ t.count (.pair 6) = (s.count (.pair 6) + 1) % 2 ^ 32)
        ∧ (s.feeds.aon.ready = false → t.feeds.aon = s.feeds.aon ∧ bitOf (t.cause .pair) 14 = true))
    ∧ (∀ s : State, (∀ a, s.feeds.aonDue = some a → s.elt < a) → exec .feedAonSwap s = .next s)
    ∧ (∀ (m : Nat) (v : Word) (s : State), Runs m 0x0A04#16 s →
        (fld v 10 0 ≤ 1440 → ∃ t, exec (.feedSet m v) s = .next t
          ∧ Answers m .ok [] s { s with feeds := { s.feeds with cfg := v &&& 0x7FF#32 } } t)
        ∧ (1440 < fld v 10 0 → ∃ t, exec (.feedSet m v) s = .next t ∧ Answers m .badParam [] s s t))
    ∧ (∀ (m : Nat) (v : Word) (s : State), Runs m 0x0A05#16 s →
        (bitOf v 0 = true → bitOf v 1 = false → s.feeds.core.ready = true → ∃ t, exec (.feedSwap m v) s = .next t
          ∧ Responded m .ok [] s t ∧ t.feeds.core.onB = (!s.feeds.core.onB) ∧ t.feeds.aon = s.feeds.aon)
        ∧ (bitOf v 0 = true → bitOf v 1 = true → s.feeds.core.ready = true → s.feeds.aon.ready = true →
          ∃ t, exec (.feedSwap m v) s = .next t ∧ Responded m .ok [] s t ∧ t.feeds.core.onB = (!s.feeds.core.onB)
            ∧ t.feeds.aon.onB = (!s.feeds.aon.onB))
        ∧ ((bitOf v 0 = true ∧ s.feeds.core.ready = false) ∨ (bitOf v 1 = true ∧ s.feeds.aon.ready = false) →
          ∃ t, exec (.feedSwap m v) s = .next t ∧ Answers m .badState [] s s t)))
    ∧ ((∀ (m : Nat) (s : State), Runs m 0x0A02#16 s →
      (s.mirrored (s.box m).req = false → ∃ t, exec (.pairSwap m) s = .next t ∧ Answers m .badState [] s s t)
      ∧ (s.mirrored (s.box m).req = true → s.pair.st ≠ .inSync ∨ s.pair.muted = true →
          ∃ t, exec (.pairSwap m) s = .next t ∧ Answers m .pairNotPaired [] s s t)
      ∧ (s.mirrored (s.box m).req = true → s.pair.st = .inSync → s.pair.muted = false →
          ∃ t w, exec (.pairSwap m) s = .next t ∧ t.waits m 0x0A02#16 = true ∧ t.pair = { s.pair with swap := some w }
            ∧ m ∈ w.boxes ∧ (∀ v, s.pair.swap = some v → w.atNs = v.atNs ∧ (∀ k, k ∈ v.boxes → k ∈ w.boxes)
                ∧ w.force = (v.force || (s.box m).req.force))
            ∧ (s.pair.swap = none → w.atNs = s.elt ∧ w.boxes = [m] ∧ w.force = (s.box m).req.force)))
    ∧ (∀ (w : SwapReq) (s : State), s.pair.swap = some w → s.pair.role = .lead → s.pair.st = .inSync → w.began = none →
        ((w.force = true ∧ s.ym.lit ≠ w.lit) ∨ (w.force = false ∧ lineGap s = true ∧ w.atNs + 1000000 ≤ s.ym.fbNs) →
          ∃ t, exec .swapGapStart s = .next t ∧ t.pair = { s.pair with
              role := .shadow, st := .handover, out := false, bad := s.pair.bad || w.force
              swap := some { w with began := some s.frameNow } }
            ∧ t = { s with pair := t.pair, ym := t.ym })
        ∧ ((w.force = true ∧ s.ym.lit = w.lit) ∨ (w.force = false ∧ (lineGap s = false ∨ s.ym.fbNs < w.atNs + 1000000)) →
          exec .swapGapStart s = .next s))
    ∧ (∀ s : State, s.pair.swap = none ∨ s.pair.role ≠ .lead ∨ s.pair.st ≠ .inSync → exec .swapGapStart s = .next s)
    ∧ (∀ (a : Nat) (s : State), s.pair.role = .shadow → s.pair.st = .inSync → s.elt + 100000 ≤ a →
        exec (.swapGapNotice a) s = .next { s with pair := { s.pair with swapTs := some a } })
    ∧ (∀ (a : Nat) (s : State), s.pair.role ≠ .shadow ∨ s.pair.st ≠ .inSync ∨ a < s.elt + 100000 →
        exec (.swapGapNotice a) s = .next s)
    ∧ (∀ (w : SwapReq) (s : State), s.pair.swap = some w → w.force = false → w.began = none →
        (w.atNs + 10000000000 ≤ s.elt → ∃ t, exec .swapPostpone s = .next t ∧ t.pair = { s.pair with swap := none }
          ∧ bitOf (t.cause .pair) 4 = true
          ∧ (∀ m, w.boxes = [m] → Live m s → s.waits m 0x0A02#16 = true → Responded m .pairSwapPostponed [] s t))
        ∧ (s.elt < w.atNs + 10000000000 → exec .swapPostpone s = .next s))
    ∧ (∀ s : State, s.pair.swap = none → exec .swapPostpone s = .next s)
    ∧ (∀ s : State, s.pair.role = .lead → s.cfg.pair.swap.toNat ≠ 0 →
        s.pair.swapAt + s.cfg.pair.swap.toNat * 1000000000 ≤ s.elt → s.pair.st = .inSync → s.pair.muted = false →
        s.pair.swap = none → exec .swapIntervalExpire s = .next { s with pair := { s.pair with
          swapAt := s.elt, swap := some { atNs := s.elt, lit := s.ym.lit, auto := true } } })
    ∧ (∀ s : State, s.pair.role ≠ .lead ∨ s.cfg.pair.swap.toNat = 0
          ∨ s.elt < s.pair.swapAt + s.cfg.pair.swap.toNat * 1000000000 → exec .swapIntervalExpire s = .next s)
    ∧ (∀ s : State, s.pair.role = .lead → s.pair.st = .inSync → s.pair.lane0 = true → s.pair.lane1 = true →
        s.pair.muted = false → s.pair.syncAt + 30000000000 ≤ s.elt → s.pair.swap = none →
        (fld s.cfg.pair.cfg 30 29 = (if s.pair.side then 1 else 2) → exec .preferredReversion s
            = .next { s with pair := { s.pair with swap := some { atNs := s.elt, lit := s.ym.lit, auto := true } } })
          ∧ (fld s.cfg.pair.cfg 30 29 ≠ (if s.pair.side then 1 else 2) → exec .preferredReversion s = .next s))
    ∧ (∀ s : State, s.pair.role ≠ .lead ∨ s.pair.st ≠ .inSync ∨ s.elt < s.pair.syncAt + 30000000000 →
        exec .preferredReversion s = .next s))

/-- A lane that goes down is raised; a trained one comes up where its reference is present. Heartbeats leave
every 2 us; one received ends the missed ones and finds a lone device its peer; one missed is counted. Three
missed: a SHADOW that sees HALTER_IN low takes over, counted and raised; another device is alone, a holder
raising ISOLATED. HALTER_IN falling: a SHADOW whose swap is due goes on with it, else it takes over; a LEAD
only notes it. HALTER_IN rising with the own signal high is a conflict, counted and raised, and side 1
yields. Low for 5 us, a device that is to hold raises its signal: a takeover ends SOLO, a swap LEAD and
IN_SYNC. The watchdog lowers it. A peer of another variant or protocol or one that does not authenticate is
refused; a holder becomes LEAD, the other SHADOW with what the LEAD shows. Equal hashes and time within 4 ns
bring the pair IN_SYNC. The peer's frame hashes are kept; a divergence is counted and raised by the LEAD,
mutes a SHADOW at the limit, and a second without resumes it. (R415, R416, R417, R418, R420, R422, R424,
R425, R426, R427, R428) -/
def Obligations.PairFormsWatchesAndTakesOver : Prop :=
  (∀ s : State, (s.pair.lane0 = true → ∃ t, exec (.laneDown 0) s = .next t ∧ t.pair = { s.pair with lane0 := false }
          ∧ bitOf (t.cause .pair) 6 = true ∧ t.cfg = s.cfg)
      ∧ (s.pair.lane1 = true → ∃ t, exec (.laneDown 1) s = .next t ∧ t.pair = { s.pair with lane1 := false }
          ∧ bitOf (t.cause .pair) 6 = true ∧ t.cfg = s.cfg)
      ∧ (s.pair.lane0 = false → exec (.laneDown 0) s = .next s) ∧ (s.pair.lane1 = false → exec (.laneDown 1) s = .next s))
    ∧ (∀ s : State, s.isP = true → s.glb.clk.serRef0 = true →
        exec (.laneUp 0) s = .next { s with pair := { s.pair with lane0 := true, syncAt := s.elt } }
          ∧ exec (.laneUp 1) s = .next { s with pair := { s.pair with lane1 := true, syncAt := s.elt } })
    ∧ (∀ (k : Nat) (s : State), s.isP = false ∨ s.glb.clk.serRef0 = false ∨ 2 ≤ k → exec (.laneUp k) s = .next s)
    ∧ (∀ s : State, s.pairOn = true → s.pair.hbTx + 2000 ≤ s.elt → exec .heartbeatTx s
        = .next { s with pair := { s.pair with hbTx := s.elt }, out := .heartbeat :: s.out })
    ∧ (∀ s : State, s.pairOn = false ∨ s.elt < s.pair.hbTx + 2000 → exec .heartbeatTx s = .next s)
    ∧ (∀ s : State, s.pairOn = true → (s.pair.lane0 = true ∨ s.pair.lane1 = true) → exec .heartbeatRx s
        = .next { s with pair := { s.pair with
            hbRx := some s.elt, missed := 0, st := if s.pair.st = .alone then .forming else s.pair.st } })
    ∧ (∀ s : State, s.pairOn = false ∨ (s.pair.lane0 = false ∧ s.pair.lane1 = false) → exec .heartbeatRx s = .next s)
    ∧ (∀ (a : Nat) (s : State), s.pair.hbRx = some a → s.pairOn = true → a + 2100 ≤ s.elt →
        ∃ t, exec .heartbeatMissed s = .next t ∧ t.pair = { s.pair with hbRx := some (a + 2000), missed := s.pair.missed + 1 }
          ∧ t.count (.pair 3) = (s.count (.pair 3) + 1) % 2 ^ 32 ∧ t = { s with pair := t.pair, cnt := t.cnt })
    ∧ (∀ s : State, s.pairOn = false ∨ (∀ a, s.pair.hbRx = some a → s.elt < a + 2100) → exec .heartbeatMissed s = .next s)
    ∧ (∀ s : State, s.pairOn = true → 3 ≤ s.pair.missed → s.pair.hbRx.isSome = true →
        (s.pair.role = .shadow → s.pair.inp = false → s.pair.taking = .no → ∃ t, exec .heartbeatLoss s = .next t
          ∧ t.pair.st = .handover ∧ t.pair.taking = .takeover ∧ t.pair.bad = true ∧ t.pair.hbRx = none ∧ t.pair.swap = none
          ∧ t.count (.pair 0) = (s.count (.pair 0) + 1) % 2 ^ 32 ∧ bitOf (t.cause .pair) 2 = true ∧ t.cfg = s.cfg)
        ∧ (s.pair.role = .lead → s.pair.taking = .no → ∃ t, exec .heartbeatLoss s = .next t ∧ t.pair.role = .solo
          ∧ t.pair.st = .alone ∧ t.pair.hbRx = none ∧ t.pair.out = s.pair.out ∧ bitOf (t.cause .pair) 1 = true ∧ t.cfg = s.cfg))
    ∧ (∀ s : State, s.pairOn = false ∨ s.pair.missed < 3 ∨ s.pair.hbRx = none → exec .heartbeatLoss s = .next s)
    ∧ (∀ s : State, s.pair.inp = false → exec .halterInLow s = .next s)
    ∧ (∀ s : State, s.pair.inp = true → s.pairOn = false ∨ s.pair.role = .lead → exec .halterInLow s
        = .next { s with pair := { s.pair with inp := false, lowAt := s.elt } })
    ∧ (∀ s : State, s.pair.inp = true → s.pairOn = true → s.pair.role = .shadow → s.pair.st = .inSync →
        (∀ a, s.pair.swapTs = some a → a ≤ s.elt → ∃ t, exec .halterInLow s = .next t ∧ t.pair.st = .handover
          ∧ t.pair.taking = .swap ∧ t.pair.inp = false ∧ t.pair.lowAt = s.elt ∧ t.cnt = s.cnt ∧ t.causes = s.causes)
        ∧ (s.pair.swapTs = none → s.pair.swap = none → ∃ t, exec .halterInLow s = .next t ∧ t.pair.st = .handover
          ∧ t.pair.taking = .takeover ∧ t.pair.bad = true ∧ t.pair.inp = false
          ∧ t.count (.pair 0) = (s.count (.pair 0) + 1) % 2 ^ 32 ∧ bitOf (t.cause .pair) 2 = true))
    ∧ (∀ s : State, s.pair.inp = true ∨ s.isP = false → exec .halterInHigh s = .next s)
    ∧ (∀ s : State, s.pair.inp = false → s.isP = true → s.pairOn = true →
        (s.pair.out = true → ∃ t, exec .halterInHigh s = .next t
          ∧ t.pair = { s.pair with inp := true, conflict := true, out := !s.pair.side }
          ∧ t.count (.pair 4) = (s.count (.pair 4) + 1) % 2 ^ 32 ∧ bitOf (t.cause .pair) 7 = true ∧ t.halter = false)
        ∧ (s.pair.out = false → s.pair.role = .shadow → s.pair.st = .handover → s.pair.taking = .no →
          ∃ t, exec .halterInHigh s = .next t ∧ t.pair.inp = true ∧ t.pair.role = .shadow ∧ t.pair.st = .inSync
            ∧ t.count (.pair 1) = (s.count (.pair 1) + 1) % 2 ^ 32 ∧ bitOf (t.cause .pair) 3 = true))
    ∧ (∀ s : State, s.pairOn = true → s.pair.inp = false → s.pair.lowAt + 5000 ≤ s.elt → s.pair.out = false →
        s.glb.clk.rootLock = true → s.glb.faulted = false →
        (s.pair.taking = .no → (s.pair.role = .solo ∨ s.pair.role = .lead) → exec .halterRaise s
            = .next { s with pair := { s.pair with out := true, conflict := false, taking := .no } })
        ∧ (s.pair.taking = .takeover → ∃ t, exec .halterRaise s = .next t ∧ t.pair.out = true ∧ t.pair.role = .solo
          ∧ t.pair.taking = .no ∧ t.halter = true)
        ∧ (s.pair.taking = .swap → ∃ t, exec .halterRaise s = .next t ∧ t.pair.out = true ∧ t.pair.role = .lead
          ∧ t.pair.st = .inSync ∧ t.pair.taking = .no ∧ t.pair.swap = none
          ∧ t.count (.pair 1) = (s.count (.pair 1) + 1) % 2 ^ 32 ∧ bitOf (t.cause .pair) 3 = true))
    ∧ (∀ s : State, s.pairOn = false ∨ s.pair.inp = true ∨ s.elt < s.pair.lowAt + 5000
          ∨ (s.pair.out = true ∧ s.pair.conflict = false) → exec .halterRaise s = .next s)
    ∧ (∀ s : State, (s.pairOn = true → s.pair.out = true → s.pair.hbTx + 6000 ≤ s.elt →
          exec .halterWatchdog s = .next { s with pair := { s.pair with out := false } })
        ∧ (s.pairOn = false ∨ s.pair.out = false ∨ s.elt < s.pair.hbTx + 6000 → exec .halterWatchdog s = .next s))
    ∧ (∀ (x : PeerShows) (s : State), s.pairOn = false ∨ s.pair.st ≠ .forming ∨ s.pair.role ≠ .solo →
        exec (.pairForm x) s = .next s)
    ∧ (∀ (x : PeerShows) (s : State), s.pairOn = true → s.pair.st = .forming → s.pair.role = .solo →
        (x.variant ≠ s.vcode ∨ x.proto ≠ s.sec.running.pairProto ∨ x.auth = false → ∃ t, exec (.pairForm x) s = .next t
          ∧ t.pair.st = .refused ∧ t.pair.role = .solo ∧ bitOf (t.cause .pair) 8 = true ∧ t.sched = s.sched)
        ∧ (x.variant = s.vcode → x.proto = s.sec.running.pairProto → x.auth = true → s.halter = true →
          exec (.pairForm x) s = .next { s with pair := { s.pair with
            variant := x.variant, proto := x.proto, version := x.version, role := .lead } })
        ∧ (x.variant = s.vcode → x.proto = s.sec.running.pairProto → x.auth = true → s.halter = false → x.holds = true →
          ∃ t, exec (.pairForm x) s = .next t ∧ t.pair.role = .shadow ∧ t.sched = x.sched ∧ t.ym.seqOff = x.seqOff
            ∧ t.ym.cutSeq = x.cutSeq ∧ t.ym.ctrlSeq = x.ctrlSeq ∧ t.tim.peerRef = false ∧ t.cfg = s.cfg))
    ∧ (∀ (h : Digest) (ok : Bool) (s : State), s.pair.st = .forming → h = s.configHash s.cfg →
        (s.pair.role = .lead → ok = true → ∃ t, exec (.pairInSync h ok) s = .next t ∧ t.pair.st = .inSync
          ∧ t.pair.txFrom = s.pair.txFrom ∧ bitOf (t.cause .pair) 0 = true)
        ∧ (s.pair.role = .shadow → s.tim.peerRef = true → s.tim.offset.natAbs ≤ 4 → ∃ t, exec (.pairInSync h ok) s = .next t
          ∧ t.pair.st = .inSync ∧ t.pair.muted = false ∧ t.pair.txFrom = s.freshContent ∧ bitOf (t.cause .pair) 0 = true)
        ∧ (s.pair.role = .shadow → s.tim.peerRef = false ∨ 4 < s.tim.offset.natAbs → exec (.pairInSync h ok) s = .next s))
    ∧ (∀ (h : Digest) (ok : Bool) (s : State), s.pair.st ≠ .forming ∨ h ≠ s.configHash s.cfg →
        exec (.pairInSync h ok) s = .next s)
    ∧ (∀ (f n : Nat) (h : Word) (s : State), (s.pair.role = .lead ∨ s.pair.role = .shadow) → s.pair.lane0 = true → f < 65536 →
        ∃ t, exec (.frameHashRx f n h) s = .next t ∧ t = { s with pair := { s.pair with peer := t.pair.peer } }
          ∧ t.pair.peer.find? (fun x => x.1 = hashKey f n) = some (hashKey f n, h))
    ∧ (∀ (f n : Nat) (h : Word) (s : State), (s.pair.role ≠ .lead ∧ s.pair.role ≠ .shadow)
          ∨ (s.pair.lane0 = false ∧ s.pair.lane1 = false) ∨ 65536 ≤ f → exec (.frameHashRx f n h) s = .next s)
    ∧ (∀ (n : Nat) (s : State), s.hashNext = some n → s.pair.st = .inSync →
        (s.cfgFor n).ym.ptAt n + 2000000 ≤ s.elt →
        (differing s n = [] → ∃ t, exec .hashCompareDeadline s = .next t ∧ t.pair.divRun = 0
          ∧ t.pair.goodRun = s.pair.goodRun + 1 ∧ t.pair.compared = some n ∧ t.cnt = s.cnt
          ∧ (s.pair.muted = true → s.pair.role = .shadow → s.cfg.ym.perSecond ≤ s.pair.goodRun + 1 →
              t.pair.muted = false ∧ t.pair.txFrom = n + 1))
        ∧ (∀ f l, differing s n = f :: l → s.pair.role = .lead → ∃ t, exec .hashCompareDeadline s = .next t
          ∧ t.pair.divRun = s.pair.divRun + 1 ∧ t.pair.goodRun = 0 ∧ t.pair.divFlow = BitVec.ofNat 16 f
          ∧ t.pair.divFn = fnOf n ∧ t.count (.pair 2) = (s.count (.pair 2) + 1) % 2 ^ 32 ∧ bitOf (t.cause .pair) 5 = true)
        ∧ (differing s n ≠ [] → s.pair.role = .shadow → s.pair.muted = false →
            fld s.cfg.pair.cfg 23 16 ≤ s.pair.divRun + 1 → ∃ t, exec .hashCompareDeadline s = .next t
            ∧ t.pair.muted = true ∧ bitOf (t.cause .pair) 9 = true))
    ∧ (∀ s : State, s.hashNext = none ∨ s.pair.st ≠ .inSync ∨ (∃ n, s.hashNext = some n
          ∧ s.elt < (s.cfgFor n).ym.ptAt n + 2000000) → exec .hashCompareDeadline s = .next s)

/-- A sample of 24 readings that is due, while the device is not tripped, keeps the readings, marks failed a
sensor without a count or with three deviating samples in a row, gives every sensor its value (its reading,
or the substitute of the mode) and Tmax their highest, and sets the level by the table: 4 from 115.0 C,
which trips (HALTER_OUT low); 3 from 110.0 C or with fewer than 12 sensors unfailed; 2 from 100.0 C; 1 from
95.0 C; below 92.0 C, with nothing holding the fall, 0. A change is counted, raised, logged at WARNING and
completes the one BRIDLE_WAIT with the level and Tmax. GRACE_EXPIRE enters level 2 at 95.0 C or more. The
trip sends its HOLD messages, stops every transmitter at 30 us, switches the domains off except AON and
HOST, logs FATAL to flash and switches HOST off. BRIDLE_WAIT takes 1 to 60,000 ms; BRIDLE_SENSOR_CLEAR
clears the failures of its mask. Where its condition fails, a row changes nothing. (R435, R436, R437, R438,
R439, R440, R441, R447, R456) -/
def Obligations.BridleMeasuresAndTrips : Prop :=
  (∀ (raws : List (Option Int)) (power : Nat) (s : State), raws.length = 24 → s.brd.dark = false → s.brd.level < 4 →
      (∀ a, s.brd.sampleAt = some a → a + (if s.brd.fast then 100000 else 1000000) ≤ s.elt) →
      ∃ t, exec (.sensorSample raws power) s = .next t
        ∧ t = { s with brd := t.brd, freeCtr := t.freeCtr, cnt := t.cnt, causes := t.causes, evc := t.evc, log := t.log
                       mbx := t.mbx, ym := t.ym, pair := t.pair, out := t.out }
        ∧ t.brd.raw = raws ∧ t.brd.sampleAt = some s.elt
        ∧ (∀ i, i < 24 → bitOf t.brd.failed i
            = (bitOf s.brd.failed i || (reading raws i).isNone || decide (3 ≤ t.brd.streak.getD i 0))
          ∧ t.brd.streak.getD i 0
            = (if bitOf s.brd.failed i = false ∧ deviates s.brd.failed raws power i = true then s.brd.streak.getD i 0 + 1 else 0)
          ∧ t.brd.used.getD i 0 = sensorValue (bitOf s.cfg.brd.brd 31) t.brd.failed raws s.freeCtr i)
        ∧ topOf t.brd.used = some t.brd.tmax
        ∧ t.brd.low = decide (((List.range 24).filter (fun i => !bitOf t.brd.failed i)).length < 12)
        ∧ (t.brd.failed = s.brd.failed → t.brd.fallAt = s.brd.fallAt)
        ∧ (t.brd.failed ≠ s.brd.failed → t.brd.fallAt = some (s.elt + 2000000000) ∧ bitOf (t.cause .brd) 2 = true)
        ∧ (1840 ≤ t.brd.tmax → t.brd.level = 4 ∧ t.brd.trip = some s.elt ∧ t.pair.out = false)
        ∧ (t.brd.tmax < 1840 → t.brd.trip = s.brd.trip ∧ t.pair.out = s.pair.out
            ∧ ((1760 ≤ t.brd.tmax ∨ t.brd.low = true) → t.brd.level = 3)
            ∧ (t.brd.low = false →
                (1600 ≤ t.brd.tmax → t.brd.tmax < 1760 → s.brd.level ≤ 2 → t.brd.level = 2)
                ∧ (1712 ≤ t.brd.tmax → t.brd.tmax < 1760 → s.brd.level = 3 → t.brd.level = 3)
                ∧ (1472 ≤ t.brd.tmax → t.brd.tmax < 1712 → s.brd.level = 3 → t.brd.fallAt = none → t.brd.level = 2)
                ∧ (1520 ≤ t.brd.tmax → t.brd.tmax < 1600 → s.brd.level ≤ 1 →
                    t.brd.level = (if s.brd.level = 1 ∧ s.brd.expired = true then 2 else 1))
                ∧ (1472 ≤ t.brd.tmax → t.brd.tmax < 1520 → s.brd.level ≤ 2 → t.brd.level = s.brd.level)
                ∧ (t.brd.tmax < 1472 → t.brd.fallAt = none → t.brd.level = 0)
                ∧ (t.brd.tmax < 1472 → t.brd.fallAt ≠ none → t.brd.level = s.brd.level)))
        ∧ (s.brd.level < t.brd.level → bitOf (t.cause .brd) 0 = true)
        ∧ (t.brd.level < s.brd.level → bitOf (t.cause .brd) 1 = true)
        ∧ (∀ l, 1 ≤ l → l ≤ 3 → t.count (.brd (l - 1))
            = if t.brd.level = l ∧ s.brd.level ≠ l then (s.count (.brd (l - 1)) + 1) % 2 ^ 32 else s.count (.brd (l - 1)))
        ∧ (t.brd.level ≠ s.brd.level → t.brd.waits = [] ∧ (t.log.sram.getLast?.map (·.sev)) = some 3
            ∧ ∀ m d, s.brd.waits = [(m, d)] → Live m s → s.waits m 0x0B03#16 = true →
                Responded m .ok (le 4 t.brd.level ++ leInt 4 t.brd.tmax) s t)
        ∧ (t.brd.level = s.brd.level → t.brd.waits = s.brd.waits ∧ t.brd.grace = s.brd.grace ∧ t.mbx = s.mbx)
        ∧ (s.brd.level = 0 → t.brd.level = 1 → t.brd.grace = some s.elt)
        ∧ (t.brd.level = 0 → s.brd.level ≠ 0 → t.brd.grace = none ∧ t.brd.expired = false))
    ∧ (∀ (raws : List (Option Int)) (power : Nat) (s : State), raws.length ≠ 24 ∨ s.brd.dark = true ∨ s.brd.level = 4
        ∨ (∃ a, s.brd.sampleAt = some a ∧ s.elt < a + (if s.brd.fast then 100000 else 1000000)) →
        exec (.sensorSample raws power) s = .next s)
    ∧ (∀ (a : Nat) (s : State), s.brd.grace = some a → s.brd.expired = false →
        a + fld s.cfg.brd.brd 8 0 * 100000000 ≤ s.elt →
        (s.brd.level = 1 → 1520 ≤ s.brd.tmax → ∃ t, exec .graceExpire s = .next t ∧ t.brd.level = 2 ∧ t.brd.expired = true
          ∧ t.brd.grace = some a ∧ t.brd.waits = [] ∧ bitOf (t.cause .brd) 0 = true
          ∧ t.count (.brd 1) = (s.count (.brd 1) + 1) % 2 ^ 32 ∧ t.cfg = s.cfg)
        ∧ (s.brd.level ≠ 1 ∨ s.brd.tmax < 1520 → exec .graceExpire s = .next { s with brd := { s.brd with expired := true } }))
    ∧ (∀ s : State, s.brd.expired = true ∨ (∀ a, s.brd.grace = some a → s.elt < a + fld s.cfg.brd.brd 8 0 * 100000000) →
        exec .graceExpire s = .next s)
    ∧ (∀ s : State, (∀ a, s.brd.fallAt = some a → a ≤ s.elt →
          exec .holdFallExpire s = .next { s with brd := { s.brd with fallAt := none } })
        ∧ ((∀ a, s.brd.fallAt = some a → s.elt < a) → exec .holdFallExpire s = .next s))
    ∧ (∀ (a : Nat) (s : State), s.brd.trip = some a → s.brd.tripMsgs < 3 → s.brd.txStop = false →
        a + 1000 + 10000 * s.brd.tripMsgs ≤ s.elt → ∃ t, exec .tripHoldMessage s = .next t
          ∧ t = { s with brd := { s.brd with tripMsgs := s.brd.tripMsgs + 1 }, eth := t.eth }
          ∧ ∀ p, p < s.nEth → s.portOn p = true → (s.port p).link = true →
              (t.port p).gates = (s.port p).gates ++ holdFrames s p)
    ∧ (∀ s : State, 3 ≤ s.brd.tripMsgs ∨ s.brd.txStop = true
          ∨ (∀ a, s.brd.trip = some a → s.elt < a + 1000 + 10000 * s.brd.tripMsgs) → exec .tripHoldMessage s = .next s)
    ∧ (∀ (a : Nat) (s : State), s.brd.trip = some a → s.brd.txStop = false → a + 30000 ≤ s.elt →
        ∃ t, exec .tripTxStop s = .next t ∧ t = { s with brd := { s.brd with txStop := true }, eth := t.eth }
          ∧ ∀ p, p < s.nEth → t.port p = { s.port p with cur := none })
    ∧ (∀ s : State, s.brd.txStop = true ∨ (∀ a, s.brd.trip = some a → s.elt < a + 30000) → exec .tripTxStop s = .next s)
    ∧ (∀ s : State, s.brd.txStop = true → s.brd.dark = false → exec .tripDomainsOff s = .next { s with
        glb := { s.glb with domain := s.glb.domain &&& 0x30000003#32 }, brd := { s.brd with dark := true } })
    ∧ (∀ s : State, s.brd.txStop = false ∨ s.brd.dark = true → exec .tripDomainsOff s = .next s)
    ∧ (∀ s : State, s.brd.dark = true → fld s.glb.domain 29 28 ≠ 0 → ∃ t e, exec .tripHostOff s = .next t
        ∧ t.glb.domain = s.glb.domain &&& 0xCFFFFFFF#32 ∧ t.log.sram.getLast? = some e ∧ t.log.flash.getLast? = some e
        ∧ e.sev = 6 ∧ e.seq = s.log.next ∧ t.brd = s.brd ∧ bitOf (t.cause .glb) 3 = true)
    ∧ (∀ s : State, s.brd.dark = false ∨ fld s.glb.domain 29 28 = 0 → exec .tripHostOff s = .next s)
    ∧ (∀ (m ms : Nat) (s : State), Runs m 0x0B03#16 s →
        (1 ≤ ms → ms ≤ 60000 → exec (.bridleWait m ms) s = .next (({ s with brd := { s.brd with
            waits := s.brd.waits ++ [(m, s.elt + ms * 1000000)] } }).setBox m { s.box m with waiting := true }))
        ∧ (ms < 1 ∨ 60000 < ms → ∃ t, exec (.bridleWait m ms) s = .next t ∧ Answers m .badParam [] s s t))
    ∧ (∀ (m : Nat) (w : Nat × Nat) (s : State), s.brd.waits.find? (fun x => x.1 = m) = some w → w.2 ≤ s.elt → Live m s →
        s.waits m 0x0B03#16 = true → ∃ t, exec (.bridleWaitTimeout m) s = .next t
          ∧ Responded m .ok (le 4 s.brd.level ++ leInt 4 s.brd.tmax) s t
          ∧ t.brd = { s.brd with waits := s.brd.waits.filter (fun x => x.1 ≠ m) } ∧ t.cfg = s.cfg ∧ t.log = s.log)
    ∧ (∀ (m : Nat) (s : State), (∀ w, s.brd.waits.find? (fun x => x.1 = m) = some w → s.elt < w.2) →
        exec (.bridleWaitTimeout m) s = .next s)
    ∧ (∀ (m : Nat) (mask : BitVec 24) (s : State), Runs m 0x0B04#16 s → ∃ t, exec (.bridleSensorClear m mask) s = .next t
        ∧ Answers m .ok [] s { s with brd := { s.brd with
            failed := s.brd.failed &&& ~~~mask
            streak := (List.range 24).map (fun i => if bitOf mask i then 0 else s.brd.streak.getD i 0) } } t)

/-- CAL_RUN starts a run of the groups that its mask names and waits for M, unless the level is 3 or above
or a run is in progress, each with its status. CAL_RESTORE checks in the order of R455 and starts a run of
the record's entries, or answers CAL_BAD_CHECK, BAD_PARAM or CAL_RANGE. The end of step 2 fixes M, the first
boundary at least 120 us ahead, answers with it, and leaves every group to apply; where DDR groups are among
them, the quiet is scheduled if admission shows slack, else deferred, counted and raised. A group is applied
at its apply point alone: its values come into force, its spare cell becomes active or its loss is reported
once; the last one ends the run, counted and raised. The quiet applies the DDR groups 25 us before PT(M).
The LEAD chooses the boundary of a DDR request, the SHADOW takes it. Where its condition fails, a row
changes nothing. (What OTP knows of entries and serial number is the die's, log entry 28; M of a DDR request
is the model's reading, log entry 44.) (R448, R449, R450, R451, R452, R453, R454, R455, R456) -/
def Obligations.CalibrationRunsAndQuiets : Prop :=
  (∀ (m : Nat) (kinds : Word) (s : State), Runs m 0x0C02#16 s →
      (3 ≤ s.brd.level → ∃ t, exec (.calRun m kinds) s = .next t ∧ Answers m .bridleLevel [] s s t)
      ∧ (s.brd.level < 3 → s.brd.cal.run.isSome = true → ∃ t, exec (.calRun m kinds) s = .next t ∧ Answers m .calBusy [] s s t)
      ∧ (s.brd.level < 3 → s.brd.cal.run = none → ∃ t, exec (.calRun m kinds) s = .next t
          ∧ t = ({ s with brd := t.brd }).setBox m { s.box m with waiting := true }
          ∧ t.brd = { s.brd with cal := { s.brd.cal with refs := t.brd.cal.refs, run := t.brd.cal.run } }
          ∧ t.brd.cal.run = some { groups := (calGroups s).filter (fun g => bitOf kinds g.1), box := some m }))
    ∧ (∀ (m : Nat) (bytes : List Byte) (s : State), Runs m 0x0C04#16 s →
        (3 ≤ s.brd.level → ∃ t, exec (.calRestore m bytes) s = .next t ∧ Answers m .bridleLevel [] s s t)
        ∧ (s.brd.level < 3 → s.brd.cal.run.isSome = true →
            ∃ t, exec (.calRestore m bytes) s = .next t ∧ Answers m .calBusy [] s s t)
        ∧ (s.brd.level < 3 → s.brd.cal.run = none →
            (unle (bytes.take 4) ≠ 0x4C435848 ∨ unle ((bytes.drop 4).take 2) ≠ 1
                ∨ unle ((bytes.drop 12).take 4) ≠ (crc32 (bytes.take 12 ++ le 4 0 ++ bytes.drop 16)).toNat →
              ∃ t, exec (.calRestore m bytes) s = .next t ∧ Answers m .calBadCheck [] s s t)
            ∧ (unle (bytes.take 4) = 0x4C435848 → unle ((bytes.drop 4).take 2) = 1 →
                unle ((bytes.drop 12).take 4) = (crc32 (bytes.take 12 ++ le 4 0 ++ bytes.drop 16)).toNat →
                ∃ t, exec (.calRestore m bytes) s = .next t
                  ∧ let es := recordEntries (unle ((bytes.drop 6).take 2)) (bytes.drop 32)
                    (unle ((bytes.drop 16).take 8) ≠ Config.dieSerial.toNat → Answers m .badParam [] s s t)
                    ∧ (unle ((bytes.drop 16).take 8) = Config.dieSerial.toNat → es.any Option.isNone = true →
                        Answers m .calRange [] s s t)
                    ∧ (unle ((bytes.drop 16).take 8) = Config.dieSerial.toNat → es.any Option.isNone = false →
                        1 ≤ unle ((bytes.drop 6).take 2) → unle ((bytes.drop 6).take 2) ≤ 1000 →
                        bytes.length = 32 + 4 * unle ((bytes.drop 6).take 2) →
                        t = ({ s with brd := t.brd }).setBox m { s.box m with waiting := true }
                        ∧ ∃ r, t.brd.cal.run = some r ∧ r.restored = some (es.filterMap id) ∧ r.box = some m
                          ∧ r.measured = false ∧ ∀ v, v ∈ es.filterMap id → (v.kind, v.index) ∈ r.groups))))
    ∧ (∀ (vals : List CalVal) (r : CalRun) (s : State), s.brd.cal.run = some r → r.measured = false → r.groups ≠ [] →
        ∃ t, exec (.calMeasureDone vals) s = .next t ∧ t.brd.cal.applyAt = s.boundaryIn120
          ∧ t.brd.cal.applyFn = fnOf s.boundaryIn120 ∧ t.brd.cal.vals = s.brd.cal.vals ∧ t.brd.cal.cells = s.brd.cal.cells
          ∧ (∃ r', t.brd.cal.run = some r' ∧ r'.groups = r.groups ∧ r'.restored = r.restored ∧ r'.measured = true
              ∧ r'.left = r.groups ∧ r'.box = none
              ∧ r'.vals = (r.restored.getD vals).filter (fun v => decide ((v.kind, v.index) ∈ r.groups)))
          ∧ (∀ b, r.box = some b → Live b s → s.waits b (s.box b).req.opcode = true →
              Responded b .ok (le 4 (fnOf s.boundaryIn120).toNat) s t)
          ∧ (r.groups.any (fun g => g.1 = 2) = false → t.brd.cal.quiet = s.brd.cal.quiet ∧ t.cnt = s.cnt)
          ∧ (r.groups.any (fun g => g.1 = 2) = true → ¬ (s.pair.role = .shadow ∧ s.pair.st = .inSync) →
              (quietSlack s = true → rateChangeNear s = false → t.brd.cal.quiet = some s.boundaryIn120 ∧ t.cnt = s.cnt)
              ∧ (quietSlack s = false → s.brd.hold = none → t.brd.cal.quiet = s.brd.cal.quiet
                  ∧ t.brd.cal.deferred = s.brd.cal.deferred ||| 4 ∧ bitOf (t.cause .brd) 5 = true
                  ∧ t.count (.brd 6) = (s.count (.brd 6) + 1) % 2 ^ 32)))
    ∧ (∀ (vals : List CalVal) (s : State), (∀ r, s.brd.cal.run = some r → r.measured = true) →
        exec (.calMeasureDone vals) s = .next s)
    ∧ (∀ (k i : Nat) (spare : Bool) (r : CalRun) (s : State), s.brd.cal.run = some r → r.measured = true → (k, i) ∈ r.left →
        applyPoint s (k, i) = true → ∃ t, exec (.calApply k i spare) s = .next t
          ∧ t.brd.cal.vals = putVals s.brd.cal.vals (r.vals.filter (fun v => (v.kind, v.index) = (k, i)))
          ∧ ((k = 3 ∨ k = 4) → spare = true →
              t.brd.cal.cells = tset s.brd.cal.cells (256 * k + i) (!(tget s.brd.cal.cells (256 * k + i) false)))
          ∧ (¬ (k = 3 ∨ k = 4) ∨ spare = false → t.brd.cal.cells = s.brd.cal.cells)
          ∧ ((k = 3 ∨ k = 4) → spare = false → 256 * k + i ∉ s.brd.cal.lost →
              t.brd.cal.lost = s.brd.cal.lost ++ [256 * k + i] ∧ bitOf (t.cause .brd) 7 = true)
          ∧ (r.left.filter (· ≠ (k, i)) ≠ [] → t.brd.cal.run = some { r with left := r.left.filter (· ≠ (k, i)) } ∧ t.cnt = s.cnt)
          ∧ (r.left.filter (· ≠ (k, i)) = [] → t.count (.brd 4) = (s.count (.brd 4) + 1) % 2 ^ 32
              ∧ bitOf (t.cause .brd) 4 = true
              ∧ (r.restored = none → s.brd.cal.next = [] → t.brd.cal.run = none)
              ∧ (r.restored.isSome = true → t.brd.cal.run = some { groups := calGroups s })))
    ∧ (∀ (k i : Nat) (spare : Bool) (s : State), applyPoint s (k, i) = false
          ∨ (∀ r, s.brd.cal.run = some r → r.measured = false ∨ (k, i) ∉ r.left) →
        exec (.calApply k i spare) s = .next s)
    ∧ (∀ (r : CalRun) (m : Nat) (s : State), s.brd.cal.run = some r → s.brd.cal.quiet = some m → s.ym.latest = some m →
        (s.cfgFor m).ym.ptAt m ≤ s.elt + 45000 → s.elt < (s.cfgFor m).ym.ptAt m → ∃ t, exec .ddrQuiet s = .next t
          ∧ t.brd.cal.quiet = none ∧ t.brd.cal.applyAt = s.brd.cal.applyAt
          ∧ (r.left.filter (fun g => g.1 ≠ 2) ≠ [] →
              t.brd.cal.run = some { r with left := r.left.filter (fun g => g.1 ≠ 2) } ∧ t.cnt = s.cnt)
          ∧ (r.measured = true → r.left.filter (fun g => g.1 ≠ 2) = [] →
              t.count (.brd 4) = (s.count (.brd 4) + 1) % 2 ^ 32 ∧ bitOf (t.cause .brd) 4 = true))
    ∧ (∀ (m : Nat) (s : State), s.brd.cal.run = none → s.brd.cal.quiet = some m → s.ym.latest = some m →
        (s.cfgFor m).ym.ptAt m ≤ s.elt + 45000 → s.elt < (s.cfgFor m).ym.ptAt m →
        exec .ddrQuiet s = .next { s with brd := { s.brd with cal := { s.brd.cal with quiet := none } } })
    ∧ (∀ s : State, s.brd.cal.quiet = none ∨ s.ym.latest ≠ s.brd.cal.quiet
          ∨ (∀ m, s.brd.cal.quiet = some m → s.elt + 45000 < (s.cfgFor m).ym.ptAt m ∨ (s.cfgFor m).ym.ptAt m ≤ s.elt) →
        exec .ddrQuiet s = .next s)
    ∧ (∀ (n : Nat) (s : State), s.pair.st = .inSync → s.pair.role = .lead → quietSlack s = true → rateChangeNear s = false →
        exec (.ddrApplyRequest n) s = .next { s with
          brd := { s.brd with cal := { s.brd.cal with
            quiet := some (max n s.boundaryIn120), deferred := s.brd.cal.deferred &&& 0x1B#5 } },
          out := .ddrRequest (max n s.boundaryIn120) :: s.out })
    ∧ (∀ (n : Nat) (s : State), s.pair.st = .inSync → s.pair.role = .shadow →
        exec (.ddrApplyRequest n) s = .next { s with brd := { s.brd with cal := { s.brd.cal with
          quiet := some n, deferred := s.brd.cal.deferred &&& 0x1B#5 } } })
    ∧ (∀ (n : Nat) (s : State), s.pair.role = .lead → quietSlack s = false ∨ rateChangeNear s = true →
        exec (.ddrApplyRequest n) s = .next s)
    ∧ (∀ (n : Nat) (s : State), s.pair.st ≠ .inSync → exec (.ddrApplyRequest n) s = .next s)

/-- A path that may write a unit (it is free or its own) claims it with its own code or releases it with 0,
and while the unit runs changes the owner only. START loads Init XOR the fold value and sets RUNNING;
settings outside the limits end the run with ERR 0b01; with SYNC_PT a scan waits for the PT edge. CHK_DATA
feeds its four bytes, bits 7:0 first, CHK_DATA8 one; FINISH ends the run: the result is the value XOR the
XOR-out, compared where CMP_EN is set, DONE, and the sources of MISMATCH and DONE follow. A scan ends with
its last byte, ERR 0b01 beyond the object, ERR 0b10 at a read the memory code refuses. ABORT keeps the value
over the bytes fed; after DONE it reads 0b10. RESUME continues with the value as it stands. Ones written to
CHK_STATUS clear DONE and MISMATCH. Another path's write is discarded and recorded with cause 0x2. CHECK_RUN
and CHECK_ABORT do the same for Groom and answer. (How CHECK_RUN's answer is laid out is log entry 9.)
(R464, R465, R466, R467, R468, R470, R472, R473, R483, R484) -/
def Obligations.CheckUnitsRunScanAndAbort : Prop :=
  (∀ (p : Path) (u : Nat) (v : Word) (s : State), u < 4 → (s.unit u).mayWrite p = true →
      let own := if fld v 31 29 = 0 ∨ ownerCode p = some (fld v 31 29) then fld v 31 29 else (s.unit u).owner
      ((s.unit u).running = false → exec (.checkClaim p u v) s
          = .next (s.setUnit u { s.unit u with ctrl := setFld (v &&& 0xFFC0FFFF#32) 31 29 own }))
      ∧ ((s.unit u).running = true → exec (.checkClaim p u v) s
          = .next (s.setUnit u { s.unit u with ctrl := setFld (s.unit u).ctrl 31 29 own })))
    ∧ (∀ (p : Path) (u fed : Nat) (v : Word) (s : State), u < 4 → (s.unit u).mayWrite p = false → p ≠ .groom →
        exec (.checkClaim p u v) s = .next (s.accessError p 2 (chkAddr u 0))
        ∧ exec (.checkStart p u) s = .next (s.accessError p 2 (chkAddr u 4))
        ∧ exec (.checkData p u v) s = .next (s.accessError p 2 (chkAddr u 0x1C))
        ∧ exec (.checkData8 p u v) s = .next (s.accessError p 2 (chkAddr u 0x20))
        ∧ exec (.checkFinish p u) s = .next (s.accessError p 2 (chkAddr u 4))
        ∧ exec (.checkAbortCmd p u fed) s = .next (s.accessError p 2 (chkAddr u 4))
        ∧ exec (.checkResume p u) s = .next (s.accessError p 2 (chkAddr u 4))
        ∧ exec (.checkStatusWrite p u v) s = .next (s.accessError p 2 (chkAddr u 8)))
    ∧ (∀ (p : Path) (u fed : Nat) (v : Word) (s : State), 4 ≤ u →
        exec (.checkClaim p u v) s = .next s ∧ exec (.checkStart p u) s = .next s ∧ exec (.checkData p u v) s = .next s
        ∧ exec (.checkData8 p u v) s = .next s ∧ exec (.checkFinish p u) s = .next s
        ∧ exec (.checkAbortCmd p u fed) s = .next s ∧ exec (.checkResume p u) s = .next s
        ∧ exec (.checkStatusWrite p u v) s = .next s)
    ∧ (∀ (p : Path) (u : Nat) (s : State), u < 4 → (s.unit u).mayWrite p = true →
        ((s.unit u).settingsOk = true → ∃ t, exec (.checkStart p u) s = .next t
          ∧ t.unit u = { s.unit u with
              value := chkInit (s.unit u).alg ^^^ (s.unit u).foldValue, pos := 0, running := true, done := false
              mismatch := false, torn := false, abortRes := 0, err := 0
              armed := (s.unit u).scanMode && (s.unit u).syncPt
              content := if ((s.unit u).scanMode && (s.unit u).syncPt) = true then none else s.ym.lit }
          ∧ (∀ j, j ≠ u → t.unit j = s.unit j) ∧ t = { s with far := t.far, evc := t.evc })
        ∧ ((s.unit u).settingsOk = false → ∃ t, exec (.checkStart p u) s = .next t ∧ (t.unit u).err = 1
          ∧ (t.unit u).done = true ∧ (t.unit u).running = false
          ∧ (t.unit u).result = (t.unit u).value ^^^ chkXor (s.unit u).alg ∧ ∀ j, j ≠ u → t.unit j = s.unit j))
    ∧ (∀ (u : Nat) (s : State), (∀ n, u < 4 → (s.unit u).armed = true → s.ym.lit = some n →
          exec (.checkSyncStart u) s = .next (s.setUnit u { s.unit u with armed := false, content := some n }))
        ∧ (4 ≤ u ∨ (s.unit u).armed = false ∨ s.ym.lit = none → exec (.checkSyncStart u) s = .next s))
    ∧ (∀ (p : Path) (u : Nat) (v : Word) (s : State), u < 4 → (s.unit u).mayWrite p = true →
        ((s.unit u).running = true → (s.unit u).scanMode = false →
          exec (.checkData p u v) s = .next (s.setUnit u { s.unit u with
            value := (le 4 v.toNat).foldl (chkByte (s.unit u).alg) (s.unit u).value, pos := (s.unit u).pos + 4#32 })
          ∧ exec (.checkData8 p u v) s = .next (s.setUnit u { s.unit u with
            value := chkByte (s.unit u).alg (s.unit u).value (BitVec.ofNat 8 v.toNat), pos := (s.unit u).pos + 1#32 }))
        ∧ ((s.unit u).running = false ∨ (s.unit u).scanMode = true →
          exec (.checkData p u v) s = .next s ∧ exec (.checkData8 p u v) s = .next s ∧ exec (.checkFinish p u) s = .next s)
        ∧ ((s.unit u).running = true → (s.unit u).scanMode = false → (s.unit u).box = none →
          ∃ t, exec (.checkFinish p u) s = .next t
            ∧ (let res := (s.unit u).value ^^^ chkXor (s.unit u).alg
               let bad := (s.unit u).cmpEn && decide (res ≠ (s.unit u).expect)
               t.unit u = { s.unit u with
                 result := res, mismatch := (s.unit u).mismatch || bad, done := true, running := false, armed := false, err := 0 }
               ∧ t.evc = (if bad then s.evc.occur (200 + 2 * u) else s.evc).occur (201 + 2 * u))
            ∧ (∀ j, j ≠ u → t.unit j = s.unit j) ∧ t = { s with far := t.far, evc := t.evc }))
    ∧ (∀ (p : Path) (u fed : Nat) (s : State), u < 4 → (s.unit u).mayWrite p = true → (s.unit u).box = none →
        ((s.unit u).done = true → exec (.checkAbortCmd p u fed) s = .next (s.setUnit u { s.unit u with abortRes := 2 }))
        ∧ ((s.unit u).done = false → (s.unit u).running = false ∨ (s.unit u).scanMode = false ∨ (s.unit u).armed = true →
          exec (.checkAbortCmd p u fed) s
            = .next (s.setUnit u { s.unit u with abortRes := 1, running := false, armed := false }))
        ∧ ((s.unit u).done = false → (s.unit u).running = true → (s.unit u).scanMode = true → (s.unit u).armed = false →
          (s.unit u).torn = false → ∃ t, exec (.checkAbortCmd p u fed) s = .next t
            ∧ (let o := scanObject s (s.unit u).region (s.unit u).index (s.unit u).content
               let f := scanFrom (s.unit u) o.1 o.2 none (min fed (s.unit u).length.toNat - (s.unit u).pos.toNat)
                 (s.unit u).pos.toNat (s.unit u).value
               t.unit u = { s.unit u with
                 value := f.1, pos := BitVec.ofNat 32 f.2.1, abortRes := 1, running := false, armed := false })
            ∧ t = { s with far := t.far }))
    ∧ (∀ (p : Path) (u : Nat) (s : State), u < 4 → (s.unit u).mayWrite p = true →
        ((s.unit u).running = false →
          exec (.checkResume p u) s = .next (s.setUnit u { s.unit u with running := true, content := s.ym.lit }))
        ∧ ((s.unit u).running = true → exec (.checkResume p u) s = .next s))
    ∧ (∀ (u : Nat) (bad : Option (Nat × Hit)) (s : State), u < 4 → (s.unit u).running = true → (s.unit u).scanMode = true →
        (s.unit u).armed = false → ∃ t, exec (.checkScanDone u bad) s = .next t
          ∧ (t.unit u).done = true ∧ (t.unit u).running = false
          ∧ (t.unit u).result = (t.unit u).value ^^^ chkXor (s.unit u).alg
          ∧ (t.unit u).mismatch
              = ((s.unit u).mismatch || ((s.unit u).cmpEn && decide ((t.unit u).result ≠ (s.unit u).expect)))
          ∧ (let o := scanObject s (s.unit u).region (s.unit u).index (s.unit u).content
             let f := scanFrom (s.unit u) o.1 o.2 (bad.map (·.1)) ((s.unit u).length.toNat - (s.unit u).pos.toNat)
               (s.unit u).pos.toNat (s.unit u).value
             (t.unit u).err = f.2.2 ∧ (t.unit u).pos = BitVec.ofNat 32 f.2.1
               ∧ ((s.unit u).torn = false → (t.unit u).value = f.1)
               ∧ (bad.isSome = true → f.2.2 = 2 → bitOf (t.cause .far) 2 = true)
               ∧ (bad = none → t.causes = s.causes ∨ (s.unit u).box.isSome = true))
          ∧ (∀ m, (s.unit u).box = some m → Live m s → s.waits m 0x0D01#16 = true →
              Responded m .ok (le 4 (t.unit u).status.toNat ++ le 4 (t.unit u).result.toNat) s t ∧ (t.unit u).owner = 0
                ∧ (t.unit u).box = none))
    ∧ (∀ (u : Nat) (bad : Option (Nat × Hit)) (s : State), 4 ≤ u ∨ (s.unit u).running = false ∨ (s.unit u).scanMode = false
        ∨ (s.unit u).armed = true → exec (.checkScanDone u bad) s = .next s)
    ∧ (∀ (p : Path) (u : Nat) (v : Word) (s : State), u < 4 → (s.unit u).mayWrite p = true →
        ∃ t, exec (.checkStatusWrite p u v) s = .next t
          ∧ t.unit u = { s.unit u with
              done := (s.unit u).done && !bitOf v 30, mismatch := (s.unit u).mismatch && !bitOf v 29 }
          ∧ (∀ j, j ≠ u → t.unit j = s.unit j) ∧ t = { s with far := t.far, evc := t.evc })
    ∧ (∀ (m u : Nat) (img : ChkImages) (data : List Byte) (s : State), Runs m 0x0D01#16 s →
        let x : ChkUnit := { ctrl := setFld (img.ctrl &&& 0xFFC0FFFF#32) 31 29 2, expect := img.expect, fold := img.fold,
                             start := img.start, length := img.length, chunk := img.chunk, stride := img.stride }
        (4 ≤ u ∨ 3968 < data.length → ∃ t, exec (.checkRun m u img data) s = .next t ∧ Answers m .badParam [] s s t)
        ∧ (u < 4 → data.length ≤ 3968 → (s.unit u).owner ≠ 0 →
            ∃ t, exec (.checkRun m u img data) s = .next t ∧ Answers m .checkUnitBusy [] s s t)
        ∧ (u < 4 → data.length ≤ 3968 → (s.unit u).owner = 0 → x.settingsOk = true → x.scanMode = false →
            ∃ t, exec (.checkRun m u img data) s = .next t
              ∧ Responded m .ok (le 4 (t.unit u).status.toNat ++ le 4 (t.unit u).result.toNat) s t
              ∧ (t.unit u).result = data.foldl (chkByte x.alg) (chkInit x.alg ^^^ x.foldValue) ^^^ chkXor x.alg
              ∧ (t.unit u).mismatch = (x.cmpEn && decide ((t.unit u).result ≠ x.expect))
              ∧ (t.unit u).done = true ∧ (t.unit u).running = false ∧ (t.unit u).err = 0 ∧ (t.unit u).owner = 0)
        ∧ (u < 4 → data.length ≤ 3968 → (s.unit u).owner = 0 → x.settingsOk = false →
            ∃ t, exec (.checkRun m u img data) s = .next t
              ∧ Responded m .ok (le 4 (t.unit u).status.toNat ++ le 4 (t.unit u).result.toNat) s t
              ∧ (t.unit u).err = 1 ∧ (t.unit u).done = true ∧ (t.unit u).owner = 0)
        ∧ (u < 4 → data.length ≤ 3968 → (s.unit u).owner = 0 → x.settingsOk = true → x.scanMode = true →
            ∃ t, exec (.checkRun m u img data) s = .next t ∧ (t.box m).waiting = true ∧ (t.unit u).box = some m
              ∧ (t.unit u).running = true ∧ (t.unit u).owner = 2 ∧ (t.unit u).pos = 0
              ∧ (t.unit u).value = chkInit x.alg ^^^ x.foldValue))
    ∧ (∀ (m u fed : Nat) (s : State), Runs m 0x0D02#16 s →
        (4 ≤ u → ∃ t, exec (.checkAbort m u fed) s = .next t ∧ Answers m .badParam [] s s t)
        ∧ (u < 4 → (s.unit u).mayWrite .groom = false →
            ∃ t, exec (.checkAbort m u fed) s = .next t ∧ Answers m .checkUnitBusy [] s s t)
        ∧ (u < 4 → (s.unit u).mayWrite .groom = true → (s.unit u).done = true → ∃ t, exec (.checkAbort m u fed) s = .next t
            ∧ Answers m .alreadyDone (le 4 2) s (s.setUnit u { s.unit u with abortRes := 2 }) t)
        ∧ (u < 4 → (s.unit u).mayWrite .groom = true → (s.unit u).done = false → (s.unit u).box = none →
            (s.unit u).running = false ∨ (s.unit u).scanMode = false ∨ (s.unit u).armed = true →
            ∃ t, exec (.checkAbort m u fed) s = .next t
              ∧ Answers m .ok (le 4 1) s (s.setUnit u { s.unit u with abortRes := 1, running := false, armed := false }) t))

/-- A scrubber's read that is clean changes nothing; a corrected one is counted and raised, and where the
word read again is not clean the hard error is counted, raised, recorded and its bank noted; one that finds
no correctable word is counted, raised and logged at ERROR, and strikes the Paddock's word that it belongs
to. The patrol steps one line a read; the last line of the last channel ends the pass, which is raised. A
round begins with slice 0 of the first Stall in service after ROUND_S seconds. A slice's end returns the
Stall, counts the run, and goes on with the next slice or Stall; a wrong signature withdraws the Stall,
counted, raised and logged. A slice not granted within 1 s is deferred, counted and raised. A rotation
copies the region's next bank after MARCH_S seconds; the end of its March tests makes the bank the spare, or
leaves the region without one. TEST_RUN waits for one slice or one rotation, and is refused with its status.
Where its condition fails, a row changes nothing. (Which bank and which slice they take, and that a region
without a spare refuses, is log entry 30.) (R458, R459, R460, R461, R462, R463, R474, R478, R479, R481,
R482, R483) -/
def Obligations.ScrubbersAndFieldTests : Prop :=
  (∀ (g a : Nat) (r again : EccRead) (held : Option PdkWord) (s : State), g < 12 → g ≠ 3 →
      (r.out = .clean → exec (.sramScrub g a { read := r, again := again } held) s = .next s)
      ∧ (r.out = .corrected → again.out = .clean → ∃ t, exec (.sramScrub g a { read := r, again := again } held) s = .next t
          ∧ t.count (.intErr 0) = (s.count (.intErr 0) + 1) % 2 ^ 32 ∧ bitOf (t.cause .far) 1 = true
          ∧ t = { s with cnt := t.cnt, causes := t.causes, evc := t.evc })
      ∧ (r.out = .corrected → again.out ≠ .clean → ∃ t, exec (.sramScrub g a { read := r, again := again } held) s = .next t
          ∧ t.count (.intErr 0) = (s.count (.intErr 0) + 1) % 2 ^ 32 ∧ t.count (.intErr 3) = (s.count (.intErr 3) + 1) % 2 ^ 32
          ∧ bitOf (t.cause .far) 1 = true ∧ bitOf (t.cause .far) 3 = true
          ∧ t.far.hard = s.far.hard ++ [(g, a / 8 * 8 / 65536)] ∧ t.far.errAddr = BitVec.ofNat 32 (a / 8))
      ∧ ((r.out = .uncorrectable ∨ r.out = .address) → ∃ t e, exec (.sramScrub g a { read := r, again := again } held) s = .next t
          ∧ (r.out = .uncorrectable → t.count (.intErr 1) = (s.count (.intErr 1) + 1) % 2 ^ 32)
          ∧ (r.out = .address → t.count (.intErr 2) = (s.count (.intErr 2) + 1) % 2 ^ 32)
          ∧ bitOf (t.cause .far) 2 = true ∧ t.log.sram.getLast? = some e ∧ e.sev = 4
          ∧ t.far.errAddr = BitVec.ofNat 32 (a / 8) ∧ t.far.hard = s.far.hard
          ∧ (∀ k i, held = some (.slot k i) → t.pdk.bad = (if g = 10 then s.pdk.bad ++ [(.slot k i,
              { region := g, addr := a / 8 * 8, isAddr := decide (r.out = .address) })] else s.pdk.bad))
          ∧ (∀ f, held = some (.fan f) → t.pdk.bad = (if g = 11 then s.pdk.bad ++ [(.fan f,
              { region := g, addr := a / 8 * 8, isAddr := decide (r.out = .address) })] else s.pdk.bad))
          ∧ (held = none → t.pdk = s.pdk)))
    ∧ (∀ (g a : Nat) (r again : EccRead) (held : Option PdkWord) (s : State), 12 ≤ g ∨ g = 3 → exec (.sramScrub g a { read := r, again := again } held) s = .next s)
    ∧ (∀ (c w : Nat) (r again : EccRead) (s : State), c < s.channels → tget s.far.patrol c 0 < channelLines s c → w < 8 →
        ∃ t, exec (.patrolRead c w r again) s = .next t
          ∧ ((∃ k, k < s.channels ∧ tget (tset s.far.patrol c (tget s.far.patrol c 0 + 1)) k 0 < channelLines s k) →
              t.far.patrol = tset s.far.patrol c (tget s.far.patrol c 0 + 1))
          ∧ ((∀ k, k < s.channels → channelLines s k ≤ tget (tset s.far.patrol c (tget s.far.patrol c 0 + 1)) k 0) →
              t.far.patrol = [] ∧ bitOf (t.cause .far) 6 = true)
          ∧ (r.out = .clean → t.cnt = s.cnt ∧ t.log = s.log)
          ∧ (r.out = .corrected → bitOf (t.cause .far) 1 = true ∧ t.count (.intErr 0) = (s.count (.intErr 0) + 1) % 2 ^ 32)
          ∧ (r.out = .uncorrectable → bitOf (t.cause .far) 2 = true ∧ t.count (.intErr 1) = (s.count (.intErr 1) + 1) % 2 ^ 32)
          ∧ (r.out = .address → bitOf (t.cause .far) 2 = true ∧ t.count (.intErr 2) = (s.count (.intErr 2) + 1) % 2 ^ 32)
          ∧ t = { s with far := t.far, cnt := t.cnt, causes := t.causes, evc := t.evc, log := t.log })
    ∧ (∀ (c w : Nat) (r again : EccRead) (s : State), s.channels ≤ c ∨ channelLines s c ≤ tget s.far.patrol c 0 ∨ 8 ≤ w →
        exec (.patrolRead c w r again) s = .next s)
    ∧ (∀ s : State, s.fieldOn = true → s.inRound = false → s.far.roundAt + 1000000000 * fld s.cfg.far 23 12 ≤ s.elt →
        (∀ j, s.nextStall 0 = some j → exec .farrierRound s = .next { s with far := { s.far with
            roundAt := s.elt, want := s.far.want ++ [{ stall := j, slice := 0, sinceNs := s.elt }] } })
        ∧ (s.nextStall 0 = none → exec .farrierRound s = .next { s with far := { s.far with roundAt := s.elt } }))
    ∧ (∀ s : State, s.fieldOn = false ∨ s.inRound = true ∨ s.elt < s.far.roundAt + 1000000000 * fld s.cfg.far 23 12 →
        exec .farrierRound s = .next s)
    ∧ (∀ (sig : DWord) (x : Slice) (s : State), s.far.active = some x → ∃ t, exec (.sliceEnd sig) s = .next t
        ∧ t.far.active = none ∧ t.count (.far 0) = (s.count (.far 0) + 1) % 2 ^ 32 ∧ (t.stall x.stall).slice = false
        ∧ (∀ k, k ≠ x.stall → t.stall k = s.stall k) ∧ t.cfg = s.cfg
        ∧ (sig = Config.signature x.stall x.slice → (t.stall x.stall).withdrawn = (s.stall x.stall).withdrawn
            ∧ t.count (.far 2) = s.count (.far 2) ∧ t.far.fault = s.far.fault ∧ t.log = s.log)
        ∧ (sig ≠ Config.signature x.stall x.slice → (t.stall x.stall).withdrawn = true ∧ t.far.fault = true
            ∧ t.count (.far 2) = (s.count (.far 2) + 1) % 2 ^ 32 ∧ bitOf (t.cause .far) 4 = true ∧ bitOf (t.cause .far) 0 = true
            ∧ (t.log.sram.getLast?.map (·.sev)) = some 4)
        ∧ (x.box = none → sig = Config.signature x.stall x.slice → x.slice < 15 →
            t.far.want = s.far.want ++ [{ stall := x.stall, slice := x.slice + 1, sinceNs := s.elt }])
        ∧ (x.box = none → sig ≠ Config.signature x.stall x.slice ∨ 15 ≤ x.slice →
            (∀ j, s.nextStall (x.stall + 1) = some j →
              t.far.want = s.far.want ++ [{ stall := j, slice := 0, sinceNs := s.elt }])
            ∧ (s.nextStall (x.stall + 1) = none → t.far.want = s.far.want))
        ∧ (∀ m, x.box = some m → Live m s → s.waits m 0x0E02#16 = true → t.far.want = s.far.want
            ∧ Responded m (if sig = Config.signature x.stall x.slice then .ok else .testFailed)
              (le 4 (if sig = Config.signature x.stall x.slice then 0 else 1) ++ le 8 sig.toNat) s t))
    ∧ (∀ (sig : DWord) (s : State), s.far.active = none → exec (.sliceEnd sig) s = .next s)
    ∧ (∀ (x : Slice) (s : State), s.far.want.find? (fun x => x.sinceNs + 1000000000 ≤ s.elt) = some x →
        ∃ t, exec .sliceDefer s = .next t ∧ t.count (.far 3) = (s.count (.far 3) + 1) % 2 ^ 32 ∧ bitOf (t.cause .far) 5 = true
          ∧ t.far.active = s.far.active ∧ t.pdk = s.pdk
          ∧ (x.box = none → (∀ j, s.nextStall (x.stall + 1) = some j →
                t.far.want = s.far.want.erase x ++ [{ stall := j, slice := 0, sinceNs := s.elt }])
              ∧ (s.nextStall (x.stall + 1) = none → t.far.want = s.far.want.erase x))
          ∧ (∀ m, x.box = some m → Live m s → s.waits m 0x0E02#16 = true →
              t.far.want = s.far.want.erase x ∧ Responded m .testDeferred [] s t))
    ∧ (∀ s : State, s.far.want.find? (fun x => x.sinceNs + 1000000000 ≤ s.elt) = none → exec .sliceDefer s = .next s)
    ∧ (∀ (r : Nat) (s : State), s.fieldOn = true → s.mayRotate r = true →
        (s.rot r).atNs + 1000000000 * fld s.cfg.far 11 0 ≤ s.elt → exec (.rotationStart r) s = .next (s.setRot r { s.rot r with
          copy := some (nextBank s r), last := some (nextBank s r), atNs := s.elt, box := none }))
    ∧ (∀ (r : Nat) (s : State), s.fieldOn = false ∨ s.mayRotate r = false
        ∨ s.elt < (s.rot r).atNs + 1000000000 * fld s.cfg.far 11 0 → exec (.rotationStart r) s = .next s)
    ∧ (∀ (r b : Nat) (pass : Bool) (s : State), (s.rot r).march = some b → ∃ t, exec (.marchDone r pass) s = .next t
        ∧ t.rot r = { s.rot r with march := none, spare := if pass then some b else none, box := none }
        ∧ (∀ k, k ≠ r → t.rot k = s.rot k) ∧ t.count (.far 1) = (s.count (.far 1) + 1) % 2 ^ 32 ∧ t.pdk = s.pdk
        ∧ (pass = true → t.count (.far 2) = s.count (.far 2))
        ∧ (pass = false → t.count (.far 2) = (s.count (.far 2) + 1) % 2 ^ 32 ∧ bitOf (t.cause .far) 4 = true
            ∧ bitOf (t.cause .far) 0 = true)
        ∧ (∀ m, (s.rot r).box = some m → Live m s → s.waits m 0x0E02#16 = true →
            ∃ v, Responded m (if pass then .ok else .testFailed) (le 4 (if pass then 0 else 1) ++ le 8 v) s t))
    ∧ (∀ (r : Nat) (pass : Bool) (s : State), (s.rot r).march = none → exec (.marchDone r pass) s = .next s)
    ∧ (∀ (m k i : Nat) (s : State), Runs m 0x0E02#16 s →
        (1 < k ∨ (k = 1 ∧ regionBanks i = 0) → ∃ t, exec (.testRun m k i) s = .next t ∧ Answers m .badParam [] s s t)
        ∧ (k = 0 → s.nStalls ≤ i → ∃ t, exec (.testRun m k i) s = .next t ∧ Answers m .variantUnsupported [] s s t)
        ∧ ((k = 0 ∧ i < s.nStalls) ∨ (k = 1 ∧ 0 < regionBanks i) → s.fieldOn = false →
          ∃ t, exec (.testRun m k i) s = .next t ∧ Answers m .badState [] s s t)
        ∧ (k = 0 → i < s.nStalls → s.fieldOn = true → (s.stall i).withdrawn = true →
          ∃ t, exec (.testRun m k i) s = .next t ∧ Answers m .badState [] s s t)
        ∧ (k = 0 → i < s.nStalls → s.fieldOn = true → (s.stall i).withdrawn = false → ∃ t, exec (.testRun m k i) s = .next t
          ∧ t = ({ s with far := t.far, freeCtr := t.freeCtr }).setBox m { s.box m with waiting := true }
          ∧ ∃ n, n < 16 ∧ t.far = { s.far with
              want := s.far.want ++ [{ stall := i, slice := n, sinceNs := s.elt, box := some m }] })
        ∧ (k = 1 → s.fieldOn = true → s.mayRotate i = false → 0 < regionBanks i →
          ∃ t, exec (.testRun m k i) s = .next t ∧ Answers m .badState [] s s t)
        ∧ (k = 1 → s.fieldOn = true → s.mayRotate i = true → exec (.testRun m k i) s = .next ((s.setRot i { s.rot i with
            copy := some (nextBank s i), last := some (nextBank s i), atNs := s.elt, box := some m }).setBox m
              { s.box m with waiting := true })))

/-- SEC_LC_SET answers SEC_STATE for a transition R486 does not list, BAD_STATE for PROVISIONED to FIELD
without a SERVICE credential, AUTH_FAILED where FIELD_DEBUG or RMA lacks a valid signature; else the device
resets in the new state, its outputs and parameter banks gone, the settings erased in RMA, the keys erased
in SCRAPPED. A factory token moves RAW to TEST. A credential is added or replaced up to 16, deleted unless
it is the last SERVICE one in FIELD; a change lets a refused pair form again. The settings are replaced. A
signing key is revoked unless it is the last or the running one. The responder answers each request by its
measurement registers and certificate; outside slot 0 or the indices it answers an error, and a signature
needs the key store. A challenge is issued, expires after 60 s and with any attempt; a valid answer opens
the debug module, extends register 5, is raised and logged at WARNING; a failure counts to 3, where every
unlock is refused. A halted core makes FAULT_OK fail. Scan shifting zeroises the keys first. Where its
condition fails, a row changes nothing. (Whether a signature verifies is the command's operand, log entry
32.) (R475, R486, R487, R488, R489, R491, R492, R495, R497, R498, R499, R511) -/
def Obligations.SecurityStatesKeysAndDebug : Prop :=
  (∀ (m : Nat) (l : Lc) (v : Bool) (b : Boot) (s : State), Runs m 0x1002#16 s →
      (lcAllowed s.lcNow l = false → ∃ t, exec (.secLcSet m l v b) s = .next t ∧ Answers m .secState [] s s t)
      ∧ (s.lcNow = .provisioned → l = .field → s.creds.any Cred.service = false →
          ∃ t, exec (.secLcSet m l v b) s = .next t ∧ Answers m .badState [] s s t)
      ∧ (s.lcNow = .field → (l = .fieldDebug ∨ l = .rma) → v = false →
          ∃ t, exec (.secLcSet m l v b) s = .next t ∧ Answers m .authFailed [] s s t)
      ∧ (lcAllowed s.lcNow l = true → (s.lcNow = .provisioned → l = .field → s.creds.any Cred.service = true) →
          ((l = .fieldDebug ∨ l = .rma) → v = true) → ∃ t, exec (.secLcSet m l v b) s = .next t
          ∧ t.lcNow = l ∧ t.elt = 0 ∧ t.tim = {} ∧ t.sched = [] ∧ t.gen = 0 ∧ t.mbx.sessions = [] ∧ t.line = []
          ∧ t.pdk.bank0 = [] ∧ t.pdk.bank1 = [] ∧ t.pair.out = false ∧ sameDevice s t
          ∧ (l = .rma → t.sec.settings = []) ∧ (l = .scrapped → t.sec.keys = false ∧ t.sec.dbgRevoked = 3)))
    ∧ (∀ (v : Bool) (b : Boot) (s : State),
        (s.lcNow = .raw → v = true → ∃ t, exec (.factoryToken v b) s = .next t ∧ t.lcNow = .test ∧ t.elt = 0 ∧ sameDevice s t)
        ∧ (s.lcNow ≠ .raw ∨ v = false → exec (.factoryToken v b) s = .next s))
    ∧ (∀ (m : Nat) (c : Cred) (s : State), Runs m 0x1003#16 s →
        (16 ≤ (s.creds.filter (fun x => x.id ≠ c.id)).length →
          ∃ t, exec (.secCredSet m c) s = .next t ∧ Answers m .noResource [] s s t)
        ∧ ((s.creds.filter (fun x => x.id ≠ c.id)).length < 16 →
          (s.pair.st ≠ .refused → ∃ t, exec (.secCredSet m c) s = .next t ∧ Answers m .ok [] s
            (s.setSettings { s.settings with creds := s.creds.filter (fun x => x.id ≠ c.id) ++ [c] }) t)
          ∧ (s.pair.st = .refused → ∃ t, exec (.secCredSet m c) s = .next t ∧ Responded m .ok [] s t
            ∧ t.creds = s.creds.filter (fun x => x.id ≠ c.id) ++ [c]
            ∧ t.pair = { s.pair with st := if s.pair.hbRx.isSome then .forming else .alone })))
    ∧ (∀ (m : Nat) (id : Half) (s : State), Runs m 0x1004#16 s →
        ((∀ c, c ∈ s.creds → c.id ≠ id) → ∃ t, exec (.secCredDel m id) s = .next t ∧ Answers m .badParam [] s s t)
        ∧ ((∃ c, c ∈ s.creds ∧ c.id = id) →
          (s.lcNow = .field → s.creds.any Cred.service = true →
            (s.creds.filter (fun x => x.id ≠ id)).any Cred.service = false →
            ∃ t, exec (.secCredDel m id) s = .next t ∧ Answers m .badState [] s s t)
          ∧ (s.lcNow ≠ .field ∨ (s.creds.filter (fun x => x.id ≠ id)).any Cred.service = true → s.pair.st ≠ .refused →
            ∃ t, exec (.secCredDel m id) s = .next t ∧ Answers m .ok [] s
              (s.setSettings { s.settings with creds := s.creds.filter (fun x => x.id ≠ id) }) t)))
    ∧ (∀ (m : Nat) (w : Bool) (g r : List Byte) (s : State), Runs m 0x1006#16 s → ∃ t, exec (.secSettingsSet m w g r) s = .next t
        ∧ Answers m .ok [] s (s.setSettings { s.settings with wipe := w, mgmt := g, rxAddrs := r }) t)
    ∧ (∀ (m k : Nat) (s : State), Runs m 0x1007#16 s →
        (4 ≤ k → ∃ t, exec (.secKeyRevoke m k) s = .next t ∧ Answers m .badParam [] s s t)
        ∧ (k < 4 → (s.sec.revoked ||| bitMask 4 k = 0xF#4 ∨ k = s.sec.running.keyIndex) →
            ∃ t, exec (.secKeyRevoke m k) s = .next t ∧ Answers m .badState [] s s t)
        ∧ (k < 4 → s.sec.revoked ||| bitMask 4 k ≠ 0xF#4 → k ≠ s.sec.running.keyIndex →
            ∃ t, exec (.secKeyRevoke m k) s = .next t
              ∧ Answers m .ok [] s { s with sec := { s.sec with revoked := s.sec.revoked ||| bitMask 4 k } } t))
    ∧ (∀ (v : Transport) (s : State), exec (.getVersion v) s = .next { s with out := .spdm v .version :: s.out })
    ∧ (∀ (v : Transport) (slot off len i : Nat) (n : BitVec 256) (s : State), s.sec.lc ≠ .scrapped →
        exec (.getCapabilities v) s = .next { s with out := .spdm v .capabilities :: s.out }
        ∧ exec (.negotiateAlgorithms v) s = .next { s with out := .spdm v .algorithms :: s.out }
        ∧ exec (.getDigests v) s = .next { s with out := .spdm v (.digests Config.certDigest) :: s.out }
        ∧ (slot = 0 → exec (.getCertificate v slot off len) s = .next { s with out := .spdm v (.certificate off len) :: s.out })
        ∧ (slot ≠ 0 → exec (.getCertificate v slot off len) s = .next { s with out := .spdm v .error :: s.out }
            ∧ exec (.challenge v slot n) s = .next { s with out := .spdm v .error :: s.out })
        ∧ (slot = 0 → s.sec.keys = true →
            exec (.challenge v slot n) s = .next { s with out := .spdm v (.challengeAuth n) :: s.out })
        ∧ (slot = 0 → s.sec.keys = false → exec (.challenge v slot n) s = .next { s with out := .spdm v .error :: s.out })
        ∧ (1 ≤ i → i ≤ 8 → exec (.getMeasurements v { index := i }) s
            = .next { s with out := .spdm v (.measurements [(i, (s.sec.meas[i - 1]?).getD 0)] none) :: s.out })
        ∧ (s.sec.keys = true → exec (.getMeasurements v { index := 0xFF, nonce := some n }) s
            = .next { s with out := .spdm v (.measurements
                ((List.range 8).map (fun k => (k + 1, (s.sec.meas[k]?).getD 0))) (some n)) :: s.out })
        ∧ ((i = 0 ∨ (8 < i ∧ i ≠ 0xFF)) → exec (.getMeasurements v { index := i }) s
            = .next { s with out := .spdm v .error :: s.out }))
    ∧ (∀ (v : Transport) (slot off len : Nat) (n : BitVec 256) (q : SpdmMeas) (s : State), s.sec.lc = .scrapped →
        exec (.getCapabilities v) s = .next s ∧ exec (.negotiateAlgorithms v) s = .next s ∧ exec (.getDigests v) s = .next s
        ∧ exec (.getCertificate v slot off len) s = .next s ∧ exec (.challenge v slot n) s = .next s
        ∧ exec (.getMeasurements v q) s = .next s)
    ∧ (∀ (m p : Nat) (v : Bool) (s : State), Runs m 0x1005#16 s →
        (1 < p → ∃ t, exec (.secDebugUnlock m p v) s = .next t ∧ Answers m .badParam [] s s t)
        ∧ (p ≤ 1 → s.unlockable = false → ∃ t, exec (.secDebugUnlock m p v) s = .next t ∧ Answers m .badState [] s s t)
        ∧ (p ≤ 1 → s.unlockable = true → 3 ≤ s.sec.fails →
            ∃ t, exec (.secDebugUnlock m p v) s = .next t ∧ Answers m .secUnlockFailed [] s s t)
        ∧ (p = 0 → s.unlockable = true → s.sec.fails < 3 → ∃ t c, exec (.secDebugUnlock m p v) s = .next t
            ∧ Answers m .ok (be 48 c.toNat) s
              { s with freeCtr := s.freeCtr + 1, sec := { s.sec with challenge := some (s.elt, c) } } t)
        ∧ (∀ c, p = 1 → s.unlockable = true → s.sec.fails < 3 → s.sec.challenge = some c → s.elt < c.1 + 60000000000 →
            v = true → ∃ t d, exec (.secDebugUnlock m p v) s = .next t ∧ Responded m .ok [] s t
              ∧ t.sec = { s.sec with challenge := none, opened := true, meas := d }
              ∧ (∃ x, d = s.sec.meas.set 5 (Config.sha384 (be 48 ((s.sec.meas[5]?).getD 0).toNat ++ be 48 x)))
              ∧ bitOf (t.cause .sec) 4 = true ∧ (t.log.sram.getLast?.map (·.sev)) = some 3)
        ∧ (p = 1 → s.unlockable = true → s.sec.fails < 3 →
            (v = false ∨ ∀ c, s.sec.challenge = some c → c.1 + 60000000000 ≤ s.elt) →
            ∃ t, exec (.secDebugUnlock m p v) s = .next t ∧ Responded m .secUnlockFailed [] s t
              ∧ t.sec = { s.sec with challenge := none, fails := s.sec.fails + 1 } ∧ bitOf (t.cause .sec) 5 = true))
    ∧ (∀ (p : Nat) (v : Bool) (s : State), s.unlockable = true → s.sec.fails < 3 →
        (p = 0 → ∃ c, exec (.tapDebugUnlock p v) s
          = .next { s with freeCtr := s.freeCtr + 1, sec := { s.sec with challenge := some (s.elt, c) } })
        ∧ (∀ c, p ≠ 0 → s.sec.challenge = some c → s.elt < c.1 + 60000000000 → v = true →
            ∃ t, exec (.tapDebugUnlock p v) s = .next t ∧ t.sec.opened = true ∧ t.sec.challenge = none
              ∧ t.sec.fails = s.sec.fails ∧ bitOf (t.cause .sec) 4 = true ∧ t.cfg = s.cfg)
        ∧ (p ≠ 0 → v = false → ∃ t, exec (.tapDebugUnlock p v) s = .next t
            ∧ t.sec = { s.sec with challenge := none, fails := s.sec.fails + 1 } ∧ bitOf (t.cause .sec) 5 = true))
    ∧ (∀ (p : Nat) (v : Bool) (s : State), s.unlockable = false ∨ 3 ≤ s.sec.fails → exec (.tapDebugUnlock p v) s = .next s)
    ∧ (∀ s : State, (∀ c, s.sec.challenge = some c → c.1 + 60000000000 ≤ s.elt →
          exec .unlockChallengeExpire s = .next { s with sec := { s.sec with challenge := none } })
        ∧ ((∀ c, s.sec.challenge = some c → s.elt < c.1 + 60000000000) → exec .unlockChallengeExpire s = .next s))
    ∧ (∀ (c : DbgCore) (s : State), s.debugOn = true → s.hasCore c = true → c ∉ s.sec.halted → ∃ t, exec (.debugHalt c) s = .next t
        ∧ t = { s with sec := { s.sec with halted := s.sec.halted ++ [c] }, ym := t.ym } ∧ t.faultOk = false
        ∧ t.ym.holds = false ∧ ∀ x, x ∈ t.ym.flights → bitOf x.fail 0 = true)
    ∧ (∀ (c : DbgCore) (s : State), s.debugOn = false ∨ s.hasCore c = false ∨ c ∈ s.sec.halted →
        exec (.debugHalt c) s = .next s)
    ∧ (∀ (c : DbgCore) (s : State), s.debugOn = true → c ∈ s.sec.halted → ∃ t, exec (.debugResume c) s = .next t
        ∧ t = { s with sec := { s.sec with halted := s.sec.halted.erase c }, ym := t.ym }
        ∧ (s.sec.halted = [c] → t.condFailed = 0 → s.ym.pulse = 0 → t.ym.holds = true))
    ∧ (∀ (c : DbgCore) (s : State), s.debugOn = false ∨ c ∉ s.sec.halted → exec (.debugResume c) s = .next s)
    ∧ (∀ s : State, (s.lcNow = .raw ∨ s.lcNow = .test ∨ s.lcNow = .rma → exec .tapScanShift s
          = .next { s with sec := { s.sec with keys := false, scan := true } })
        ∧ (s.lcNow ≠ .raw → s.lcNow ≠ .test → s.lcNow ≠ .rma → exec .tapScanShift s = .next s))

/-- UPD_BEGIN takes the update lock, or is refused: by its holder BAD_STATE, by another UPD_BUSY with the
holder's identity, which is raised; a chain has at most 16 addresses over a port of a through pair. Without
the lock every other UPD command answers UPD_NO_SESSION. A manifest that does not hold what R501 asks
answers UPD_SIGNATURE, one below the counter UPD_ROLLBACK, one that fits a formed pair's peer not
UPD_INCOMPATIBLE; a valid one is staged. Chunks are accepted in order while each has the expected hash; one
that fails answers UPD_CHUNK_HASH and is not kept; a repeat of the last changes nothing; the last is raised.
UPD_INSTALL of a staged image whose components read back as their digests ends with the manifest in flash,
installed and raised; else TEST_FAILED, raised. UPD_ACTIVATE answers and cold-resets, UPD_CONFIRM raises the
counter to the SVN and keeps one settings copy, UPD_STATUS clears SEC_EVT_CAUSE, UPD_END and 120 s of
silence release the lock. (The layout of answers is log entry 9, signatures log entry 32.) (R501, R502,
R503, R504, R505, R506, R507, R509, R510, R512, R519) -/
def Obligations.UpdateSessionsStageAndInstall : Prop :=
  (∀ (m : Nat) (c : Option Chain) (s : State), Runs m 0x0F01#16 s →
      (s.sec.upd.heldBy (s.box m).req = true → ∃ t, exec (.updBegin m c) s = .next t ∧ Answers m .badState [] s s t)
      ∧ (s.sec.upd.heldBy (s.box m).req = false → s.sec.upd.lock.isSome = true → ∃ t, exec (.updBegin m c) s = .next t
          ∧ Responded m .updBusy (holderBytes s.sec.upd) s t ∧ bitOf (t.cause .sec) 3 = true ∧ t.sec = s.sec)
      ∧ (∀ x, s.sec.upd.lock = none → c = some x → 16 < x.addrs.length ∨ partner s x.port = none →
          ∃ t, exec (.updBegin m c) s = .next t ∧ Answers m .badParam [] s s t)
      ∧ (∀ x, s.sec.upd.lock = none → s.session? (s.box m).req.session.toNat = some x →
          (∀ y, c = some y → y.addrs.length ≤ 16 ∧ (partner s y.port).isSome = true) →
          ∃ t l, exec (.updBegin m c) s = .next t ∧ Answers m .ok (le 4 s.sec.upd.next) s
            (s.setUpd { next := s.sec.upd.next + 1, installed := s.sec.upd.installed, lock := some l, chain := c }) t
            ∧ l = { session := some (s.box m).req.session.toNat, trans := x.transport, cred := x.cred.setWidth 16,
                    atNs := s.elt, id := s.sec.upd.next, lastNs := s.elt }))
    ∧ (∀ (m : Nat) (bs : List Byte) (x ch : Bool) (c : ChunkIn) (mism : List Nat) (b : Boot) (s : State),
        s.sec.upd.heldBy (s.box m).req = false →
        (Runs m 0x0F02#16 s → ∃ t, exec (.updManifest m bs x) s = .next t ∧ Answers m .updNoSession [] s s t)
        ∧ (Runs m 0x0F03#16 s → ∃ t, exec (.updChunk m c) s = .next t ∧ Answers m .updNoSession [] s s t)
        ∧ (Runs m 0x0F04#16 s → ∃ t, exec (.updInstall m ch mism) s = .next t ∧ Answers m .updNoSession [] s s t)
        ∧ (Runs m 0x0F05#16 s → ∃ t, exec (.updActivate m b) s = .next t ∧ Answers m .updNoSession [] s s t)
        ∧ (Runs m 0x0F06#16 s → ∃ t, exec (.updConfirm m) s = .next t ∧ Answers m .updNoSession [] s s t)
        ∧ (Runs m 0x0F07#16 s → ∃ t, exec (.updEnd m) s = .next t ∧ Answers m .updNoSession [] s s t)
        ∧ (Runs m 0x0F08#16 s → ∃ t, exec (.updStatus m) s = .next t ∧ Answers m .updNoSession [] s s t))
    ∧ (∀ (m : Nat) (bs : List Byte) (ok : Bool) (s : State), Runs m 0x0F02#16 s → s.sec.upd.heldBy (s.box m).req = true →
        let man := parseManifest bs
        let valid := man.clean && man.compsOk && ok && decide (man.keyIndex < 4) && !bitOf s.sec.revoked man.keyIndex
        (valid = false → ∃ t, exec (.updManifest m bs ok) s = .next t ∧ Answers m .updSignature [] s s.touchLock t)
        ∧ (valid = true → man.svn < s.sec.counter →
            ∃ t, exec (.updManifest m bs ok) s = .next t ∧ Answers m .updRollback [] s s.touchLock t)
        ∧ (valid = true → s.sec.counter ≤ man.svn → s.peerKnown = true →
            man.compatible s.pair.version = false ∨ man.pairProto ≠ s.pair.proto →
            ∃ t, exec (.updManifest m bs ok) s = .next t ∧ Answers m .updIncompatible [] s s.touchLock t)
        ∧ (valid = true → s.sec.counter ≤ man.svn →
            (s.peerKnown = true → man.compatible s.pair.version = true ∧ man.pairProto = s.pair.proto) →
            ∃ t, exec (.updManifest m bs ok) s = .next t ∧ Responded m .ok (le 4 man.chunks) s t
              ∧ t.sec.upd.man = some man ∧ t.sec.upd.manBytes = bs ∧ t.sec.upd.chunks = [] ∧ t.sec.upd.expect = man.head
              ∧ t.sec.upd.installed = false ∧ t.sec.upd.lock = s.touchLock.sec.upd.lock ∧ t.cfg = s.cfg))
    ∧ (∀ (m : Nat) (bytes : List Byte) (u : Upd) (s : State), Runs m 0x0F03#16 s →
        s.sec.upd.heldBy (s.box m).req = true → s.sec.upd.man.isSome = true → s.moved m = some bytes →
        (bytes = [] ∨ bytes.length % 4096 ≠ 0 → ∃ t, exec (.updChunk m .bulk) s = .next t
          ∧ Answers m .badParam [] s s.touchLock t)
        ∧ (bytes ≠ [] → bytes.length % 4096 = 0 →
          acceptAll (chop 4096 (bytes.length / 4096) bytes) s.touchLock.sec.upd = (true, u) →
          ∃ t, exec (.updChunk m .bulk) s = .next t
          ∧ Responded m .ok (le 4 u.chunks.length) s t ∧ t.sec.upd.chunks = u.chunks ∧ t.sec.upd.expect = u.expect
          ∧ t.sec.upd.man = s.sec.upd.man
          ∧ (u.staged = true → s.sec.upd.staged = false → bitOf (t.cause .sec) 0 = true))
        ∧ (bytes ≠ [] → bytes.length % 4096 = 0 →
          acceptAll (chop 4096 (bytes.length / 4096) bytes) s.touchLock.sec.upd = (false, u) → u.staged = false →
          ∃ t, exec (.updChunk m .bulk) s = .next t
          ∧ Answers m .updChunkHash [] s (s.touchLock.setUpd u) t))
    ∧ (∀ (b : List Byte) (bs : List (List Byte)) (u : Upd),
        acceptAll [] u = (true, u)
        ∧ (b.length = 4096 → Config.sha384 b = u.expect → u.staged = false → acceptAll (b :: bs) u
            = acceptAll bs { u with chunks := u.chunks ++ [b], expect := BitVec.ofNat 384 (unbe (b.drop 4048)),
                                    half := none, bad := 0 })
        ∧ (b.length ≠ 4096 ∨ Config.sha384 b ≠ u.expect ∨ u.staged = true → acceptAll (b :: bs) u = (false, u)))
    ∧ (∀ (m k part : Nat) (d : List Byte) (s : State), Runs m 0x0F03#16 s → s.sec.upd.heldBy (s.box m).req = true →
        (s.sec.upd.man = none →
          ∃ t, exec (.updChunk m (.half k part d)) s = .next t ∧ Answers m .badState [] s s.touchLock t)
        ∧ (s.sec.upd.man.isSome = true → part ≤ 1 → d.length = 2048 →
          (k + 1 = s.sec.upd.chunks.length → ∃ t, exec (.updChunk m (.half k part d)) s = .next t
            ∧ Answers m .ok (le 4 s.sec.upd.chunks.length) s s.touchLock t)
          ∧ (k + 1 ≠ s.sec.upd.chunks.length → k ≠ s.sec.upd.chunks.length →
            ∃ t, exec (.updChunk m (.half k part d)) s = .next t ∧ Answers m .badParam [] s s.touchLock t)
          ∧ (k = s.sec.upd.chunks.length → s.sec.upd.staged = false → s.sec.upd.half = none →
            ∃ t, exec (.updChunk m (.half k part d)) s = .next t ∧ Answers m .ok (le 4 k) s
              (s.touchLock.setUpd { s.touchLock.sec.upd with half := some (part, d) }) t)
          ∧ (∀ e, k = s.sec.upd.chunks.length → s.sec.upd.staged = false → s.sec.upd.half = some (1 - part, e) →
            let whole := if part = 1 then e ++ d else d ++ e
            (whole.length = 4096 → Config.sha384 whole = s.sec.upd.expect →
              ∃ t, exec (.updChunk m (.half k part d)) s = .next t ∧ Responded m .ok (le 4 (k + 1)) s t
                ∧ t.sec.upd.chunks = s.sec.upd.chunks ++ [whole])
            ∧ (Config.sha384 whole ≠ s.sec.upd.expect → ∃ t, exec (.updChunk m (.half k part d)) s = .next t
                ∧ Answers m .updChunkHash [] s (s.touchLock.setUpd { s.touchLock.sec.upd with half := none }) t))))
    ∧ (∀ (m : Nat) (ch : Bool) (mism : List Nat) (s : State), Runs m 0x0F04#16 s → s.sec.upd.heldBy (s.box m).req = true →
        (s.sec.upd.staged = false →
          ∃ t, exec (.updInstall m ch mism) s = .next t ∧ Answers m .badState [] s s.touchLock t)
        ∧ (∀ man, s.sec.upd.staged = true → ch = false → s.sec.upd.man = some man →
          (Installs man mism s → ∃ t, exec (.updInstall m ch mism) s = .next t ∧ Responded m .ok (le 4 man.comps.length) s t
            ∧ t.sec.flashMan = man ∧ t.sec.upd.installed = true ∧ bitOf (t.cause .sec) 1 = true
            ∧ t.sec.running = s.sec.running ∧ t.sec.lc = s.sec.lc ∧ t.cfg = s.cfg)
          ∧ (¬ Installs man mism s → ∃ t, exec (.updInstall m ch mism) s = .next t ∧ Responded m .testFailed [] s t
            ∧ t.sec.flashMan = s.sec.flashMan ∧ t.sec.upd.installed = s.sec.upd.installed ∧ bitOf (t.cause .sec) 2 = true))
        ∧ (∀ r, s.sec.upd.staged = true → ch = true → s.sec.upd.relay = some r →
          (r.accepted = true → r.acked = s.sec.upd.chunks.length → ∃ t, exec (.updInstall m ch mism) s = .next t
            ∧ (t.box m).waiting = true ∧ t.sec.upd.box = some m
            ∧ t.sec.upd.relay = some { r with install := true, reportNs := s.elt + 120000000000 }
            ∧ t.sec.flashMan = s.sec.flashMan)
          ∧ (r.accepted = false ∨ r.acked ≠ s.sec.upd.chunks.length →
            ∃ t, exec (.updInstall m ch mism) s = .next t ∧ Answers m .badState [] s s.touchLock t)))
    ∧ (∀ (m : Nat) (b : Boot) (s : State), Runs m 0x0F05#16 s → s.sec.upd.heldBy (s.box m).req = true →
        (s.sec.upd.installed = false ∨ (s.pair.role = .lead ∧ s.pair.st = .inSync) →
          ∃ t, exec (.updActivate m b) s = .next t ∧ Answers m .badState [] s s t)
        ∧ (s.sec.upd.installed = true → (s.pair.role = .lead → s.pair.st ≠ .inSync) →
          ∃ t, exec (.updActivate m b) s = .next t ∧ t.elt = 0 ∧ t.tim = {} ∧ t.mbx = {} ∧ t.sched = [] ∧ t.gen = 0
            ∧ t.sec.flashMan = s.sec.flashMan ∧ t.sec.upd.lock = none ∧ t.sec.counter = s.sec.counter ∧ sameDevice s t))
    ∧ (∀ (m : Nat) (s : State), Runs m 0x0F06#16 s → s.sec.upd.heldBy (s.box m).req = true →
        (s.glb.recovery = true ∨ s.sec.upd.installed = true →
          ∃ t, exec (.updConfirm m) s = .next t ∧ Answers m .badState [] s s.touchLock t)
        ∧ (s.glb.recovery = false → s.sec.upd.installed = false → ∃ t, exec (.updConfirm m) s = .next t
          ∧ Responded m .ok (le 4 (max s.sec.counter s.sec.running.svn)) s t
          ∧ t.sec.counter = max s.sec.counter s.sec.running.svn ∧ t.sec.running = s.sec.running
          ∧ t.sec.settings = s.sec.settings.filter (fun e => e.1 = s.sec.running.format) ∧ bitOf (t.cause .sec) 7 = false))
    ∧ (∀ (m : Nat) (s : State), Runs m 0x0F08#16 s → s.sec.upd.heldBy (s.box m).req = true →
        ∃ t d, exec (.updStatus m) s = .next t ∧ Responded m .ok d s t ∧ d.take 16 = holderBytes s.sec.upd
          ∧ t.cause .sec = 0 ∧ t.sec = s.touchLock.sec)
    ∧ (∀ (m : Nat) (s : State), Runs m 0x0F07#16 s → s.sec.upd.heldBy (s.box m).req = true → s.sec.upd.relay = none →
        ∃ t, exec (.updEnd m) s = .next t ∧ Answers m .ok [] s
          (s.setUpd { next := s.sec.upd.next, installed := s.sec.upd.installed, hops := s.sec.upd.hops }) t)
    ∧ (∀ (l : UpdLock) (s : State), s.sec.upd.lock = some l → l.lastNs + 120000000000 ≤ s.elt → s.sec.upd.box = none →
        s.sec.upd.relay = none → exec .updLockTimeout s
          = .next (s.setUpd { next := s.sec.upd.next, installed := s.sec.upd.installed, hops := s.sec.upd.hops }))
    ∧ (∀ s : State, (∀ l, s.sec.upd.lock = some l → s.elt < l.lastNs + 120000000000) ∨ s.sec.upd.box.isSome = true
        ∨ (∃ r, s.sec.upd.relay = some r ∧ r.install = true) → exec .updLockTimeout s = .next s)

/-- An OFFER while the lock is held is answered BUSY with the holder's identity and raised; a manifest that
is refused is answered FAILED with its status; else the device takes the lock for that neighbour, stages the
manifest and answers ACCEPT with its running VERSION. ACCEPT of a compatible neighbour starts the chunks, at
most 16 unacknowledged; BUSY, FAILED, an incompatible VERSION and 120 s without a report stop the chain: the
relay ends, the hop and its status are recorded and raised, and go up as FAILED or end the origin's
UPD_INSTALL. The next chunk with the expected hash is staged and acknowledged, the last raised; the second
failure releases the lock and goes up. An ACK moves the window on; 50 ms without one resume after the
acknowledged chunk. INSTALL passes down, or the last device installs and restarts; INSTALLED makes the
upstream device install, and the origin's UPD_INSTALL answers. ABORT releases the lock. A message from
elsewhere changes nothing. (How the data are laid out is log entry 9.) (R500, R501, R502, R503, R504, R505,
R507, R514, R515, R516) -/
def Obligations.ChainRelaysUpdates : Prop :=
  (∀ (p : Nat) (a : BitVec 128) (id : Nat) (bs : List Byte) (c : Option Chain) (ok : Bool) (s : State),
      (s.sec.upd.lock.isSome = true → ∃ t, exec (.updateOffer p a id bs c ok) s = .next t ∧ bitOf (t.cause .sec) 3 = true
        ∧ SendsUpdate p a (s.sec.upd.seq + 1) .busy 0x0F01#16 id 0 (holderBytes s.sec.upd) s t
        ∧ t.sec.upd = { s.sec.upd with seq := s.sec.upd.seq + 1 })
      ∧ (s.sec.upd.lock = none → manifestStatus s (parseManifest bs) ok = .ok → ∃ t, exec (.updateOffer p a id bs c ok) s = .next t
        ∧ t.sec.upd.lock = some { from? := some a, atNs := s.elt, id := id, lastNs := s.elt }
        ∧ t.sec.upd.man = some (parseManifest bs) ∧ t.sec.upd.manBytes = bs ∧ t.sec.upd.chunks = []
        ∧ t.sec.upd.expect = (parseManifest bs).head ∧ t.sec.upd.chain = c ∧ t.sec.upd.upPort = p
        ∧ SendsUpdate p a 1 .accept 0 id 0 (be 4 s.sec.running.version.toNat) s t)
      ∧ (s.sec.upd.lock = none → manifestStatus s (parseManifest bs) ok ≠ .ok → ∃ t, exec (.updateOffer p a id bs c ok) s = .next t
        ∧ SendsUpdate p a (s.sec.upd.seq + 1) .failed (manifestStatus s (parseManifest bs) ok).code id 0 (be 4 1) s t
        ∧ t.sec.upd = { s.sec.upd with seq := s.sec.upd.seq + 1 }))
    ∧ (∀ (a : BitVec 128) (id : Nat) (v : Word) (r : Relay) (man : Manifest) (s : State), fromDown s a id = some r →
        s.sec.upd.man = some man → r.accepted = false →
        (man.compatible v = true → ∃ t r', exec (.updateAccept a id v) s = .next t ∧ t.sec.upd.relay = some r'
          ∧ r' = { r with accepted := true, peerVer := v, ackNs := s.elt,
                          sent := max r.sent (min s.sec.upd.chunks.length (r.acked + 16)) }
          ∧ t.sec.upd.chunks = s.sec.upd.chunks ∧ t.sec.upd.man = some man)
        ∧ (man.compatible v = false → ∃ t, exec (.updateAccept a id v) s = .next t ∧ t.sec.upd.relay = none
          ∧ t.sec.upd.hops = s.sec.upd.hops ++ [(1, Status.updIncompatible.code)] ∧ bitOf (t.cause .sec) 2 = true))
    ∧ (∀ (a : BitVec 128) (id : Nat) (v : Word) (s : State), fromDown s a id = none ∨ s.sec.upd.man = none
        ∨ (∃ r, fromDown s a id = some r ∧ r.accepted = true) → exec (.updateAccept a id v) s = .next s)
    ∧ (∀ (a : BitVec 128) (id hop : Nat) (st : Status) (r : Relay) (l : UpdLock) (s : State), fromDown s a id = some r →
        s.sec.upd.lock = some l →
        (∃ t, exec (.updateBusy a id) s = .next t ∧ t.sec.upd.relay = none ∧ bitOf (t.cause .sec) 2 = true
          ∧ t.sec.upd.hops = s.sec.upd.hops ++ [(1, Status.updBusy.code)] ∧ t.cfg = s.cfg
          ∧ (∀ b, l.from? = some b →
              SendsUpdate s.sec.upd.upPort b (s.sec.upd.seq + 1) .failed Status.updBusy.code l.id 0 (be 4 2) s t)
          ∧ (∀ m, l.from? = none → s.sec.upd.box = some m → Live m s → s.waits m 0x0F04#16 = true →
              Responded m .updBusy [] s t ∧ t.sec.upd.box = none))
        ∧ (∃ t, exec (.updateFailed a id hop st) s = .next t ∧ t.sec.upd.relay = none ∧ bitOf (t.cause .sec) 2 = true
          ∧ t.sec.upd.hops = s.sec.upd.hops ++ [(hop, st.code)] ∧ t.cfg = s.cfg
          ∧ (∀ b, l.from? = some b →
              SendsUpdate s.sec.upd.upPort b (s.sec.upd.seq + 1) .failed st.code l.id 0 (be 4 (hop + 1)) s t)
          ∧ (∀ m, l.from? = none → s.sec.upd.box = some m → Live m s → s.waits m 0x0F04#16 = true →
              Responded m st [] s t ∧ t.sec.upd.box = none)))
    ∧ (∀ (a : BitVec 128) (id hop : Nat) (st : Status) (s : State), fromDown s a id = none →
        exec (.updateBusy a id) s = .next s ∧ exec (.updateFailed a id hop st) s = .next s
        ∧ exec (.updateAck a id hop) s = .next s)
    ∧ (∀ (a : BitVec 128) (id k : Nat) (d : List Byte) (s : State), fromUp s a id = true →
        (k = s.sec.upd.chunks.length → s.sec.upd.staged = false →
          (d.length = 4096 → Config.sha384 d = s.sec.upd.expect → ∃ t, exec (.updateChunk a id k d) s = .next t
            ∧ t.sec.upd.chunks = s.sec.upd.chunks ++ [d] ∧ t.sec.upd.expect = BitVec.ofNat 384 (unbe (d.drop 4048))
            ∧ t.sec.upd.bad = 0 ∧ t.sec.upd.man = s.sec.upd.man
            ∧ (t.sec.upd.staged = false →
                SendsUpdate s.sec.upd.upPort a (s.sec.upd.seq + 1) .ack 0 id s.sec.upd.chunks.length [] s t)
            ∧ (t.sec.upd.staged = true → bitOf (t.cause .sec) 0 = true))
          ∧ (d.length ≠ 4096 ∨ Config.sha384 d ≠ s.sec.upd.expect →
            (s.sec.upd.bad = 0 → exec (.updateChunk a id k d) s
              = .next (s.touchLock.setUpd { s.touchLock.sec.upd with bad := 1 }))
            ∧ (s.sec.upd.bad ≠ 0 → ∃ t, exec (.updateChunk a id k d) s = .next t ∧ t.sec.upd.lock = none
              ∧ t.sec.upd.man = none ∧ t.sec.upd.chunks = [] ∧ bitOf (t.cause .sec) 2 = true
              ∧ (s.sec.upd.relay = none →
                  SendsUpdate s.sec.upd.upPort a (s.sec.upd.seq + 1) .failed 0x0F03#16 id k (be 4 1) s t))))
        ∧ (k ≠ s.sec.upd.chunks.length ∨ s.sec.upd.staged = true →
          (s.sec.upd.chunks = [] → exec (.updateChunk a id k d) s = .next s.touchLock)
          ∧ (s.sec.upd.chunks ≠ [] → ∃ t, exec (.updateChunk a id k d) s = .next t ∧ t.sec.upd.chunks = s.sec.upd.chunks
            ∧ SendsUpdate s.sec.upd.upPort a (s.sec.upd.seq + 1) .ack 0 id (s.sec.upd.chunks.length - 1) [] s t)))
    ∧ (∀ (a : BitVec 128) (id k : Nat) (d : List Byte) (mism : List Nat) (b : Boot) (s : State), fromUp s a id = false →
        exec (.updateChunk a id k d) s = .next s ∧ exec (.updateInstall a id mism b) s = .next s
        ∧ exec (.updateAbort a id) s = .next s)
    ∧ (∀ (a : BitVec 128) (id k : Nat) (r : Relay) (s : State), fromDown s a id = some r →
        (r.acked ≤ k → k < r.sent → ∃ t r', exec (.updateAck a id k) s = .next t ∧ t.sec.upd.relay = some r'
          ∧ r' = { r with acked := k + 1, ackNs := s.elt, sent := max r.sent (min s.sec.upd.chunks.length (k + 17)) }
          ∧ t.sec.upd.chunks = s.sec.upd.chunks)
        ∧ (k < r.acked ∨ r.sent ≤ k → exec (.updateAck a id k) s = .next s.touchLock))
    ∧ (∀ (r : Relay) (s : State), s.sec.upd.relay = some r →
        (s.sec.upd.lock.isSome = true → r.accepted = true → r.acked < r.sent → r.ackNs + 50000000 ≤ s.elt →
          ∃ t r', exec .chainAckTimeout s = .next t ∧ t.sec.upd.relay = some r'
            ∧ r' = { r with ackNs := s.elt, sent := max r.acked (min s.sec.upd.chunks.length (r.acked + 16)) })
        ∧ (r.accepted = false ∨ r.sent ≤ r.acked ∨ s.elt < r.ackNs + 50000000 → exec .chainAckTimeout s = .next s)
        ∧ (r.install = true → r.reportNs ≤ s.elt → ∃ t, exec .chainHopTimeout s = .next t ∧ t.sec.upd.relay = none
          ∧ t.sec.upd.hops = s.sec.upd.hops ++ [(1, Config.silentHop.code)] ∧ bitOf (t.cause .sec) 2 = true)
        ∧ (r.install = false ∨ s.elt < r.reportNs → exec .chainHopTimeout s = .next s))
    ∧ (∀ s : State, s.sec.upd.relay = none → exec .chainAckTimeout s = .next s ∧ exec .chainHopTimeout s = .next s)
    ∧ (∀ (a : BitVec 128) (id : Nat) (mism : List Nat) (b : Boot) (man : Manifest) (s : State), fromUp s a id = true →
        s.sec.upd.staged = true → s.sec.upd.man = some man →
        (∀ r, s.sec.upd.relay = some r → ∃ t, exec (.updateInstall a id mism b) s = .next t
          ∧ t.sec.upd.relay = some { r with install := true, reportNs := s.elt + 120000000000 }
          ∧ SendsUpdate r.port r.addr (s.sec.upd.seq + 1) .install 0 id 0 [] s t ∧ t.sec.flashMan = s.sec.flashMan)
        ∧ (s.sec.upd.relay = none → Installs man mism s → ∃ t, exec (.updateInstall a id mism b) s = .next t
          ∧ t.elt = 0 ∧ t.sec.flashMan = man ∧ t.sched = [] ∧ sameDevice s t)
        ∧ (s.sec.upd.relay = none → ¬ Installs man mism s → ∃ t, exec (.updateInstall a id mism b) s = .next t
          ∧ SendsUpdate s.sec.upd.upPort a (s.sec.upd.seq + 1) .failed 0x0E02#16 id 0 (be 4 1) s t
          ∧ t.sec.flashMan = s.sec.flashMan ∧ bitOf (t.cause .sec) 2 = true))
    ∧ (∀ (a : BitVec 128) (id : Nat) (mism : List Nat) (b : Boot) (s : State), s.sec.upd.staged = false →
        exec (.updateInstall a id mism b) s = .next s)
    ∧ (∀ (a : BitVec 128) (id hop : Nat) (mism : List Nat) (b : Boot) (r : Relay) (l : UpdLock) (man : Manifest) (s : State),
        fromDown s a id = some r → s.sec.upd.lock = some l → s.sec.upd.man = some man → r.install = true →
        (∀ m, l.from? = none → s.sec.upd.box = some m → Live m s → s.waits m 0x0F04#16 = true → Installs man mism s →
          ∃ t, exec (.updateInstalled a id hop mism b) s = .next t ∧ Responded m .ok (le 4 man.comps.length) s t
            ∧ t.sec.flashMan = man ∧ t.sec.upd.installed = true ∧ t.sec.upd.hops = s.sec.upd.hops ++ [(hop, 0)]
            ∧ t.sec.upd.relay = none ∧ t.sec.upd.box = none)
        ∧ (∀ m, l.from? = none → s.sec.upd.box = some m → Live m s → s.waits m 0x0F04#16 = true → ¬ Installs man mism s →
          ∃ t, exec (.updateInstalled a id hop mism b) s = .next t ∧ Responded m .testFailed [] s t
            ∧ t.sec.flashMan = s.sec.flashMan)
        ∧ (∀ up, l.from? = some up → Installs man mism s → ∃ t, exec (.updateInstalled a id hop mism b) s = .next t
          ∧ t.elt = 0 ∧ t.sec.flashMan = man ∧ t.sched = [] ∧ sameDevice s t))
    ∧ (∀ (a : BitVec 128) (id hop : Nat) (mism : List Nat) (b : Boot) (s : State), fromDown s a id = none
        ∨ (∃ r, fromDown s a id = some r ∧ r.install = false) → exec (.updateInstalled a id hop mism b) s = .next s)
    ∧ (∀ (a : BitVec 128) (id : Nat) (s : State), fromUp s a id = true → s.sec.upd.relay = none → exec (.updateAbort a id) s
        = .next (s.setUpd { next := s.sec.upd.next, installed := s.sec.upd.installed, hops := s.sec.upd.hops }))
end

