-- ==== Sys2Proof/Laws/Table.lean ====
section
/-! SUPPORT. Laws/Table.lean: tables and byte memories: a read after a write, and the canonical form. -/
namespace Sys2Proof.Machine
open Sys2Proof

theorem tfind_tset_self {α : Type} (t : Tab α) (k : Nat) (v : α) : tfind? (tset t k v) k = some v := by
  induction t with
  | nil => simp [tset, tfind?]
  | cons e r ih =>
    obtain ⟨i, w⟩ := e
    simp only [tset]
    split
    · simp [tfind?]
    · split
      · simp [tfind?]
      · simp only [tfind?]; split
        · omega
        · exact ih

theorem tfind_tset_ne {α : Type} (t : Tab α) (k j : Nat) (v : α) (h : j ≠ k) :
    tfind? (tset t k v) j = tfind? t j := by
  induction t with
  | nil => simp [tset, tfind?]; omega
  | cons e r ih =>
    obtain ⟨i, w⟩ := e
    simp only [tset]
    split
    · simp only [tfind?]; rw [if_neg (by omega)]
    · split
      · simp only [tfind?]; rw [if_neg (by omega), if_neg (by omega)]
      · simp only [tfind?]; rw [ih]

@[simp] theorem tget_tset_self {α : Type} (t : Tab α) (k : Nat) (v d : α) : tget (tset t k v) k d = v := by
  simp [tget, tfind_tset_self]

theorem tget_tset_ne {α : Type} (t : Tab α) (k j : Nat) (v d : α) (h : j ≠ k) :
    tget (tset t k v) j d = tget t j d := by
  simp [tget, tfind_tset_ne t k j v h]

/-- Writing a record twice under a number leaves the later one. -/
@[simp] theorem tset_tset {α : Type} (t : Tab α) (k : Nat) (v w : α) : tset (tset t k v) k w = tset t k w := by
  induction t with
  | nil => simp [tset]
  | cons e r ih =>
    obtain ⟨i, x⟩ := e
    simp only [tset]
    split
    · next h => simp [tset]
    · split
      · simp [tset]
      · next h1 h2 => simp [tset, h1, h2, ih]

/-- The numbers of a table keep rising. -/
theorem tset_from {α : Type} (t : Tab α) (lo k : Nat) (v : α) (h : tfrom lo t = true) (hk : lo ≤ k) :
    tfrom lo (tset t k v) = true := by
  induction t generalizing lo with
  | nil => simp [tset, tfrom, hk]
  | cons e r ih =>
    obtain ⟨i, w⟩ := e
    simp only [tfrom, Bool.and_eq_true, decide_eq_true_eq] at h
    simp only [tset]
    split
    · simp only [tfrom, Bool.and_eq_true, decide_eq_true_eq]; exact ⟨hk, by omega, h.2⟩
    · split
      · subst_vars; simp only [tfrom, Bool.and_eq_true, decide_eq_true_eq]; exact h
      · simp only [tfrom, Bool.and_eq_true, decide_eq_true_eq]; exact ⟨h.1, ih (i + 1) h.2 (by omega)⟩

theorem mdrop_from (m : Mem) (lo a : Nat) (h : memFrom lo m = true) : memFrom lo (mdrop m a) = true := by
  induction m generalizing lo with
  | nil => simp [mdrop, memFrom]
  | cons e r ih =>
    obtain ⟨i, b⟩ := e
    simp only [memFrom, Bool.and_eq_true, decide_eq_true_eq] at h
    have mono : ∀ (m : Mem) (lo lo' : Nat), lo' ≤ lo → memFrom lo m = true → memFrom lo' m = true := by
      intro m lo lo' hl hm
      cases m with
      | nil => simp [memFrom]
      | cons e r =>
        obtain ⟨i, b⟩ := e
        simp only [memFrom, Bool.and_eq_true, decide_eq_true_eq] at hm ⊢
        exact ⟨⟨by omega, hm.1.2⟩, hm.2⟩
    simp only [mdrop]
    split
    · exact mono _ (i + 1) lo (by omega) (ih (i + 1) h.2)
    · simp only [memFrom, Bool.and_eq_true, decide_eq_true_eq]; exact ⟨h.1, ih (i + 1) h.2⟩

theorem mput_from (m : Mem) (lo a : Nat) (b : Byte) (hb : b ≠ 0) (h : memFrom lo m = true) (ha : lo ≤ a) :
    memFrom lo (tset m a b) = true := by
  induction m generalizing lo with
  | nil => simp only [tset, memFrom, Bool.and_eq_true, decide_eq_true_eq]; exact ⟨⟨ha, hb⟩, trivial⟩
  | cons e r ih =>
    obtain ⟨i, w⟩ := e
    simp only [memFrom, Bool.and_eq_true, decide_eq_true_eq] at h
    simp only [tset]
    split
    · simp only [memFrom, Bool.and_eq_true, decide_eq_true_eq]; exact ⟨⟨ha, hb⟩, ⟨by omega, h.1.2⟩, h.2⟩
    · split
      · subst_vars; simp only [memFrom, Bool.and_eq_true, decide_eq_true_eq]; exact ⟨⟨h.1.1, hb⟩, h.2⟩
      · simp only [memFrom, Bool.and_eq_true, decide_eq_true_eq]; exact ⟨h.1, ih (i + 1) h.2 (by omega)⟩

/-- Writing a byte keeps the canonical form of a memory. -/
theorem mset_wf (m : Mem) (a : Nat) (b : Byte) (h : memWf m) : memWf (mset m a b) := by
  unfold mset memWf at *
  split
  · exact mdrop_from m 0 a h
  · exact mput_from m 0 a b (by assumption) h (by omega)

/-- Writing bytes keeps the canonical form of a memory. -/
theorem mwrite_wf (m : Mem) (a : Nat) (bs : List Byte) (h : memWf m) : memWf (mwrite m a bs) := by
  induction bs generalizing m a with
  | nil => exact h
  | cons b bs ih => exact ih _ _ (mset_wf m a b h)

theorem mdrop_self (m : Mem) (a : Nat) : tfind? (mdrop m a) a = none := by
  induction m with
  | nil => simp [mdrop, tfind?]
  | cons e r ih =>
    obtain ⟨i, b⟩ := e
    simp only [mdrop]
    split
    · exact ih
    · simp only [tfind?]; rw [if_neg (by assumption)]; exact ih

theorem mdrop_ne (m : Mem) (a j : Nat) (h : j ≠ a) : tfind? (mdrop m a) j = tfind? m j := by
  induction m with
  | nil => simp [mdrop]
  | cons e r ih =>
    obtain ⟨i, b⟩ := e
    simp only [mdrop]
    split
    · simp only [tfind?]; rw [if_neg (by omega)]; exact ih
    · simp only [tfind?]; rw [ih]

/-- A read after a write to the same byte gives the value written. -/
@[simp] theorem mget_mset_self (m : Mem) (a : Nat) (b : Byte) : mget (mset m a b) a = b := by
  unfold mget mset
  split
  · simp [tget, mdrop_self, *]
  · simp

/-- A write leaves every other byte alone. -/
theorem mget_mset_ne (m : Mem) (a j : Nat) (b : Byte) (h : j ≠ a) : mget (mset m a b) j = mget m j := by
  unfold mget mset
  split
  · simp [tget, mdrop_ne m a j h]
  · exact tget_tset_ne m a j b 0 h

/-- Writing bytes leaves every byte below them alone. -/
theorem mget_mwrite_below (m : Mem) (a j : Nat) (bs : List Byte) (h : j < a) : mget (mwrite m a bs) j = mget m j := by
  induction bs generalizing m a with
  | nil => rfl
  | cons b bs ih => simp only [mwrite]; rw [ih _ _ (by omega), mget_mset_ne m a j b (by omega)]

/-- Writing bytes leaves every byte behind them alone. -/
theorem mget_mwrite_above (m : Mem) (a j : Nat) (bs : List Byte) (h : a + bs.length ≤ j) :
    mget (mwrite m a bs) j = mget m j := by
  induction bs generalizing m a with
  | nil => rfl
  | cons b bs ih =>
    simp only [List.length_cons] at h
    simp only [mwrite]; rw [ih _ _ (by omega), mget_mset_ne m a j b (by omega)]

/-- Each byte written reads as it was written. -/
theorem mget_mwrite (m : Mem) (a i : Nat) (bs : List Byte) (h : i < bs.length) :
    mget (mwrite m a bs) (a + i) = bs.getD i 0 := by
  induction bs generalizing m a i with
  | nil => simp at h
  | cons b bs ih =>
    simp only [List.length_cons] at h
    simp only [mwrite]
    match i with
    | 0 => simp [mget_mwrite_below _ (a + 1) a bs (by omega)]
    | i + 1 => rw [show a + (i + 1) = a + 1 + i by omega, ih _ _ _ (by omega)]; simp

/-- A read of the bytes just written gives them. -/
theorem mread_mwrite (m : Mem) (a : Nat) (bs : List Byte) : mread (mwrite m a bs) a bs.length = bs := by
  induction bs generalizing m a with
  | nil => rfl
  | cons b bs ih => simp [mread, mwrite, mget_mwrite_below _ (a + 1) a bs (by omega), ih]

end Sys2Proof.Machine
end

