-- ==== Sys2Proof/Laws/Mailbox.lean ====
section
/-! SUPPORT. Laws/Mailbox.lean: what the shared operations of the mailbox commands do, once: completing a mailbox,
answering at once, staging. A proof about a mailbox command cites these and computes the command's own function. -/
namespace Sys2Proof.Machine
open Sys2Proof

/-! ## Mailboxes and causes -/

@[simp] theorem box_setBox_self (s : State) (m : Nat) (b : Mailbox) : (s.setBox m b).box m = b := by
  simp [State.box, State.setBox]

theorem box_setBox_ne (s : State) (m j : Nat) (b : Mailbox) (h : j ≠ m) : (s.setBox m b).box j = s.box j := by
  simp [State.box, State.setBox, tget_tset_ne _ _ _ _ _ h]

@[simp] theorem box_setSession (s : State) (id m : Nat) (x : Session) : (s.setSession id x).box m = s.box m := rfl

/-- What raising a cause bit that drives a source does, whole. -/
theorem raiseCause_src (s : State) (r : CauseReg) (b n : Nat) (h : srcOf r b = some n) :
    s.raiseCause r b = { s with causes := tset s.causes (causeKey r) (s.cause r ||| bitMask 32 b)
                                evc := s.evc.occur n } := by
  simp only [State.raiseCause, h, State.occur]

/-- What raising a cause bit that drives no source does, whole. -/
theorem raiseCause_none (s : State) (r : CauseReg) (b : Nat) (h : srcOf r b = none) :
    s.raiseCause r b = { s with causes := tset s.causes (causeKey r) (s.cause r ||| bitMask 32 b) } := by
  simp only [State.raiseCause, h]

/-- Raising a cause touches the cause registers and the event controller alone. -/
theorem raiseCause_frame (s : State) (r : CauseReg) (b : Nat) :
    s.raiseCause r b = { s with causes := tset s.causes (causeKey r) (s.cause r ||| bitMask 32 b)
                                evc := (s.raiseCause r b).evc } := by
  cases h : srcOf r b with
  | none => rw [raiseCause_none s r b h]
  | some n => rw [raiseCause_src s r b n h]

@[simp] theorem mbx_raiseCause (s : State) (r : CauseReg) (b : Nat) : (s.raiseCause r b).mbx = s.mbx := by
  rw [raiseCause_frame]

@[simp] theorem box_raiseCause (s : State) (r : CauseReg) (b m : Nat) : (s.raiseCause r b).box m = s.box m := by
  simp only [State.box, mbx_raiseCause]

theorem raiseCause_causes (s : State) (r : CauseReg) (b : Nat) :
    (s.raiseCause r b).causes = tset s.causes (causeKey r) (s.cause r ||| bitMask 32 b) := by
  rw [raiseCause_frame]

/-- Raising a cause sets its bit and no other. -/
theorem cause_raiseCause_self (s : State) (r : CauseReg) (b : Nat) :
    (s.raiseCause r b).cause r = s.cause r ||| bitMask 32 b := by
  simp [State.cause, raiseCause_causes]

/-- It leaves every register with another place alone. -/
theorem cause_raiseCause_ne (s : State) (r q : CauseReg) (b : Nat) (h : causeKey q ≠ causeKey r) :
    (s.raiseCause r b).cause q = s.cause q := by
  simp [State.cause, raiseCause_causes, tget_tset_ne _ _ _ _ _ h]

/-- No other register has the place of MBX_EVT_CAUSE. -/
theorem causeKey_mbx_ne (r : CauseReg) (h : r ≠ .mbx) : causeKey r ≠ causeKey .mbx := by
  cases r <;> simp_all [causeKey] <;> omega

/-! ## What goes out -/

/-- An answer that goes out touches the outputs alone. -/
theorem respond_frame (s : State) (m : Nat) (r : Resp) :
    s.respond m r = { s with out := (s.respond m r).out } := by
  unfold State.respond
  split
  · dsimp only; split <;> rfl
  · rfl
  · rfl

/-- Over PCIe nothing goes out: the host reads the window. -/
theorem respond_pcie (s : State) (m : Nat) (r : Resp) (h : s.mbxTransport m = some .pcie) : s.respond m r = s := by
  unfold State.respond; rw [h]

/-! ## Completing a mailbox -/

/-- The place of a mailbox that executes. -/
theorem executes_lt (s : State) (m : Nat) (op : Half) (h : s.executes m op = true) : m < 16 := by
  simp [State.executes] at h; exact h.1.1.1.1

/-- Mailbox m completes: the answer, its cause and source, and nothing else (R44, R45, R51). -/
theorem completeAs_answers (s u : State) (m : Nat) (id : Word) (r : Reply) (hm : m < 16)
    (hb : u.box m = s.box m) : Answers m r.status r.data s u (u.completeAs m id r) := by
  have hsrc : srcOf .mbx m = some (8 + m) := by simp [srcOf, hm]
  let b := u.box m
  let resp := mkResp b.req ((b.dma.map (·.consumed)).getD 0) id r
  let b' : Mailbox :=
    { b with
      resp := resp, respLen := BitVec.ofNat 13 (32 + r.data.length), doneCount := b.doneCount + 1
      st := .done, lastTag := some b.req.tag, dma := none, waiting := false, abortReq := false
      abortRes := if b.abortReq then 2 else b.abortRes }
  let v := (u.setBox m b').respond m resp
  have hdef : u.completeAs m id r = v.raiseCause .mbx m := rfl
  have hv0 : v = { u.setBox m b' with out := v.out } := respond_frame _ _ _
  have hvm : v.mbx = (u.setBox m b').mbx := by rw [hv0]
  have hve : v.evc = u.evc := by rw [hv0]; rfl
  have hvc : v.causes = u.causes := by rw [hv0]; rfl
  have hbox : ∀ j, (v.raiseCause .mbx m).box j = (u.setBox m b').box j := by
    intro j; rw [box_raiseCause]; simp only [State.box, hvm]
  have hresp : resp.status = r.status ∧ resp.data = r.data ∧ resp.tag = b.req.tag := by
    show (mkResp _ _ _ _).status = _ ∧ (mkResp _ _ _ _).data = _ ∧ (mkResp _ _ _ _).tag = _
    unfold mkResp
    dsimp only
    split <;> exact ⟨rfl, rfl, rfl⟩
  refine ⟨?_, ?_, ?_, ?_, ?_, ?_, ?_, ?_, ?_, ?_, ?_⟩
  all_goals try rw [hdef]
  · rw [hbox, box_setBox_self]
  · rw [hbox, box_setBox_self]; exact hresp.1
  · rw [hbox, box_setBox_self]; exact hresp.2.1
  · rw [hbox, box_setBox_self]; exact hb ▸ hresp.2.2
  · rw [hbox, box_setBox_self, ← hb]
  · rw [cause_raiseCause_self]; simp only [State.cause, hvc]
  · rw [raiseCause_src _ _ _ _ hsrc]; simp only [hve]
  · rw [raiseCause_src _ _ _ _ hsrc]; simp only [hvm]; rw [hv0]; rfl
  · intro j hj; rw [hbox]; exact box_setBox_ne _ _ _ _ hj
  · intro q hq
    rw [cause_raiseCause_ne _ _ _ _ (causeKey_mbx_ne q hq)]; simp only [State.cause, hvc]
  · intro hp
    rw [raiseCause_src _ _ _ _ hsrc]
    show ((u.setBox m b').respond m resp).out = _
    rw [respond_pcie _ _ _ (by exact hp)]; rfl

/-- A command whose session is open ends with its answer. -/
theorem finish_answers (s u : State) (m : Nat) (r : Reply) (hm : m < 16) (hb : u.box m = s.box m)
    (hd : (s.box m).discard = false) : Answers m r.status r.data s u (u.finish m r) := by
  have : u.finish m r = u.completeAs m (u.box m).req.session r := by
    unfold State.finish; simp only [hb, hd]; rfl
  rw [this]; exact completeAs_answers s u m _ r hm hb

/-- A command that answers at once (R44): what f answers and leaves. -/
theorem cmdNow_answers (s u : State) (m : Nat) (op : Half) (f : Req → State → Reply × State) (r : Reply)
    (h : Runs m op s) (hf : f (s.box m).req s = (r, u)) (hb : u.box m = s.box m) :
    Answers m r.status r.data s u (cmdNow m op s f) := by
  obtain ⟨he, hd⟩ := h
  have : cmdNow m op s f = u.finish m r := by
    unfold cmdNow cmd; simp only [he, hf, if_true]
  rw [this]; exact finish_answers s u m r (executes_lt s m op he) hb hd

/-- A command that answers, or that waits; here it answers. -/
theorem cmd_answers (s u : State) (m : Nat) (op : Half) (f : Req → State → Option Reply × State) (r : Reply)
    (h : Runs m op s) (hf : f (s.box m).req s = (some r, u)) (hb : u.box m = s.box m) :
    Answers m r.status r.data s u (cmd m op s f) := by
  obtain ⟨he, hd⟩ := h
  have : cmd m op s f = u.finish m r := by
    unfold cmd; simp only [he, hf, if_true]
  rw [this]; exact finish_answers s u m r (executes_lt s m op he) hb hd

/-- A command that only reads. -/
theorem cmdRead_answers (s : State) (m : Nat) (op : Half) (f : Req → State → Reply) (h : Runs m op s) :
    Answers m (f (s.box m).req s).status (f (s.box m).req s).data s s (cmdRead m op s f) :=
  cmd_answers s s m op _ _ h rfl rfl

/-- The outcome of a meaning whose effect keeps the queue and the identity is that effect. -/
theorem commit_same (s t : State) (hp : t.pending = s.pending) (hv : t.variant = s.variant)
    (hd : t.glb.deviceId = s.glb.deviceId) : commit s t = .next t := by
  unfold commit; rw [← hp, ← hv, ← hd]

/-- After an answer the queue and the identity are as the command's effect left them. -/
theorem Answers.commit {m : Nat} {st : Status} {d : List Byte} {s u t : State} (h : Answers m st d s u t)
    (hp : u.pending = s.pending) (hv : u.variant = s.variant) (hd : u.glb.deviceId = s.glb.deviceId) :
    Machine.commit s t = .next t := by
  obtain ⟨-, -, -, -, -, -, -, hf, -⟩ := h
  refine commit_same s t ?_ ?_ ?_
  · rw [hf]; exact hp
  · rw [hf]; exact hv
  · rw [hf]; exact hd

/-- A command that only reads answers what f says and leaves the rest as it is. -/
theorem read_next (s : State) (m : Nat) (op : Half) (f : Req → State → Reply) (h : Runs m op s) :
    ∃ t, Machine.commit s (cmdRead m op s f) = .next t
      ∧ Answers m (f (s.box m).req s).status (f (s.box m).req s).data s s t :=
  ⟨_, (cmdRead_answers s m op f h).commit rfl rfl rfl, cmdRead_answers s m op f h⟩

/-- A command that answers at once and keeps the queue and the identity. -/
theorem now_next (s u : State) (m : Nat) (op : Half) (f : Req → State → Reply × State) (r : Reply)
    (h : Runs m op s) (hf : f (s.box m).req s = (r, u)) (hb : u.box m = s.box m) (hp : u.pending = s.pending)
    (hv : u.variant = s.variant) (hd : u.glb.deviceId = s.glb.deviceId) :
    ∃ t, Machine.commit s (cmdNow m op s f) = .next t ∧ Answers m r.status r.data s u t :=
  ⟨_, (cmdNow_answers s u m op f r h hf hb).commit hp hv hd, cmdNow_answers s u m op f r h hf hb⟩

/-- The number of bytes that `le` gives. -/
@[simp] theorem le_length (n v : Nat) : (le n v).length = n := by
  induction n generalizing v <;> simp [le, *]

/-! ## Staging -/

/-- A transaction that may be used. -/
theorem useTxn_ok (s : State) (m : Nat) (x : Session) (tx : Txn) (h : MayStage s m x tx) :
    s.useTxn (s.box m).req = (.ok (x, { tx with lastNs := s.elt }),
      s.setSession (s.box m).req.session.toNat { x with txn := some { tx with lastNs := s.elt } }) := by
  obtain ⟨-, hs, he, ht⟩ := h
  unfold State.useTxn; simp only [hs, he, ht]; rfl

theorem setSession_twice (s : State) (id : Nat) (x y : Session) :
    (s.setSession id x).setSession id y = s.setSession id y := by
  simp [State.setSession]

/-- A staging command whose rules pre and f find kept stages what f gives. -/
theorem stageCmd_stages (s : State) (m : Nat) (op : Half) (objs : List Nat) (x : Session) (tx : Txn)
    (f : Req → State → Cfg → Except Status (Cfg × List Byte)) (pre : Req → State → Except Status Unit)
    (src : Option Nat) (c : Cfg) (d : List Byte) (h : Runs m op s) (hs : MayStage s m x tx)
    (hp : pre (s.box m).req s = .ok ()) (hr : HasRoom s m objs c tx src)
    (hf : f (s.box m).req s tx.cfg = .ok (c, d)) :
    Answers m .ok d s (afterStage s m x tx objs c src) (stageCmd m op objs s f pre src) := by
  refine cmdNow_answers s (afterStage s m x tx objs c src) m op _ (okWith d) h ?_ rfl
  have hu := useTxn_ok s m x tx hs
  have hr' : s.mayHold { tx with lastNs := s.elt } (heldBytes c (objs.foldl addOnce tx.changed)
      (objsAfter (s.box m) src tx.objs)) = true := hr
  simp only [hp, hs.1, hu, hf, hr', Bool.not_true, Bool.false_eq_true, if_false, if_true, setSession_twice]
  rfl

/-- One that f refuses leaves the earlier staging. -/
theorem stageCmd_refuses (s : State) (m : Nat) (op : Half) (objs : List Nat) (x : Session) (tx : Txn)
    (f : Req → State → Cfg → Except Status (Cfg × List Byte)) (pre : Req → State → Except Status Unit)
    (src : Option Nat) (e : Status) (h : Runs m op s) (hs : MayStage s m x tx) (hp : pre (s.box m).req s = .ok ())
    (hf : f (s.box m).req s tx.cfg = .error e) :
    Answers m e [] s (s.setSession (s.box m).req.session.toNat { x with txn := some { tx with lastNs := s.elt } })
      (stageCmd m op objs s f pre src) := by
  refine cmdNow_answers s _ m op _ (reply e) h ?_ rfl
  have hu := useTxn_ok s m x tx hs
  simp only [hp, hs.1, hu, hf, Bool.not_true, Bool.false_eq_true, if_false]

/-- One whose bytes find no room (R59). -/
theorem stageCmd_tooLarge (s : State) (m : Nat) (op : Half) (objs : List Nat) (x : Session) (tx : Txn)
    (f : Req → State → Cfg → Except Status (Cfg × List Byte)) (pre : Req → State → Except Status Unit)
    (src : Option Nat) (c : Cfg) (d : List Byte) (h : Runs m op s) (hs : MayStage s m x tx)
    (hp : pre (s.box m).req s = .ok ()) (hr : ¬ HasRoom s m objs c tx src)
    (hf : f (s.box m).req s tx.cfg = .ok (c, d)) :
    Answers m .cfgTooLarge [] s
      (s.setSession (s.box m).req.session.toNat { x with txn := some { tx with lastNs := s.elt } })
      (stageCmd m op objs s f pre src) := by
  refine cmdNow_answers s _ m op _ (reply .cfgTooLarge) h ?_ rfl
  have hu := useTxn_ok s m x tx hs
  have hr' : s.mayHold { tx with lastNs := s.elt } (heldBytes c (objs.foldl addOnce tx.changed)
      (objsAfter (s.box m) src tx.objs)) = false := by
    have := hr; unfold HasRoom at this; exact Bool.not_eq_true _ ▸ this
  simp only [hp, hs.1, hu, hf, hr', Bool.not_true, Bool.false_eq_true, if_false]

/-- One whose privilege or variant pre refuses: it looks for no transaction (R50). -/
theorem stageCmd_denies (s : State) (m : Nat) (op : Half) (objs : List Nat)
    (f : Req → State → Cfg → Except Status (Cfg × List Byte)) (pre : Req → State → Except Status Unit)
    (src : Option Nat) (e : Status) (h : Runs m op s) (hp : pre (s.box m).req s = .error e) :
    Answers m e [] s s (stageCmd m op objs s f pre src) := by
  refine cmdNow_answers s s m op _ (reply e) h ?_ rfl
  simp only [hp]

/-- The same for a command with an empty answer, as its row answers. -/
theorem stage_next (s : State) (m : Nat) (op : Half) (objs : List Nat) (x : Session) (tx : Txn)
    (f : Req → State → Cfg → Except Status Cfg) (pre : Req → State → Except Status Unit) (src : Option Nat) (c : Cfg)
    (h : Runs m op s) (hs : MayStage s m x tx) (hp : pre (s.box m).req s = .ok ()) (hr : HasRoom s m objs c tx src)
    (hf : f (s.box m).req s tx.cfg = .ok c) :
    ∃ t, Machine.commit s (stage m op objs s f pre src) = .next t
      ∧ Answers m .ok [] s (afterStage s m x tx objs c src) t :=
  have k := stageCmd_stages s m op objs x tx (fun q t c => (f q t c).map (fun c' => (c', []))) pre src c [] h hs hp hr
    (by simp only [hf]; rfl)
  ⟨_, k.commit rfl rfl rfl, k⟩

theorem stage_refused (s : State) (m : Nat) (op : Half) (objs : List Nat) (x : Session) (tx : Txn)
    (f : Req → State → Cfg → Except Status Cfg) (pre : Req → State → Except Status Unit) (src : Option Nat) (e : Status)
    (h : Runs m op s) (hs : MayStage s m x tx) (hp : pre (s.box m).req s = .ok ())
    (hf : f (s.box m).req s tx.cfg = .error e) :
    ∃ t, Machine.commit s (stage m op objs s f pre src) = .next t ∧ Answers m e [] s
      (s.setSession (s.box m).req.session.toNat { x with txn := some { tx with lastNs := s.elt } }) t :=
  have k := stageCmd_refuses s m op objs x tx (fun q t c => (f q t c).map (fun c' => (c', []))) pre src e h hs hp
    (by simp only [hf]; rfl)
  ⟨_, k.commit rfl rfl rfl, k⟩

theorem stage_full (s : State) (m : Nat) (op : Half) (objs : List Nat) (x : Session) (tx : Txn)
    (f : Req → State → Cfg → Except Status Cfg) (pre : Req → State → Except Status Unit) (src : Option Nat) (c : Cfg)
    (h : Runs m op s) (hs : MayStage s m x tx) (hp : pre (s.box m).req s = .ok ()) (hr : ¬ HasRoom s m objs c tx src)
    (hf : f (s.box m).req s tx.cfg = .ok c) :
    ∃ t, Machine.commit s (stage m op objs s f pre src) = .next t ∧ Answers m .cfgTooLarge [] s
      (s.setSession (s.box m).req.session.toNat { x with txn := some { tx with lastNs := s.elt } }) t :=
  have k := stageCmd_tooLarge s m op objs x tx (fun q t c => (f q t c).map (fun c' => (c', []))) pre src c [] h hs hp hr
    (by simp only [hf]; rfl)
  ⟨_, k.commit rfl rfl rfl, k⟩

theorem stage_denied (s : State) (m : Nat) (op : Half) (objs : List Nat) (f : Req → State → Cfg → Except Status Cfg)
    (pre : Req → State → Except Status Unit) (src : Option Nat) (e : Status) (h : Runs m op s)
    (hp : pre (s.box m).req s = .error e) :
    ∃ t, Machine.commit s (stage m op objs s f pre src) = .next t ∧ Answers m e [] s s t :=
  have k := stageCmd_denies s m op objs (fun q t c => (f q t c).map (fun c' => (c', []))) pre src e h hp
  ⟨_, k.commit rfl rfl rfl, k⟩

end Sys2Proof.Machine
end

