-- ==== Sys2Proof/Laws/State.lean ====
section
/-! SUPPORT. Laws/State.lean: for each shared update of the state, one lemma per field that it leaves alone, and what
it puts where it writes. -/
namespace Sys2Proof.Machine
open Sys2Proof

@[simp] theorem State.bumpBy_variant (s : State) (c : Ctr) (n : Nat) : (s.bumpBy c n).variant = s.variant := rfl
@[simp] theorem State.bumpBy_glb (s : State) (c : Ctr) (n : Nat) : (s.bumpBy c n).glb = s.glb := rfl
@[simp] theorem State.bumpBy_mbx (s : State) (c : Ctr) (n : Nat) : (s.bumpBy c n).mbx = s.mbx := rfl
@[simp] theorem State.bumpBy_log (s : State) (c : Ctr) (n : Nat) : (s.bumpBy c n).log = s.log := rfl
@[simp] theorem State.bumpBy_evc (s : State) (c : Ctr) (n : Nat) : (s.bumpBy c n).evc = s.evc := rfl
@[simp] theorem State.bumpBy_causes (s : State) (c : Ctr) (n : Nat) : (s.bumpBy c n).causes = s.causes := rfl
@[simp] theorem State.bumpBy_cap (s : State) (c : Ctr) (n : Nat) : (s.bumpBy c n).cap = s.cap := rfl
@[simp] theorem State.bumpBy_cfg (s : State) (c : Ctr) (n : Nat) : (s.bumpBy c n).cfg = s.cfg := rfl
@[simp] theorem State.bumpBy_prev (s : State) (c : Ctr) (n : Nat) : (s.bumpBy c n).prev = s.prev := rfl
@[simp] theorem State.bumpBy_gen (s : State) (c : Ctr) (n : Nat) : (s.bumpBy c n).gen = s.gen := rfl
@[simp] theorem State.bumpBy_sched (s : State) (c : Ctr) (n : Nat) : (s.bumpBy c n).sched = s.sched := rfl
@[simp] theorem State.bumpBy_ym (s : State) (c : Ctr) (n : Nat) : (s.bumpBy c n).ym = s.ym := rfl
@[simp] theorem State.bumpBy_tim (s : State) (c : Ctr) (n : Nat) : (s.bumpBy c n).tim = s.tim := rfl
@[simp] theorem State.bumpBy_comp (s : State) (c : Ctr) (n : Nat) : (s.bumpBy c n).comp = s.comp := rfl
@[simp] theorem State.bumpBy_map (s : State) (c : Ctr) (n : Nat) : (s.bumpBy c n).map = s.map := rfl
@[simp] theorem State.bumpBy_lamp (s : State) (c : Ctr) (n : Nat) : (s.bumpBy c n).lamp = s.lamp := rfl
@[simp] theorem State.bumpBy_pdk (s : State) (c : Ctr) (n : Nat) : (s.bumpBy c n).pdk = s.pdk := rfl
@[simp] theorem State.bumpBy_flw (s : State) (c : Ctr) (n : Nat) : (s.bumpBy c n).flw = s.flw := rfl
@[simp] theorem State.bumpBy_eth (s : State) (c : Ctr) (n : Nat) : (s.bumpBy c n).eth = s.eth := rfl
@[simp] theorem State.bumpBy_line (s : State) (c : Ctr) (n : Nat) : (s.bumpBy c n).line = s.line := rfl
@[simp] theorem State.bumpBy_rst (s : State) (c : Ctr) (n : Nat) : (s.bumpBy c n).rst = s.rst := rfl
@[simp] theorem State.bumpBy_pair (s : State) (c : Ctr) (n : Nat) : (s.bumpBy c n).pair = s.pair := rfl
@[simp] theorem State.bumpBy_feeds (s : State) (c : Ctr) (n : Nat) : (s.bumpBy c n).feeds = s.feeds := rfl
@[simp] theorem State.bumpBy_brd (s : State) (c : Ctr) (n : Nat) : (s.bumpBy c n).brd = s.brd := rfl
@[simp] theorem State.bumpBy_far (s : State) (c : Ctr) (n : Nat) : (s.bumpBy c n).far = s.far := rfl
@[simp] theorem State.bumpBy_sec (s : State) (c : Ctr) (n : Nat) : (s.bumpBy c n).sec = s.sec := rfl
@[simp] theorem State.bumpBy_out (s : State) (c : Ctr) (n : Nat) : (s.bumpBy c n).out = s.out := rfl
@[simp] theorem State.bumpBy_freeCtr (s : State) (c : Ctr) (n : Nat) : (s.bumpBy c n).freeCtr = s.freeCtr := rfl
@[simp] theorem State.bumpBy_pending (s : State) (c : Ctr) (n : Nat) : (s.bumpBy c n).pending = s.pending := rfl
@[simp] theorem State.bump_variant (s : State) (c : Ctr) : (s.bump c).variant = s.variant := rfl
@[simp] theorem State.bump_glb (s : State) (c : Ctr) : (s.bump c).glb = s.glb := rfl
@[simp] theorem State.bump_mbx (s : State) (c : Ctr) : (s.bump c).mbx = s.mbx := rfl
@[simp] theorem State.bump_log (s : State) (c : Ctr) : (s.bump c).log = s.log := rfl
@[simp] theorem State.bump_evc (s : State) (c : Ctr) : (s.bump c).evc = s.evc := rfl
@[simp] theorem State.bump_causes (s : State) (c : Ctr) : (s.bump c).causes = s.causes := rfl
@[simp] theorem State.bump_cap (s : State) (c : Ctr) : (s.bump c).cap = s.cap := rfl
@[simp] theorem State.bump_cfg (s : State) (c : Ctr) : (s.bump c).cfg = s.cfg := rfl
@[simp] theorem State.bump_prev (s : State) (c : Ctr) : (s.bump c).prev = s.prev := rfl
@[simp] theorem State.bump_gen (s : State) (c : Ctr) : (s.bump c).gen = s.gen := rfl
@[simp] theorem State.bump_sched (s : State) (c : Ctr) : (s.bump c).sched = s.sched := rfl
@[simp] theorem State.bump_ym (s : State) (c : Ctr) : (s.bump c).ym = s.ym := rfl
@[simp] theorem State.bump_tim (s : State) (c : Ctr) : (s.bump c).tim = s.tim := rfl
@[simp] theorem State.bump_comp (s : State) (c : Ctr) : (s.bump c).comp = s.comp := rfl
@[simp] theorem State.bump_map (s : State) (c : Ctr) : (s.bump c).map = s.map := rfl
@[simp] theorem State.bump_lamp (s : State) (c : Ctr) : (s.bump c).lamp = s.lamp := rfl
@[simp] theorem State.bump_pdk (s : State) (c : Ctr) : (s.bump c).pdk = s.pdk := rfl
@[simp] theorem State.bump_flw (s : State) (c : Ctr) : (s.bump c).flw = s.flw := rfl
@[simp] theorem State.bump_eth (s : State) (c : Ctr) : (s.bump c).eth = s.eth := rfl
@[simp] theorem State.bump_line (s : State) (c : Ctr) : (s.bump c).line = s.line := rfl
@[simp] theorem State.bump_rst (s : State) (c : Ctr) : (s.bump c).rst = s.rst := rfl
@[simp] theorem State.bump_pair (s : State) (c : Ctr) : (s.bump c).pair = s.pair := rfl
@[simp] theorem State.bump_feeds (s : State) (c : Ctr) : (s.bump c).feeds = s.feeds := rfl
@[simp] theorem State.bump_brd (s : State) (c : Ctr) : (s.bump c).brd = s.brd := rfl
@[simp] theorem State.bump_far (s : State) (c : Ctr) : (s.bump c).far = s.far := rfl
@[simp] theorem State.bump_sec (s : State) (c : Ctr) : (s.bump c).sec = s.sec := rfl
@[simp] theorem State.bump_out (s : State) (c : Ctr) : (s.bump c).out = s.out := rfl
@[simp] theorem State.bump_freeCtr (s : State) (c : Ctr) : (s.bump c).freeCtr = s.freeCtr := rfl
@[simp] theorem State.bump_pending (s : State) (c : Ctr) : (s.bump c).pending = s.pending := rfl
@[simp] theorem State.emit_variant (s : State) (o : Out) : (s.emit o).variant = s.variant := rfl
@[simp] theorem State.emit_glb (s : State) (o : Out) : (s.emit o).glb = s.glb := rfl
@[simp] theorem State.emit_mbx (s : State) (o : Out) : (s.emit o).mbx = s.mbx := rfl
@[simp] theorem State.emit_log (s : State) (o : Out) : (s.emit o).log = s.log := rfl
@[simp] theorem State.emit_evc (s : State) (o : Out) : (s.emit o).evc = s.evc := rfl
@[simp] theorem State.emit_causes (s : State) (o : Out) : (s.emit o).causes = s.causes := rfl
@[simp] theorem State.emit_cnt (s : State) (o : Out) : (s.emit o).cnt = s.cnt := rfl
@[simp] theorem State.emit_cap (s : State) (o : Out) : (s.emit o).cap = s.cap := rfl
@[simp] theorem State.emit_cfg (s : State) (o : Out) : (s.emit o).cfg = s.cfg := rfl
@[simp] theorem State.emit_prev (s : State) (o : Out) : (s.emit o).prev = s.prev := rfl
@[simp] theorem State.emit_gen (s : State) (o : Out) : (s.emit o).gen = s.gen := rfl
@[simp] theorem State.emit_sched (s : State) (o : Out) : (s.emit o).sched = s.sched := rfl
@[simp] theorem State.emit_ym (s : State) (o : Out) : (s.emit o).ym = s.ym := rfl
@[simp] theorem State.emit_tim (s : State) (o : Out) : (s.emit o).tim = s.tim := rfl
@[simp] theorem State.emit_comp (s : State) (o : Out) : (s.emit o).comp = s.comp := rfl
@[simp] theorem State.emit_map (s : State) (o : Out) : (s.emit o).map = s.map := rfl
@[simp] theorem State.emit_lamp (s : State) (o : Out) : (s.emit o).lamp = s.lamp := rfl
@[simp] theorem State.emit_pdk (s : State) (o : Out) : (s.emit o).pdk = s.pdk := rfl
@[simp] theorem State.emit_flw (s : State) (o : Out) : (s.emit o).flw = s.flw := rfl
@[simp] theorem State.emit_eth (s : State) (o : Out) : (s.emit o).eth = s.eth := rfl
@[simp] theorem State.emit_line (s : State) (o : Out) : (s.emit o).line = s.line := rfl
@[simp] theorem State.emit_rst (s : State) (o : Out) : (s.emit o).rst = s.rst := rfl
@[simp] theorem State.emit_pair (s : State) (o : Out) : (s.emit o).pair = s.pair := rfl
@[simp] theorem State.emit_feeds (s : State) (o : Out) : (s.emit o).feeds = s.feeds := rfl
@[simp] theorem State.emit_brd (s : State) (o : Out) : (s.emit o).brd = s.brd := rfl
@[simp] theorem State.emit_far (s : State) (o : Out) : (s.emit o).far = s.far := rfl
@[simp] theorem State.emit_sec (s : State) (o : Out) : (s.emit o).sec = s.sec := rfl
@[simp] theorem State.emit_freeCtr (s : State) (o : Out) : (s.emit o).freeCtr = s.freeCtr := rfl
@[simp] theorem State.emit_pending (s : State) (o : Out) : (s.emit o).pending = s.pending := rfl
@[simp] theorem State.takeFree_variant (s : State) : (s.takeFree).variant = s.variant := rfl
@[simp] theorem State.takeFree_glb (s : State) : (s.takeFree).glb = s.glb := rfl
@[simp] theorem State.takeFree_mbx (s : State) : (s.takeFree).mbx = s.mbx := rfl
@[simp] theorem State.takeFree_log (s : State) : (s.takeFree).log = s.log := rfl
@[simp] theorem State.takeFree_evc (s : State) : (s.takeFree).evc = s.evc := rfl
@[simp] theorem State.takeFree_causes (s : State) : (s.takeFree).causes = s.causes := rfl
@[simp] theorem State.takeFree_cnt (s : State) : (s.takeFree).cnt = s.cnt := rfl
@[simp] theorem State.takeFree_cap (s : State) : (s.takeFree).cap = s.cap := rfl
@[simp] theorem State.takeFree_cfg (s : State) : (s.takeFree).cfg = s.cfg := rfl
@[simp] theorem State.takeFree_prev (s : State) : (s.takeFree).prev = s.prev := rfl
@[simp] theorem State.takeFree_gen (s : State) : (s.takeFree).gen = s.gen := rfl
@[simp] theorem State.takeFree_sched (s : State) : (s.takeFree).sched = s.sched := rfl
@[simp] theorem State.takeFree_ym (s : State) : (s.takeFree).ym = s.ym := rfl
@[simp] theorem State.takeFree_tim (s : State) : (s.takeFree).tim = s.tim := rfl
@[simp] theorem State.takeFree_comp (s : State) : (s.takeFree).comp = s.comp := rfl
@[simp] theorem State.takeFree_map (s : State) : (s.takeFree).map = s.map := rfl
@[simp] theorem State.takeFree_lamp (s : State) : (s.takeFree).lamp = s.lamp := rfl
@[simp] theorem State.takeFree_pdk (s : State) : (s.takeFree).pdk = s.pdk := rfl
@[simp] theorem State.takeFree_flw (s : State) : (s.takeFree).flw = s.flw := rfl
@[simp] theorem State.takeFree_eth (s : State) : (s.takeFree).eth = s.eth := rfl
@[simp] theorem State.takeFree_line (s : State) : (s.takeFree).line = s.line := rfl
@[simp] theorem State.takeFree_rst (s : State) : (s.takeFree).rst = s.rst := rfl
@[simp] theorem State.takeFree_pair (s : State) : (s.takeFree).pair = s.pair := rfl
@[simp] theorem State.takeFree_feeds (s : State) : (s.takeFree).feeds = s.feeds := rfl
@[simp] theorem State.takeFree_brd (s : State) : (s.takeFree).brd = s.brd := rfl
@[simp] theorem State.takeFree_far (s : State) : (s.takeFree).far = s.far := rfl
@[simp] theorem State.takeFree_sec (s : State) : (s.takeFree).sec = s.sec := rfl
@[simp] theorem State.takeFree_out (s : State) : (s.takeFree).out = s.out := rfl
@[simp] theorem State.takeFree_pending (s : State) : (s.takeFree).pending = s.pending := rfl
@[simp] theorem State.returns_variant (s : State) (p : Path) (v : Word) : (s.returns p v).variant = s.variant := rfl
@[simp] theorem State.returns_mbx (s : State) (p : Path) (v : Word) : (s.returns p v).mbx = s.mbx := rfl
@[simp] theorem State.returns_log (s : State) (p : Path) (v : Word) : (s.returns p v).log = s.log := rfl
@[simp] theorem State.returns_evc (s : State) (p : Path) (v : Word) : (s.returns p v).evc = s.evc := rfl
@[simp] theorem State.returns_causes (s : State) (p : Path) (v : Word) : (s.returns p v).causes = s.causes := rfl
@[simp] theorem State.returns_cnt (s : State) (p : Path) (v : Word) : (s.returns p v).cnt = s.cnt := rfl
@[simp] theorem State.returns_cap (s : State) (p : Path) (v : Word) : (s.returns p v).cap = s.cap := rfl
@[simp] theorem State.returns_cfg (s : State) (p : Path) (v : Word) : (s.returns p v).cfg = s.cfg := rfl
@[simp] theorem State.returns_prev (s : State) (p : Path) (v : Word) : (s.returns p v).prev = s.prev := rfl
@[simp] theorem State.returns_gen (s : State) (p : Path) (v : Word) : (s.returns p v).gen = s.gen := rfl
@[simp] theorem State.returns_sched (s : State) (p : Path) (v : Word) : (s.returns p v).sched = s.sched := rfl
@[simp] theorem State.returns_ym (s : State) (p : Path) (v : Word) : (s.returns p v).ym = s.ym := rfl
@[simp] theorem State.returns_tim (s : State) (p : Path) (v : Word) : (s.returns p v).tim = s.tim := rfl
@[simp] theorem State.returns_comp (s : State) (p : Path) (v : Word) : (s.returns p v).comp = s.comp := rfl
@[simp] theorem State.returns_map (s : State) (p : Path) (v : Word) : (s.returns p v).map = s.map := rfl
@[simp] theorem State.returns_lamp (s : State) (p : Path) (v : Word) : (s.returns p v).lamp = s.lamp := rfl
@[simp] theorem State.returns_pdk (s : State) (p : Path) (v : Word) : (s.returns p v).pdk = s.pdk := rfl
@[simp] theorem State.returns_flw (s : State) (p : Path) (v : Word) : (s.returns p v).flw = s.flw := rfl
@[simp] theorem State.returns_eth (s : State) (p : Path) (v : Word) : (s.returns p v).eth = s.eth := rfl
@[simp] theorem State.returns_line (s : State) (p : Path) (v : Word) : (s.returns p v).line = s.line := rfl
@[simp] theorem State.returns_rst (s : State) (p : Path) (v : Word) : (s.returns p v).rst = s.rst := rfl
@[simp] theorem State.returns_pair (s : State) (p : Path) (v : Word) : (s.returns p v).pair = s.pair := rfl
@[simp] theorem State.returns_feeds (s : State) (p : Path) (v : Word) : (s.returns p v).feeds = s.feeds := rfl
@[simp] theorem State.returns_brd (s : State) (p : Path) (v : Word) : (s.returns p v).brd = s.brd := rfl
@[simp] theorem State.returns_far (s : State) (p : Path) (v : Word) : (s.returns p v).far = s.far := rfl
@[simp] theorem State.returns_sec (s : State) (p : Path) (v : Word) : (s.returns p v).sec = s.sec := rfl
@[simp] theorem State.returns_out (s : State) (p : Path) (v : Word) : (s.returns p v).out = s.out := rfl
@[simp] theorem State.returns_freeCtr (s : State) (p : Path) (v : Word) : (s.returns p v).freeCtr = s.freeCtr := rfl
@[simp] theorem State.returns_pending (s : State) (p : Path) (v : Word) : (s.returns p v).pending = s.pending := rfl
@[simp] theorem State.captureKeys_variant (s : State) (a b : Nat) : (s.captureKeys a b).variant = s.variant := rfl
@[simp] theorem State.captureKeys_glb (s : State) (a b : Nat) : (s.captureKeys a b).glb = s.glb := rfl
@[simp] theorem State.captureKeys_mbx (s : State) (a b : Nat) : (s.captureKeys a b).mbx = s.mbx := rfl
@[simp] theorem State.captureKeys_log (s : State) (a b : Nat) : (s.captureKeys a b).log = s.log := rfl
@[simp] theorem State.captureKeys_evc (s : State) (a b : Nat) : (s.captureKeys a b).evc = s.evc := rfl
@[simp] theorem State.captureKeys_causes (s : State) (a b : Nat) : (s.captureKeys a b).causes = s.causes := rfl
@[simp] theorem State.captureKeys_cnt (s : State) (a b : Nat) : (s.captureKeys a b).cnt = s.cnt := rfl
@[simp] theorem State.captureKeys_cfg (s : State) (a b : Nat) : (s.captureKeys a b).cfg = s.cfg := rfl
@[simp] theorem State.captureKeys_prev (s : State) (a b : Nat) : (s.captureKeys a b).prev = s.prev := rfl
@[simp] theorem State.captureKeys_gen (s : State) (a b : Nat) : (s.captureKeys a b).gen = s.gen := rfl
@[simp] theorem State.captureKeys_sched (s : State) (a b : Nat) : (s.captureKeys a b).sched = s.sched := rfl
@[simp] theorem State.captureKeys_ym (s : State) (a b : Nat) : (s.captureKeys a b).ym = s.ym := rfl
@[simp] theorem State.captureKeys_tim (s : State) (a b : Nat) : (s.captureKeys a b).tim = s.tim := rfl
@[simp] theorem State.captureKeys_comp (s : State) (a b : Nat) : (s.captureKeys a b).comp = s.comp := rfl
@[simp] theorem State.captureKeys_map (s : State) (a b : Nat) : (s.captureKeys a b).map = s.map := rfl
@[simp] theorem State.captureKeys_lamp (s : State) (a b : Nat) : (s.captureKeys a b).lamp = s.lamp := rfl
@[simp] theorem State.captureKeys_pdk (s : State) (a b : Nat) : (s.captureKeys a b).pdk = s.pdk := rfl
@[simp] theorem State.captureKeys_flw (s : State) (a b : Nat) : (s.captureKeys a b).flw = s.flw := rfl
@[simp] theorem State.captureKeys_eth (s : State) (a b : Nat) : (s.captureKeys a b).eth = s.eth := rfl
@[simp] theorem State.captureKeys_line (s : State) (a b : Nat) : (s.captureKeys a b).line = s.line := rfl
@[simp] theorem State.captureKeys_rst (s : State) (a b : Nat) : (s.captureKeys a b).rst = s.rst := rfl
@[simp] theorem State.captureKeys_pair (s : State) (a b : Nat) : (s.captureKeys a b).pair = s.pair := rfl
@[simp] theorem State.captureKeys_feeds (s : State) (a b : Nat) : (s.captureKeys a b).feeds = s.feeds := rfl
@[simp] theorem State.captureKeys_brd (s : State) (a b : Nat) : (s.captureKeys a b).brd = s.brd := rfl
@[simp] theorem State.captureKeys_far (s : State) (a b : Nat) : (s.captureKeys a b).far = s.far := rfl
@[simp] theorem State.captureKeys_sec (s : State) (a b : Nat) : (s.captureKeys a b).sec = s.sec := rfl
@[simp] theorem State.captureKeys_out (s : State) (a b : Nat) : (s.captureKeys a b).out = s.out := rfl
@[simp] theorem State.captureKeys_freeCtr (s : State) (a b : Nat) : (s.captureKeys a b).freeCtr = s.freeCtr := rfl
@[simp] theorem State.captureKeys_pending (s : State) (a b : Nat) : (s.captureKeys a b).pending = s.pending := rfl
@[simp] theorem State.clearKeys_variant (s : State) (a b : Nat) : (s.clearKeys a b).variant = s.variant := rfl
@[simp] theorem State.clearKeys_glb (s : State) (a b : Nat) : (s.clearKeys a b).glb = s.glb := rfl
@[simp] theorem State.clearKeys_mbx (s : State) (a b : Nat) : (s.clearKeys a b).mbx = s.mbx := rfl
@[simp] theorem State.clearKeys_log (s : State) (a b : Nat) : (s.clearKeys a b).log = s.log := rfl
@[simp] theorem State.clearKeys_evc (s : State) (a b : Nat) : (s.clearKeys a b).evc = s.evc := rfl
@[simp] theorem State.clearKeys_causes (s : State) (a b : Nat) : (s.clearKeys a b).causes = s.causes := rfl
@[simp] theorem State.clearKeys_cap (s : State) (a b : Nat) : (s.clearKeys a b).cap = s.cap := rfl
@[simp] theorem State.clearKeys_cfg (s : State) (a b : Nat) : (s.clearKeys a b).cfg = s.cfg := rfl
@[simp] theorem State.clearKeys_prev (s : State) (a b : Nat) : (s.clearKeys a b).prev = s.prev := rfl
@[simp] theorem State.clearKeys_gen (s : State) (a b : Nat) : (s.clearKeys a b).gen = s.gen := rfl
@[simp] theorem State.clearKeys_sched (s : State) (a b : Nat) : (s.clearKeys a b).sched = s.sched := rfl
@[simp] theorem State.clearKeys_ym (s : State) (a b : Nat) : (s.clearKeys a b).ym = s.ym := rfl
@[simp] theorem State.clearKeys_tim (s : State) (a b : Nat) : (s.clearKeys a b).tim = s.tim := rfl
@[simp] theorem State.clearKeys_comp (s : State) (a b : Nat) : (s.clearKeys a b).comp = s.comp := rfl
@[simp] theorem State.clearKeys_map (s : State) (a b : Nat) : (s.clearKeys a b).map = s.map := rfl
@[simp] theorem State.clearKeys_lamp (s : State) (a b : Nat) : (s.clearKeys a b).lamp = s.lamp := rfl
@[simp] theorem State.clearKeys_pdk (s : State) (a b : Nat) : (s.clearKeys a b).pdk = s.pdk := rfl
@[simp] theorem State.clearKeys_flw (s : State) (a b : Nat) : (s.clearKeys a b).flw = s.flw := rfl
@[simp] theorem State.clearKeys_eth (s : State) (a b : Nat) : (s.clearKeys a b).eth = s.eth := rfl
@[simp] theorem State.clearKeys_line (s : State) (a b : Nat) : (s.clearKeys a b).line = s.line := rfl
@[simp] theorem State.clearKeys_rst (s : State) (a b : Nat) : (s.clearKeys a b).rst = s.rst := rfl
@[simp] theorem State.clearKeys_pair (s : State) (a b : Nat) : (s.clearKeys a b).pair = s.pair := rfl
@[simp] theorem State.clearKeys_feeds (s : State) (a b : Nat) : (s.clearKeys a b).feeds = s.feeds := rfl
@[simp] theorem State.clearKeys_brd (s : State) (a b : Nat) : (s.clearKeys a b).brd = s.brd := rfl
@[simp] theorem State.clearKeys_far (s : State) (a b : Nat) : (s.clearKeys a b).far = s.far := rfl
@[simp] theorem State.clearKeys_sec (s : State) (a b : Nat) : (s.clearKeys a b).sec = s.sec := rfl
@[simp] theorem State.clearKeys_out (s : State) (a b : Nat) : (s.clearKeys a b).out = s.out := rfl
@[simp] theorem State.clearKeys_freeCtr (s : State) (a b : Nat) : (s.clearKeys a b).freeCtr = s.freeCtr := rfl
@[simp] theorem State.clearKeys_pending (s : State) (a b : Nat) : (s.clearKeys a b).pending = s.pending := rfl
@[simp] theorem State.setBox_variant (s : State) (m : Nat) (b : Mailbox) : (s.setBox m b).variant = s.variant := rfl
@[simp] theorem State.setBox_glb (s : State) (m : Nat) (b : Mailbox) : (s.setBox m b).glb = s.glb := rfl
@[simp] theorem State.setBox_log (s : State) (m : Nat) (b : Mailbox) : (s.setBox m b).log = s.log := rfl
@[simp] theorem State.setBox_evc (s : State) (m : Nat) (b : Mailbox) : (s.setBox m b).evc = s.evc := rfl
@[simp] theorem State.setBox_causes (s : State) (m : Nat) (b : Mailbox) : (s.setBox m b).causes = s.causes := rfl
@[simp] theorem State.setBox_cnt (s : State) (m : Nat) (b : Mailbox) : (s.setBox m b).cnt = s.cnt := rfl
@[simp] theorem State.setBox_cap (s : State) (m : Nat) (b : Mailbox) : (s.setBox m b).cap = s.cap := rfl
@[simp] theorem State.setBox_cfg (s : State) (m : Nat) (b : Mailbox) : (s.setBox m b).cfg = s.cfg := rfl
@[simp] theorem State.setBox_prev (s : State) (m : Nat) (b : Mailbox) : (s.setBox m b).prev = s.prev := rfl
@[simp] theorem State.setBox_gen (s : State) (m : Nat) (b : Mailbox) : (s.setBox m b).gen = s.gen := rfl
@[simp] theorem State.setBox_sched (s : State) (m : Nat) (b : Mailbox) : (s.setBox m b).sched = s.sched := rfl
@[simp] theorem State.setBox_ym (s : State) (m : Nat) (b : Mailbox) : (s.setBox m b).ym = s.ym := rfl
@[simp] theorem State.setBox_tim (s : State) (m : Nat) (b : Mailbox) : (s.setBox m b).tim = s.tim := rfl
@[simp] theorem State.setBox_comp (s : State) (m : Nat) (b : Mailbox) : (s.setBox m b).comp = s.comp := rfl
@[simp] theorem State.setBox_map (s : State) (m : Nat) (b : Mailbox) : (s.setBox m b).map = s.map := rfl
@[simp] theorem State.setBox_lamp (s : State) (m : Nat) (b : Mailbox) : (s.setBox m b).lamp = s.lamp := rfl
@[simp] theorem State.setBox_pdk (s : State) (m : Nat) (b : Mailbox) : (s.setBox m b).pdk = s.pdk := rfl
@[simp] theorem State.setBox_flw (s : State) (m : Nat) (b : Mailbox) : (s.setBox m b).flw = s.flw := rfl
@[simp] theorem State.setBox_eth (s : State) (m : Nat) (b : Mailbox) : (s.setBox m b).eth = s.eth := rfl
@[simp] theorem State.setBox_line (s : State) (m : Nat) (b : Mailbox) : (s.setBox m b).line = s.line := rfl
@[simp] theorem State.setBox_rst (s : State) (m : Nat) (b : Mailbox) : (s.setBox m b).rst = s.rst := rfl
@[simp] theorem State.setBox_pair (s : State) (m : Nat) (b : Mailbox) : (s.setBox m b).pair = s.pair := rfl
@[simp] theorem State.setBox_feeds (s : State) (m : Nat) (b : Mailbox) : (s.setBox m b).feeds = s.feeds := rfl
@[simp] theorem State.setBox_brd (s : State) (m : Nat) (b : Mailbox) : (s.setBox m b).brd = s.brd := rfl
@[simp] theorem State.setBox_far (s : State) (m : Nat) (b : Mailbox) : (s.setBox m b).far = s.far := rfl
@[simp] theorem State.setBox_sec (s : State) (m : Nat) (b : Mailbox) : (s.setBox m b).sec = s.sec := rfl
@[simp] theorem State.setBox_out (s : State) (m : Nat) (b : Mailbox) : (s.setBox m b).out = s.out := rfl
@[simp] theorem State.setBox_freeCtr (s : State) (m : Nat) (b : Mailbox) : (s.setBox m b).freeCtr = s.freeCtr := rfl
@[simp] theorem State.setBox_pending (s : State) (m : Nat) (b : Mailbox) : (s.setBox m b).pending = s.pending := rfl
@[simp] theorem State.setSession_variant (s : State) (i : Nat) (x : Session) : (s.setSession i x).variant = s.variant := rfl
@[simp] theorem State.setSession_glb (s : State) (i : Nat) (x : Session) : (s.setSession i x).glb = s.glb := rfl
@[simp] theorem State.setSession_log (s : State) (i : Nat) (x : Session) : (s.setSession i x).log = s.log := rfl
@[simp] theorem State.setSession_evc (s : State) (i : Nat) (x : Session) : (s.setSession i x).evc = s.evc := rfl
@[simp] theorem State.setSession_causes (s : State) (i : Nat) (x : Session) : (s.setSession i x).causes = s.causes := rfl
@[simp] theorem State.setSession_cnt (s : State) (i : Nat) (x : Session) : (s.setSession i x).cnt = s.cnt := rfl
@[simp] theorem State.setSession_cap (s : State) (i : Nat) (x : Session) : (s.setSession i x).cap = s.cap := rfl
@[simp] theorem State.setSession_cfg (s : State) (i : Nat) (x : Session) : (s.setSession i x).cfg = s.cfg := rfl
@[simp] theorem State.setSession_prev (s : State) (i : Nat) (x : Session) : (s.setSession i x).prev = s.prev := rfl
@[simp] theorem State.setSession_gen (s : State) (i : Nat) (x : Session) : (s.setSession i x).gen = s.gen := rfl
@[simp] theorem State.setSession_sched (s : State) (i : Nat) (x : Session) : (s.setSession i x).sched = s.sched := rfl
@[simp] theorem State.setSession_ym (s : State) (i : Nat) (x : Session) : (s.setSession i x).ym = s.ym := rfl
@[simp] theorem State.setSession_tim (s : State) (i : Nat) (x : Session) : (s.setSession i x).tim = s.tim := rfl
@[simp] theorem State.setSession_comp (s : State) (i : Nat) (x : Session) : (s.setSession i x).comp = s.comp := rfl
@[simp] theorem State.setSession_map (s : State) (i : Nat) (x : Session) : (s.setSession i x).map = s.map := rfl
@[simp] theorem State.setSession_lamp (s : State) (i : Nat) (x : Session) : (s.setSession i x).lamp = s.lamp := rfl
@[simp] theorem State.setSession_pdk (s : State) (i : Nat) (x : Session) : (s.setSession i x).pdk = s.pdk := rfl
@[simp] theorem State.setSession_flw (s : State) (i : Nat) (x : Session) : (s.setSession i x).flw = s.flw := rfl
@[simp] theorem State.setSession_eth (s : State) (i : Nat) (x : Session) : (s.setSession i x).eth = s.eth := rfl
@[simp] theorem State.setSession_line (s : State) (i : Nat) (x : Session) : (s.setSession i x).line = s.line := rfl
@[simp] theorem State.setSession_rst (s : State) (i : Nat) (x : Session) : (s.setSession i x).rst = s.rst := rfl
@[simp] theorem State.setSession_pair (s : State) (i : Nat) (x : Session) : (s.setSession i x).pair = s.pair := rfl
@[simp] theorem State.setSession_feeds (s : State) (i : Nat) (x : Session) : (s.setSession i x).feeds = s.feeds := rfl
@[simp] theorem State.setSession_brd (s : State) (i : Nat) (x : Session) : (s.setSession i x).brd = s.brd := rfl
@[simp] theorem State.setSession_far (s : State) (i : Nat) (x : Session) : (s.setSession i x).far = s.far := rfl
@[simp] theorem State.setSession_sec (s : State) (i : Nat) (x : Session) : (s.setSession i x).sec = s.sec := rfl
@[simp] theorem State.setSession_out (s : State) (i : Nat) (x : Session) : (s.setSession i x).out = s.out := rfl
@[simp] theorem State.setSession_freeCtr (s : State) (i : Nat) (x : Session) : (s.setSession i x).freeCtr = s.freeCtr := rfl
@[simp] theorem State.setSession_pending (s : State) (i : Nat) (x : Session) : (s.setSession i x).pending = s.pending := rfl
@[simp] theorem State.delSession_variant (s : State) (i : Nat) : (s.delSession i).variant = s.variant := rfl
@[simp] theorem State.delSession_glb (s : State) (i : Nat) : (s.delSession i).glb = s.glb := rfl
@[simp] theorem State.delSession_log (s : State) (i : Nat) : (s.delSession i).log = s.log := rfl
@[simp] theorem State.delSession_evc (s : State) (i : Nat) : (s.delSession i).evc = s.evc := rfl
@[simp] theorem State.delSession_causes (s : State) (i : Nat) : (s.delSession i).causes = s.causes := rfl
@[simp] theorem State.delSession_cnt (s : State) (i : Nat) : (s.delSession i).cnt = s.cnt := rfl
@[simp] theorem State.delSession_cap (s : State) (i : Nat) : (s.delSession i).cap = s.cap := rfl
@[simp] theorem State.delSession_cfg (s : State) (i : Nat) : (s.delSession i).cfg = s.cfg := rfl
@[simp] theorem State.delSession_prev (s : State) (i : Nat) : (s.delSession i).prev = s.prev := rfl
@[simp] theorem State.delSession_gen (s : State) (i : Nat) : (s.delSession i).gen = s.gen := rfl
@[simp] theorem State.delSession_sched (s : State) (i : Nat) : (s.delSession i).sched = s.sched := rfl
@[simp] theorem State.delSession_ym (s : State) (i : Nat) : (s.delSession i).ym = s.ym := rfl
@[simp] theorem State.delSession_tim (s : State) (i : Nat) : (s.delSession i).tim = s.tim := rfl
@[simp] theorem State.delSession_comp (s : State) (i : Nat) : (s.delSession i).comp = s.comp := rfl
@[simp] theorem State.delSession_map (s : State) (i : Nat) : (s.delSession i).map = s.map := rfl
@[simp] theorem State.delSession_lamp (s : State) (i : Nat) : (s.delSession i).lamp = s.lamp := rfl
@[simp] theorem State.delSession_pdk (s : State) (i : Nat) : (s.delSession i).pdk = s.pdk := rfl
@[simp] theorem State.delSession_flw (s : State) (i : Nat) : (s.delSession i).flw = s.flw := rfl
@[simp] theorem State.delSession_eth (s : State) (i : Nat) : (s.delSession i).eth = s.eth := rfl
@[simp] theorem State.delSession_line (s : State) (i : Nat) : (s.delSession i).line = s.line := rfl
@[simp] theorem State.delSession_rst (s : State) (i : Nat) : (s.delSession i).rst = s.rst := rfl
@[simp] theorem State.delSession_pair (s : State) (i : Nat) : (s.delSession i).pair = s.pair := rfl
@[simp] theorem State.delSession_feeds (s : State) (i : Nat) : (s.delSession i).feeds = s.feeds := rfl
@[simp] theorem State.delSession_brd (s : State) (i : Nat) : (s.delSession i).brd = s.brd := rfl
@[simp] theorem State.delSession_far (s : State) (i : Nat) : (s.delSession i).far = s.far := rfl
@[simp] theorem State.delSession_sec (s : State) (i : Nat) : (s.delSession i).sec = s.sec := rfl
@[simp] theorem State.delSession_out (s : State) (i : Nat) : (s.delSession i).out = s.out := rfl
@[simp] theorem State.delSession_freeCtr (s : State) (i : Nat) : (s.delSession i).freeCtr = s.freeCtr := rfl
@[simp] theorem State.delSession_pending (s : State) (i : Nat) : (s.delSession i).pending = s.pending := rfl
theorem State.occur_eq (s : State) (n : Nat) : s.occur n = { s with evc := s.evc.occur n } := rfl
@[simp] theorem State.occur_variant (s : State) (n : Nat) : (s.occur n).variant = s.variant := by rw [State.occur_eq]
@[simp] theorem State.occur_glb (s : State) (n : Nat) : (s.occur n).glb = s.glb := by rw [State.occur_eq]
@[simp] theorem State.occur_mbx (s : State) (n : Nat) : (s.occur n).mbx = s.mbx := by rw [State.occur_eq]
@[simp] theorem State.occur_log (s : State) (n : Nat) : (s.occur n).log = s.log := by rw [State.occur_eq]
@[simp] theorem State.occur_causes (s : State) (n : Nat) : (s.occur n).causes = s.causes := by rw [State.occur_eq]
@[simp] theorem State.occur_cnt (s : State) (n : Nat) : (s.occur n).cnt = s.cnt := by rw [State.occur_eq]
@[simp] theorem State.occur_cap (s : State) (n : Nat) : (s.occur n).cap = s.cap := by rw [State.occur_eq]
@[simp] theorem State.occur_cfg (s : State) (n : Nat) : (s.occur n).cfg = s.cfg := by rw [State.occur_eq]
@[simp] theorem State.occur_prev (s : State) (n : Nat) : (s.occur n).prev = s.prev := by rw [State.occur_eq]
@[simp] theorem State.occur_gen (s : State) (n : Nat) : (s.occur n).gen = s.gen := by rw [State.occur_eq]
@[simp] theorem State.occur_sched (s : State) (n : Nat) : (s.occur n).sched = s.sched := by rw [State.occur_eq]
@[simp] theorem State.occur_ym (s : State) (n : Nat) : (s.occur n).ym = s.ym := by rw [State.occur_eq]
@[simp] theorem State.occur_tim (s : State) (n : Nat) : (s.occur n).tim = s.tim := by rw [State.occur_eq]
@[simp] theorem State.occur_comp (s : State) (n : Nat) : (s.occur n).comp = s.comp := by rw [State.occur_eq]
@[simp] theorem State.occur_map (s : State) (n : Nat) : (s.occur n).map = s.map := by rw [State.occur_eq]
@[simp] theorem State.occur_lamp (s : State) (n : Nat) : (s.occur n).lamp = s.lamp := by rw [State.occur_eq]
@[simp] theorem State.occur_pdk (s : State) (n : Nat) : (s.occur n).pdk = s.pdk := by rw [State.occur_eq]
@[simp] theorem State.occur_flw (s : State) (n : Nat) : (s.occur n).flw = s.flw := by rw [State.occur_eq]
@[simp] theorem State.occur_eth (s : State) (n : Nat) : (s.occur n).eth = s.eth := by rw [State.occur_eq]
@[simp] theorem State.occur_line (s : State) (n : Nat) : (s.occur n).line = s.line := by rw [State.occur_eq]
@[simp] theorem State.occur_rst (s : State) (n : Nat) : (s.occur n).rst = s.rst := by rw [State.occur_eq]
@[simp] theorem State.occur_pair (s : State) (n : Nat) : (s.occur n).pair = s.pair := by rw [State.occur_eq]
@[simp] theorem State.occur_feeds (s : State) (n : Nat) : (s.occur n).feeds = s.feeds := by rw [State.occur_eq]
@[simp] theorem State.occur_brd (s : State) (n : Nat) : (s.occur n).brd = s.brd := by rw [State.occur_eq]
@[simp] theorem State.occur_far (s : State) (n : Nat) : (s.occur n).far = s.far := by rw [State.occur_eq]
@[simp] theorem State.occur_sec (s : State) (n : Nat) : (s.occur n).sec = s.sec := by rw [State.occur_eq]
@[simp] theorem State.occur_out (s : State) (n : Nat) : (s.occur n).out = s.out := by rw [State.occur_eq]
@[simp] theorem State.occur_freeCtr (s : State) (n : Nat) : (s.occur n).freeCtr = s.freeCtr := by rw [State.occur_eq]
@[simp] theorem State.occur_pending (s : State) (n : Nat) : (s.occur n).pending = s.pending := by rw [State.occur_eq]
@[simp] theorem State.failCond_variant (s : State) (b : Nat) : (s.failCond b).variant = s.variant := rfl
@[simp] theorem State.failCond_glb (s : State) (b : Nat) : (s.failCond b).glb = s.glb := rfl
@[simp] theorem State.failCond_mbx (s : State) (b : Nat) : (s.failCond b).mbx = s.mbx := rfl
@[simp] theorem State.failCond_log (s : State) (b : Nat) : (s.failCond b).log = s.log := rfl
@[simp] theorem State.failCond_evc (s : State) (b : Nat) : (s.failCond b).evc = s.evc := rfl
@[simp] theorem State.failCond_causes (s : State) (b : Nat) : (s.failCond b).causes = s.causes := rfl
@[simp] theorem State.failCond_cnt (s : State) (b : Nat) : (s.failCond b).cnt = s.cnt := rfl
@[simp] theorem State.failCond_cap (s : State) (b : Nat) : (s.failCond b).cap = s.cap := rfl
@[simp] theorem State.failCond_cfg (s : State) (b : Nat) : (s.failCond b).cfg = s.cfg := rfl
@[simp] theorem State.failCond_prev (s : State) (b : Nat) : (s.failCond b).prev = s.prev := rfl
@[simp] theorem State.failCond_gen (s : State) (b : Nat) : (s.failCond b).gen = s.gen := rfl
@[simp] theorem State.failCond_sched (s : State) (b : Nat) : (s.failCond b).sched = s.sched := rfl
@[simp] theorem State.failCond_tim (s : State) (b : Nat) : (s.failCond b).tim = s.tim := rfl
@[simp] theorem State.failCond_comp (s : State) (b : Nat) : (s.failCond b).comp = s.comp := rfl
@[simp] theorem State.failCond_map (s : State) (b : Nat) : (s.failCond b).map = s.map := rfl
@[simp] theorem State.failCond_lamp (s : State) (b : Nat) : (s.failCond b).lamp = s.lamp := rfl
@[simp] theorem State.failCond_pdk (s : State) (b : Nat) : (s.failCond b).pdk = s.pdk := rfl
@[simp] theorem State.failCond_flw (s : State) (b : Nat) : (s.failCond b).flw = s.flw := rfl
@[simp] theorem State.failCond_eth (s : State) (b : Nat) : (s.failCond b).eth = s.eth := rfl
@[simp] theorem State.failCond_line (s : State) (b : Nat) : (s.failCond b).line = s.line := rfl
@[simp] theorem State.failCond_rst (s : State) (b : Nat) : (s.failCond b).rst = s.rst := rfl
@[simp] theorem State.failCond_pair (s : State) (b : Nat) : (s.failCond b).pair = s.pair := rfl
@[simp] theorem State.failCond_feeds (s : State) (b : Nat) : (s.failCond b).feeds = s.feeds := rfl
@[simp] theorem State.failCond_brd (s : State) (b : Nat) : (s.failCond b).brd = s.brd := rfl
@[simp] theorem State.failCond_far (s : State) (b : Nat) : (s.failCond b).far = s.far := rfl
@[simp] theorem State.failCond_sec (s : State) (b : Nat) : (s.failCond b).sec = s.sec := rfl
@[simp] theorem State.failCond_out (s : State) (b : Nat) : (s.failCond b).out = s.out := rfl
@[simp] theorem State.failCond_freeCtr (s : State) (b : Nat) : (s.failCond b).freeCtr = s.freeCtr := rfl
@[simp] theorem State.failCond_pending (s : State) (b : Nat) : (s.failCond b).pending = s.pending := rfl
@[simp] theorem State.noteCond_variant (s : State) : (s.noteCond).variant = s.variant := rfl
@[simp] theorem State.noteCond_glb (s : State) : (s.noteCond).glb = s.glb := rfl
@[simp] theorem State.noteCond_mbx (s : State) : (s.noteCond).mbx = s.mbx := rfl
@[simp] theorem State.noteCond_log (s : State) : (s.noteCond).log = s.log := rfl
@[simp] theorem State.noteCond_evc (s : State) : (s.noteCond).evc = s.evc := rfl
@[simp] theorem State.noteCond_causes (s : State) : (s.noteCond).causes = s.causes := rfl
@[simp] theorem State.noteCond_cnt (s : State) : (s.noteCond).cnt = s.cnt := rfl
@[simp] theorem State.noteCond_cap (s : State) : (s.noteCond).cap = s.cap := rfl
@[simp] theorem State.noteCond_cfg (s : State) : (s.noteCond).cfg = s.cfg := rfl
@[simp] theorem State.noteCond_prev (s : State) : (s.noteCond).prev = s.prev := rfl
@[simp] theorem State.noteCond_gen (s : State) : (s.noteCond).gen = s.gen := rfl
@[simp] theorem State.noteCond_sched (s : State) : (s.noteCond).sched = s.sched := rfl
@[simp] theorem State.noteCond_tim (s : State) : (s.noteCond).tim = s.tim := rfl
@[simp] theorem State.noteCond_comp (s : State) : (s.noteCond).comp = s.comp := rfl
@[simp] theorem State.noteCond_map (s : State) : (s.noteCond).map = s.map := rfl
@[simp] theorem State.noteCond_lamp (s : State) : (s.noteCond).lamp = s.lamp := rfl
@[simp] theorem State.noteCond_pdk (s : State) : (s.noteCond).pdk = s.pdk := rfl
@[simp] theorem State.noteCond_flw (s : State) : (s.noteCond).flw = s.flw := rfl
@[simp] theorem State.noteCond_eth (s : State) : (s.noteCond).eth = s.eth := rfl
@[simp] theorem State.noteCond_line (s : State) : (s.noteCond).line = s.line := rfl
@[simp] theorem State.noteCond_rst (s : State) : (s.noteCond).rst = s.rst := rfl
@[simp] theorem State.noteCond_pair (s : State) : (s.noteCond).pair = s.pair := rfl
@[simp] theorem State.noteCond_feeds (s : State) : (s.noteCond).feeds = s.feeds := rfl
@[simp] theorem State.noteCond_brd (s : State) : (s.noteCond).brd = s.brd := rfl
@[simp] theorem State.noteCond_far (s : State) : (s.noteCond).far = s.far := rfl
@[simp] theorem State.noteCond_sec (s : State) : (s.noteCond).sec = s.sec := rfl
@[simp] theorem State.noteCond_out (s : State) : (s.noteCond).out = s.out := rfl
@[simp] theorem State.noteCond_freeCtr (s : State) : (s.noteCond).freeCtr = s.freeCtr := rfl
@[simp] theorem State.noteCond_pending (s : State) : (s.noteCond).pending = s.pending := rfl
@[simp] theorem State.setStall_variant (s : State) (k : Nat) (r : StallRec) : (s.setStall k r).variant = s.variant := rfl
@[simp] theorem State.setStall_glb (s : State) (k : Nat) (r : StallRec) : (s.setStall k r).glb = s.glb := rfl
@[simp] theorem State.setStall_mbx (s : State) (k : Nat) (r : StallRec) : (s.setStall k r).mbx = s.mbx := rfl
@[simp] theorem State.setStall_log (s : State) (k : Nat) (r : StallRec) : (s.setStall k r).log = s.log := rfl
@[simp] theorem State.setStall_evc (s : State) (k : Nat) (r : StallRec) : (s.setStall k r).evc = s.evc := rfl
@[simp] theorem State.setStall_causes (s : State) (k : Nat) (r : StallRec) : (s.setStall k r).causes = s.causes := rfl
@[simp] theorem State.setStall_cnt (s : State) (k : Nat) (r : StallRec) : (s.setStall k r).cnt = s.cnt := rfl
@[simp] theorem State.setStall_cap (s : State) (k : Nat) (r : StallRec) : (s.setStall k r).cap = s.cap := rfl
@[simp] theorem State.setStall_cfg (s : State) (k : Nat) (r : StallRec) : (s.setStall k r).cfg = s.cfg := rfl
@[simp] theorem State.setStall_prev (s : State) (k : Nat) (r : StallRec) : (s.setStall k r).prev = s.prev := rfl
@[simp] theorem State.setStall_gen (s : State) (k : Nat) (r : StallRec) : (s.setStall k r).gen = s.gen := rfl
@[simp] theorem State.setStall_sched (s : State) (k : Nat) (r : StallRec) : (s.setStall k r).sched = s.sched := rfl
@[simp] theorem State.setStall_ym (s : State) (k : Nat) (r : StallRec) : (s.setStall k r).ym = s.ym := rfl
@[simp] theorem State.setStall_tim (s : State) (k : Nat) (r : StallRec) : (s.setStall k r).tim = s.tim := rfl
@[simp] theorem State.setStall_comp (s : State) (k : Nat) (r : StallRec) : (s.setStall k r).comp = s.comp := rfl
@[simp] theorem State.setStall_map (s : State) (k : Nat) (r : StallRec) : (s.setStall k r).map = s.map := rfl
@[simp] theorem State.setStall_lamp (s : State) (k : Nat) (r : StallRec) : (s.setStall k r).lamp = s.lamp := rfl
@[simp] theorem State.setStall_flw (s : State) (k : Nat) (r : StallRec) : (s.setStall k r).flw = s.flw := rfl
@[simp] theorem State.setStall_eth (s : State) (k : Nat) (r : StallRec) : (s.setStall k r).eth = s.eth := rfl
@[simp] theorem State.setStall_line (s : State) (k : Nat) (r : StallRec) : (s.setStall k r).line = s.line := rfl
@[simp] theorem State.setStall_rst (s : State) (k : Nat) (r : StallRec) : (s.setStall k r).rst = s.rst := rfl
@[simp] theorem State.setStall_pair (s : State) (k : Nat) (r : StallRec) : (s.setStall k r).pair = s.pair := rfl
@[simp] theorem State.setStall_feeds (s : State) (k : Nat) (r : StallRec) : (s.setStall k r).feeds = s.feeds := rfl
@[simp] theorem State.setStall_brd (s : State) (k : Nat) (r : StallRec) : (s.setStall k r).brd = s.brd := rfl
@[simp] theorem State.setStall_far (s : State) (k : Nat) (r : StallRec) : (s.setStall k r).far = s.far := rfl
@[simp] theorem State.setStall_sec (s : State) (k : Nat) (r : StallRec) : (s.setStall k r).sec = s.sec := rfl
@[simp] theorem State.setStall_out (s : State) (k : Nat) (r : StallRec) : (s.setStall k r).out = s.out := rfl
@[simp] theorem State.setStall_freeCtr (s : State) (k : Nat) (r : StallRec) : (s.setStall k r).freeCtr = s.freeCtr := rfl
@[simp] theorem State.setStall_pending (s : State) (k : Nat) (r : StallRec) : (s.setStall k r).pending = s.pending := rfl
@[simp] theorem State.setInst_variant (s : State) (i : Inst) : (s.setInst i).variant = s.variant := rfl
@[simp] theorem State.setInst_glb (s : State) (i : Inst) : (s.setInst i).glb = s.glb := rfl
@[simp] theorem State.setInst_mbx (s : State) (i : Inst) : (s.setInst i).mbx = s.mbx := rfl
@[simp] theorem State.setInst_log (s : State) (i : Inst) : (s.setInst i).log = s.log := rfl
@[simp] theorem State.setInst_evc (s : State) (i : Inst) : (s.setInst i).evc = s.evc := rfl
@[simp] theorem State.setInst_causes (s : State) (i : Inst) : (s.setInst i).causes = s.causes := rfl
@[simp] theorem State.setInst_cnt (s : State) (i : Inst) : (s.setInst i).cnt = s.cnt := rfl
@[simp] theorem State.setInst_cap (s : State) (i : Inst) : (s.setInst i).cap = s.cap := rfl
@[simp] theorem State.setInst_cfg (s : State) (i : Inst) : (s.setInst i).cfg = s.cfg := rfl
@[simp] theorem State.setInst_prev (s : State) (i : Inst) : (s.setInst i).prev = s.prev := rfl
@[simp] theorem State.setInst_gen (s : State) (i : Inst) : (s.setInst i).gen = s.gen := rfl
@[simp] theorem State.setInst_sched (s : State) (i : Inst) : (s.setInst i).sched = s.sched := rfl
@[simp] theorem State.setInst_ym (s : State) (i : Inst) : (s.setInst i).ym = s.ym := rfl
@[simp] theorem State.setInst_tim (s : State) (i : Inst) : (s.setInst i).tim = s.tim := rfl
@[simp] theorem State.setInst_comp (s : State) (i : Inst) : (s.setInst i).comp = s.comp := rfl
@[simp] theorem State.setInst_map (s : State) (i : Inst) : (s.setInst i).map = s.map := rfl
@[simp] theorem State.setInst_lamp (s : State) (i : Inst) : (s.setInst i).lamp = s.lamp := rfl
@[simp] theorem State.setInst_flw (s : State) (i : Inst) : (s.setInst i).flw = s.flw := rfl
@[simp] theorem State.setInst_eth (s : State) (i : Inst) : (s.setInst i).eth = s.eth := rfl
@[simp] theorem State.setInst_line (s : State) (i : Inst) : (s.setInst i).line = s.line := rfl
@[simp] theorem State.setInst_rst (s : State) (i : Inst) : (s.setInst i).rst = s.rst := rfl
@[simp] theorem State.setInst_pair (s : State) (i : Inst) : (s.setInst i).pair = s.pair := rfl
@[simp] theorem State.setInst_feeds (s : State) (i : Inst) : (s.setInst i).feeds = s.feeds := rfl
@[simp] theorem State.setInst_brd (s : State) (i : Inst) : (s.setInst i).brd = s.brd := rfl
@[simp] theorem State.setInst_far (s : State) (i : Inst) : (s.setInst i).far = s.far := rfl
@[simp] theorem State.setInst_sec (s : State) (i : Inst) : (s.setInst i).sec = s.sec := rfl
@[simp] theorem State.setInst_out (s : State) (i : Inst) : (s.setInst i).out = s.out := rfl
@[simp] theorem State.setInst_freeCtr (s : State) (i : Inst) : (s.setInst i).freeCtr = s.freeCtr := rfl
@[simp] theorem State.setInst_pending (s : State) (i : Inst) : (s.setInst i).pending = s.pending := rfl
@[simp] theorem State.setPort_variant (s : State) (p : Nat) (r : PortSt) : (s.setPort p r).variant = s.variant := rfl
@[simp] theorem State.setPort_glb (s : State) (p : Nat) (r : PortSt) : (s.setPort p r).glb = s.glb := rfl
@[simp] theorem State.setPort_mbx (s : State) (p : Nat) (r : PortSt) : (s.setPort p r).mbx = s.mbx := rfl
@[simp] theorem State.setPort_log (s : State) (p : Nat) (r : PortSt) : (s.setPort p r).log = s.log := rfl
@[simp] theorem State.setPort_evc (s : State) (p : Nat) (r : PortSt) : (s.setPort p r).evc = s.evc := rfl
@[simp] theorem State.setPort_causes (s : State) (p : Nat) (r : PortSt) : (s.setPort p r).causes = s.causes := rfl
@[simp] theorem State.setPort_cnt (s : State) (p : Nat) (r : PortSt) : (s.setPort p r).cnt = s.cnt := rfl
@[simp] theorem State.setPort_cap (s : State) (p : Nat) (r : PortSt) : (s.setPort p r).cap = s.cap := rfl
@[simp] theorem State.setPort_cfg (s : State) (p : Nat) (r : PortSt) : (s.setPort p r).cfg = s.cfg := rfl
@[simp] theorem State.setPort_prev (s : State) (p : Nat) (r : PortSt) : (s.setPort p r).prev = s.prev := rfl
@[simp] theorem State.setPort_gen (s : State) (p : Nat) (r : PortSt) : (s.setPort p r).gen = s.gen := rfl
@[simp] theorem State.setPort_sched (s : State) (p : Nat) (r : PortSt) : (s.setPort p r).sched = s.sched := rfl
@[simp] theorem State.setPort_ym (s : State) (p : Nat) (r : PortSt) : (s.setPort p r).ym = s.ym := rfl
@[simp] theorem State.setPort_tim (s : State) (p : Nat) (r : PortSt) : (s.setPort p r).tim = s.tim := rfl
@[simp] theorem State.setPort_comp (s : State) (p : Nat) (r : PortSt) : (s.setPort p r).comp = s.comp := rfl
@[simp] theorem State.setPort_map (s : State) (p : Nat) (r : PortSt) : (s.setPort p r).map = s.map := rfl
@[simp] theorem State.setPort_lamp (s : State) (p : Nat) (r : PortSt) : (s.setPort p r).lamp = s.lamp := rfl
@[simp] theorem State.setPort_pdk (s : State) (p : Nat) (r : PortSt) : (s.setPort p r).pdk = s.pdk := rfl
@[simp] theorem State.setPort_flw (s : State) (p : Nat) (r : PortSt) : (s.setPort p r).flw = s.flw := rfl
@[simp] theorem State.setPort_line (s : State) (p : Nat) (r : PortSt) : (s.setPort p r).line = s.line := rfl
@[simp] theorem State.setPort_rst (s : State) (p : Nat) (r : PortSt) : (s.setPort p r).rst = s.rst := rfl
@[simp] theorem State.setPort_pair (s : State) (p : Nat) (r : PortSt) : (s.setPort p r).pair = s.pair := rfl
@[simp] theorem State.setPort_feeds (s : State) (p : Nat) (r : PortSt) : (s.setPort p r).feeds = s.feeds := rfl
@[simp] theorem State.setPort_brd (s : State) (p : Nat) (r : PortSt) : (s.setPort p r).brd = s.brd := rfl
@[simp] theorem State.setPort_far (s : State) (p : Nat) (r : PortSt) : (s.setPort p r).far = s.far := rfl
@[simp] theorem State.setPort_sec (s : State) (p : Nat) (r : PortSt) : (s.setPort p r).sec = s.sec := rfl
@[simp] theorem State.setPort_out (s : State) (p : Nat) (r : PortSt) : (s.setPort p r).out = s.out := rfl
@[simp] theorem State.setPort_freeCtr (s : State) (p : Nat) (r : PortSt) : (s.setPort p r).freeCtr = s.freeCtr := rfl
@[simp] theorem State.setPort_pending (s : State) (p : Nat) (r : PortSt) : (s.setPort p r).pending = s.pending := rfl
@[simp] theorem State.setLp_variant (s : State) (n : Nat) (r : LineSt) : (s.setLp n r).variant = s.variant := rfl
@[simp] theorem State.setLp_glb (s : State) (n : Nat) (r : LineSt) : (s.setLp n r).glb = s.glb := rfl
@[simp] theorem State.setLp_mbx (s : State) (n : Nat) (r : LineSt) : (s.setLp n r).mbx = s.mbx := rfl
@[simp] theorem State.setLp_log (s : State) (n : Nat) (r : LineSt) : (s.setLp n r).log = s.log := rfl
@[simp] theorem State.setLp_evc (s : State) (n : Nat) (r : LineSt) : (s.setLp n r).evc = s.evc := rfl
@[simp] theorem State.setLp_causes (s : State) (n : Nat) (r : LineSt) : (s.setLp n r).causes = s.causes := rfl
@[simp] theorem State.setLp_cnt (s : State) (n : Nat) (r : LineSt) : (s.setLp n r).cnt = s.cnt := rfl
@[simp] theorem State.setLp_cap (s : State) (n : Nat) (r : LineSt) : (s.setLp n r).cap = s.cap := rfl
@[simp] theorem State.setLp_cfg (s : State) (n : Nat) (r : LineSt) : (s.setLp n r).cfg = s.cfg := rfl
@[simp] theorem State.setLp_prev (s : State) (n : Nat) (r : LineSt) : (s.setLp n r).prev = s.prev := rfl
@[simp] theorem State.setLp_gen (s : State) (n : Nat) (r : LineSt) : (s.setLp n r).gen = s.gen := rfl
@[simp] theorem State.setLp_sched (s : State) (n : Nat) (r : LineSt) : (s.setLp n r).sched = s.sched := rfl
@[simp] theorem State.setLp_ym (s : State) (n : Nat) (r : LineSt) : (s.setLp n r).ym = s.ym := rfl
@[simp] theorem State.setLp_tim (s : State) (n : Nat) (r : LineSt) : (s.setLp n r).tim = s.tim := rfl
@[simp] theorem State.setLp_comp (s : State) (n : Nat) (r : LineSt) : (s.setLp n r).comp = s.comp := rfl
@[simp] theorem State.setLp_map (s : State) (n : Nat) (r : LineSt) : (s.setLp n r).map = s.map := rfl
@[simp] theorem State.setLp_lamp (s : State) (n : Nat) (r : LineSt) : (s.setLp n r).lamp = s.lamp := rfl
@[simp] theorem State.setLp_pdk (s : State) (n : Nat) (r : LineSt) : (s.setLp n r).pdk = s.pdk := rfl
@[simp] theorem State.setLp_flw (s : State) (n : Nat) (r : LineSt) : (s.setLp n r).flw = s.flw := rfl
@[simp] theorem State.setLp_eth (s : State) (n : Nat) (r : LineSt) : (s.setLp n r).eth = s.eth := rfl
@[simp] theorem State.setLp_rst (s : State) (n : Nat) (r : LineSt) : (s.setLp n r).rst = s.rst := rfl
@[simp] theorem State.setLp_pair (s : State) (n : Nat) (r : LineSt) : (s.setLp n r).pair = s.pair := rfl
@[simp] theorem State.setLp_feeds (s : State) (n : Nat) (r : LineSt) : (s.setLp n r).feeds = s.feeds := rfl
@[simp] theorem State.setLp_brd (s : State) (n : Nat) (r : LineSt) : (s.setLp n r).brd = s.brd := rfl
@[simp] theorem State.setLp_far (s : State) (n : Nat) (r : LineSt) : (s.setLp n r).far = s.far := rfl
@[simp] theorem State.setLp_sec (s : State) (n : Nat) (r : LineSt) : (s.setLp n r).sec = s.sec := rfl
@[simp] theorem State.setLp_out (s : State) (n : Nat) (r : LineSt) : (s.setLp n r).out = s.out := rfl
@[simp] theorem State.setLp_freeCtr (s : State) (n : Nat) (r : LineSt) : (s.setLp n r).freeCtr = s.freeCtr := rfl
@[simp] theorem State.setLp_pending (s : State) (n : Nat) (r : LineSt) : (s.setLp n r).pending = s.pending := rfl
@[simp] theorem State.setHead_variant (s : State) (h : Nat) (r : HeadSt) : (s.setHead h r).variant = s.variant := rfl
@[simp] theorem State.setHead_glb (s : State) (h : Nat) (r : HeadSt) : (s.setHead h r).glb = s.glb := rfl
@[simp] theorem State.setHead_mbx (s : State) (h : Nat) (r : HeadSt) : (s.setHead h r).mbx = s.mbx := rfl
@[simp] theorem State.setHead_log (s : State) (h : Nat) (r : HeadSt) : (s.setHead h r).log = s.log := rfl
@[simp] theorem State.setHead_evc (s : State) (h : Nat) (r : HeadSt) : (s.setHead h r).evc = s.evc := rfl
@[simp] theorem State.setHead_causes (s : State) (h : Nat) (r : HeadSt) : (s.setHead h r).causes = s.causes := rfl
@[simp] theorem State.setHead_cnt (s : State) (h : Nat) (r : HeadSt) : (s.setHead h r).cnt = s.cnt := rfl
@[simp] theorem State.setHead_cap (s : State) (h : Nat) (r : HeadSt) : (s.setHead h r).cap = s.cap := rfl
@[simp] theorem State.setHead_cfg (s : State) (h : Nat) (r : HeadSt) : (s.setHead h r).cfg = s.cfg := rfl
@[simp] theorem State.setHead_prev (s : State) (h : Nat) (r : HeadSt) : (s.setHead h r).prev = s.prev := rfl
@[simp] theorem State.setHead_gen (s : State) (h : Nat) (r : HeadSt) : (s.setHead h r).gen = s.gen := rfl
@[simp] theorem State.setHead_sched (s : State) (h : Nat) (r : HeadSt) : (s.setHead h r).sched = s.sched := rfl
@[simp] theorem State.setHead_ym (s : State) (h : Nat) (r : HeadSt) : (s.setHead h r).ym = s.ym := rfl
@[simp] theorem State.setHead_tim (s : State) (h : Nat) (r : HeadSt) : (s.setHead h r).tim = s.tim := rfl
@[simp] theorem State.setHead_comp (s : State) (h : Nat) (r : HeadSt) : (s.setHead h r).comp = s.comp := rfl
@[simp] theorem State.setHead_map (s : State) (h : Nat) (r : HeadSt) : (s.setHead h r).map = s.map := rfl
@[simp] theorem State.setHead_lamp (s : State) (h : Nat) (r : HeadSt) : (s.setHead h r).lamp = s.lamp := rfl
@[simp] theorem State.setHead_pdk (s : State) (h : Nat) (r : HeadSt) : (s.setHead h r).pdk = s.pdk := rfl
@[simp] theorem State.setHead_flw (s : State) (h : Nat) (r : HeadSt) : (s.setHead h r).flw = s.flw := rfl
@[simp] theorem State.setHead_eth (s : State) (h : Nat) (r : HeadSt) : (s.setHead h r).eth = s.eth := rfl
@[simp] theorem State.setHead_line (s : State) (h : Nat) (r : HeadSt) : (s.setHead h r).line = s.line := rfl
@[simp] theorem State.setHead_pair (s : State) (h : Nat) (r : HeadSt) : (s.setHead h r).pair = s.pair := rfl
@[simp] theorem State.setHead_feeds (s : State) (h : Nat) (r : HeadSt) : (s.setHead h r).feeds = s.feeds := rfl
@[simp] theorem State.setHead_brd (s : State) (h : Nat) (r : HeadSt) : (s.setHead h r).brd = s.brd := rfl
@[simp] theorem State.setHead_far (s : State) (h : Nat) (r : HeadSt) : (s.setHead h r).far = s.far := rfl
@[simp] theorem State.setHead_sec (s : State) (h : Nat) (r : HeadSt) : (s.setHead h r).sec = s.sec := rfl
@[simp] theorem State.setHead_out (s : State) (h : Nat) (r : HeadSt) : (s.setHead h r).out = s.out := rfl
@[simp] theorem State.setHead_freeCtr (s : State) (h : Nat) (r : HeadSt) : (s.setHead h r).freeCtr = s.freeCtr := rfl
@[simp] theorem State.setHead_pending (s : State) (h : Nat) (r : HeadSt) : (s.setHead h r).pending = s.pending := rfl
@[simp] theorem State.setUnit_variant (s : State) (u : Nat) (x : ChkUnit) : (s.setUnit u x).variant = s.variant := rfl
@[simp] theorem State.setUnit_glb (s : State) (u : Nat) (x : ChkUnit) : (s.setUnit u x).glb = s.glb := rfl
@[simp] theorem State.setUnit_mbx (s : State) (u : Nat) (x : ChkUnit) : (s.setUnit u x).mbx = s.mbx := rfl
@[simp] theorem State.setUnit_log (s : State) (u : Nat) (x : ChkUnit) : (s.setUnit u x).log = s.log := rfl
@[simp] theorem State.setUnit_evc (s : State) (u : Nat) (x : ChkUnit) : (s.setUnit u x).evc = s.evc := rfl
@[simp] theorem State.setUnit_causes (s : State) (u : Nat) (x : ChkUnit) : (s.setUnit u x).causes = s.causes := rfl
@[simp] theorem State.setUnit_cnt (s : State) (u : Nat) (x : ChkUnit) : (s.setUnit u x).cnt = s.cnt := rfl
@[simp] theorem State.setUnit_cap (s : State) (u : Nat) (x : ChkUnit) : (s.setUnit u x).cap = s.cap := rfl
@[simp] theorem State.setUnit_cfg (s : State) (u : Nat) (x : ChkUnit) : (s.setUnit u x).cfg = s.cfg := rfl
@[simp] theorem State.setUnit_prev (s : State) (u : Nat) (x : ChkUnit) : (s.setUnit u x).prev = s.prev := rfl
@[simp] theorem State.setUnit_gen (s : State) (u : Nat) (x : ChkUnit) : (s.setUnit u x).gen = s.gen := rfl
@[simp] theorem State.setUnit_sched (s : State) (u : Nat) (x : ChkUnit) : (s.setUnit u x).sched = s.sched := rfl
@[simp] theorem State.setUnit_ym (s : State) (u : Nat) (x : ChkUnit) : (s.setUnit u x).ym = s.ym := rfl
@[simp] theorem State.setUnit_tim (s : State) (u : Nat) (x : ChkUnit) : (s.setUnit u x).tim = s.tim := rfl
@[simp] theorem State.setUnit_comp (s : State) (u : Nat) (x : ChkUnit) : (s.setUnit u x).comp = s.comp := rfl
@[simp] theorem State.setUnit_map (s : State) (u : Nat) (x : ChkUnit) : (s.setUnit u x).map = s.map := rfl
@[simp] theorem State.setUnit_lamp (s : State) (u : Nat) (x : ChkUnit) : (s.setUnit u x).lamp = s.lamp := rfl
@[simp] theorem State.setUnit_pdk (s : State) (u : Nat) (x : ChkUnit) : (s.setUnit u x).pdk = s.pdk := rfl
@[simp] theorem State.setUnit_flw (s : State) (u : Nat) (x : ChkUnit) : (s.setUnit u x).flw = s.flw := rfl
@[simp] theorem State.setUnit_eth (s : State) (u : Nat) (x : ChkUnit) : (s.setUnit u x).eth = s.eth := rfl
@[simp] theorem State.setUnit_line (s : State) (u : Nat) (x : ChkUnit) : (s.setUnit u x).line = s.line := rfl
@[simp] theorem State.setUnit_rst (s : State) (u : Nat) (x : ChkUnit) : (s.setUnit u x).rst = s.rst := rfl
@[simp] theorem State.setUnit_pair (s : State) (u : Nat) (x : ChkUnit) : (s.setUnit u x).pair = s.pair := rfl
@[simp] theorem State.setUnit_feeds (s : State) (u : Nat) (x : ChkUnit) : (s.setUnit u x).feeds = s.feeds := rfl
@[simp] theorem State.setUnit_brd (s : State) (u : Nat) (x : ChkUnit) : (s.setUnit u x).brd = s.brd := rfl
@[simp] theorem State.setUnit_sec (s : State) (u : Nat) (x : ChkUnit) : (s.setUnit u x).sec = s.sec := rfl
@[simp] theorem State.setUnit_out (s : State) (u : Nat) (x : ChkUnit) : (s.setUnit u x).out = s.out := rfl
@[simp] theorem State.setUnit_freeCtr (s : State) (u : Nat) (x : ChkUnit) : (s.setUnit u x).freeCtr = s.freeCtr := rfl
@[simp] theorem State.setUnit_pending (s : State) (u : Nat) (x : ChkUnit) : (s.setUnit u x).pending = s.pending := rfl
@[simp] theorem State.setRot_variant (s : State) (r : Nat) (x : Rot) : (s.setRot r x).variant = s.variant := rfl
@[simp] theorem State.setRot_glb (s : State) (r : Nat) (x : Rot) : (s.setRot r x).glb = s.glb := rfl
@[simp] theorem State.setRot_mbx (s : State) (r : Nat) (x : Rot) : (s.setRot r x).mbx = s.mbx := rfl
@[simp] theorem State.setRot_log (s : State) (r : Nat) (x : Rot) : (s.setRot r x).log = s.log := rfl
@[simp] theorem State.setRot_evc (s : State) (r : Nat) (x : Rot) : (s.setRot r x).evc = s.evc := rfl
@[simp] theorem State.setRot_causes (s : State) (r : Nat) (x : Rot) : (s.setRot r x).causes = s.causes := rfl
@[simp] theorem State.setRot_cnt (s : State) (r : Nat) (x : Rot) : (s.setRot r x).cnt = s.cnt := rfl
@[simp] theorem State.setRot_cap (s : State) (r : Nat) (x : Rot) : (s.setRot r x).cap = s.cap := rfl
@[simp] theorem State.setRot_cfg (s : State) (r : Nat) (x : Rot) : (s.setRot r x).cfg = s.cfg := rfl
@[simp] theorem State.setRot_prev (s : State) (r : Nat) (x : Rot) : (s.setRot r x).prev = s.prev := rfl
@[simp] theorem State.setRot_gen (s : State) (r : Nat) (x : Rot) : (s.setRot r x).gen = s.gen := rfl
@[simp] theorem State.setRot_sched (s : State) (r : Nat) (x : Rot) : (s.setRot r x).sched = s.sched := rfl
@[simp] theorem State.setRot_ym (s : State) (r : Nat) (x : Rot) : (s.setRot r x).ym = s.ym := rfl
@[simp] theorem State.setRot_tim (s : State) (r : Nat) (x : Rot) : (s.setRot r x).tim = s.tim := rfl
@[simp] theorem State.setRot_comp (s : State) (r : Nat) (x : Rot) : (s.setRot r x).comp = s.comp := rfl
@[simp] theorem State.setRot_map (s : State) (r : Nat) (x : Rot) : (s.setRot r x).map = s.map := rfl
@[simp] theorem State.setRot_lamp (s : State) (r : Nat) (x : Rot) : (s.setRot r x).lamp = s.lamp := rfl
@[simp] theorem State.setRot_pdk (s : State) (r : Nat) (x : Rot) : (s.setRot r x).pdk = s.pdk := rfl
@[simp] theorem State.setRot_flw (s : State) (r : Nat) (x : Rot) : (s.setRot r x).flw = s.flw := rfl
@[simp] theorem State.setRot_eth (s : State) (r : Nat) (x : Rot) : (s.setRot r x).eth = s.eth := rfl
@[simp] theorem State.setRot_line (s : State) (r : Nat) (x : Rot) : (s.setRot r x).line = s.line := rfl
@[simp] theorem State.setRot_rst (s : State) (r : Nat) (x : Rot) : (s.setRot r x).rst = s.rst := rfl
@[simp] theorem State.setRot_pair (s : State) (r : Nat) (x : Rot) : (s.setRot r x).pair = s.pair := rfl
@[simp] theorem State.setRot_feeds (s : State) (r : Nat) (x : Rot) : (s.setRot r x).feeds = s.feeds := rfl
@[simp] theorem State.setRot_brd (s : State) (r : Nat) (x : Rot) : (s.setRot r x).brd = s.brd := rfl
@[simp] theorem State.setRot_sec (s : State) (r : Nat) (x : Rot) : (s.setRot r x).sec = s.sec := rfl
@[simp] theorem State.setRot_out (s : State) (r : Nat) (x : Rot) : (s.setRot r x).out = s.out := rfl
@[simp] theorem State.setRot_freeCtr (s : State) (r : Nat) (x : Rot) : (s.setRot r x).freeCtr = s.freeCtr := rfl
@[simp] theorem State.setRot_pending (s : State) (r : Nat) (x : Rot) : (s.setRot r x).pending = s.pending := rfl
@[simp] theorem State.setUpd_variant (s : State) (u : Upd) : (s.setUpd u).variant = s.variant := rfl
@[simp] theorem State.setUpd_glb (s : State) (u : Upd) : (s.setUpd u).glb = s.glb := rfl
@[simp] theorem State.setUpd_mbx (s : State) (u : Upd) : (s.setUpd u).mbx = s.mbx := rfl
@[simp] theorem State.setUpd_log (s : State) (u : Upd) : (s.setUpd u).log = s.log := rfl
@[simp] theorem State.setUpd_evc (s : State) (u : Upd) : (s.setUpd u).evc = s.evc := rfl
@[simp] theorem State.setUpd_causes (s : State) (u : Upd) : (s.setUpd u).causes = s.causes := rfl
@[simp] theorem State.setUpd_cnt (s : State) (u : Upd) : (s.setUpd u).cnt = s.cnt := rfl
@[simp] theorem State.setUpd_cap (s : State) (u : Upd) : (s.setUpd u).cap = s.cap := rfl
@[simp] theorem State.setUpd_cfg (s : State) (u : Upd) : (s.setUpd u).cfg = s.cfg := rfl
@[simp] theorem State.setUpd_prev (s : State) (u : Upd) : (s.setUpd u).prev = s.prev := rfl
@[simp] theorem State.setUpd_gen (s : State) (u : Upd) : (s.setUpd u).gen = s.gen := rfl
@[simp] theorem State.setUpd_sched (s : State) (u : Upd) : (s.setUpd u).sched = s.sched := rfl
@[simp] theorem State.setUpd_ym (s : State) (u : Upd) : (s.setUpd u).ym = s.ym := rfl
@[simp] theorem State.setUpd_tim (s : State) (u : Upd) : (s.setUpd u).tim = s.tim := rfl
@[simp] theorem State.setUpd_comp (s : State) (u : Upd) : (s.setUpd u).comp = s.comp := rfl
@[simp] theorem State.setUpd_map (s : State) (u : Upd) : (s.setUpd u).map = s.map := rfl
@[simp] theorem State.setUpd_lamp (s : State) (u : Upd) : (s.setUpd u).lamp = s.lamp := rfl
@[simp] theorem State.setUpd_pdk (s : State) (u : Upd) : (s.setUpd u).pdk = s.pdk := rfl
@[simp] theorem State.setUpd_flw (s : State) (u : Upd) : (s.setUpd u).flw = s.flw := rfl
@[simp] theorem State.setUpd_eth (s : State) (u : Upd) : (s.setUpd u).eth = s.eth := rfl
@[simp] theorem State.setUpd_line (s : State) (u : Upd) : (s.setUpd u).line = s.line := rfl
@[simp] theorem State.setUpd_rst (s : State) (u : Upd) : (s.setUpd u).rst = s.rst := rfl
@[simp] theorem State.setUpd_pair (s : State) (u : Upd) : (s.setUpd u).pair = s.pair := rfl
@[simp] theorem State.setUpd_feeds (s : State) (u : Upd) : (s.setUpd u).feeds = s.feeds := rfl
@[simp] theorem State.setUpd_brd (s : State) (u : Upd) : (s.setUpd u).brd = s.brd := rfl
@[simp] theorem State.setUpd_far (s : State) (u : Upd) : (s.setUpd u).far = s.far := rfl
@[simp] theorem State.setUpd_out (s : State) (u : Upd) : (s.setUpd u).out = s.out := rfl
@[simp] theorem State.setUpd_freeCtr (s : State) (u : Upd) : (s.setUpd u).freeCtr = s.freeCtr := rfl
@[simp] theorem State.setUpd_pending (s : State) (u : Upd) : (s.setUpd u).pending = s.pending := rfl
@[simp] theorem State.setSettings_variant (s : State) (x : Settings) : (s.setSettings x).variant = s.variant := rfl
@[simp] theorem State.setSettings_glb (s : State) (x : Settings) : (s.setSettings x).glb = s.glb := rfl
@[simp] theorem State.setSettings_mbx (s : State) (x : Settings) : (s.setSettings x).mbx = s.mbx := rfl
@[simp] theorem State.setSettings_log (s : State) (x : Settings) : (s.setSettings x).log = s.log := rfl
@[simp] theorem State.setSettings_evc (s : State) (x : Settings) : (s.setSettings x).evc = s.evc := rfl
@[simp] theorem State.setSettings_causes (s : State) (x : Settings) : (s.setSettings x).causes = s.causes := rfl
@[simp] theorem State.setSettings_cnt (s : State) (x : Settings) : (s.setSettings x).cnt = s.cnt := rfl
@[simp] theorem State.setSettings_cap (s : State) (x : Settings) : (s.setSettings x).cap = s.cap := rfl
@[simp] theorem State.setSettings_cfg (s : State) (x : Settings) : (s.setSettings x).cfg = s.cfg := rfl
@[simp] theorem State.setSettings_prev (s : State) (x : Settings) : (s.setSettings x).prev = s.prev := rfl
@[simp] theorem State.setSettings_gen (s : State) (x : Settings) : (s.setSettings x).gen = s.gen := rfl
@[simp] theorem State.setSettings_sched (s : State) (x : Settings) : (s.setSettings x).sched = s.sched := rfl
@[simp] theorem State.setSettings_ym (s : State) (x : Settings) : (s.setSettings x).ym = s.ym := rfl
@[simp] theorem State.setSettings_tim (s : State) (x : Settings) : (s.setSettings x).tim = s.tim := rfl
@[simp] theorem State.setSettings_comp (s : State) (x : Settings) : (s.setSettings x).comp = s.comp := rfl
@[simp] theorem State.setSettings_map (s : State) (x : Settings) : (s.setSettings x).map = s.map := rfl
@[simp] theorem State.setSettings_lamp (s : State) (x : Settings) : (s.setSettings x).lamp = s.lamp := rfl
@[simp] theorem State.setSettings_pdk (s : State) (x : Settings) : (s.setSettings x).pdk = s.pdk := rfl
@[simp] theorem State.setSettings_flw (s : State) (x : Settings) : (s.setSettings x).flw = s.flw := rfl
@[simp] theorem State.setSettings_eth (s : State) (x : Settings) : (s.setSettings x).eth = s.eth := rfl
@[simp] theorem State.setSettings_line (s : State) (x : Settings) : (s.setSettings x).line = s.line := rfl
@[simp] theorem State.setSettings_rst (s : State) (x : Settings) : (s.setSettings x).rst = s.rst := rfl
@[simp] theorem State.setSettings_pair (s : State) (x : Settings) : (s.setSettings x).pair = s.pair := rfl
@[simp] theorem State.setSettings_feeds (s : State) (x : Settings) : (s.setSettings x).feeds = s.feeds := rfl
@[simp] theorem State.setSettings_brd (s : State) (x : Settings) : (s.setSettings x).brd = s.brd := rfl
@[simp] theorem State.setSettings_far (s : State) (x : Settings) : (s.setSettings x).far = s.far := rfl
@[simp] theorem State.setSettings_out (s : State) (x : Settings) : (s.setSettings x).out = s.out := rfl
@[simp] theorem State.setSettings_freeCtr (s : State) (x : Settings) : (s.setSettings x).freeCtr = s.freeCtr := rfl
@[simp] theorem State.setSettings_pending (s : State) (x : Settings) : (s.setSettings x).pending = s.pending := rfl
@[simp] theorem State.touchLock_variant (s : State) : (s.touchLock).variant = s.variant := rfl
@[simp] theorem State.touchLock_glb (s : State) : (s.touchLock).glb = s.glb := rfl
@[simp] theorem State.touchLock_mbx (s : State) : (s.touchLock).mbx = s.mbx := rfl
@[simp] theorem State.touchLock_log (s : State) : (s.touchLock).log = s.log := rfl
@[simp] theorem State.touchLock_evc (s : State) : (s.touchLock).evc = s.evc := rfl
@[simp] theorem State.touchLock_causes (s : State) : (s.touchLock).causes = s.causes := rfl
@[simp] theorem State.touchLock_cnt (s : State) : (s.touchLock).cnt = s.cnt := rfl
@[simp] theorem State.touchLock_cap (s : State) : (s.touchLock).cap = s.cap := rfl
@[simp] theorem State.touchLock_cfg (s : State) : (s.touchLock).cfg = s.cfg := rfl
@[simp] theorem State.touchLock_prev (s : State) : (s.touchLock).prev = s.prev := rfl
@[simp] theorem State.touchLock_gen (s : State) : (s.touchLock).gen = s.gen := rfl
@[simp] theorem State.touchLock_sched (s : State) : (s.touchLock).sched = s.sched := rfl
@[simp] theorem State.touchLock_ym (s : State) : (s.touchLock).ym = s.ym := rfl
@[simp] theorem State.touchLock_tim (s : State) : (s.touchLock).tim = s.tim := rfl
@[simp] theorem State.touchLock_comp (s : State) : (s.touchLock).comp = s.comp := rfl
@[simp] theorem State.touchLock_map (s : State) : (s.touchLock).map = s.map := rfl
@[simp] theorem State.touchLock_lamp (s : State) : (s.touchLock).lamp = s.lamp := rfl
@[simp] theorem State.touchLock_pdk (s : State) : (s.touchLock).pdk = s.pdk := rfl
@[simp] theorem State.touchLock_flw (s : State) : (s.touchLock).flw = s.flw := rfl
@[simp] theorem State.touchLock_eth (s : State) : (s.touchLock).eth = s.eth := rfl
@[simp] theorem State.touchLock_line (s : State) : (s.touchLock).line = s.line := rfl
@[simp] theorem State.touchLock_rst (s : State) : (s.touchLock).rst = s.rst := rfl
@[simp] theorem State.touchLock_pair (s : State) : (s.touchLock).pair = s.pair := rfl
@[simp] theorem State.touchLock_feeds (s : State) : (s.touchLock).feeds = s.feeds := rfl
@[simp] theorem State.touchLock_brd (s : State) : (s.touchLock).brd = s.brd := rfl
@[simp] theorem State.touchLock_far (s : State) : (s.touchLock).far = s.far := rfl
@[simp] theorem State.touchLock_out (s : State) : (s.touchLock).out = s.out := rfl
@[simp] theorem State.touchLock_freeCtr (s : State) : (s.touchLock).freeCtr = s.freeCtr := rfl
@[simp] theorem State.touchLock_pending (s : State) : (s.touchLock).pending = s.pending := rfl

-- What is put in place is read back, and nothing else of its table changes.
@[simp] theorem State.bumpBy_count (s : State) (c : Ctr) (n : Nat) :
    (s.bumpBy c n).count c = (s.count c + n) % 2 ^ c.width := by simp [State.bumpBy, State.count]
@[simp] theorem State.bump_count (s : State) (c : Ctr) : (s.bump c).count c = (s.count c + 1) % 2 ^ c.width :=
  State.bumpBy_count s c 1
theorem State.bumpBy_count_ne (s : State) (c d : Ctr) (n : Nat) (h : d.key ≠ c.key) :
    (s.bumpBy c n).count d = s.count d := by simp [State.bumpBy, State.count, tget_tset_ne _ _ _ _ _ h]
theorem State.bump_count_ne (s : State) (c d : Ctr) (h : d.key ≠ c.key) : (s.bump c).count d = s.count d :=
  State.bumpBy_count_ne s c d 1 h
@[simp] theorem State.emit_out (s : State) (o : Out) : (s.emit o).out = o :: s.out := rfl
@[simp] theorem State.emit_count (s : State) (o : Out) (c : Ctr) : (s.emit o).count c = s.count c := rfl
@[simp] theorem State.takeFree_freeCtr (s : State) : s.takeFree.freeCtr = s.freeCtr + 1 := rfl
@[simp] theorem State.returns_readOf (s : State) (p : Path) (v : Word) : (s.returns p v).readOf p = some v := by
  simp [State.returns, State.readOf]
@[simp] theorem State.setSession_same (s : State) (i : Nat) (x : Session) : (s.setSession i x).session? i = some x := by
  simp [State.setSession, State.session?, tfind_tset_self]
theorem State.setSession_ne (s : State) (i j : Nat) (x : Session) (h : j ≠ i) :
    (s.setSession i x).session? j = s.session? j := by
  simp [State.setSession, State.session?, tfind_tset_ne _ _ _ _ h]

@[simp] theorem State.setPort_same (s : State) (p : Nat) (x : PortSt) : (s.setPort p x).port p = x := by
  simp [State.setPort, State.port]
theorem State.setPort_ne (s : State) (p j : Nat) (x : PortSt) (h : j ≠ p) : (s.setPort p x).port j = s.port j := by
  simp [State.setPort, State.port, tget_tset_ne _ _ _ _ _ h]
@[simp] theorem State.setLp_same (s : State) (n : Nat) (x : LineSt) : (s.setLp n x).lp n = x := by
  simp [State.setLp, State.lp]
theorem State.setLp_ne (s : State) (n j : Nat) (x : LineSt) (h : j ≠ n) : (s.setLp n x).lp j = s.lp j := by
  simp [State.setLp, State.lp, tget_tset_ne _ _ _ _ _ h]
@[simp] theorem State.setHead_same (s : State) (n : Nat) (x : HeadSt) : (s.setHead n x).head n = x := by
  simp [State.setHead, State.head]
theorem State.setHead_ne (s : State) (n j : Nat) (x : HeadSt) (h : j ≠ n) : (s.setHead n x).head j = s.head j := by
  simp [State.setHead, State.head, tget_tset_ne _ _ _ _ _ h]
@[simp] theorem State.setUnit_same (s : State) (u : Nat) (x : ChkUnit) : (s.setUnit u x).unit u = x := by
  simp [State.setUnit, State.unit]
theorem State.setUnit_ne (s : State) (u j : Nat) (x : ChkUnit) (h : j ≠ u) : (s.setUnit u x).unit j = s.unit j := by
  simp [State.setUnit, State.unit, tget_tset_ne _ _ _ _ _ h]
@[simp] theorem State.setRot_same (s : State) (r : Nat) (x : Rot) : (s.setRot r x).rot r = x := by
  simp [State.setRot, State.rot]
theorem State.setRot_ne (s : State) (r j : Nat) (x : Rot) (h : j ≠ r) : (s.setRot r x).rot j = s.rot j := by
  simp [State.setRot, State.rot, tget_tset_ne _ _ _ _ _ h]
@[simp] theorem State.setStall_same (s : State) (k : Nat) (x : StallRec) : (s.setStall k x).stall k = x := by
  simp [State.setStall, State.stall]
theorem State.setStall_ne (s : State) (k j : Nat) (x : StallRec) (h : j ≠ k) : (s.setStall k x).stall j = s.stall j := by
  simp [State.setStall, State.stall, tget_tset_ne _ _ _ _ _ h]

end Sys2Proof.Machine
end

