-- ==== Sys2Proof/Laws/Ops.lean ====
section
/-! SUPPORT. Laws/Ops.lean: what the shared operations outside the mailboxes do, once each: raising and clearing causes,
the event log, access errors, the memory code's reports, the end of a waiting command. -/
namespace Sys2Proof.Machine
open Sys2Proof

/-! ## Causes -/

/-- Clearing causes touches the cause registers and the event controller alone. -/
theorem relevel_frame (s : State) (r : CauseReg) : s.relevel r = { s with evc := (s.relevel r).evc } := by
  unfold State.relevel
  suffices H : ∀ (l : List Nat) (u : State), u = { s with evc := u.evc } →
      l.foldl (fun s b => match srcOf r b with
        | some n => if (s.evc.srcAt n).level && !(causeLevel s r b) then { s with evc := s.evc.level n false } else s
        | none => s) u = { s with evc := (l.foldl (fun s b => match srcOf r b with
        | some n => if (s.evc.srcAt n).level && !(causeLevel s r b) then { s with evc := s.evc.level n false } else s
        | none => s) u).evc } from H _ s rfl
  intro l
  induction l with
  | nil => intro u hu; exact hu
  | cons b l ih =>
    intro u hu
    simp only [List.foldl_cons]
    apply ih
    split
    · split
      · rw [hu]
      · exact hu
    · exact hu

/-- Clearing the bits of a mask: the register loses them, the other registers stay. -/
theorem clearCause_frame (s : State) (r : CauseReg) (m : Word) : s.clearCause r m
    = { s with causes := tset s.causes (causeKey r) (s.cause r &&& ~~~m), evc := (s.clearCause r m).evc } := by
  unfold State.clearCause
  rw [relevel_frame]

theorem clearCause_cause (s : State) (r : CauseReg) (m : Word) : (s.clearCause r m).cause r = s.cause r &&& ~~~m := by
  rw [clearCause_frame]; simp [State.cause]

theorem clearCause_cause_ne (s : State) (r q : CauseReg) (m : Word) (h : causeKey q ≠ causeKey r) :
    (s.clearCause r m).cause q = s.cause q := by
  rw [clearCause_frame]; simp [State.cause, tget_tset_ne _ _ _ _ _ h]

@[simp] theorem raiseCause_count (s : State) (r : CauseReg) (b : Nat) (c : Ctr) :
    (s.raiseCause r b).count c = s.count c := by rw [raiseCause_frame]; rfl

/-- A raised bit reads 1. -/
theorem raiseCause_bit (s : State) (r : CauseReg) (b : Nat) (h : b < 32) :
    bitOf ((s.raiseCause r b).cause r) b = true := by
  rw [cause_raiseCause_self]
  unfold bitOf bitMask
  rw [BitVec.getLsbD_or, BitVec.getLsbD_ofNat, Nat.testBit_two_pow_self, decide_eq_true h]
  simp

/-- A bit that was 1 stays 1 when another is raised. -/
theorem raiseCause_keeps (s : State) (r q : CauseReg) (b n : Nat) (h : bitOf (s.cause q) n = true) :
    bitOf ((s.raiseCause r b).cause q) n = true := by
  by_cases hk : causeKey q = causeKey r
  · simp only [State.cause, raiseCause_causes, hk, tget_tset_self] at *
    simp only [bitOf, BitVec.getLsbD_or, Bool.or_eq_true] at *
    exact .inl h
  · rw [cause_raiseCause_ne s r q b hk]; exact h

/-! ## The event log -/

/-- A log entry touches the log, and from ERROR on the cause registers and the event controller. -/
theorem logEvent_frame (s : State) (sev source : Nat) (code : Half) (d : Nat) : s.logEvent sev source code d
    = { s with log := (s.logEvent sev source code d).log, causes := (s.logEvent sev source code d).causes
               evc := (s.logEvent sev source code d).evc } := by
  unfold State.logEvent
  dsimp only
  split
  · rw [raiseCause_frame]
  · rfl

/-- Below ERROR it touches the log alone. -/
theorem logEvent_low (s : State) (sev source : Nat) (code : Half) (d : Nat) (h : sev < 4) :
    s.logEvent sev source code d = { s with log := (s.logEvent sev source code d).log } := by
  unfold State.logEvent
  dsimp only
  rw [if_neg (by omega)]

/-- The newest entry of the SRAM log is the one just written. -/
theorem logEvent_last (s : State) (sev source : Nat) (code : Half) (d : Nat) :
    (s.logEvent sev source code d).log.sram.getLast? = some
      { seq := s.log.next, dtSec := BitVec.ofNat 32 (s.elt / 1000000000), dtNs := BitVec.ofNat 32 (s.elt % 1000000000)
        sev := BitVec.ofNat 8 sev, source := BitVec.ofNat 8 source, code := code, detail := BitVec.ofNat 128 d } := by
  have key : ∀ (n : Nat) (l : List LogEntry) (e : LogEntry), 0 < n →
      ((l ++ [e]).drop ((l ++ [e]).length - n)).getLast? = some e := by
    intro n l e hn
    rw [List.getLast?_drop, if_neg (by simp; omega)]
    simp
  unfold State.logEvent
  dsimp only
  generalize hn : 4096 = n
  have hp : 0 < n := by omega
  split
  · rw [raiseCause_frame]; exact key n _ _ hp
  · exact key n _ _ hp

@[simp] theorem logEvent_next (s : State) (sev source : Nat) (code : Half) (d : Nat) :
    (s.logEvent sev source code d).log.next = s.log.next + 1 := by
  unfold State.logEvent
  dsimp only
  split
  · rw [raiseCause_frame]
  · rfl

@[simp] theorem logEvent_count (s : State) (sev source : Nat) (code : Half) (d : Nat) (c : Ctr) :
    (s.logEvent sev source code d).count c = s.count c := by rw [logEvent_frame]; rfl

/-! ## Access errors and the memory code -/

/-- An access error touches GLB_ACCESS_ERR and the event controller. -/
theorem accessError_frame (s : State) (p : Path) (c : BitVec 4) (a : Nat) : s.accessError p c a
    = { s with glb := { s.glb with acc := (s.accessError p c a).glb.acc }, evc := s.evc.occur 0 } := rfl

/-- An uncorrectable word touches one counter, INT_ERR_LAST and INT_ERR_ADDR, the causes and the log. -/
theorem eccFail_frame (s : State) (h : Hit) : s.eccFail h
    = { s with cnt := (s.eccFail h).cnt, far := { s.far with errLast := (s.eccFail h).far.errLast
                                                             errAddr := (s.eccFail h).far.errAddr }
               causes := (s.eccFail h).causes, evc := (s.eccFail h).evc, log := (s.eccFail h).log } := by
  have key : ∀ u : State, ∃ L C E, (u.raiseCause .far 2).logEvent 4 210 0 (h.addr + h.region * 4294967296)
      = { u with log := L, causes := C, evc := E } := by
    intro u
    obtain ⟨C, E, h1⟩ : ∃ C E, u.raiseCause .far 2 = { u with causes := C, evc := E } := ⟨_, _, raiseCause_frame u _ _⟩
    rw [h1]
    exact ⟨_, _, _, logEvent_frame _ _ _ _ _⟩
  obtain ⟨L, C, E, hk⟩ := key ((s.bump (.intErr (if h.isAddr then 2 else 1))).noteErr (if h.isAddr then 1 else 2) h.region h.addr)
  have he : s.eccFail h = _ := hk
  rw [he]
  rfl

/-! ## Waiting commands -/

/-- A command that waits in mailbox m ends with its answer. -/
theorem endWait_answers (s u : State) (m : Nat) (op : Half) (r : Reply) (hl : Live m s) (hw : s.waits m op = true)
    (hb : u.box m = s.box m) : Answers m r.status r.data s u (endWait m op u r) := by
  have h : (s.box m).st = .executing ∧ (s.box m).req.opcode = op ∧ (s.box m).waiting = true := by
    simpa [State.waits, and_assoc] using hw
  have : endWait m op u r = u.finish m r := by
    unfold endWait; simp only [hb, h, and_self, if_true]
  rw [this]; exact finish_answers s u m r hl.1 hb hl.2

/-- An answer is a response. -/
theorem Answers.responded {m : Nat} {st : Status} {d : List Byte} {s u t : State} (h : Answers m st d s u t) :
    Responded m st d s t := ⟨h.1, h.2.1, h.2.2.1, h.2.2.2.1⟩

end Sys2Proof.Machine
end

