-- ==== Sys2Proof/Laws/Tack.lean ====
section
/-! SUPPORT. Laws/Tack.lean: what a Tack row does, once: where its Stall is at its word, what f gives is applied; a
false guard only retires; a word of another row or a Stall that cannot run leaves the state alone. -/
namespace Sys2Proof.Machine
open Sys2Proof

/-- A row at its word with its guard true is what its result leaves. -/
theorem tack_applies (k op : Nat) (i : Inst) (w : Word) (s : State) (f : Inst → Core → Word → State → TRes)
    (h : AtWord k i w op s) (hg : guardOn (s.stall k).core w = true) :
    tack k op s f = applyRes k i s (f i (s.stall k).core w s) := by
  obtain ⟨hk, hr, hl, hh, hf, ho⟩ := h
  unfold tack
  simp only [hr, hk, hl, hh, hf, ho, hg, true_and, not_false_eq_true, if_true, ne_eq, not_true_eq_false, if_false]

/-- A row at its word with its guard false goes to the next word in one cycle. -/
theorem tack_guarded (k op : Nat) (i : Inst) (w : Word) (s : State) (f : Inst → Core → Word → State → TRes)
    (h : AtWord k i w op s) (hg : guardOn (s.stall k).core w = false) :
    tack k op s f = retire k (s.stall k).core.adv 1 s := by
  obtain ⟨hk, hr, hl, hh, hf, ho⟩ := h
  unfold tack
  simp only [hr, hk, hl, hh, hf, ho, hg, true_and, not_false_eq_true, if_true, ne_eq, not_true_eq_false, if_false,
    Bool.false_eq_true]

/-- A Stall that runs nothing executes nothing. -/
theorem tack_idle (k op : Nat) (s : State) (f : Inst → Core → Word → State → TRes) (h : s.running? k = none) :
    tack k op s f = s := by unfold tack; simp only [h]

/-- Retiring an instruction: the context, its cost, the counts, and nothing else. -/
theorem retire_retires (k : Nat) (c : Core) (cost : Nat) (s : State) : Retires k c cost s (retire k c cost s) := by
  refine ⟨?_, ?_, ?_, ?_, rfl⟩
  · simp [retire, State.bump, State.bumpBy, State.stall, State.setStall]
  · intro j hj
    simp [retire, State.bump, State.bumpBy, State.stall, State.setStall, tget_tset_ne _ _ _ _ _ hj]
  · simp [retire, Ctr.width]
    rfl
  · intro x hx
    rw [retire, State.bump_count_ne _ _ _ hx]
    rfl

/-- Retiring keeps the queue and the identity. -/
theorem retire_commit (k : Nat) (c : Core) (cost : Nat) (s : State) :
    commit s (retire k c cost s) = .next (retire k c cost s) := rfl

/-- A row that writes one scalar register does exactly that. -/
theorem tackS_row (ins : Instr) (k op cost : Nat) (i : Inst) (w : Word) (s : State) (f : Core → Word → Word)
    (he : ∀ s, exec ins s = commit s (tackS k op cost s f)) :
    ScalarRow ins op cost k i w (f (s.stall k).core w) s := by
  intro h hg
  refine ⟨_, ?_, retire_retires k _ cost s⟩
  rw [he, tackS, tack_applies k op i w s _ h hg]
  exact retire_commit _ _ _ _

end Sys2Proof.Machine
end

