-- ==== Sys2Proof/Tests/Slice0.lean ====
section
/-! SUPPORT. Tests/Slice0.lean: states that meet the hypotheses of the statements (one theorem a statement, wit_<name>),
ill-formed commands that the check refuses, and small tests whose expected values the spec gives. -/
namespace Sys2Proof.Tests
open Sys2Proof Sys2Proof.Machine

set_option exponentiation.threshold 1024
set_option maxRecDepth 16000

/-- Reset with the references present and the root PLL locked. -/
def up0 : State :=
  { State.reset with glb := { State.reset.glb with
      clk := { rootLock := true, serRef0 := true, serRef1 := true, pcieRef := true, aonRc := false } } }

/-- Reset with one commit scheduled. -/
def withSched (c : Cfg) : State := { State.reset with sched := [{ frame := 5, gen := 1, cfg := c }] }

/-- Reset with an access error recorded and COUNT at its end. -/
def errd : State := { State.reset with glb := { State.reset.glb with acc := { valid := true, count := 255 } } }

/-- An open session over PCIe with the OPERATOR and ENGINEER classes. -/
def ses1 : Session := { transport := .pcie, requested := 0x06#8, granted := 0x06#8 }

/-- A transaction of it, opened at generation 0. -/
def txn1 : Txn := { id := 1, base := 0, cfg := {} }

/-- A full-package production device in which mailbox m executes a command of session 1. -/
def runs (m : Nat) (op : Half) : State :=
  { State.reset with mbx := { State.reset.mbx with
      boxes := [(m, { st := .executing, owner := 1, req := { opcode := op, session := 1, tag := 9, priv := 2 } })]
      sessions := [(1, ses1)] } }

/-- The same with a transaction open, mailbox 0 executing. -/
def txnRuns (op : Half) : State := (runs 0 op).setSession 1 { ses1 with txn := some txn1 }

/-- The transaction with bytes in its staging object 1. -/
def heldTxn (bs : List Byte) : Txn := { txn1 with objs := [(1, ({} : StageObj).put 0 bs)] }

/-- A command in mailbox 0 whose session's transaction holds these bytes. -/
def heldRuns (op : Half) (bs : List Byte) : State := (runs 0 op).setSession 1 { ses1 with txn := some (heldTxn bs) }

/-- What is put into an empty staging object is the whole of it. -/
theorem whole_put (bs : List Byte) : (({} : StageObj).put 0 bs).whole = some bs := by
  simp only [StageObj.put, addRange, StageObj.whole, Nat.zero_add]
  cases bs with
  | nil => rfl
  | cons b bs =>
    simp only [List.length_cons, Nat.zero_lt_succ, if_true]
    exact congrArg some (mread_mwrite [] 0 (b :: bs))

theorem heldRuns_bulk (op : Half) (bs : List Byte) : (heldRuns op bs).bulk 0 1 = some bs := by
  show (tfind? (heldTxn bs).objs 1).bind StageObj.whole = some bs
  simpa [heldTxn, tfind?] using whole_put bs

theorem heldRuns_bulkAs {α : Type} (op : Half) (bs : List Byte) (rd : List Byte → Except Status α) :
    (heldRuns op bs).bulkAs 0 1 rd = rd bs := by
  simp only [State.bulkAs, heldRuns_bulk]

/-- The first 48 bytes of an image of one strings section: 192 bytes, its directory at 128. -/
def imgA : List Byte :=
  le 4 0x49505848 ++ le 2 3 ++ le 2 0 ++ le 2 128 ++ le 2 1 ++ le 4 128 ++ le 8 192 ++ le 4 0 ++ le 4 0 ++ le 16 0

/-- What follows IMAGE_HASH. -/
def imgB : List Byte :=
  List.replicate 32 0 ++ le 2 12 ++ le 2 1 ++ le 4 0 ++ le 8 192 ++ le 8 0 ++ le 4 0 ++ le 4 (crc32c []).toNat
    ++ List.replicate 32 0

/-- The image, with its hash. -/
def imgBytes : List Byte := imgA ++ (be 48 (Config.sha384 (imgA ++ List.replicate 48 0 ++ imgB)).toNat ++ imgB)

/-- CFG_LOAD_IMAGE of it, whose bytes descriptors have moved. -/
def imgRuns : State :=
  let s := txnRuns 0x0104#16
  s.setBox 0 { s.box 0 with dma := some { consumed := 1, ended := true, bytes := 192, obj := ({} : StageObj).put 0 imgBytes } }

/-- The SHADOW of a formed pair, its mirror session's transaction open. -/
def pairRuns (op : Half) : State :=
  let s := (txnRuns op).setSession 1 { ses1 with transport := .peer, txn := some txn1 }
  { s with pair := { s.pair with st := .inSync, role := .shadow } }

/-- A state at an extended local time. -/
def atNs (n : Nat) (s : State) : State :=
  { s with tim := { s.tim with lt := BitVec.ofNat 32 n, wrap := BitVec.ofNat 32 (n / 4294967296) } }

/-- Two pending requests: a QUERY_TELEMETRY in mailbox 2 rung first, a SESSION_PING in mailbox 3. -/
def twoPending : State :=
  { State.reset with mbx := { State.reset.mbx with
      boxes := [(2, { st := .pending, order := 0, req := { hdrVer := 1, opcode := 0x0204#16, session := 1, priv := 1 } }),
                (3, { st := .pending, order := 1, req := { hdrVer := 1, opcode := 0x0004#16, session := 1, tag := 5 } })]
      sessions := [(1, ses1)] } }

def repeated : State :=
  twoPending.setBox 3 { st := .pending, order := 1, lastTag := some 5, req := { hdrVer := 1, opcode := 0x0004#16, tag := 5 } }

def badReq : State :=
  twoPending.setBox 3 { st := .pending, order := 1, req := { hdrVer := 2, opcode := 0x0004#16, tag := 5 } }

def shedding : State :=
  { State.reset with mbx := { State.reset.mbx with
      shedding := true
      boxes := [(2, { st := .pending, req := { hdrVer := 1, opcode := 0x0204#16, session := 1, priv := 1 } })] } }

def assoc12 : State :=
  { up0 with mbx := { up0.mbx with assoc := [(12, { opened := true, peer := 7 })] } }

/-- A request of one fragment for mailbox 12, sent by the connection that has its association. -/
def one12 : MgmtMsg := { peer := 7, bytes := [12, 1, 0, 1, 0, 0, 0, 7, 1, 2, 3, 4] }

def part12 : State :=
  atNs 50000000 { assoc12 with mbx := { assoc12.mbx with
    part := [(partKey 12 7#32, { tag := 7, count := 2, firstNs := 0 })] } }

def late12 : State := atNs 300000000000 assoc12

def moving0 : State :=
  (runs 0 0x0104#16).setBox 0 { st := .executing, dma := some {}, req := { opcode := 0x0104#16, descCount := 2 } }

/-- 32 sessions open. -/
def full32 : State :=
  { runs 0 0x0001#16 with mbx := { (runs 0 0x0001#16).mbx with
      sessions := (List.range 32).map (fun i => (i + 1, ses1)) } }

/-- A session that may authenticate for ENGINEER with credential 7. -/
def auth1 : State :=
  let s := (runs 0 0x0002#16).setSession 1 { transport := .pcie, requested := 0x06#8, cred := 7 }
  { s with sec := { s.sec with settings := [(0, { creds := [{ id := 7, mask := 0x04#8 }] })] } }

/-- Source 8 at level 1, enabled for the host at priority 3, vector 2, and pending. -/
def oneSrc : State :=
  { State.reset with evc := { State.reset.evc with
      src := [(8, { level := true, vector := 2, priority := 3, enable := 1, effective := 1
                    pend := [(0, { prio := 3, vec := 2 })] })] } }

/-- The same source claimed by the host. -/
def claimed : State :=
  { State.reset with evc := { State.reset.evc with
      src := [(8, { level := true, vector := 2, priority := 3, enable := 1, effective := 1
                    act := [(0, { prio := 3, vec := 2 })] })] } }

/-- A host target whose moderation timer runs and holds source 8. -/
def heldTgt : State :=
  { oneSrc with evc := { oneSrc.evc with tgt := [(0, { modUs := 50, running := true, age := 50000, held := [8] })] } }

/-- Content 1 in flight, its PT come. -/
def inFlight : State := atNs 40000000 { up0 with ym := { up0.ym with flights := [{ n := 1 }] } }

/-- A cut the host may trigger, naming flow 0. -/
def cut3 : Cut := { index := 3, triggers := 0x10, flows := [0] }

/-- A device whose configuration holds the cut, armed. -/
def cutDev (s : State) : State :=
  { s with cfg := { s.cfg with ym := { s.cfg.ym with cuts := [cut3] } }, ym := { s.ym with armed := [3] } }

/-- The same with the flow enabled. -/
def cutFlowDev (s : State) : State :=
  let t := cutDev s
  { t with cfg := { t.cfg with flow := { t.cfg.flow with flows := [(0, { enable := true, kind := 0, stream := 7 })] } } }

/-- A CUT_ARM that waits past its deadline. -/
def armingDev : State :=
  let t := (cutDev (runs 0 0x0901#16)).setBox 0 { (runs 0 0x0901#16).box 0 with waiting := true }
  { t with ym := { t.ym with arming := [{ cut := 3, mailbox := 0, waiting := [], deadline := 0 }] } }

/-- LOCKED under PTP, 100 s after reset. -/
def locked1 : State :=
  atNs 100000000000 { State.reset with
    cfg := { State.reset.cfg with time := { State.reset.cfg.time with align := 0x10400000#32 } }
    tim := { State.reset.tim with st := .locked } }

/-- The same with the PTP port on and a slave, a Delay_Req outstanding. -/
def slave1 : State :=
  { locked1 with
    cfg := { locked1.cfg with time := { locked1.cfg.time with ptp := 0x02000000#32 } }
    tim := { locked1.tim with port := .slave, delayOut := some 3 } }

/-- A house pulse on port 0 as the source, and a cut that names the port. -/
def house0 : State :=
  let s := cutDev locked1
  { s with cfg := { s.cfg with
      time := { s.cfg.time with align := 0x20400000#32 }, ym := { s.cfg.ym with cuts := [{ cut3 with triggers := 1 }] } } }


/-- A log entry of a sequence number. -/
def entry5 (n : Word) : LogEntry := { seq := n, dtSec := 0, dtNs := 0, sev := 0, source := 0, code := 0, detail := 0 }

/-- Mailbox 0 executes a command issued under SAFETY in a session with a transaction. -/
def safetyRuns (op : Half) : State :=
  let s := txnRuns op
  s.setBox 0 { s.box 0 with req := { (s.box 0).req with priv := 3 } }

/-- A map of one record. -/
def mapOne : PixMap := { segs := [{ first := 0, count := 1, rowMax := 0 }], recs := [{ group := 0x7FF }] }

/-- A safety group of two pixels. -/
def group1 : Group :=
  { enable := true, members := [4, 9], tMeasUs := 25, period := 100, code := 256, timeout := 15 }

/-- The instance of task 0 for content 1, run by Stall 0. -/
def inst0 : Inst := { task := 0, content := 1, st := .running, stall := some 0, started := true }

/-- Stall 0 at the first word of a binary of that word; s4 holds 5. -/
def tackDev (w : Word) : State :=
  { State.reset with
    cfg := { State.reset.cfg with stl := { State.reset.cfg.stl with
      graph := { tasks := [{ task := 0 }] }, tack := { bins := [(0, { code := [w] })] } } }
    pdk := { State.reset.pdk with
      insts := [inst0], stalls := [(0, { run := some (0, 1), core := { s := [(4, 5#32)] } })] } }

/-- The same with s4 at byte 16 of the scratch window. -/
def memDev (w : Word) : State :=
  let s := tackDev w
  s.setStall 0 { s.stall 0 with core := { s := [(4, 0x20010#32)] } }

/-- Task 0 has fixtures 4 to 7 as its block. -/
def paramDev (w : Word) : State :=
  let s := tackDev w
  { s with cfg := { s.cfg with stl := { s.cfg.stl with
      tack := { s.cfg.stl.tack with args := [{ first := 4, count := 4 }] } } } }

/-- A canvas of 64 by 64, layer 0 drawn by the Stalls, s4 at 16. -/
def layerDev (w : Word) : State :=
  let s := tackDev w
  let t := s.setStall 0 { s.stall 0 with core := { s := [(4, 16#32)] } }
  { t with cfg := { t.cfg with comp := { size := 0x00400040#32
                                         layers := [(0, { ctrl := 0xA0000000#32, src := 0x00400040#32, dst := 0x00400040#32 })] } } }

/-- Task 0, whose seal completes, has task 1 as its successor. -/
def edgeDev : State :=
  let s := tackDev 0#32
  let t := s.setStall 0 { s.stall 0 with sealing := some .completed }
  { t with
    cfg := { t.cfg with stl := { t.cfg.stl with graph := { tasks := [{ task := 0, succ := [0x80000001#32] }, { task := 1 }] } } }
    pdk := { t.pdk with insts := [inst0, { task := 1, content := 1, dep := 1 }] } }

/-- Task 1 READY, Stall 0 idle. -/
def readyDev : State :=
  { State.reset with
    cfg := { State.reset.cfg with stl := { State.reset.cfg.stl with graph := { tasks := [{ task := 0 }, { task := 1, prio := 3 }] } } }
    pdk := { State.reset.pdk with insts := [{ task := 1, content := 1, st := .ready }] } }

/-- Stall 0 runs task 0 while the higher task 1 is READY. -/
def higherDev : State :=
  let s := { readyDev with pdk := { readyDev.pdk with insts := [inst0, { task := 1, content := 1, st := .ready }] } }
  s.setStall 0 { run := some (0, 1), core := { pc := 2 } }

/-- Task 0 DELAYED by 5 us. -/
def delayDev : State :=
  { readyDev with
    cfg := { readyDev.cfg with stl := { readyDev.cfg.stl with graph := { tasks := [{ task := 0, delayUs := 5 }] } } }
    pdk := { readyDev.pdk with insts := [{ task := 0, content := 1, st := .delayed }] } }

/-- Farrier wants a slice of Stall 3, which has slack. -/
def grantDev : State :=
  { State.reset with
    far := { State.reset.far with want := [{ stall := 3, slice := 1, sinceNs := 0 }], slack := 0xFFFF }
    ym := { State.reset.ym with holds := true } }

/-- A PDK_CANCEL in mailbox 0 with one instance. -/
def cancelDev (i : Inst) : State :=
  let s := runs 0 0x0882#16
  { s with
    cfg := { s.cfg with stl := { s.cfg.stl with graph := { tasks := [{ task := 0 }] } } }
    pdk := { s.pdk with insts := [i] } }

/-- Input 0 fills buffer 1 of layer 0 with a frame of 8 by 2. -/
def inputDev : State :=
  { State.reset with
    cfg := { State.reset.cfg with comp := { layers := [(0, { ctrl := 0x80000000#32 })]
                                            inputs := [(0, { enable := true, width := 8, height := 2, rateNum := 60000 })] } }
    comp := { State.reset.comp with inputs := [(0, { ts := some 5, bufs := [(0, 1)], rows := [(0, [(0, 20)]), (1, [(0, 20)])], nextSeq := some 7 })] } }

/-- The composition of content 1 on a canvas of 64 by 128 at a row; segment 0 waits for its second stripe. -/
def composingDev (r : Nat) : State :=
  { State.reset with
    cfg := { State.reset.cfg with comp := { size := 0x00400080#32 }
                                  map := { State.reset.cfg.map with map := { segs := [{ first := 0, count := 1, rowMax := 70 }] } } }
    comp := { State.reset.comp with composing := some 1, cfg := { size := 0x00400080#32 }, rowsDone := r
                                    layers := [(0, { bufs := [(2, { st := .latched })] })] }
    pdk := { State.reset.pdk with content := some 1, hw := [(256, 1)] } }

/-- A LAYER_WRITE to host layer 0 of 4 by 4 words. -/
def hostLayerDev : State :=
  let t := runs 0 0x0505#16
  let s := t.setBox 0 { t.box 0 with dma := some { ended := true, obj := ({} : StageObj).put 0 (List.replicate 64 0) } }
  { s with cfg := { s.cfg with comp := { layers := [(0, { ctrl := 0x90000000#32, src := 0x00040004#32 })] } } }

/-- Segment 0 of content 1, one pixel of flow 0, is released. -/
def mapDev : State :=
  { up0 with
    cfg := { up0.cfg with map := { up0.cfg.map with map := { segs := [{ first := 0, count := 1, rowMax := 0 }], recs := [{ group := 0x7FF }] } }
                          flow := { up0.cfg.flow with flows := [(0, { enable := true, pixels := true })] } }
    pdk := { up0.pdk with ready := [(1, 256)] } }

/-- Packing group 0 of content 1, one flow, is released; Ethernet port 0 is on and has its link. -/
def packDev (r : FlowRec) : State :=
  { up0 with
    cfg := { up0.cfg with flow := { up0.cfg.flow with flows := [(0, r)] }
                          eth := { up0.cfg.eth with ports := [(0, { cfg := 0x80000600#32 })] } }
    eth := [(0, { link := true })]
    pdk := { up0.pdk with ready := [(1, 4352)] } }

/-- The same with n frames of flow 0 waiting on port 0. -/
def fullDev (n : Nat) (s : State) : State :=
  { s with eth := [(0, { link := true, guar := List.replicate n { kind := .data 0 1 0 1 } })] }

/-- A LAMP_GROUP_RESET with group 3 effective, lamp 4 at a status. -/
def groupDev (v : Nat) : State :=
  let s := runs 0 0x0705#16
  { s with cfg := { s.cfg with lamp := { s.cfg.lamp with groups := [(3, group1)] } }
           lamp := { s.lamp with pix := [(4, { status := v })] } }

/-- Ethernet port 0 on, with PAUSE and LPI, in a state; its link is up. -/
def portDev (r : PortSt) : State :=
  { up0 with
    cfg := { up0.cfg with eth := { up0.cfg.eth with ports := [(0, { cfg := 0x980005DC#32 })] } }
    eth := [(0, { r with link := true })] }

/-- An ETH_TX that waits in mailbox 0. -/
def ethTxDev : State := (runs 0 0x0444#16).setBox 0 { (runs 0 0x0444#16).box 0 with waiting := true }

/-- Every frame on port 0 goes to queue 0, a DRAM ring of 64 buffers. -/
def rxDev : State :=
  let s := portDev {}
  { s with cfg := { s.cfg with eth := { s.cfg.eth with filters := [(0, { filters := [(0x8A000000#32, 0)], rxq := [0x80A00006#32] })] } } }

/-- The same ring full. -/
def fullRingDev : State :=
  let x : RxStored := { filter := 0, tagged := false, lt := 0, frac := 0, seq := 0, bytes := [] }
  { rxDev with eth := [(0, { link := true, rxq := [(0, { stored := List.replicate 64 x })] })] }

/-- Ports 0 and 1 a through pair. -/
def thruDev : State :=
  { up0 with
    cfg := { up0.cfg with eth := { up0.cfg.eth with ports := [(0, { cfg := 0x820005DC#32 }), (1, { cfg := 0x800005DC#32 })] } }
    eth := [(0, { link := true }), (1, { link := true })] }

/-- Flow 0 is stream 7 on port 0. -/
def ylDev : State :=
  let s := portDev {}
  { s with cfg := { s.cfg with flow := { s.cfg.flow with flows := [(0, { enable := true, stream := 7 })] } } }

/-- Clocked pixel-line port 0 with its flow of one pixel, the frame of content 1 packed, 500 ns before its PT. -/
def lineDev : State :=
  let s := atNs 16866167 { up0 with ym := { up0.ym with flights := [{ n := 1 }] } }
  { s with
    cfg := { s.cfg with flow := { s.cfg.flow with flows := [(0, { kind := 3, enable := true, pixels := true, port := 0 })] } }
    line := [(0, { regs := { mode := 0x90000000#32 }, next := [(1, [7])] })] }

/-- DMX port 0 in a state, with mailbox 0 waiting in LINE_RDM. -/
def rdmDev (r : LineSt) : State :=
  let s := (runs 0 0x0461#16).setBox 0 { (runs 0 0x0461#16).box 0 with waiting := true }
  atNs 500 (s.setLp 0 { r with regs := { mode := 0x80000000#32 } })

/-- A head of 4 by 1 pixels, DisplayPort on, with its freeze window over the first pixel and FRAMES 2. -/
def headRegs1 : HeadRegs :=
  { ctrl := 0x82000000#32, h := 0x00100004#32, v := 0x00040001#32, winSize := 0x00040001#32
    frzCtrl := 0x80020000#32, frzSize := 0x00010001#32 }

/-- Head 0 running before content 0, with a guaranteed tile flow on port 0 and a changed layer 0. -/
def headDev (r : HeadSt) : State :=
  let s := atNs 50000000 (portDev {})
  { s with
    cfg := { s.cfg with
      rst := { heads := [(0, headRegs1)], tiles := [(0, { ctrl := 0x80000001#32, size := 0x00040001#32 })] }
      comp := { s.cfg.comp with size := 0x00040001#32, layers := [(0, { ctrl := 0x80000000#32, dst := 0x00040001#32 })] }
      flow := { s.cfg.flow with flows := [(0, { kind := 4, enable := true, guaranteed := true, width := 2 })] } }
    ym := { s.ym with latest := some 0, next := 1 }
    comp := { canvas := [(0, { content := some 0 })] }
    rst := { heads := [(0, { r with run := true, shadow := headRegs1 })], ym := s.cfg.ym, fresh := [(1, [0])] } }

/-- The core rail's feed B in a state, the rail on A. -/
def feedDev (x : FeedSt) : State :=
  { State.reset with feeds := { State.reset.feeds with core := { b := { st := x } } } }

/-- Pairing on, 60 s after reset. -/
def pairDev (p : Pair) : State :=
  atNs 60000000000 { up0 with cfg := { up0.cfg with pair := { up0.cfg.pair with cfg := 0x80100000#32 } }, pair := p }

/-- Level 1 at 95.0 C, the grace time over, a failed sensor's hold over too. -/
def graceDev : State :=
  atNs 5000000000 { State.reset with brd := { State.reset.brd with level := 1, tmax := 1520, grace := some 0, fallAt := some 5 } }

/-- Tripped at reset, 30 us ago; port 0 is on and has its link. -/
def tripDev : State := atNs 30000 { portDev {} with brd := { State.reset.brd with trip := some 0, level := 4 } }

/-- A BRIDLE_WAIT that waits in mailbox 0, its time over. -/
def waitDev : State :=
  let s := (runs 0 0x0B03#16).setBox 0 { (runs 0 0x0B03#16).box 0 with waiting := true }
  { s with brd := { s.brd with waits := [(0, 0)] } }

/-- A calibration record of one entry, with its CRC-32. -/
def calBytes : List Byte :=
  let a := le 4 0x4C435848 ++ le 2 1 ++ le 2 1 ++ le 4 1
  let b := le 8 0 ++ le 8 0 ++ le 4 0x00000012
  a ++ le 4 (crc32 (a ++ le 4 0 ++ b)).toNat ++ b

/-- A calibration run, boundary 0 past; a CAL_RUN waits in mailbox 0. -/
def calDev (r : CalRun) : State :=
  let s := (runs 0 0x0C02#16).setBox 0 { (runs 0 0x0C02#16).box 0 with waiting := true }
  { s with brd := { s.brd with cal := { run := some r } }, ym := { s.ym with latest := some 0, next := 1 } }

/-- 20 us before PT(1), a quiet scheduled there. -/
def quietDev : State :=
  let s := atNs 16846667 (calDev { groups := [(2, 0)], measured := true, left := [(2, 0)] })
  { s with ym := { s.ym with latest := some 1 }, brd := { s.brd with cal := { s.brd.cal with quiet := some 1 } } }

/-- Unit 0 in a state, content 3 lit; a CHECK_RUN waits in mailbox 1. -/
def unitDev (u : ChkUnit) : State :=
  let s := (runs 1 0x0D01#16).setBox 1 { (runs 1 0x0D01#16).box 1 with waiting := true }
  { s with far := { s.far with units := [(0, u)] }, ym := { s.ym with lit := some 3 } }

/-- Field tests on, an hour and a second after reset; a TEST_RUN waits in mailbox 0. -/
def fieldDev (f : Far) : State :=
  let s := (runs 0 0x0E02#16).setBox 0 { (runs 0 0x0E02#16).box 0 with waiting := true }
  atNs 3601000000000 { s with cfg := { s.cfg with far := 0x98E10258#32 }, far := f }

/-- Mailbox 0 executes a command in a security state. -/
def secDev (op : Half) (x : Sec) : State := { runs 0 op with sec := x }

/-- Mailbox 0 executes a command with an update state; its session is session 1. -/
def updDev (op : Half) (u : Upd) : State := secDev op { upd := u }

/-- The same held by session 1. -/
def holds1 (u : Upd) : Upd := { u with lock := some { session := some 1, atNs := 0, id := 1, lastNs := 0 } }

/-- A manifest of no component, SVN 1. -/
def man0 : List Byte :=
  le 4 0x4D555848 ++ le 2 1 ++ le 1 0 ++ le 1 1 ++ List.replicate 1016 0

/-- A device of a chain: address 1 upstream over port 0 holds session 5. -/
def upDev (u : Upd) : State :=
  { portDev {} with sec := { State.reset.sec with upd := { u with lock := some { from? := some 1, atNs := 0, id := 5, lastNs := 0 } } } }

/-- The origin of a chain: session 5 of mailbox session 1, an UPD_INSTALL waiting in mailbox 0. -/
def originDev (u : Upd) : State :=
  let s := updDev 0x0F04#16 { u with box := some 0, lock := some { session := some 1, atNs := 0, id := 5, lastNs := 0 } }
  s.setBox 0 { s.box 0 with waiting := true }

/-! ### Ill-formed commands: one term for each check of WellFormed.lean, its operand at the first value that has no
place. -/

theorem test_wf_supplyCollapse :
    (Instr.supplyCollapse false 4294967296 0).wf = false ∧
    (Instr.supplyCollapse false 0 4294967296).wf = false ∧
    (Instr.supplyCollapse false 4294967295 4294967295).wf = true := by decide

theorem test_wf_domainPowerOn :
    (Instr.domainPowerOn 16).wf = false ∧
    (Instr.domainPowerOn 15).wf = true := by decide

theorem test_wf_narrowAccess :
    (Instr.narrowAccess .pcie false 4096 0).wf = false ∧
    (Instr.narrowAccess .pcie false 0 67108864).wf = false ∧
    (Instr.narrowAccess .pcie false 4095 67108863).wf = true := by decide

theorem test_wf_unpermittedAccess :
    (Instr.unpermittedAccess .pcie false 67108864).wf = false ∧
    (Instr.unpermittedAccess .pcie false 67108863).wf = true := by decide

theorem test_wf_sheddingEnter :
    (Instr.sheddingEnter [] 4294967296).wf = false ∧
    (Instr.sheddingEnter [] 4294967295).wf = true := by decide

theorem test_wf_dtlsIdleExpire :
    (Instr.dtlsIdleExpire 16).wf = false ∧
    (Instr.dtlsIdleExpire 15).wf = true := by decide

theorem test_wf_dtlsHandshake :
    (Instr.dtlsHandshake { mailbox := 16 }).wf = false ∧
    (Instr.dtlsHandshake { peer := 4294967296 }).wf = false ∧
    (Instr.dtlsHandshake { mailbox := 15, peer := 4294967295 }).wf = true := by decide

theorem test_wf_sessionIdleExpire :
    (Instr.sessionIdleExpire 4294967296).wf = false ∧
    (Instr.sessionIdleExpire 4294967295).wf = true := by decide

theorem test_wf_cfgLoadImage :
    (Instr.cfgLoadImage 16 0 0).wf = false ∧
    (Instr.cfgLoadImage 0 4294967296 0).wf = false ∧
    (Instr.cfgLoadImage 0 0 4294967296).wf = false ∧
    (Instr.cfgLoadImage 15 4294967295 4294967295).wf = true := by decide

theorem test_wf_cfgStageChunk :
    (Instr.cfgStageChunk 16 0 0 []).wf = false ∧
    (Instr.cfgStageChunk 0 4294967296 0 []).wf = false ∧
    (Instr.cfgStageChunk 0 0 4294967296 []).wf = false ∧
    (Instr.cfgStageChunk 15 4294967295 4294967295 []).wf = true := by decide

theorem test_wf_queryTelemetry :
    (Instr.queryTelemetry 16 0).wf = false ∧
    (Instr.queryTelemetry 0 4294967296).wf = false ∧
    (Instr.queryTelemetry 15 4294967295).wf = true := by decide

theorem test_wf_logRead :
    (Instr.logRead 16 0 0).wf = false ∧
    (Instr.logRead 0 0 4294967296).wf = false ∧
    (Instr.logRead 15 0 4294967295).wf = true := by decide

theorem test_wf_modTimerExpire :
    (Instr.modTimerExpire 4).wf = false ∧
    (Instr.modTimerExpire 3).wf = true := by decide

theorem test_wf_msixUnmask :
    (Instr.msixUnmask 32).wf = false ∧
    (Instr.msixUnmask 31).wf = true := by decide

theorem test_wf_evcComplete :
    (Instr.evcComplete .pcie 4 0).wf = false ∧
    (Instr.evcComplete .pcie 0 256).wf = false ∧
    (Instr.evcComplete .pcie 3 255).wf = true := by decide

theorem test_wf_evcSrcCountRead :
    (Instr.evcSrcCountRead .pcie 256).wf = false ∧
    (Instr.evcSrcCountRead .pcie 255).wf = true := by decide

theorem test_wf_evcEnableApply :
    (Instr.evcEnableApply 256 0).wf = false ∧
    (Instr.evcEnableApply 0 4).wf = false ∧
    (Instr.evcEnableApply 255 3).wf = true := by decide

theorem test_wf_cutArm :
    (Instr.cutArm 16 0).wf = false ∧
    (Instr.cutArm 0 64).wf = false ∧
    (Instr.cutArm 15 63).wf = true := by decide

theorem test_wf_houseSyncLoss :
    (Instr.houseSyncLoss 2).wf = false ∧
    (Instr.houseSyncLoss 1).wf = true := by decide

theorem test_wf_timeSetServo :
    (Instr.timeSetServo 16 0 0 0 0).wf = false ∧
    (Instr.timeSetServo 0 4294967296 0 0 0).wf = false ∧
    (Instr.timeSetServo 0 0 4294967296 0 0).wf = false ∧
    (Instr.timeSetServo 0 0 0 4294967296 0).wf = false ∧
    (Instr.timeSetServo 0 0 0 0 4294967296).wf = false ∧
    (Instr.timeSetServo 15 4294967295 4294967295 4294967295 4294967295).wf = true := by decide

theorem test_wf_timeForceStep :
    (Instr.timeForceStep 16 0 0 none).wf = false ∧
    (Instr.timeForceStep 0 4294967296 0 none).wf = false ∧
    (Instr.timeForceStep 15 4294967295 0 none).wf = true := by decide

theorem test_wf_peerInputComplete :
    (Instr.peerInputComplete 4294967296 0).wf = false ∧
    (Instr.peerInputComplete 4294967295 0).wf = true := by decide

theorem test_wf_layerWrite :
    (Instr.layerWrite 16 0 0 none).wf = false ∧
    (Instr.layerWrite 0 4294967296 0 none).wf = false ∧
    (Instr.layerWrite 15 4294967295 0 none).wf = true := by decide

theorem test_wf_mapCurveSet :
    (Instr.mapCurveSet 16 0 []).wf = false ∧
    (Instr.mapCurveSet 0 4294967296 []).wf = false ∧
    (Instr.mapCurveSet 15 4294967295 []).wf = true := by decide

theorem test_wf_layerWriteBufferFree :
    (Instr.layerWriteBufferFree { mailbox := 16 }).wf = false ∧
    (Instr.layerWriteBufferFree { mailbox := 15 }).wf = true := by decide

theorem test_wf_layerStillLoad :
    (Instr.layerStillLoad 16 0 0 0 0 false 0).wf = false ∧
    (Instr.layerStillLoad 0 4294967296 0 0 0 false 0).wf = false ∧
    (Instr.layerStillLoad 0 0 4294967296 0 0 false 0).wf = false ∧
    (Instr.layerStillLoad 0 0 0 4294967296 0 false 0).wf = false ∧
    (Instr.layerStillLoad 0 0 0 0 4294967296 false 0).wf = false ∧
    (Instr.layerStillLoad 0 0 0 0 0 false 4294967296).wf = false ∧
    (Instr.layerStillLoad 15 4294967295 4294967295 4294967295 4294967295 false 4294967295).wf = true := by decide

theorem test_wf_segmentMapped :
    (Instr.segmentMapped 4096 []).wf = false ∧
    (Instr.segmentMapped 4095 []).wf = true := by decide

theorem test_wf_mapLoad :
    (Instr.mapLoad 16 0).wf = false ∧
    (Instr.mapLoad 0 4294967296).wf = false ∧
    (Instr.mapLoad 15 4294967295).wf = true := by decide

theorem test_wf_lampGroupSet :
    (Instr.lampGroupSet 16 {}).wf = false ∧
    (Instr.lampGroupSet 0 { count := 4294967296 }).wf = false ∧
    (Instr.lampGroupSet 0 { obj := 4294967296 }).wf = false ∧
    (Instr.lampGroupSet 15 { count := 4294967295, obj := 4294967295 }).wf = true := by decide

theorem test_wf_lampGroupReset :
    (Instr.lampGroupReset 16 {}).wf = false ∧
    (Instr.lampGroupReset 0 { group := 4294967296 }).wf = false ∧
    (Instr.lampGroupReset 15 { group := 4294967295 }).wf = true := by decide

theorem test_wf_lampGroupStatus :
    (Instr.lampGroupStatus 16 0 0).wf = false ∧
    (Instr.lampGroupStatus 0 4294967296 0).wf = false ∧
    (Instr.lampGroupStatus 0 0 4294967296).wf = false ∧
    (Instr.lampGroupStatus 15 4294967295 4294967295).wf = true := by decide

theorem test_wf_delayMet :
    (Instr.delayMet 256).wf = false ∧
    (Instr.delayMet 255).wf = true := by decide

theorem test_wf_taskPreempt :
    (Instr.taskPreempt 16).wf = false ∧
    (Instr.taskPreempt 15).wf = true := by decide

theorem test_wf_pdkCancel :
    (Instr.pdkCancel 16 0 0 0).wf = false ∧
    (Instr.pdkCancel 0 4294967296 0 0).wf = false ∧
    (Instr.pdkCancel 0 0 4294967296 0).wf = false ∧
    (Instr.pdkCancel 15 4294967295 4294967295 0).wf = true := by decide

theorem test_wf_lst :
    (Instr.lst 16 0).wf = false ∧
    (Instr.lst 0 4294967296).wf = false ∧
    (Instr.lst 15 4294967295).wf = true := by decide

theorem test_wf_stallScrubRead :
    (Instr.stallScrubRead 16 0 .clean).wf = false ∧
    (Instr.stallScrubRead 0 4294967296 .clean).wf = false ∧
    (Instr.stallScrubRead 15 4294967295 .clean).wf = true := by decide

theorem test_wf_ethFrameTxStart :
    (Instr.ethFrameTxStart 16).wf = false ∧
    (Instr.ethFrameTxStart 15).wf = true := by decide

theorem test_wf_flowParamSet :
    (Instr.flowParamSet 16 0 []).wf = false ∧
    (Instr.flowParamSet 0 4294967296 []).wf = false ∧
    (Instr.flowParamSet 15 4294967295 []).wf = true := by decide

theorem test_wf_flowDiag :
    (Instr.flowDiag 16 0 0 []).wf = false ∧
    (Instr.flowDiag 0 4294967296 0 []).wf = false ∧
    (Instr.flowDiag 0 0 4294967296 []).wf = false ∧
    (Instr.flowDiag 15 4294967295 4294967295 []).wf = true := by decide

theorem test_wf_rxDescPoll :
    (Instr.rxDescPoll 16 0 false).wf = false ∧
    (Instr.rxDescPoll 0 8 false).wf = false ∧
    (Instr.rxDescPoll 15 7 false).wf = true := by decide

theorem test_wf_ethRingRestart :
    (Instr.ethRingRestart 16 0 0).wf = false ∧
    (Instr.ethRingRestart 0 4294967296 0).wf = false ∧
    (Instr.ethRingRestart 15 4294967295 0).wf = true := by decide

theorem test_wf_ethRingSet :
    (Instr.ethRingSet 16 0 0 0).wf = false ∧
    (Instr.ethRingSet 0 4294967296 0 0).wf = false ∧
    (Instr.ethRingSet 0 0 4294967296 0).wf = false ∧
    (Instr.ethRingSet 15 4294967295 4294967295 0).wf = true := by decide

theorem test_wf_ethRxRead :
    (Instr.ethRxRead 16 0 0 0).wf = false ∧
    (Instr.ethRxRead 0 4294967296 0 0).wf = false ∧
    (Instr.ethRxRead 0 0 4294967296 0).wf = false ∧
    (Instr.ethRxRead 0 0 0 4294967296).wf = false ∧
    (Instr.ethRxRead 15 4294967295 4294967295 4294967295).wf = true := by decide

theorem test_wf_dmxPacketEnd :
    (Instr.dmxPacketEnd 40).wf = false ∧
    (Instr.dmxPacketEnd 39).wf = true := by decide

theorem test_wf_lineRdmDiscover :
    (Instr.lineRdmDiscover 16 0 false).wf = false ∧
    (Instr.lineRdmDiscover 0 4294967296 false).wf = false ∧
    (Instr.lineRdmDiscover 15 4294967295 false).wf = true := by decide

theorem test_wf_lineRdmUids :
    (Instr.lineRdmUids 16 0 0 0).wf = false ∧
    (Instr.lineRdmUids 0 4294967296 0 0).wf = false ∧
    (Instr.lineRdmUids 0 0 4294967296 0).wf = false ∧
    (Instr.lineRdmUids 0 0 0 4294967296).wf = false ∧
    (Instr.lineRdmUids 15 4294967295 4294967295 4294967295).wf = true := by decide

theorem test_wf_headShadowTake :
    (Instr.headShadowTake 2).wf = false ∧
    (Instr.headShadowTake 1).wf = true := by decide

theorem test_wf_tilePacketDue :
    (Instr.tilePacketDue 2 0).wf = false ∧
    (Instr.tilePacketDue 0 4).wf = false ∧
    (Instr.tilePacketDue 1 3).wf = true := by decide

theorem test_wf_rasterTileSet :
    (Instr.rasterTileSet 16 0 0 {}).wf = false ∧
    (Instr.rasterTileSet 0 4294967296 0 {}).wf = false ∧
    (Instr.rasterTileSet 0 0 4294967296 {}).wf = false ∧
    (Instr.rasterTileSet 15 4294967295 4294967295 {}).wf = true := by decide

theorem test_wf_rasterDpEdid :
    (Instr.rasterDpEdid 16 0 0 0).wf = false ∧
    (Instr.rasterDpEdid 0 4294967296 0 0).wf = false ∧
    (Instr.rasterDpEdid 0 0 4294967296 0).wf = false ∧
    (Instr.rasterDpEdid 0 0 0 4294967296).wf = false ∧
    (Instr.rasterDpEdid 15 4294967295 4294967295 4294967295).wf = true := by decide

theorem test_wf_feedFault :
    (Instr.feedFault .core false 4294967296).wf = false ∧
    (Instr.feedFault .core false 4294967295).wf = true := by decide

theorem test_wf_laneDown :
    (Instr.laneDown 2).wf = false ∧
    (Instr.laneDown 1).wf = true := by decide

theorem test_wf_frameHashRx :
    (Instr.frameHashRx 4294967296 0 0).wf = false ∧
    (Instr.frameHashRx 4294967295 0 0).wf = true := by decide

theorem test_wf_sensorSample :
    (Instr.sensorSample [] 4294967296).wf = false ∧
    (Instr.sensorSample [] 4294967295).wf = true := by decide

theorem test_wf_calApply :
    (Instr.calApply 4294967296 0 false).wf = false ∧
    (Instr.calApply 0 4294967296 false).wf = false ∧
    (Instr.calApply 4294967295 4294967295 false).wf = true := by decide

theorem test_wf_bridleWait :
    (Instr.bridleWait 16 0).wf = false ∧
    (Instr.bridleWait 0 4294967296).wf = false ∧
    (Instr.bridleWait 15 4294967295).wf = true := by decide

theorem test_wf_sramScrub :
    (Instr.sramScrub 256 0 {} none).wf = false ∧
    (Instr.sramScrub 0 4294967296 {} none).wf = false ∧
    (Instr.sramScrub 255 4294967295 {} none).wf = true := by decide

theorem test_wf_patrolRead :
    (Instr.patrolRead 16 0 {} {}).wf = false ∧
    (Instr.patrolRead 0 8 {} {}).wf = false ∧
    (Instr.patrolRead 15 7 {} {}).wf = true := by decide

theorem test_wf_checkSyncStart :
    (Instr.checkSyncStart 8).wf = false ∧
    (Instr.checkSyncStart 7).wf = true := by decide

theorem test_wf_checkAbortCmd :
    (Instr.checkAbortCmd .pcie 8 0).wf = false ∧
    (Instr.checkAbortCmd .pcie 0 4294967296).wf = false ∧
    (Instr.checkAbortCmd .pcie 7 4294967295).wf = true := by decide

theorem test_wf_rotationStart :
    (Instr.rotationStart 256).wf = false ∧
    (Instr.rotationStart 255).wf = true := by decide

theorem test_wf_checkRun :
    (Instr.checkRun 16 0 {} []).wf = false ∧
    (Instr.checkRun 0 4294967296 {} []).wf = false ∧
    (Instr.checkRun 15 4294967295 {} []).wf = true := by decide

theorem test_wf_checkAbort :
    (Instr.checkAbort 16 0 0).wf = false ∧
    (Instr.checkAbort 0 4294967296 0).wf = false ∧
    (Instr.checkAbort 0 0 4294967296).wf = false ∧
    (Instr.checkAbort 15 4294967295 4294967295).wf = true := by decide

theorem test_wf_testRun :
    (Instr.testRun 16 0 0).wf = false ∧
    (Instr.testRun 0 4294967296 0).wf = false ∧
    (Instr.testRun 0 0 4294967296).wf = false ∧
    (Instr.testRun 15 4294967295 4294967295).wf = true := by decide

theorem test_wf_getCertificate :
    (Instr.getCertificate .pcie 4294967296 0 0).wf = false ∧
    (Instr.getCertificate .pcie 0 4294967296 0).wf = false ∧
    (Instr.getCertificate .pcie 0 0 4294967296).wf = false ∧
    (Instr.getCertificate .pcie 4294967295 4294967295 4294967295).wf = true := by decide

theorem test_wf_challenge :
    (Instr.challenge .pcie 4294967296 0).wf = false ∧
    (Instr.challenge .pcie 4294967295 0).wf = true := by decide

theorem test_wf_tapDebugUnlock :
    (Instr.tapDebugUnlock 4294967296 false).wf = false ∧
    (Instr.tapDebugUnlock 4294967295 false).wf = true := by decide

theorem test_wf_secDebugUnlock :
    (Instr.secDebugUnlock 16 0 false).wf = false ∧
    (Instr.secDebugUnlock 0 4294967296 false).wf = false ∧
    (Instr.secDebugUnlock 15 4294967295 false).wf = true := by decide

theorem test_wf_secKeyRevoke :
    (Instr.secKeyRevoke 16 0).wf = false ∧
    (Instr.secKeyRevoke 0 4294967296).wf = false ∧
    (Instr.secKeyRevoke 15 4294967295).wf = true := by decide

theorem test_wf_updateOffer :
    (Instr.updateOffer 16 0 0 [] none false).wf = false ∧
    (Instr.updateOffer 0 0 4294967296 [] none false).wf = false ∧
    (Instr.updateOffer 15 0 4294967295 [] none false).wf = true := by decide

theorem test_wf_updateAck :
    (Instr.updateAck 0 4294967296 0).wf = false ∧
    (Instr.updateAck 0 0 4294967296).wf = false ∧
    (Instr.updateAck 0 4294967295 4294967295).wf = true := by decide

theorem test_wf_updateFailed :
    (Instr.updateFailed 0 4294967296 0 .ok).wf = false ∧
    (Instr.updateFailed 0 0 4294967296 .ok).wf = false ∧
    (Instr.updateFailed 0 4294967295 4294967295 .ok).wf = true := by decide

theorem test_wf_peerCutTrigger :
    (Instr.peerCutTrigger 64 []).wf = false ∧
    (Instr.peerCutTrigger 63 []).wf = true := by decide

theorem test_wf_peerLayerCopy :
    (Instr.peerLayerCopy 4294967296 0 []).wf = false ∧
    (Instr.peerLayerCopy 4294967295 0 []).wf = true := by decide

/-! ### Values the spec's own tables and examples give -/

/-- The nine characters R464 gives the check values of. -/
def digits9 : List Byte := [0x31, 0x32, 0x33, 0x34, 0x35, 0x36, 0x37, 0x38, 0x39]

/-- R464's table: CRC-32. -/
theorem test_crc32 : digits9.foldl (chkByte 0) (chkInit 0) ^^^ chkXor 0 = 0xCBF43926#32 := by decide +kernel

/-- R464's table: CRC-32C. -/
theorem test_crc32c : digits9.foldl (chkByte 1) (chkInit 1) ^^^ chkXor 1 = 0xE3069283#32 := by decide +kernel

/-- R464's table: CRC-16/CCITT-FALSE. -/
theorem test_crc16 : digits9.foldl (chkByte 2) (chkInit 2) ^^^ chkXor 2 = 0x000029B1#32 := by decide +kernel

/-- R49's check word is the same CRC-32C. -/
theorem test_mailbox_crc : crc32c digits9 = 0xE3069283#32 := by decide +kernel

/-- R174's example: OVER of 0.2 at alpha 0.8 on 0.75 gives 0.35009765625, the canvas word 0x6B5AD35A. -/
theorem test_blend_over :
    blendComp 0 (half (3 / 4)) (half (1 / 5)) (half (4 / 5)) = (35009765625 / 100000000000 : Rat) * 16777216 ∧
    packCanvas (half (35009765625 / 100000000000)) (half (35009765625 / 100000000000))
      (half (35009765625 / 100000000000)) = 0x6B5AD35A#32 := by decide +kernel

/-- R351's example: a 10GBASE-R port with IP_MTU 1,500 and untagged frames has q_p = 1,237 ns. -/
theorem test_gate_guard :
    gateGuard { eth := { ports := [(12, { cfg := 1500#32 })] } } 12 = 1237 := by decide +kernel

/-- R304's example: flow 256 is 4 fragments of at most 8,928 bytes; R302's header of fragment 1. -/
theorem test_fragments :
    let c : Cfg := { eth := { ports := [(0, { cfg := 9000#32 })] } }
    let r : FlowRec := { pixels := true, width := 2, emitters := 4, count := 4096, stream := 0x100#32 }
    fragSize c r = 8928 ∧ fragCount c r 32768 = 4 ∧
    ylHeader 1 0x100 0 r.format 0x12345678#32 1684740690070666670 8928 4 8928 0 32768 =
      [0x01, 0x01, 0x00, 0x01, 0x00, 0x00, 0x98, 0x00, 0x12, 0x34, 0x56, 0x78, 0x64, 0x6B, 0x1A, 0x52,
       0x04, 0x36, 0x49, 0xAE, 0x00, 0x00, 0x22, 0xE0, 0x00, 0x04, 0x22, 0xE0, 0x00, 0x00, 0x80, 0x00] := by
  decide +kernel

/-- R111's example: 384 slots, break 92, mark 12, no mark between slots: 17,044 us. -/
theorem test_dmx_packet : packetNs { dmx := 0x005C0C00#32 } 384 = 17044000 := by decide +kernel

/-- R218's example: 64.5 C over a knee of 60 at 5 % per C gives A = 50,789, reached in the 23rd content. -/
theorem test_derate :
    derateTarget 0 60 0x0CCD 1032 = 50789 ∧
    (List.range 22).foldl (fun d _ => stepD d 50789) 0x10000 ≠ 50789 ∧
    (List.range 23).foldl (fun d _ => stepD d 50789) 0x10000 = 50789 := by decide +kernel

/-- R221's example: circuit 412 draws 1,305,580 mW uncapped, so S = 48,188. -/
theorem test_circuit_cap :
    drawOf (256 * 5100 * 16776960) = 1305580 ∧
    capTarget { enable := true, budget := 1000000, idle := 40000 } 1305580 = 48188 := by decide +kernel

/-- The register tables of the spec: what a host reads of one or more registers of each group right after reset (the layout of BAR0 is
R14's; a place that no register has reads as zero). -/
theorem test_reset_view :
    ([0x0, 0x4, 0x8, 0xC, 0x10, 0x300000, 0x300004, 0x300014, 0x380000, 0x400000, 0x400010, 0x600010,
      0x600110, 0x700008, 0x70000C, 0x701000, 0x500000, 0x880100, 0x900000, 0x900004, 0x900100, 0x908000,
      0xA00008, 0xA00024, 0xB00024, 0xC00000, 0xC00008, 0xC80000, 0xC80100, 0xD00000, 0xD00004, 0xEF002C,
      0xF00000, 0x180000, 0x600200, 0x200000].map
      (fun a => (State.reset.readReg .pcie a).toNat)) =
     [0x57481000, 0x00311310, 1, 0x10, 0, 0, 5, 0x640203E8, 0x20000000, 0xEA60, 0x802, 0xFFFFFFFF, 0xFFFF,
      0x3E8, 0xFFFF, 0x2000, 4, 0x04003C00, 0x5DC, 0x03E81388, 0xA00000, 0x200, 0x280000, 0x005C0C00,
      0x20000, 0x30000, 0x3C, 0x04000001, 0x808, 0x14, 0x80000008, 0x40, 0x18E10258, 0, 0, 0] := by decide

/-! ### StepRunsTheFrontCommand -/

theorem wit_StepRunsTheFrontCommand : State.reset.pending = [] := by decide

/-! ### ResetsRestartTheBlock -/

theorem wit_ResetsRestartTheBlock :
    (619 < (if true then 620 else 660) ∧ 0 < (if true then 620 else 660))
      ∧ (620 ≤ (if true then 620 else 660)) ∧ (659 < (if false then 620 else 660)) := by decide

/-! ### ReferencesAndRootPll -/

theorem wit_ReferencesAndRootPll :
    (up0.glb.clk.ref .ser0 = true ∧ State.reset.glb.clk.ref .ser0 = false)
      ∧ (up0.glb.clk.rootLock = true) ∧ ({ up0 with glb := { up0.glb with faulted := true } }.glb.faulted = true)
      ∧ tfrom 0 up0.mbx.sessions = true
      ∧ (withSched { ({} : Cfg) with line := [(0, { mode := 0x80000000#32 })] }).domainOf 10 = 0
      ∧ needsDomain { ({} : Cfg) with line := [(0, { mode := 0x80000000#32 })] } 10 = true := by decide

/-! ### RegisterAccesses -/

theorem wit_RegisterAccesses :
    (1 < 4 ∧ Path.pcie ≠ .groom ∧ State.reset.glb.acc.valid = false)
      ∧ (({ State.reset with glb := { State.reset.glb with acc := { valid := true } } } : State).glb.acc.valid = true)
      ∧ ((3 : Nat) % 4 ≠ 0)
      ∧ (mayWriteAt State.reset .pcie 0 = false ∧ mayWriteAt State.reset .pcie 0x1100000 = false)
      ∧ (mayReadAt State.reset .pcie 0x1000000 = false)
      ∧ (bitOf (0x80000000#32) 31 = true ∧ bitOf (0x7FFFFFFF#32) 31 = false)
      ∧ ((15 : Nat) < 16 ∧ (1023 : Nat) < 1024 ∧ (State.reset.box 15).locked = false) := by decide
theorem wit_RegisterAccesses_b :
    mayWriteAt errd .pcie 0 = false ∧ mayReadAt errd .pcie 0x1000000 = false ∧ errd.glb.acc.valid = true
      ∧ errd.glb.acc.count = 255 := by decide

/-! ### CauseRegistersClear -/

theorem wit_CauseRegistersClear :
    15 < ({ State.reset with variant := .v8PF } : State).nStalls ∧ 15 < ({ State.reset with variant := .v8PF } : State).nEth
      ∧ 39 < ({ State.reset with variant := .v8PF } : State).nLine
      ∧ 1 < ({ State.reset with variant := .v8PF } : State).nHeads := by decide

/-! ### CountersSnapshotAndClear -/

theorem wit_CountersSnapshotAndClear : (0 < 16 ∧ 15 < 16) := by decide

/-! ### MailboxDoorbellsAndTake -/

theorem wit_MailboxDoorbellsAndTake :
    (State.reset.boxPath 0 = some .pcie ∧ Path.pcie ≠ .groom ∧ (State.reset.box 0).locked = false)
      ∧ ((State.reset.setBox 15 { st := .pending }).boxPath 15 = some .peer
          ∧ ((State.reset.setBox 15 { st := .pending }).box 15).locked = true
          ∧ ((State.reset.setBox 15 { st := .pending }).box 15).discard = false)
      ∧ (State.reset.boxPath 12 ≠ some .pcie ∧ State.reset.glb.acc.valid = false)
      ∧ (State.reset.box 0).st = .idle
      ∧ (((State.reset.setBox 0 { st := .executing }).box 0).st = .executing
          ∧ ((State.reset.setBox 0 { st := .executing }).box 0).moving = false
          ∧ atAbortPoint 0 (State.reset.setBox 0 { st := .executing }) = none) := by decide
theorem wit_MailboxDoorbellsAndTake_b :
    (DbgCore.groom ∉ repeated.sec.halted ∧ repeated.nextBox = some 3
        ∧ (repeated.box 3).lastTag = some (repeated.box 3).req.tag)
      ∧ (shedding.nextBox = some 2 ∧ (shedding.box 2).lastTag ≠ some (shedding.box 2).req.tag
          ∧ shedding.mbx.shedding = true ∧ (shedding.box 2).req.tier = 3 ∧ (shedding.box 2).discard = false)
      ∧ (twoPending.nextBox = some 3 ∧ (twoPending.box 3).lastTag ≠ some (twoPending.box 3).req.tag
          ∧ twoPending.mbx.shedding = false ∧ (twoPending.box 3).discard = false
          ∧ checkHeader twoPending 3 (twoPending.box 3).req = .ok ())
      ∧ (badReq.nextBox = some 3 ∧ (badReq.box 3).lastTag ≠ some (badReq.box 3).req.tag
          ∧ checkHeader badReq 3 (badReq.box 3).req = .error .badHeader)
      ∧ State.reset.nextBox = none
      ∧ (({ hdrVer := 0 } : Req).hdrVer ≠ 1) ∧ (({ hdrVer := 1, flags := 1, checkOk := false } : Req).checkOk = false) := by
  decide
theorem wit_MailboxDoorbellsAndTake_c :
    ((noteLoads (List.replicate 10 91) State.reset).loadStays (fun l => decide (90 < l)) = true
        ∧ State.reset.mbx.shedding = false)
      ∧ (let s : State := { State.reset with mbx := { State.reset.mbx with shedding := true } }
         (noteLoads (List.replicate 10 79) s).loadStays (fun l => decide (l < 80)) = true ∧ s.mbx.shedding = true)
      ∧ (noteLoads (List.replicate 10 90) State.reset).loadStays (fun l => decide (90 < l)) = false
      ∧ (noteLoads (List.replicate 10 80) State.reset).loadStays (fun l => decide (l < 80)) = false := by decide

/-! ### MbxTakeServesByTierThenOrder -/

theorem wit_MbxTakeServesByTierThenOrder :
    tfrom 0 twoPending.mbx.boxes = true ∧ twoPending.nextBox = some 3 := by decide

/-! ### ManagementPortAndBulkData -/

theorem wit_ManagementPortAndBulkData :
    (assoc12.mgmtLink = true ∧ one12.udp = 30811 ∧ assoc12.assocOf one12.peer = some 12 ∧ one12.close = false
        ∧ 8 ≤ one12.bytes.length ∧ one12.mailbox = 12 ∧ one12.kind = 1 ∧ one12.count = 1 ∧ one12.index = 0
        ∧ one12.data.length ≤ 1184 ∧ (assoc12.box 12).locked = false
        ∧ tfind? assoc12.mbx.part (partKey 12 one12.tag) = none)
      ∧ (({ one12 with bytes := [12, 3, 0, 0, 0, 0, 0, 0] } : MgmtMsg).kind = 3 ∧ (assoc12.box 12).st = .idle)
      ∧ State.reset.mgmtLink = false ∧ assoc12.assocOf 9 = none ∧ ({ one12 with udp := 30812 } : MgmtMsg).udp ≠ 30811
      ∧ ({ one12 with close := true } : MgmtMsg).close = true := by decide
theorem wit_ManagementPortAndBulkData_b :
    (tfind? part12.mbx.part (partKey 12 7#32) = some { tag := 7, count := 2, firstNs := 0 } ∧ 50000000 ≤ part12.elt
          ∧ tfind? { part12 with tim := {} }.mbx.part (partKey 12 7#32) = some { tag := 7, count := 2, firstNs := 0 }
          ∧ { part12 with tim := {} }.elt < 50000000)
      ∧ ((tget late12.mbx.assoc 12 {}).opened = true ∧ (tget late12.mbx.assoc 12 {}).lastNs + 300000000000 ≤ late12.elt
          ∧ late12.mgmtLink = true ∧ late12.sec.lc ≠ .scrapped ∧ (tget late12.mbx.assoc 13 {}).opened = false
          ∧ assoc12.elt < (tget assoc12.mbx.assoc 12 {}).lastNs + 300000000000) := by decide
theorem wit_ManagementPortAndBulkData_c :
    ((moving0.box 0).dma = some {} ∧ (moving0.box 0).st = .executing ∧ (moving0.box 0).abortReq = false
          ∧ (moving0.box 0).discard = false)
      ∧ (let d := readDesc ({ length := 2, flags := 5, crc := crc32c [1, 2] } : DmaDesc).bytes
         ({ length := 2, flags := 5, crc := crc32c [1, 2] } : DmaDesc).bytes.length = 32 ∧ d.bad = false ∧ d.toHost = false
          ∧ d.last = true ∧ d.checked = true ∧ [1#8, 2].length = d.length ∧ crc32c [1, 2] = d.crc ∧ crc32c [1, 3] ≠ d.crc)
      ∧ (let d := readDesc ({ length := 2, flags := 2 } : DmaDesc).bytes
         d.bad = false ∧ d.toHost = true ∧ d.checked = false)
      ∧ (readDesc ({ length := 0 } : DmaDesc).bytes).bad = true := by decide

/-! ### SessionsOpenAuthenticateAndClose -/

theorem wit_SessionsOpenAuthenticateAndClose :
    (Runs 0 0x0001#16 (runs 0 0x0001#16) ∧ (runs 0 0x0001#16).mbxTransport 0 = some .pcie ∧ maskOk 0x02#8 = true
        ∧ maskOk 0#8 = false ∧ (runs 0 0x0001#16).mbx.sessions.length < 32
        ∧ (runs 0 0x0001#16).glb.recovery = false ∧ (runs 0 0x0001#16).lcNow ≠ .provisioned)
      ∧ (Runs 0 0x0001#16 full32 ∧ 32 ≤ full32.mbx.sessions.length ∧ full32.mbxTransport 0 = some .pcie)
      ∧ (Runs 0 0x0002#16 auth1 ∧ auth1.session? 1 = some { transport := .pcie, requested := 0x06#8, cred := 7 }
          ∧ auth1.credFor { transport := .pcie, requested := 0x06#8, cred := 7 } = some { id := 7, mask := 0x04#8 }
          ∧ (0x06#8 &&& 0x04#8 &&& ~~~(0x06#8 &&& auth1.freeMask .pcie)) ≠ 0
          ∧ 0x06#8 &&& auth1.freeMask .pcie ≠ 0)
      ∧ (Runs 0 0x0003#16 (runs 0 0x0003#16) ∧ (runs 0 0x0003#16).session? 1 = some ses1
          ∧ (runs 0 0x0003#16).mbx.sessions.all (fun e => e.2.closing.isNone) = true
          ∧ (runs 0 0x0003#16).mbx.boxes.all (fun e => e.1 = 0 ∨ e.2.owner ≠ 1) = true)
      ∧ (Runs 0 0x0004#16 (runs 0 0x0004#16) ∧ (runs 0 0x0004#16).session? ((runs 0 0x0004#16).box 0).req.session.toNat = some ses1)
      ∧ ((atNs 300000000000 (runs 0 0)).session? 1 = some ses1 ∧ 300000000000 ≤ (atNs 300000000000 (runs 0 0)).elt
          ∧ (runs 0 0).elt < 300000000000) := by decide

/-! ### TransactionsOpenStageAndEnd -/

theorem wit_TransactionsOpenStageAndEnd :
    (Runs 0 0x0101#16 (runs 0 0x0101#16) ∧ (runs 0 0x0101#16).mirrored ((runs 0 0x0101#16).box 0).req = true
        ∧ (runs 0 0x0101#16).session? 1 = some ses1 ∧ ((runs 0 0x0101#16).box 0).req.session.toNat = 1
        ∧ ses1.expired = false ∧ ses1.txn = none)
      ∧ (Runs 0 0x0101#16 (txnRuns 0x0101#16) ∧ (txnRuns 0x0101#16).mirrored ((txnRuns 0x0101#16).box 0).req = true
        ∧ (txnRuns 0x0101#16).session? 1 = some { ses1 with txn := some txn1 })
      ∧ (Runs 0 0x0101#16 ((runs 0 0x0101#16).delSession 1) ∧ ((runs 0 0x0101#16).delSession 1).session? 1 = none)
      ∧ (Runs 0 0x0101#16 ((runs 0 0x0101#16).setSession 1 { ses1 with expired := true }))
      ∧ (Runs 0 0x0103#16 (txnRuns 0x0103#16) ∧ (txnRuns 0x0103#16).committing 1 0 = [])
      ∧ Runs 0 0x0103#16 (runs 0 0x0103#16)
      ∧ (Runs 0 0x0105#16 (txnRuns 0x0105#16) ∧ MayStage (txnRuns 0x0105#16) 0 { ses1 with txn := some txn1 } txn1
        ∧ (txnRuns 0x0105#16).mayHold txn1 (heldBytes txn1.cfg [] (tset txn1.objs 0 ((tget txn1.objs 0 {}).put 0 [1]))) = true)
      ∧ (let b : Txn := { txn1 with changed := [0x0A0000], objs := [(9, { ranges := [(0, 1073741824)] })] }
         b.cfg = txn1.cfg ∧ (txnRuns 0x0105#16).mayHold b (heldBytes b.cfg [] (tset b.objs 0 ((tget b.objs 0 {}).put 0 [1]))) = false)
      ∧ ((atNs 600000000000 (txnRuns 0)).session? 1 = some { ses1 with txn := some txn1 }
        ∧ txn1.lastNs + 600000000000 ≤ (atNs 600000000000 (txnRuns 0)).elt ∧ (txnRuns 0).elt < 600000000000)
      ∧ Runs 0 0x1103#16 (runs 0 0x1103#16) := by decide

/-! ### CommitsAreScheduledOrRefused -/

theorem wit_CommitsAreScheduledOrRefused :
    (Runs 0 0x0102#16 (txnRuns 0x0102#16) ∧ MayStage (txnRuns 0x0102#16) 0 { ses1 with txn := some txn1 } txn1
        ∧ (txnRuns 0x0102#16).brd.level < 3 ∧ txn1.base = (txnRuns 0x0102#16).newestGen
        ∧ (txnRuns 0x0102#16).sched.length < 2 ∧ (txnRuns 0x0102#16).paired = false)
      ∧ (let s := { txnRuns 0x0102#16 with brd := { (txnRuns 0x0102#16).brd with level := 3 } }
         Runs 0 0x0102#16 s ∧ MayStage s 0 { ses1 with txn := some txn1 } txn1 ∧ 3 ≤ s.brd.level)
      ∧ (let s := { txnRuns 0x0102#16 with gen := 1 }
         Runs 0 0x0102#16 s ∧ MayStage s 0 { ses1 with txn := some txn1 } txn1 ∧ txn1.base ≠ s.newestGen)
      ∧ (let s := { txnRuns 0x0102#16 with sched := [{ frame := 3, gen := 0, cfg := {} }, { frame := 4, gen := 0, cfg := {} }] }
         Runs 0 0x0102#16 s ∧ MayStage s 0 { ses1 with txn := some txn1 } txn1 ∧ txn1.base = s.newestGen
           ∧ 2 ≤ s.sched.length) := by decide
theorem wit_commit_rules : commitRules (txnRuns 0x0102#16) txn1.cfg = .ok () := by decide
theorem wit_commit_admitted : admission txn1.cfg (txnRuns 0x0102#16).pool = none := by decide +kernel
theorem wit_commit_pair :
    let s := pairRuns 0x0102#16
    Runs 0 0x0102#16 s ∧ MayStage s 0 { ses1 with transport := .peer, txn := some txn1 } txn1 ∧ s.brd.level < 3
      ∧ txn1.base = s.newestGen ∧ s.sched.length < 2 ∧ s.paired = true ∧ s.pair.role = .shadow := by decide
theorem wit_commit_pair_rules : commitRules (pairRuns 0x0102#16) txn1.cfg = .ok () := by decide
theorem wit_commit_pair_admitted : admission txn1.cfg (pairRuns 0x0102#16).pool = none := by decide +kernel
theorem wit_commit_pair_hash : (pairRuns 0x0102#16).configHash txn1.cfg
    = ({ hash := (pairRuns 0x0102#16).configHash txn1.cfg } : PeerCommit).hash := rfl
/-- Two hashes differ from each other, so that one of them differs from any third. -/
theorem wit_commit_pair_other (h : Digest) : h ≠ ({ hash := ~~~h } : PeerCommit).hash := by
  intro e
  have := congrArg (fun d : Digest => d.getLsbD 0) e
  simp at this
theorem wit_image : Runs 0 0x0104#16 imgRuns ∧ MayStage imgRuns 0 { ses1 with txn := some txn1 } txn1 := by decide
theorem wit_image_bulk : imgRuns.bulk 0 0 = some imgBytes := by
  show (StageObj.put {} 0 imgBytes).whole = some imgBytes
  have h : imgBytes.length = 192 := by decide +kernel
  have r := mread_mwrite [] 0 imgBytes
  rw [h] at r
  simp only [StageObj.put, StageObj.whole, h, addRange]
  exact congrArg some r
theorem unle_le (n v : Nat) : unle (le n v) = v % 256 ^ n := by
  induction n generalizing v with
  | zero => simp [le, unle, Nat.mod_one]
  | succ n ih =>
    have e : (256 : Nat) ^ (n + 1) = 256 * 256 ^ n := by rw [Nat.pow_succ, Nat.mul_comm]
    rw [e, Nat.mod_mul]
    simp only [le, unle, ih, BitVec.toNat_ofNat]
theorem wit_image_hash : (readHeader imgBytes).hash = imageHash imgBytes := by
  have hl : (be 48 (Config.sha384 (imgA ++ List.replicate 48 0 ++ imgB)).toNat).length = 48 := by decide +kernel
  have ha : imgA.length = 48 := by decide +kernel
  have h1 : slice imgBytes 0x30 48 = be 48 (Config.sha384 (imgA ++ List.replicate 48 0 ++ imgB)).toNat := by
    unfold slice imgBytes
    rw [List.drop_left' ha, List.take_left' hl]
  have h2 : imageHash imgBytes = Config.sha384 (imgA ++ List.replicate 48 0 ++ imgB) := by
    unfold imageHash
    have e1 : imgBytes.take 0x30 = imgA := by unfold imgBytes; rw [List.take_left' ha]
    have e2 : imgBytes.drop 0x60 = imgB := by
      unfold imgBytes
      rw [← List.append_assoc, List.drop_left' (by rw [List.length_append, ha, hl])]
    rw [e1, e2]
  show BitVec.ofNat 384 (unbe (slice imgBytes 0x30 48)) = _
  rw [h1, h2, unbe, be, List.reverse_reverse, unle_le]
  have : (256 : Nat) ^ 48 = 2 ^ 384 := by decide
  rw [this, Nat.mod_eq_of_lt (BitVec.isLt _)]
  simp
theorem wit_image_container : checkContainer imgBytes imgRuns.vcode 192 = .ok () := by
  have d : readDir imgBytes = [{ type := 12, version := 1, flags := 0, offset := 192, length := 0, crc := crc32c [] }] := by decide +kernel
  have c1 : (readHeader imgBytes).magic = 0x49505848#32 := by decide +kernel
  have c2 : (readHeader imgBytes).major = 3 ∧ (readHeader imgBytes).headerLen = 128 ∧ (readHeader imgBytes).clean = true := by
    decide +kernel
  have c3 : (readHeader imgBytes).imageLen = 192 ∧ imgBytes.length = 192 := by decide +kernel
  have c4 : variantFits imgRuns.vcode (readHeader imgBytes).minVariant = true := by decide +kernel
  have c5 : (readHeader imgBytes).sections = 1 ∧ (readHeader imgBytes).dirOffset = 128 := by decide +kernel
  have c6 : crc32c (slice imgBytes 192 0) = crc32c [] := by decide +kernel
  simp [checkContainer, need, d, c1, c2, c3, c4, c5, c6, wit_image_hash, imageParts, rangesApart, nodupB, DirEntry.known]
  rfl
theorem wit_image_stages : stageImage imgRuns 1 imgBytes (bitOf ses1.granted 3) txn1.cfg = .ok txn1.cfg := by decide +kernel
theorem wit_image_fails : checkContainer [] imgRuns.vcode 192 = .error .imgBadMagic := by decide +kernel

/-! ### ClaimReturnsTheHighestPresentable -/

theorem wit_ClaimReturnsTheHighestPresentable :
    (ownPath 0 = some .pcie ∧ tfrom 0 oneSrc.evc.src = true ∧ oneSrc.evc.presentable 0 = [(8, { prio := 3, vec := 2 })])
      ∧ State.reset.evc.presentable 0 = []
      ∧ (ownPath 0 ≠ some .groom ∧ tfrom 0 claimed.evc.src = true
          ∧ claimed.evc.actives 0 = [(8, { prio := 3, vec := 2 })]) ∧ State.reset.evc.actives 0 = [] := by decide

/-! ### VectorClaimsAndCompletions -/

theorem wit_VectorClaimsAndCompletions :
    (oneSrc.evc.presentable 0 = [(8, { prio := 3, vec := 2 })] ∧ (2#5).toNat = 2 ∧ tfrom 0 oneSrc.evc.src = true)
      ∧ ((oneSrc.evc.presentable 0).all (fun x => x.2.vec.toNat ≠ 31) = true)
      ∧ (ownPath 0 = some .pcie ∧ tfind? (claimed.evc.srcAt 8).act 0 = some { prio := 3, vec := 2 }
          ∧ tfind? (claimed.evc.srcAt 9).act 0 = none ∧ ownPath 0 ≠ some .groom ∧ claimed.glb.acc.valid = false) := by decide

/-! ### EventControllerRegisters -/

theorem wit_EventControllerRegisters :
    (255 < 256 ∧ 3 < 4 ∧ (oneSrc.evc.srcAt 8).pends 0 = true
        ∧ tfind? (oneSrc.evc.srcAt 8).pend 0 = some { prio := 3, vec := 2 })
      ∧ ((heldTgt.evc.tgtAt 0).running = true ∧ (heldTgt.evc.tgtAt 0).modUs ≠ 0
        ∧ 1000 * (heldTgt.evc.tgtAt 0).modUs.toNat ≤ (heldTgt.evc.tgtAt 0).age)
      ∧ (State.reset.evc.tgtAt 0).running = false ∧ 31 < 32 ∧ tfrom 0 oneSrc.evc.src = true
      ∧ (bitOf (0x00010001#32) 0 = true ∧ bitOf (0x00010000#32) 0 = false ∧ bitOf (0x00010000#32) 16 = true) := by decide

/-! ### FrameBoundaryAndGate -/

theorem wit_FrameBoundaryAndGate : 24000 ≤ ({} : YmCfg).num ∧ ({} : YmCfg).num ≤ 240000
    ∧ 240000 ≤ ({ rate := 0x8003A980#32 } : YmCfg).num ∧ ({ rate := 0x8003A980#32 } : YmCfg).num ≤ 240000
    ∧ bitOf (0x8003A980#32) 31 = true := by decide
theorem wit_FrameBoundaryAndGate_b :
    (boundaryDue up0 = true ∧ up0.sched = [])
      ∧ (let s : State := { up0 with sched := [{ frame := 0, gen := 1, cfg := {} }] }
         boundaryDue s = true ∧ s.ym.noRelease = false ∧ s.brd.hold = none ∧ s.brd.level < 3 ∧ s.brd.cal.quiet = none)
      ∧ boundaryDue State.reset = false
      ∧ (inFlight.ym.flights = [{ n := 1 }] ∧ inFlight.glb.clk.rootLock = true ∧ inFlight.glb.faulted = false
          ∧ inFlight.brd.dark = false ∧ (inFlight.cfgFor 1).ym.ptAt 1 ≤ inFlight.elt)
      ∧ State.reset.ym.flights = [] := by decide

/-! ### CutsArmFireAndReject -/

theorem wit_CutsArmFireAndReject :
    (Runs 0 0x0901#16 (cutDev (runs 0 0x0901#16)) ∧ (cutDev (runs 0 0x0901#16)).mirrored ((cutDev (runs 0 0x0901#16)).box 0).req = true
        ∧ (cutDev (runs 0 0x0901#16)).cutRec 3 = some cut3 ∧ cut3.lines.any (noCutPort (cutDev (runs 0 0x0901#16))) = false
        ∧ (cutDev (runs 0 0x0901#16)).cutFlows cut3 = [] ∧ (cutDev (runs 0 0x0901#16)).cutRec 4 = none
        ∧ (cutDev (runs 0 0x0901#16)).ym.arming.all (fun a => a.cut ≠ 3) = true)
      ∧ ((cutFlowDev (runs 0 0x0901#16)).cutFlows cut3 ≠ [] ∧ (cutFlowDev (runs 0 0x0901#16)).cutRec 3 = some cut3
          ∧ Runs 0 0x0901#16 (cutFlowDev (runs 0 0x0901#16)))
      ∧ (armingDev.ym.arming.find? (fun a => a.mailbox = 0) = some { cut := 3, mailbox := 0, waiting := [], deadline := 0 }
          ∧ Live 0 armingDev ∧ armingDev.waits 0 0x0901#16 = true ∧ 0 ≤ armingDev.elt)
      ∧ Runs 0 0x0902#16 (cutDev (runs 0 0x0902#16))
      ∧ (Runs 0 0x0903#16 (cutDev (runs 0 0x0903#16)) ∧ 3 ∈ (cutDev (runs 0 0x0903#16)).ym.armed
          ∧ (cutDev (runs 0 0x0903#16)).ym.firedNow < (cutDev (runs 0 0x0903#16)).perFrame ∧ bitOf cut3.triggers 4 = true
          ∧ 5 ∉ (cutDev (runs 0 0x0903#16)).ym.armed)
      ∧ (bitOf (0x80000003#32) 31 = true ∧ fld (0x80000003#32) 5 0 = 3 ∧ bitOf (3#32) 31 = false)
      ∧ (let s := cutDev State.reset
         { s with ym := { s.ym with firedNow := 2 } }.perFrame ≤ { s with ym := { s.ym with firedNow := 2 } }.ym.firedNow
          ∧ bitOf ({ cut3 with triggers := 1 } : Cut).triggers 4 = false
          ∧ { s with pair := { s.pair with st := .inSync } }.paired = true ∧ s.paired = false) := by decide

/-! ### CaptureTakesOneInstant -/

theorem wit_CaptureTakesOneInstant : bitOf (1#32) 0 = true ∧ bitOf (2#32) 0 = false ∧ boundaryDue up0 = true := by decide

/-! ### TimeStepsTriggersAndTimeouts -/

theorem wit_TimeStepsTriggersAndTimeouts :
    (let s : State := { State.reset with tim := { State.reset.tim with carry := true } }
     s.tim.carry = true ∧ State.reset.tim.carry = false)
      ∧ (let s := runs 0 0x0304#16
         Runs 0 0x0304#16 s ∧ s.mirrored (s.box 0).req = true ∧ s.pair.role ≠ .shadow ∧ ((2 ^ 62 : Int)).natAbs ≤ 2 ^ 62
           ∧ s.tim.forced = none ∧ s.tim.st ≠ .unset ∧ s.sched.any (fun c => retimes s.cfg c.cfg) = false
           ∧ 24000 ≤ s.cfg.ym.num)
      ∧ (let s := { runs 0 0x0304#16 with tim := { State.reset.tim with measAt := some 0 } }
         Runs 0 0x0304#16 s ∧ s.tim.measAt = some 0 ∧ s.elt ≤ 0 + 2000000000 ∧ s.tim.forced = none)
      ∧ (let s := { (runs 15 0x0304#16).setSession 1 { ses1 with transport := .peer } with
                      pair := { State.reset.pair with role := .shadow } }
         Runs 15 0x0304#16 s ∧ s.mirrored (s.box 15).req = true ∧ s.pair.role = .shadow)
      ∧ (2 ^ 62 < ((2 ^ 62 + 1 : Int)).natAbs)
      ∧ (let s := { runs 0 0x0304#16 with tim := { State.reset.tim with forced := some { m := 4, ns := 1 } } }
         Runs 0 0x0304#16 s ∧ s.tim.forced.isSome = true)
      ∧ (runs 0 0x0304#16).tim.measAt = none
      ∧ (let s := { runs 0 0x0304#16 with tim := { State.reset.tim with st := .unset } }
         Runs 0 0x0304#16 s ∧ s.tim.st = .unset ∧ State.reset.tim.st ≠ .unset
           ∧ ({ s.tim with first := some 7 } : Tim).first = some 7 ∧ s.tim.first = none)
      ∧ (let s : State := { State.reset with tim := { State.reset.tim with arm := true } }
         s.tim.arm = true ∧ s.tim.trig.toNat ≤ s.elt ∧ State.reset.tim.arm = false)
      ∧ (let s : State := { State.reset with pair := { State.reset.pair with role := .shadow, lane0 := true, st := .inSync } }
         s.pair.role = .shadow ∧ s.pair.lane0 = true ∧ s.pair.st = .inSync ∧ State.reset.pair.role ≠ .shadow)
      ∧ (locked1.alignSrc = 1 ∧ locked1.tim.incAt + 2000000000 ≤ locked1.elt ∧ locked1.tim.st = .locked
          ∧ State.reset.alignSrc = 0)
      ∧ (let s : State := { locked1 with tim := { locked1.tim with st := .holdover, holdAt := some 0 } }
         s.tim.holdAt = some 0 ∧ s.tim.st = .holdover ∧ s.tim.holdOver = false ∧ 0 + s.holdoverS * 1000000000 < s.elt) := by decide

/-! ### PtpPortAndHouseSync -/

theorem wit_PtpPortAndHouseSync :
    (slave1.ptpOn = true ∧ slave1.tim.port = .slave ∧ slave1.tim.gmId ≠ 5 ∧ slave1.ptpSlaveOnly = false
        ∧ slave1.tim.best = none ∧ slave1.tim.delayOut = some 3 ∧ slave1.tim.delayOut ≠ some 4 ∧ slave1.alignSrc = 1 ∧ slave1.tim.st = .locked)
      ∧ (State.reset.ptpOn = false ∧ State.reset.tim.port ≠ .slave ∧ State.reset.tim.gmId = 0)
      ∧ (let s : State := { slave1 with tim := { slave1.tim with port := .master } }
         s.ptpOn = true ∧ s.tim.port = .master ∧ s.tim.port ≠ .slave ∧ s.tim.gmId = 0)
      ∧ (let s : State := { slave1 with tim := { slave1.tim with port := .listening, st := .free } }
         s.ptpOn = true ∧ s.tim.port = .listening ∧ s.ptpSlaveOnly = false ∧ s.tim.st ≠ .acquiring ∧ s.tim.st ≠ .locked)
      ∧ (let s : State := { slave1 with cfg := { slave1.cfg with eth := (portDev {}).cfg.eth }, eth := (portDev {}).eth }
         s.ptpOn = true ∧ s.tim.port = .slave ∧ s.portOn s.ptpPort = true ∧ (s.port s.ptpPort).link = true)
      ∧ (slave1.tim.annAt + slave1.receipt * intervalNs slave1.annLog ≤ slave1.elt
          ∧ slave1.tim.syncAt + 4 * intervalNs slave1.syncLog ≤ slave1.elt)
      ∧ (State.reset.elt < State.reset.tim.annAt + State.reset.receipt * intervalNs State.reset.annLog
          ∧ State.reset.elt < State.reset.tim.syncAt + 4 * intervalNs State.reset.syncLog)
      ∧ (house0.alignSrc = 2 ∧ fld house0.cfg.time.align 27 27 = 0 ∧ house0.tim.st = .locked ∧ State.reset.alignSrc < 2
          ∧ ({ house0.tim with edge0 := some 0 } : Tim).edge0 = some 0 ∧ 0 + 3 * house0.edgePeriod < house0.elt
          ∧ house0.tim.edge0 = none)
      ∧ (house0.cfg.ym.cuts = [{ cut3 with triggers := 1 }] ∧ bitOf (1#16) 0 = true ∧ 3 ∈ house0.ym.armed
          ∧ house0.ym.firedNow < house0.perFrame) := by decide +kernel
/-- An Announce of domain 0 with a priority1, its grandmaster the sender. -/
def ann (p1 : Byte) (gm : DWord) : Announce := { priority1 := p1, gm := gm, sender := gm }
/-- The slave with SLAVE_ONLY. -/
def slave2 : State :=
  { slave1 with cfg := { slave1.cfg with time := { slave1.cfg.time with ptp := 0x06000000#32 } } }
theorem wit_PtpPortAndHouseSync_b :
    slave2.ptpOn = true ∧ slave2.ptpSlaveOnly = true ∧ (ann 1 5).domain = (ownAnnounce slave2).domain
      ∧ slave2.tim.best = none ∧ slave2.tim.port = .slave ∧ slave2.tim.gmId ≠ (ann 1 5).gm
      ∧ (ann 255 6).better (ann 254 5) = false ∧ (ann 1 6).better (ann 254 5) = true ∧ (ann 255 6).sender ≠ (ann 254 5).sender
      ∧ (ann 1 5).domain = (ownAnnounce slave1).domain := by decide
/-- A device with priority1 0 is better than another grandmaster with 255. -/
theorem wit_PtpPortAndHouseSync_c : (ownAnnounce slave1).better (ann 255 (~~~Config.clockIdentity)) = true := by
  have h : Config.clockIdentity ≠ ~~~Config.clockIdentity := by
    intro e
    have := congrArg (fun d : DWord => d.getLsbD 0) e
    simp at this
  have p : (ownAnnounce slave1).priority1 = 0 := by decide
  simp only [Announce.better, Announce.rank, ann, p]
  simp [ownAnnounce, h, lower]

/-! ### MeasurementsLockStepAndSlew -/

theorem wit_MeasurementsLockStepAndSlew :
    (slave1.ptpOn = true ∧ slave1.tim.port = .slave ∧ slave1.alignSrc = 1 ∧ slave1.tim.st = .locked
        ∧ ¬(slave1.tim.peerRef = true ∧ slave1.pair.role = .shadow) ∧ slave1.tim.bad = 0)
      ∧ (let s : State := { slave1 with tim := { slave1.tim with st := .acquiring, good := 7 } }
         s.tim.st = .acquiring ∧ s.tim.good = 7 ∧ (0 : Int).natAbs ≤ s.lockLimit)
      ∧ slave1.slewPpm * 1000 < 300000 ∧ slave1.tim.refused = false ∧ slave1.tim.step = none := by decide

/-! ### QueriesAnswerFromTheState -/

theorem wit_QueriesAnswerFromTheState :
    (Runs 0 0x0106#16 (txnRuns 0x0106#16) ∧ (txnRuns 0x0106#16).session? 1 = some { ses1 with txn := some txn1 }
        ∧ ({ ses1 with txn := some txn1 } : Session).txn = some txn1 ∧ ses1.txn = none
        ∧ (runs 0 0x0106#16).session? 1 = some ses1 ∧ txn1.lastNs ≤ (txnRuns 0x0106#16).elt)
      ∧ Runs 0 0x0201#16 (runs 0 0x0201#16) ∧ Runs 0 0x0202#16 (txnRuns 0x0202#16) ∧ Runs 0 0x0202#16 (runs 0 0x0202#16)
      ∧ ((runs 0 0x0202#16).session? ((runs 0 0x0202#16).box 0).req.session.toNat).bind (·.txn) = none
      ∧ (objectBytes {} 0x0E010000).isSome = true ∧ State.reset.hasObject 0x0E010000 = true ∧ objectBytes {} 1 = none
      ∧ Runs 0 0x0204#16 (runs 0 0x0204#16) ∧ Runs 0 0x0205#16 (runs 0 0x0205#16)
      ∧ Runs 0 0x1101#16 (runs 0 0x1101#16) ∧ Runs 0 0x1102#16 (runs 0 0x1102#16)
      ∧ fnLater (entry5 5#32).seq 4 = true ∧ fnLater (entry5 5#32).seq 5 = false
      ∧ Runs 0 0x0904#16 (runs 0 0x0904#16) ∧ Runs 0 0x0305#16 (runs 0 0x0305#16) := by decide
theorem wit_queries_rest :
    Runs 0 0x0A03#16 (runs 0 0x0A03#16) ∧ Runs 0 0x0A06#16 (runs 0 0x0A06#16) ∧ Runs 0 0x0B02#16 (runs 0 0x0B02#16)
      ∧ Runs 0 0x0C03#16 (runs 0 0x0C03#16) ∧ Runs 0 0x0E03#16 (runs 0 0x0E03#16) ∧ Runs 0 0x0203#16 (runs 0 0x0203#16)
      ∧ Runs 0 0x1001#16 (runs 0 0x1001#16) := by decide

/-! ### StatusOfTheDataPathAnswersFromTheState -/

theorem wit_StatusOfTheDataPathAnswersFromTheState :
    Runs 0 0x0508#16 (runs 0 0x0508#16) ∧ bitOf (0x1FF#32) 8 = true ∧ State.reset.isP = true
      ∧ (let s := { runs 0 0x0508#16 with variant := .v8SF }
         Runs 0 0x0508#16 s ∧ s.isP = false)
      ∧ Runs 0 0x0706#16 (runs 0 0x0706#16) ∧ Runs 0 0x0707#16 (runs 0 0x0707#16)
      ∧ (let s := runs 0 0x0883#16
         let u := { s with cfg := { s.cfg with stl := { s.cfg.stl with graph := { s.cfg.stl.graph with tasks := [{ task := 0 }] } } } }
         Runs 0 0x0883#16 u ∧ 0 + 1 ≤ u.cfg.stl.graph.tasks.length)
      ∧ (Runs 0 0x0803#16 (runs 0 0x0803#16) ∧ (1#32).toNat < 2 ^ (runs 0 0x0803#16).nStalls
          ∧ 2 ^ (runs 0 0x0803#16).nStalls ≤ (0x00010000#32).toNat)
      ∧ (let s := runs 0 0x0804#16
         Runs 0 0x0804#16 s ∧ s.paramWindow = false ∧ 0 + 31 ≤ s.nFixtures ∧ s.nFixtures < 131072 + 1
           ∧ { s with ym := { s.ym with lit := some 3, latest := some 3 } }.paramWindow = true)
      ∧ Runs 0 0x0405#16 (runs 0 0x0405#16) ∧ Runs 0 0x0446#16 (runs 0 0x0446#16) ∧ Runs 0 0x0464#16 (runs 0 0x0464#16)
      ∧ Runs 0 0x0463#16 (runs 0 0x0463#16) ∧ 0 < State.reset.nLine := by decide
theorem wit_status_heads_and_rings :
    (Runs 0 0x0542#16 (runs 0 0x0542#16) ∧ (runs 0 0x0542#16).nHeads ≠ 0 ∧ (3#32).toNat < 2 ^ (runs 0 0x0542#16).nHeads
        ∧ 2 ^ (runs 0 0x0542#16).nHeads ≤ (4#32).toNat)
      ∧ (let s := runs 0 0x0543#16
         let u := { s with rst := { s.rst with heads := [(0, { hpd := true, edid := List.replicate 128 (0#8) })] } }
         Runs 0 0x0543#16 u ∧ 0 < u.nHeads ∧ (u.head 0).hpd = true ∧ 128 * (0 + 1) ≤ (u.head 0).edid.length
           ∧ (s.head 0).hpd = false)
      ∧ (let s := runs 0 0x0445#16
         let u := { s with cfg := { s.cfg with eth := { s.cfg.eth with filters := [(0, { rxq := [0x80000000#32] })] } } }
         Runs 0 0x0445#16 u ∧ 0 < u.nEth ∧ fld (rxqCfg u.cfg.eth 0 0) 31 30 = 2 ∧ fld (rxqCfg s.cfg.eth 0 0) 31 30 ≠ 2) := by
  decide

/-! ### CommandsRunOnlyInTheirMailbox -/

theorem wit_CommandsRunOnlyInTheirMailbox :
    cmdOf (.cfgBegin 0) = some (0, 0x0101#16) ∧ State.reset.executes 0 0x0101#16 = false := by decide

/-! ### StagingChangesNothingInEffect -/

theorem wit_StagingChangesNothingInEffect : stagesCmd (.layerOrder 0 true 0) = true
    ∧ exec (.layerOrder 0 true 0) State.reset = .next State.reset := ⟨rfl, rfl⟩

/-! ### StagingNeedsAnOpenTransaction -/

theorem wit_StagingNeedsAnOpenTransaction :
    (stagesCmd (.bridleSet 0 1) = true ∧ cmdOf (.bridleSet 0 1) = some (0, 0x0B01#16) ∧ Runs 0 0x0B01#16 (runs 0 0x0B01#16)
        ∧ (runs 0 0x0B01#16).mirrored ((runs 0 0x0B01#16).box 0).req = true
        ∧ (runs 0 0x0B01#16).session? 1 = some ses1 ∧ ses1.expired = false ∧ ses1.txn = none)
      ∧ (let s := { runs 0 0x0B01#16 with pair := { State.reset.pair with role := .shadow } }
         Runs 0 0x0B01#16 s ∧ s.mirrored (s.box 0).req = false)
      ∧ (let s := (runs 0 0x0B01#16).setSession 1 { ses1 with expired := true }
         Runs 0 0x0B01#16 s ∧ s.mirrored (s.box 0).req = true ∧ s.session? 1 = some { ses1 with expired := true }) := by decide

/-! ### StagingOfTimePairThermalCalibrationTests -/

theorem wit_StagingOfTimePairThermalCalibrationTests :
    (Runs 0 0x0303#16 (txnRuns 0x0303#16) ∧ MayStage (txnRuns 0x0303#16) 0 { ses1 with txn := some txn1 } txn1
        ∧ HasRoom (txnRuns 0x0303#16) 0 [0x03030000] txn1.cfg txn1)
      ∧ (let s := (txnRuns 0x0303#16).setSession 2 { ses1 with txn := some { txn1 with bytes := 1073741825 } }
         Runs 0 0x0303#16 s ∧ MayStage s 0 { ses1 with txn := some txn1 } txn1 ∧ ¬ HasRoom s 0 [0x03030000] txn1.cfg txn1)
      ∧ (let a : Word := 0x10480000#32
         fld a 31 28 ≤ 2 ∧ 1 ≤ fld a 25 22 ∧ fld a 25 22 ≤ 8)
      ∧ (let a : Word := 0x30480320#32
         let w : Word := 48000#32
         fld a 31 28 = 3 ∧ 1 ≤ fld a 21 19 ∧ fld a 21 19 ≤ 5 ∧ 1 ≤ fld w 17 0 ∧ fld w 17 0 ≤ 192000
           ∧ fld a 17 0 * 1000000000 * txn1.cfg.ym.num = fld a 21 19 * fld w 17 0 * txn1.cfg.ym.tNum)
      ∧ (let p : PtpSet := { ptp := 0x04000080#32, receipt := some 10, syncLog := some (-7) }
         fld p.ptp 23 20 < State.reset.nEth ∧ fld p.ptp 31 28 ≤ 2 ∧ fld p.ptp 15 8 ≤ 127 ∧ inRange p.syncLog (-7) 1 = true
           ∧ inRange p.annLog (-3) 3 = true ∧ inRange p.delayLog (-7) 3 = true)
      ∧ ({ State.reset with variant := .v2SC } : State).nEth ≤ fld (0x00F00000#32) 23 20
      ∧ (let p : PairCfg := { cfg := 0x80030000#32, swap := 3600 }
         fld p.cfg 30 29 ≠ 3 ∧ fld p.cfg 23 16 ≠ 0 ∧ 3600 ≤ p.swap.toNat
           ∧ p.swap.toNat ≤ 604800 ∧ State.reset.isP = true ∧ bitOf p.cfg 31 = true
           ∧ ({ runs 0 0x0A01#16 with variant := .v2SC } : State).isP = false)
      ∧ (1 ≤ fld (300#32) 8 0 ∧ fld (300#32) 8 0 ≤ 300)
      ∧ (2 ≤ fld (2#32) 5 0 ∧ fld (2#32) 5 0 ≤ 32)
      ∧ (let w : Word := 0x0103C00A#32
         1 ≤ fld w 30 24 ∧ fld w 30 24 ≤ 168 ∧ 60 ≤ fld w 23 12 ∧ 10 ≤ fld w 11 0) := by decide
theorem wit_staging_opcodes_0 :
    Runs 0 0x0301#16 (txnRuns 0x0301#16) ∧ Runs 0 0x0302#16 (txnRuns 0x0302#16) ∧ Runs 0 0x0A01#16 (txnRuns 0x0A01#16)
      ∧ Runs 0 0x0B01#16 (txnRuns 0x0B01#16) ∧ Runs 0 0x0C01#16 (txnRuns 0x0C01#16) ∧ Runs 0 0x0E01#16 (txnRuns 0x0E01#16)
      ∧ MayStage (txnRuns 0x0E01#16) 0 { ses1 with txn := some txn1 } txn1 ∧ HasRoom (txnRuns 0x0E01#16) 0 [0x0E010000] txn1.cfg txn1
      ∧ ({ variant := .v2SC } : State).nEth ≤ fld (0x00F00000#32) 23 20 := by decide

/-! ### StagingOfTheCanvasAndLayers -/

theorem wit_StagingOfTheCanvasAndLayers :
    (Runs 0 0x0503#16 (txnRuns 0x0503#16) ∧ MayStage (txnRuns 0x0503#16) 0 { ses1 with txn := some txn1 } txn1
        ∧ HasRoom (txnRuns 0x0503#16) 0 [0x000A0000] txn1.cfg txn1)
      ∧ 16777216 < canvasW { size := 0x40004000#32 } * canvasH { size := 0x40004000#32 }
      ∧ Runs 0 0x0502#16 (txnRuns 0x0502#16) ∧ fld (8#32) 3 0 = 8 ∧ fld (0x33#32) 7 4 = fld (0x33#32) 3 0
      ∧ 8 ∉ listed 0x76543210#32 ∧ 8 ∈ listed 0xFFFFFFF8#32
      ∧ Runs 0 0x0501#16 (txnRuns 0x0501#16) ∧ (txnRuns 0x0501#16).isP = true
      ∧ ((txnRuns 0x0501#16).box 0).req.cls = some .engineer ∧ bitOf ({} : LayerRegs).opac 31 = false
      ∧ (let s := { safetyRuns 0x0501#16 with variant := .v4SF }
         Runs 0 0x0501#16 s ∧ (s.box 0).req.cls = some .safety ∧ s.isP = false ∧ s.nFixtures ≤ fld (0x007FFFFF#32) 22 6)
      ∧ (let s := (safetyRuns 0x0501#16)
         Runs 0 0x0501#16 s ∧ MayStage s 0 { ses1 with txn := some txn1 } txn1 ∧ (s.box 0).req.cls = some .safety)
      ∧ Runs 0 0x0504#16 (txnRuns 0x0504#16) ∧ inputOk {} = true ∧ ({} : InputRec).port < (txnRuns 0x0504#16).nEth
      ∧ ({ variant := .v2SC } : State).nEth ≤ ({ port := 15 } : InputRec).port
      ∧ ({ enable := true, width := 1 } : InputRec).width < 2
      ∧ Runs 0 0x0506#16 (heldRuns 0x0506#16 [1, 2, 3, 4]) ∧ frameBytes 0 1 1 = 4
      ∧ MayStage (heldRuns 0x0506#16 [1, 2, 3, 4]) 0 { ses1 with txn := some (heldTxn [1, 2, 3, 4]) } (heldTxn [1, 2, 3, 4])
      ∧ protectedIndex (heldTxn []).cfg.comp ≠ some 0 ∧ protectedIndex State.reset.cfg.comp ≠ some 0
      ∧ protectedIndex { layers := [(8, { ctrl := 0x30000000#32 })] } = some 0
      ∧ Runs 0 0x0507#16 (txnRuns 0x0507#16) := by decide
theorem wit_layers_still : (heldRuns 0x0506#16 [1, 2, 3, 4]).bulk 0 1 = some [1, 2, 3, 4] := heldRuns_bulk _ _
theorem wit_layers_rules : compCheck {} false = .ok () ∧ compCheck { order := 0x76543210#32 } false = .ok ()
    ∧ compCheck { layers := [(8, {})] } false = .ok () ∧ compCheck { inputs := [(7, {})] } false = .ok () := by decide
theorem wit_layers_coefs : coefOk { phases := List.replicate 64 ([16384, 0, 0, 0, 0, 0, 0, 0] ++ [16384, 0, 0, 0, 0, 0, 0, 0] ++ [16384, 0, 0, 0]) } = true := by
  decide

/-! ### StagingOfTheMapAndLamps -/

theorem wit_StagingOfTheMapAndLamps :
    (Runs 0 0x0601#16 (txnRuns 0x0601#16) ∧ MayStage (txnRuns 0x0601#16) 0 { ses1 with txn := some txn1 } txn1
        ∧ HasRoom (txnRuns 0x0601#16) 0 [0x00020000] { txn1.cfg with map := { txn1.cfg.map with map := mapOne } } txn1
        ∧ mapRules (txnRuns 0x0601#16).nPixels (txnRuns 0x0601#16).nFixtures [] [] false mapOne = .ok ()
        ∧ (({ segs := [], recs := [{}] } : PixMap).segs = [] ∧ ({ segs := [], recs := [{}] } : PixMap).recs ≠ []))
      ∧ (Runs 0 0x0605#16 (txnRuns 0x0605#16) ∧ mapRules 10 10 [] [] false (patchMap mapOne [(0, { fixture := 3, group := 0x7FF })]) = .ok ())
      ∧ (Runs 0 0x0602#16 (txnRuns 0x0602#16) ∧ modelRules [] false 255 { emitters := 8, intensity := 31 } = .ok ()
          ∧ modelSlots (txnRuns 0x0602#16) 1 { map := { models := [(255, { emitters := 8, intensity := 31 })] } } = true)
      ∧ (Runs 0 0x0603#16 (txnRuns 0x0603#16) ∧ curveSlots (txnRuns 0x0603#16) 1 { map := { curves := [(63, [])] } } = true
          ∧ (0x1000001 : Nat) ∈ [0x1000001])
      ∧ (Runs 0 0x0604#16 (txnRuns 0x0604#16) ∧ 100 ≤ fld (10000#32) 15 0 ∧ fld (10000#32) 15 0 ≤ 10000
          ∧ bitOf (0xFFFF#32) 31 = false ∧ fld (99#32) 15 0 < 100
          ∧ ({ variant := .v2SC } : State).nFixtures ≤ fld (0x007FFFFF#32) 22 6)
      ∧ (Runs 0 0x0701#16 (txnRuns 0x0701#16)
          ∧ ([(4095, { flux := 65535, valid := true, matrix := List.replicate 64 (-32768) })] : List (Nat × BinRec)).all binOk = true
          ∧ binSlots (txnRuns 0x0701#16) 1 { lamp := { bins := [(4095, { flux := 65535, valid := true, matrix := [] })] } } = true)
      ∧ Runs 0 0x0702#16 (txnRuns 0x0702#16) := by decide
theorem wit_map_load : (heldRuns 0x0601#16 (mapSection mapOne)).bulkAs 0 1 readMap = .ok mapOne
    ∧ (heldRuns 0x0601#16 []).bulkAs 0 1 readMap = .error .badParam := by
  simp only [heldRuns_bulkAs]; decide +kernel
/-- The header of model 255: 8 emitters, INTENSITY 31; the rest 0. -/
def modelHead : List Byte := le 2 255 ++ le 1 8 ++ le 1 0 ++ le 1 31 ++ le 59 0
theorem readNodes_zeros (n i k : Nat) : readNodes n i (List.replicate k 0) = [] := by
  induction n generalizing i k with
  | zero => rfl
  | succ n ih => simp [readNodes, List.take_replicate, List.drop_replicate]; exact ih _ _
theorem wit_map_model : (heldRuns 0x0602#16 (List.replicate 78608 0)).bulkAs 0 1 (fun bs => readModel (modelHead ++ bs))
    = .ok (255, { emitters := 8, intensity := 31, knee := 0, curves := List.replicate 8 0, power := List.replicate 8 0 }) := by
  rw [heldRuns_bulkAs]
  show readModel (modelHead ++ List.replicate 78608 (0 : Byte)) = _
  have hh : modelHead.length = 64 := by decide
  have hl : (modelHead ++ List.replicate 78608 (0 : Byte)).length = 78672 := by
    rw [List.length_append, hh, List.length_replicate]
  have hd : (modelHead ++ List.replicate 78608 (0 : Byte)).drop 64 = List.replicate 78608 0 := List.drop_left' hh
  have sl (o n : Nat) (h : o + n ≤ 64) : slice (modelHead ++ List.replicate 78608 (0 : Byte)) o n = slice modelHead o n := by
    unfold slice
    rw [List.drop_append_of_le_length (by omega), List.take_append_of_le_length (by simp [hh]; omega)]
  have c1 : clear (modelHead ++ List.replicate 78608 (0 : Byte)) 78672 48 = true := by
    unfold clear slice; rw [List.drop_eq_nil_of_le (by omega)]; rfl
  have c2 : clear modelHead 0x20 32 = true ∧ num modelHead 3 1 = 0 := by decide
  simp only [readModel, need, num, clear, hl, hd, sl _ _ (by omega : 3 + 1 ≤ 64), sl _ _ (by omega : 0x20 + 32 ≤ 64),
    sl _ _ (by omega : 0 + 2 ≤ 64), sl _ _ (by omega : 2 + 1 ≤ 64), sl _ _ (by omega : 4 + 1 ≤ 64),
    sl _ _ (by omega : 5 + 1 ≤ 64), sl _ _ (by omega : 6 + 2 ≤ 64), sl _ _ (by omega : 8 + 8 ≤ 64),
    sl _ _ (by omega : 16 + 16 ≤ 64), readNodes_zeros]
  simp only [clear] at c1
  rw [c1]
  decide +kernel
theorem wit_lamp_staging :
    (Runs 0 0x0703#16 (txnRuns 0x0703#16)
        ∧ ([(1023, group1)] : List (Nat × Group)).all groupOk = true ∧ groupsApart [(1023, group1)] = true
        ∧ groupsClear [] [(1023, group1)] = true ∧ diagnosed [(1023, group1)] {} ≤ 65536
        ∧ ([(1, group1), (2, group1)] : List (Nat × Group)).all groupOk = true ∧ groupsApart [(1, group1), (2, group1)] = false
        ∧ ({ group1 with tMeasUs := 15000, period := 100 } : Group).period * 1000 < 15000 * 4000)
      ∧ (Runs 0 0x0704#16 (txnRuns 0x0704#16) ∧ fld (0x10000#32) 16 0 ≤ 0x10000 ∧ 10 ≤ fld (10#32) 15 0
          ∧ 1 ≤ fld (0x00190064#32) 31 16 ∧ 100 ≤ fld (0x00190064#32) 15 0
          ∧ fld (0x00190064#32) 31 16 * 4000 ≤ fld (0x00190064#32) 15 0 * 1000) := by decide
theorem wit_lamp_groups : (heldRuns 0x0703#16 (groupBytes 32 (1023, group1) ++ le 4 4 ++ le 4 9)).bulkAs 0 1 (readGroups 1)
    = .ok [(1023, group1)] := by
  rw [heldRuns_bulkAs]; decide +kernel

/-! ### StagingOfTasksProgramsAndFlows -/

theorem wit_StagingOfTasksProgramsAndFlows :
    (Runs 0 0x0880#16 (txnRuns 0x0880#16) ∧ MayStage (txnRuns 0x0880#16) 0 { ses1 with txn := some txn1 } txn1
        ∧ HasRoom (txnRuns 0x0880#16) 0 [0x00080000] txn1.cfg txn1)
      ∧ Runs 0 0x0881#16 (txnRuns 0x0881#16) ∧ bitOf (5#32) 1 = false ∧ bitOf (2#32) 1 = true
      ∧ Runs 0 0x0801#16 (txnRuns 0x0801#16) ∧ fixtureOk { slots := 64 } = true ∧ fixtureOk { slots := 65 } = false
      ∧ (txnRuns 0x0801#16).nFixtures = 131072
      ∧ Runs 0 0x0802#16 (txnRuns 0x0802#16) ∧ binaryOk (256, { code := [0#32] }) = false
      ∧ Runs 0 0x0401#16 (txnRuns 0x0401#16) ∧ Runs 0 0x0402#16 (txnRuns 0x0402#16) ∧ Runs 0 0x0403#16 (txnRuns 0x0403#16)
      ∧ Runs 0 0x0404#16 (txnRuns 0x0404#16) ∧ txn1.cfg.stl.graph.tasks = [] := by decide
theorem wit_graph_rules : graphRules 16 {} = .ok () ∧ graphTackCross {} false = .ok () ∧ graphHwCross {} false = .ok () := by decide
theorem wit_graph_refused : graphRules 16 { tasks := [{ task := 1 }] } = .error .badParam := by decide
theorem wit_tack_rules : tackRules (txnRuns 0x0802#16) {} = .ok () ∧ placeTack (txnRuns 0x0802#16) {} = .ok {} := by decide
theorem wit_graph_held : (heldRuns 0x0880#16 (graphSection {})).bulkAs 0 1 readGraph = .ok {}
    ∧ (heldRuns 0x0880#16 []).bulkAs 0 1 readGraph = .error .badParam := by
  simp only [heldRuns_bulkAs]; decide +kernel
theorem wit_fixtures_held : (heldRuns 0x0801#16 (fixturesSection [(5, { slots := 2, init := [1, 2] })])).bulkAs 0 1 readFixtures
      = .ok [(5, { slots := 2, init := [1, 2] ++ List.replicate 62 0 })]
    ∧ (heldRuns 0x0801#16 [1]).bulkAs 0 1 readFixtures = .error .badParam := by
  simp only [heldRuns_bulkAs]; decide +kernel
theorem wit_tack_held : (heldRuns 0x0802#16 (tackSection {})).bulkAs 0 1 readTack = .ok {}
    ∧ (heldRuns 0x0802#16 [1]).bulkAs 0 1 readTack = .error .tackBadBinary := by
  simp only [heldRuns_bulkAs]; decide +kernel
theorem wit_flows_held : (heldRuns 0x0401#16 (flowsSection {})).bulkAs 0 1 readFlows = .ok {}
    ∧ (heldRuns 0x0401#16 [1]).bulkAs 0 1 readFlows = .error .badParam := by
  simp only [heldRuns_bulkAs]; decide +kernel
theorem wit_flows_beyond : flowsFit 8 24 { flows := [(0, { port := 8 })] } = false
    ∧ graphFits 12 { tasks := [{ task := 0, home := 12 }] } = false
    ∧ graphFits 16 { tasks := [{ task := 1 }] } = true := by decide
theorem wit_flow_rules : flowRules 16 40 false {} = .ok () ∧ paramCross {} false = .ok () ∧ cutThroughCross {} = .ok () := by decide

/-! ### StagingOfPortsLinesAndHeads -/

theorem wit_StagingOfPortsLinesAndHeads :
    (Runs 0 0x0440#16 (txnRuns 0x0440#16) ∧ MayStage (txnRuns 0x0440#16) 0 { ses1 with txn := some txn1 } txn1
        ∧ HasRoom (txnRuns 0x0440#16) 0 [0x0440000F] txn1.cfg txn1 ∧ portRegsOk 15 {} = true ∧ 15 < (txnRuns 0x0440#16).nEth)
      ∧ (let s := { txnRuns 0x0440#16 with variant := .v2SC }
         Runs 0 0x0440#16 s ∧ MayStage s 0 { ses1 with txn := some txn1 } txn1 ∧ s.nEth ≤ 8 ∧ s.nLine ≤ 24 ∧ s.nHeads = 0)
      ∧ fld (1279#32) 13 0 < 1280
      ∧ Runs 0 0x0441#16 (txnRuns 0x0441#16) ∧ (txnRuns 0x0441#16).onPcie 0 = true ∧ rxqOk 0x40A00006#32 = true
      ∧ (let s := (runs 12 0x0441#16).setSession 1 { ses1 with transport := .mgmt, txn := some txn1 }
         Runs 12 0x0441#16 s ∧ MayStage s 12 { ses1 with transport := .mgmt, txn := some txn1 } txn1 ∧ s.onPcie 12 = false)
      ∧ Runs 0 0x0442#16 (txnRuns 0x0442#16) ∧ (128#64).toNat % 64 = 0 ∧ (32#64).toNat % 64 ≠ 0
      ∧ Runs 0 0x0460#16 (txnRuns 0x0460#16) ∧ 39 < (txnRuns 0x0460#16).nLine ∧ lineRegsOk {} = true
      ∧ lineRegsOk { mode := 0x0C000000#32 } = false := by decide
theorem wit_staging_heads :
    Runs 0 0x0540#16 (txnRuns 0x0540#16) ∧ (txnRuns 0x0540#16).nHeads = 2 ∧ Runs 0 0x0541#16 (txnRuns 0x0541#16)
      ∧ MayStage (txnRuns 0x0541#16) 0 { ses1 with txn := some txn1 } txn1 ∧ HasRoom (txnRuns 0x0541#16) 0 [0x05410007] txn1.cfg txn1 := by decide
theorem wit_port_rules : cutThroughCross { eth := { ports := [(15, {})] } } = .ok () ∧ mtuCross { eth := { ports := [(15, {})] } } = .ok () := by
  decide
theorem wit_line_rules : lineCross { line := [(39, {})] } = .ok () := by decide
theorem wit_raster_rules : rasterRules 2 false { rst := { heads := [(1, {})] } } = .ok ()
    ∧ rasterRules 2 false { rst := { tiles := [(7, {})] } } = .ok () := by decide
theorem wit_raster_refused : rasterRules 2 false { rst := { heads := [(0, { frzCtrl := 0x10000#32 })] } } = .error .badParam := by decide

/-! ### TackRowsFetchGuardAndFault -/

theorem wit_TackRowsFetchGuardAndFault :
    tackOf (.add 0) = some (0, 0) ∧ AtWord 0 inst0 0x02044280#32 0 (tackDev 0x02044280#32)
      ∧ AtWord 0 inst0 0x04044280#32 1 (tackDev 0x04044280#32) ∧ guardOn ((tackDev 0x02044280#32).stall 0).core 0x02044280#32 = false
      ∧ State.reset.running? 0 = none
      ∧ fetch 0 inst0 (tackDev 0xFFFFFFFF#32) = .error 1 ∧ (State.reset.stall 0).runtime = false := by decide

/-! ### TackScalarRows -/

theorem wit_TackScalarRows :
    AtWord 0 inst0 0x00044280#32 0x00 (tackDev 0x00044280#32)
      ∧ guardOn ((tackDev 0x00044280#32).stall 0).core 0x00044280#32 = true
      ∧ AtWord 0 inst0 0x40044280#32 0x10 (tackDev 0x40044280#32)
      ∧ AtWord 0 inst0 0x14044023#32 0x05 (tackDev 0x14044023#32) ∧ bitOf (0x14044023#32) 5 = true
      ∧ AtWord 0 inst0 0x48044FFF#32 0x12 (tackDev 0x48044FFF#32) ∧ tImmS 0x48044FFF#32 = -1
      ∧ AtWord 0 inst0 0x5805FFFF#32 0x16 (tackDev 0x5805FFFF#32)
      ∧ ((-1 : Int) - fld (0x5805FFFF#32) 16 0) % 131072 = 0 := by decide

/-! ### TackPredicatesAndControl -/

theorem wit_TackPredicatesAndControl :
    (AtWord 0 inst0 0x60084280#32 0x18 (tackDev 0x60084280#32) ∧ guardOn ((tackDev 0x60084280#32).stall 0).core 0x60084280#32 = true)
      ∧ AtWord 0 inst0 0x70000001#32 0x1C (tackDev 0x70000001#32) ∧ AtWord 0 inst0 0x74000001#32 0x1D (tackDev 0x74000001#32)
      ∧ AtWord 0 inst0 0x78004000#32 0x1E (tackDev 0x78004000#32)
      ∧ ((tackDev 0x78004000#32).stall 0).core.sr (tRa 0x78004000#32) = 5 ∧ (5#32).toNat % 4 ≠ 0
      ∧ AtWord 0 inst0 0x7C080001#32 0x1F (tackDev 0x7C080001#32)
      ∧ AtWord 0 inst0 0x80000000#32 0x20 (tackDev 0x80000000#32) ∧ ((tackDev 0x80000000#32).stall 0).runtime = false
      := by decide
theorem wit_tack_control_rest :
    AtWord 0 inst0 0x84004000#32 0x21 (tackDev 0x84004000#32)
      ∧ AtWord 0 inst0 0x88000007#32 0x22 (tackDev 0x88000007#32)
      ∧ AtWord 0 inst0 0x8C060000#32 0x23 (tackDev 0x8C060000#32) ∧ AtWord 0 inst0 0x8C060006#32 0x23 (tackDev 0x8C060006#32)
      ∧ ((tackDev 0x8C060006#32).stall 0).core.argsIn = false := by decide

/-! ### TackVectorRows -/

theorem wit_TackVectorRows :
    (AtWord 0 inst0 0xC4022180#32 0x31 (tackDev 0xC4022180#32) ∧ guardOn ((tackDev 0xC4022180#32).stall 0).core 0xC4022180#32 = true)
      ∧ AtWord 0 inst0 0xD40221D0#32 0x35 (tackDev 0xD40221D0#32) ∧ fld (0xD40221D0#32) 6 5 ≠ 3
      ∧ AtWord 0 inst0 0xE0022020#32 0x38 (tackDev 0xE0022020#32) ∧ fld (0xE0022020#32) 6 5 = 1
      ∧ AtWord 0 inst0 0xE0022047#32 0x38 (tackDev 0xE0022047#32) ∧ fld (0xE0022047#32) 6 5 = 2
      ∧ AtWord 0 inst0 0xE4022180#32 0x39 (tackDev 0xE4022180#32) := by decide

/-! ### TackDataMemoryRows -/

theorem wit_TackDataMemoryRows :
    AtWord 0 inst0 0x90044000#32 0x24 (memDev 0x90044000#32) ∧ AtWord 0 inst0 0x94044000#32 0x25 (memDev 0x94044000#32)
      ∧ AtWord 0 inst0 0x98044000#32 0x26 (memDev 0x98044000#32) ∧ AtWord 0 inst0 0x9C044000#32 0x27 (memDev 0x9C044000#32)
      ∧ AtWord 0 inst0 0xA0024000#32 0x28 (memDev 0xA0024000#32) ∧ AtWord 0 inst0 0xA4024000#32 0x29 (memDev 0xA4024000#32)
      ∧ guardOn ((memDev 0x90044000#32).stall 0).core 0x90044000#32 = true
      ∧ (((((memDev 0x90044000#32).stall 0).core.sr (tRa 0x90044000#32)).toNat : Int) + 4 * tImmS 0x90044000#32
          = 0x20000 + 4 * (4 : Nat))
      ∧ scratchBad ((memDev 0x90044000#32).descOf inst0).prio 16 ∉ ((memDev 0x90044000#32).stall 0).bad
      ∧ (((((memDev 0xA0024000#32).stall 0).core.sr (tRa 0xA0024000#32)).toNat : Int) + 16 * tImmS 0xA0024000#32
          = 0x20000 + 16 * (1 : Nat)) := by decide
theorem wit_memory_faults :
    AtWord 0 inst0 0x90044000#32 0x24 (tackDev 0x90044000#32)
      ∧ ((((tackDev 0x90044000#32).stall 0).core.sr (tRa 0x90044000#32)).toNat + 4 * tImmS 0x90044000#32) % 4 ≠ 0
      ∧ AtWord 0 inst0 0x94043000#32 0x25 (tackDev 0x94043000#32)
      ∧ ((((tackDev 0x94043000#32).stall 0).core.sr (tRa 0x94043000#32)).toNat + 4 * tImmS 0x94043000#32) < 0x20000 := by decide

/-! ### TackParameterStoreRows -/

theorem wit_TackParameterStoreRows :
    (AtWord 0 inst0 0xAC0440C0#32 0x2B (paramDev 0xAC0440C0#32) ∧ guardOn ((paramDev 0xAC0440C0#32).stall 0).core 0xAC0440C0#32 = true
        ∧ 5 < (paramDev 0xAC0440C0#32).nFixtures ∧ 3 < slotsOf ((paramDev 0xAC0440C0#32).stlOf inst0) 5
        ∧ (argsOf ((paramDev 0xAC0440C0#32).stlOf inst0) 0).holds 5 = true ∧ tBank 0xAC0440C0#32 = 0 ∧ tSlot 0xAC0440C0#32 = 3)
      ∧ AtWord 0 inst0 0xB4024200#32 0x2D (paramDev 0xB4024200#32)
      ∧ (AtWord 0 inst0 0xA80440C0#32 0x2A (paramDev 0xA80440C0#32) ∧ isStatic ((paramDev 0xA80440C0#32).stlOf inst0) 5 = false)
      ∧ (AtWord 0 inst0 0xA80440E0#32 0x2A (paramDev 0xA80440E0#32) ∧ tBank 0xA80440E0#32 = 1)
      ∧ isStatic ((paramDev 0xA80440C0#32).stlOf inst0) 9 = true ∧ (argsOf ((paramDev 0xA80440C0#32).stlOf inst0) 0).holds 9 = false := by
  decide
theorem wit_param_reads :
    (readSlot (paramDev 0xA80440C0#32) inst0 0 5 3).isOk = true ∧ (readSlots (paramDev 0xB0024200#32) inst0 0 5 8 8).isOk = true
      ∧ AtWord 0 inst0 0xB0024200#32 0x2C (paramDev 0xB0024200#32)
      ∧ (paramDev 0xA80440C0#32).running? 0 = some inst0 := by decide

/-! ### TackLayerAndCanvasRows -/

theorem wit_TackLayerAndCanvasRows :
    (AtWord 0 inst0 0xB8044000#32 0x2E (layerDev 0xB8044000#32) ∧ guardOn ((layerDev 0xB8044000#32).stall 0).core 0xB8044000#32 = true
        ∧ (layerOf (layerDev 0xB8044000#32).cfg.comp 0).on = true ∧ (layerOf (layerDev 0xB8044000#32).cfg.comp 0).kind = 2
        ∧ 16 + 16 ≤ layerBytes (layerOf (layerDev 0xB8044000#32).cfg.comp 0)
        ∧ (((layerDev 0xB8044000#32).comp.layer 0).buf (drawBuf 1)).st = .free)
      ∧ AtWord 0 inst0 0xBC024000#32 0x2F (layerDev 0xBC024000#32)
      ∧ (AtWord 0 inst0 0xB8044000#32 0x2E (tackDev 0xB8044000#32)
          ∧ ((tackDev 0xB8044000#32).stall 0).core.sr (tRa 0xB8044000#32) = 5) := by decide
theorem wit_canvas_rows :
    AtWord 0 inst0 0xC0043000#32 0x30 (layerDev 0xC0043000#32) ∧ canvasOn (layerDev 0xC0043000#32).cfg.comp = true
      ∧ canvasW (layerDev 0xC0043000#32).cfg.comp = 64 ∧ rowVisible (layerDev 0xC0043000#32) 1 0 = false
      ∧ rowVisible { layerDev 0xC0043000#32 with comp := { State.reset.comp with canvas := [(1, { content := some 1 })] } } 1 0 = true
      ∧ canvasOn ((tackDev 0xC0043000#32).cfgFor 1).comp = false ∧ (layerDev 0xC0043000#32).prev = [] := by decide

/-! ### StallsEndTheirInstances -/

theorem wit_StallsEndTheirInstances :
    (let s := tackDev 0#32
     let u := s.setStall 0 { s.stall 0 with core := { budget := some 0 } }
     u.running? 0 = some inst0 ∧ (u.stall 0).core.budget = some 0 ∧ (u.stall 0).wait = .none ∧ (u.stall 0).sealing = none
       ∧ (u.stall 0).runtime = false)
      ∧ ((tackDev 0#32).stall 0).core.budget ≠ some 0
      ∧ (let s := tackDev 0#32
         let u := s.setStall 0 { s.stall 0 with sealing := some .completed }
         u.running? 0 = some inst0 ∧ (u.stall 0).sealing = some .completed ∧ inst0.stall = some 0
           ∧ inst0.content % 2 = 1 ∧ (argsOf (u.stlOf inst0) 0).holds 0 = false)
      ∧ (let u := edgeDev
         u.running? 0 = some inst0 ∧ (u.stall 0).sealing = some .completed ∧ (u.stlOf inst0).graph.succs 0 = [(false, 1)]
           ∧ u.inst? 1 1 = some { task := 1, content := 1, dep := 1 } ∧ (u.descOf { task := 1, content := 1, dep := 1 }).delayUs = 0
           ∧ (u.descOf inst0).layerFinish = false ∧ u.pdk.bad = [])
      ∧ (∀ f, f < 16 → f < State.reset.nStalls) := by decide

/-! ### PaddockDispatchesAndDisplaces -/

theorem wit_PaddockDispatchesAndDisplaces :
    (let s := readyDev
     (s.stall 0).idle = true ∧ s.bestSuspended 0 = none ∧ s.best 0 = some { task := 1, content := 1, st := .ready }
       ∧ s.takesFirst 0 { task := 1, content := 1, st := .ready } = true ∧ 0 < s.nStalls)
      ∧ (let s := { readyDev with pdk := { readyDev.pdk with insts := [{ inst0 with st := .suspended }] } }
         (s.stall 0).idle = true ∧ s.bestSuspended 0 = some { inst0 with st := .suspended } ∧ s.best 0 = none)
      ∧ (let s := readyDev
         s.pdk.badWord (.slot 1 1) = none ∧ s.inst? 1 1 = some { task := 1, content := 1, st := .ready }
           ∧ (s.descOf { task := 1, content := 1, st := .ready }).succ = [])
      ∧ (let s := higherDev
         s.running? 0 = some inst0 ∧ s.best 0 = some { task := 1, content := 1, st := .ready }
           ∧ (s.descOf inst0).prio < (s.descOf { task := 1, content := 1, st := .ready }).prio ∧ (s.stall 0).sealing = none
           ∧ (s.stall 0).wait = .none ∧ (s.stall 0).runtime = false ∧ bitOf (s.coreCfg 0) 0 = false)
      ∧ (let s := higherDev.setStall 0 { higherDev.stall 0 with runtime := true }
         s.running? 0 = some inst0 ∧ (s.stall 0).runtime = true)
      ∧ (let s := { readyDev with cfg := { readyDev.cfg with stl := { readyDev.cfg.stl with cores := [(0, 5#32)] } } }
         bitOf (s.coreCfg 0) 0 = true)
      ∧ (State.reset.slotsUsed < 4096 ∧ State.reset.farWants 0 = none ∧ State.reset.elt / 1000000 ≤ State.reset.pdk.winMs) := by
  decide
theorem wit_delays_slots_and_grants :
    (let s := atNs 5000 delayDev
     s.pdk.insts.reverse.find? (fun i => decide (i.task = 0) && decide (i.st ≠ .ended) && !i.delayMet)
         = some { task := 0, content := 1, st := .delayed }
       ∧ (s.descOf { task := 0, content := 1, st := .delayed }).delayUs ≠ 0
       ∧ 0 + 1000 * (s.descOf { task := 0, content := 1, st := .delayed }).delayUs.toNat ≤ s.elt
       ∧ s.nextGraph.primeOrder.find? (fun d => decide (d.task ∉ s.pdk.primed)) = some { task := 0, delayUs := 5 })
      ∧ (let s := { delayDev with pdk := { delayDev.pdk with insts := [{ task := 0, content := 1, noSlot := true }] } }
         s.pdk.insts.find? (fun i => i.noSlot && decide (i.st ≠ .ended)) = some { task := 0, content := 1, noSlot := true })
      ∧ (let s := { readyDev with pdk := { readyDev.pdk with insts := [{ task := 1, content := 1, st := .ready, loft := true }] } }
         s.refillStall = some 0 ∧ firstOf s (s.loftOf 0) = some { task := 1, content := 1, st := .ready, loft := true })
      ∧ (let s := grantDev
         s.farWants 3 = some { stall := 3, slice := 1, sinceNs := 0 } ∧ bitOf (s.coreCfg 3) 2 = true ∧ (s.stall 3).idle = true
           ∧ s.bestSuspended 3 = none ∧ s.pdk.insts = [])
      ∧ (let s := atNs 1000000 (tackDev 0#32)
         s.pdk.winMs < s.elt / 1000000 ∧ (tfind? s.pdk.stalls 0).isSome = true) := by decide

/-! ### CancelEndsAnInstanceWithItsCascade -/

theorem wit_CancelEndsAnInstanceWithItsCascade :
    (let s := cancelDev { task := 0, content := 1, st := .ready }
     Runs 0 0x0882#16 s ∧ 0 < s.cfg.stl.graph.tasks.length ∧ s.lastInst 0 = some { task := 0, content := 1, st := .ready }
       ∧ s.inst? 0 1 = some { task := 0, content := 1, st := .ready }
       ∧ (s.stlOf { task := 0, content := 1, st := .ready }).graph.succs 0 = [])
      ∧ (let s := cancelDev { task := 0, content := 1, st := .ended, fin := some .completed }
         Runs 0 0x0882#16 s ∧ s.lastInst 0 = some { task := 0, content := 1, st := .ended, fin := some .completed })
      ∧ (let s := cancelDev { task := 0, content := 1, st := .ended, fin := some .cancelled }
         Runs 0 0x0882#16 s ∧ s.lastInst 0 = some { task := 0, content := 1, st := .ended, fin := some .cancelled })
      ∧ (let s := (cancelDev inst0).setStall 0 { run := some (0, 1), sealing := some .completed }
         Runs 0 0x0882#16 s ∧ s.lastInst 0 = some inst0 ∧ (s.stall 0).run = some (0, 1) ∧ (s.stall 0).sealing ≠ none)
      ∧ (Runs 0 0x0882#16 (runs 0 0x0882#16) ∧ (runs 0 0x0882#16).lastInst 9 = none
          ∧ (runs 0 0x0882#16).pdk.insts = []) := by decide

/-! ### TackRowsLeaveOtherStallsAlone -/

theorem wit_TackRowsLeaveOtherStallsAlone : tackOf (.stw 0) = some (0, 0x25)
    ∧ exec (.stw 0) State.reset = .next State.reset ∧ (1 : Nat) ≠ 0 := ⟨rfl, rfl, by decide⟩

/-! ### CompositionAndItsSources -/

theorem wit_CompositionAndItsSources :
    ((tget State.reset.cfg.comp.inputs 0 {}).enable = false)
      ∧ (let s := inputDev
         (tget s.cfg.comp.inputs 0 {}).enable = true ∧ (tget s.comp.inputs 0 {}).ts = some 5#32
           ∧ (tget s.comp.inputs 0 {}).dropped = false ∧ (tget s.comp.inputs 0 {}).nextSeq = some 7
           ∧ ((tget s.comp.inputs 0 {}).bufs.map (·.1)).Nodup ∧ (0, 1) ∈ (tget s.comp.inputs 0 {}).bufs
           ∧ 1 < (tget s.cfg.comp.inputs 0 {}).height ∧ 6 < (tget s.cfg.comp.inputs 0 {}).width
           ∧ (tget s.cfg.comp.inputs 0 {}).offBytes 6 + 5 ≤ (tget s.cfg.comp.inputs 0 {}).rowBytes
           ∧ (∀ y, y < (tget s.cfg.comp.inputs 0 {}).height →
               (tget s.cfg.comp.inputs 0 {}).rowBytes ≤ covered (tget (tget s.comp.inputs 0 {}).rows y [])))
      ∧ (let s := { inputDev with comp := { inputDev.comp with
                      inputs := [(0, { ts := some 5, nextSeq := some 7, rows := [(0, [(0, 20)]), (1, [(0, 15)])] })] } }
         covered (tget (tget s.comp.inputs 0 {}).rows 1 []) < (tget s.cfg.comp.inputs 0 {}).rowBytes
           ∧ (tget s.comp.inputs 0 {}).dropped = false)
      ∧ (let s := { inputDev with comp := { inputDev.comp with
                      inputs := [], layers := [(0, { bufs := [(0, { st := .latched }), (1, { st := .ready }), (2, { st := .filling })] })] } }
         (tget s.comp.inputs 0 {}).ts = none ∧ 0 ∈ inputLayers s.cfg.comp 0 ∧ (s.comp.layer 0).freeBuf = none)
      ∧ State.reset.pair.role ≠ .lead ∧ State.reset.pair.role ≠ .shadow := by decide
theorem wit_stripes_and_writes :
    (let s := composingDev 64
     s.comp.composing = some 1 ∧ s.comp.rowsDone < canvasH s.comp.cfg ∧ s.pdk.content = some 1
       ∧ s.cfg.map.map.segs[0]? = some { first := 0, count := 1, rowMax := 70 }
       ∧ segStripe s.cfg.comp { first := 0, count := 1, rowMax := 70 } = s.comp.rowsDone / 64 ∧ tget s.pdk.hw 256 0 = 1)
      ∧ (let s := composingDev 128
         s.comp.composing.isSome = true ∧ canvasH s.comp.cfg ≤ s.comp.rowsDone ∧ s.comp.queue = []
           ∧ ((s.comp.layer 0).buf 2).st = .latched ∧ (s.comp.layer 0).latched ≠ some 2)
      ∧ State.reset.comp.composing = none
      ∧ (let s := hostLayerDev
         Runs 0 0x0505#16 s ∧ s.writeBefore 0 = false ∧ (layerOf s.cfg.comp 0).kind = 1 ∧ s.pair.role ≠ .shadow
           ∧ s.mbxTransport 0 = some .pcie ∧ s.moved 0 = some (List.replicate 64 (0 : Byte)) ∧ (List.replicate 64 (0 : Byte)).length
               = frameBytes (layerOf s.cfg.comp 0).format (layerOf s.cfg.comp 0).sw (layerOf s.cfg.comp 0).sh
           ∧ (s.comp.layer 0).freeBuf = some 0 ∧ freeingFrame 0 s.cfg.comp s.sched = none ∧ s.comp.waits = [])
      ∧ (let s := { hostLayerDev with comp := { hostLayerDev.comp with waits := [{ mailbox := 0, layer := 0, target := 0 }] } }
         Live 0 s ∧ s.comp.waits.find? (fun x => x.mailbox = 0) = some { mailbox := 0, layer := 0, target := 0 }
           ∧ (s.comp.waits.find? (fun x => x.layer = 0)).map (·.mailbox) = some 0 ∧ (s.comp.layer 0).freeBuf = some 0)
      ∧ ((layerOf (runs 0 0x0505#16).cfg.comp 0).kind ≠ 1 ∧ (runs 0 0x0505#16).moved 0 = none)
      ∧ (let s : State := { State.reset with pair := { State.reset.pair with role := .shadow } }
         s.pair.role = .shadow ∧ (s.comp.layer 0).freeBuf = some 0) := by decide

/-! ### MappingPackingAndLampMessages -/

theorem wit_MappingPackingAndLampMessages :
    (let s := mapDev
     let g : MapSeg := { first := 0, count := 1, rowMax := 0 }
     s.nextSeg = some (1, 0) ∧ s.flw.waitSeg = none
       ∧ (s.cfgFor 1).map.map.segs[0]? = some g ∧ fullPorts { s with cfg := s.cfgFor 1 } 1 g = []
       ∧ (segRecs (s.cfgFor 1).map.map g)[0]? = some { group := 0x7FF }
       ∧ (packedInto (s.cfgFor 1) { group := 0x7FF }).isSome = true
       ∧ s.pdk.ready.find? (fun e => decide (256 ≤ e.2) && decide (e.2 < 4352)) = some (1, 256)
       ∧ s.elt + 50000 < (s.cfgFor 1).ym.ptAt 1)
      ∧ (let s := atNs 40000000 mapDev
         (s.cfgFor 1).ym.ptAt 1 ≤ s.elt + 50000 ∧ (1, 256 - 256) ∉ s.map.overruns)
      ∧ (let s := { mapDev with flw := { mapDev.flw with waitSeg := some (1, 0) } }
         s.flw.waitSeg = some (1, 0) ∧ (1, 256 + 0) ∈ s.pdk.ready)
      ∧ (let s := packDev { kind := 3, enable := true, port := 2 }
         s.packReady.find? (fun e => (groupFull s e.1 e.2).isEmpty) = some (1, 0)
           ∧ groupFlows (s.cfgFor 1) 0 = [(0, { kind := 3, enable := true, port := 2 })] ∧ (1, 0) ∉ s.flw.dead
           ∧ ({ kind := 3, enable := true, port := 2 } : FlowRec).onLine = true ∧ (1, 0) ∈ s.packReady ∧ groupFull s 1 0 = [])
      ∧ State.reset.packReady = [] := by decide
theorem wit_packing_into_a_queue :
    (let r : FlowRec := { kind := 0, enable := true, guaranteed := true }
     let s := packDev r
     let u : State := { s with cfg := s.cfgFor 1 }
     s.packReady.find? (fun e => (groupFull s e.1 e.2).isEmpty) = some (1, 0) ∧ groupFlows (s.cfgFor 1) 0 = [(0, r)]
       ∧ r.onLine = false ∧ s.ym.lit = none ∧ frameCount u 1 0 r = 1 ∧ (s.port 0).link = true ∧ u.portOn 0 = true
       ∧ (s.port 0).lpi = false ∧ (s.port 0).since ≤ 1 ∧ u.cutHolds 0 1 = false ∧ u.netOn 1 = true ∧ r.guaranteed = true) := by
  decide
theorem wit_waiting_producers :
    (let s := fullDev 520 (packDev { kind := 0, enable := true })
     s.packReady = [(1, 0)] ∧ groupFull s 1 0 ≠ [] ∧ s.flw.waitPack = false)
      ∧ (let s := fullDev 1030 mapDev
         s.nextSeg = some (1, 0)
           ∧ fullPorts { s with cfg := s.cfgFor 1 } 1 { first := 0, count := 1, rowMax := 0 } ≠ [])
      ∧ (let s : State := { State.reset with pair := { State.reset.pair with role := .lead } }
         s.pair.role = .lead ∧ s.lamp.acc = [] ∧ State.reset.pair.role ≠ .lead ∧ State.reset.pair.role ≠ .shadow)
      ∧ (let s : State := { atNs 16600000 State.reset with ym := { State.reset.ym with next := 1 } }
         s.cfg.ym.fbAt s.ym.next ≤ s.elt + 100000 ∧ s.elt + 20000 ≤ s.cfg.ym.fbAt s.ym.next)
      ∧ (let s := groupDev 1
         Runs 0 0x0705#16 s ∧ s.mirrored (s.box 0).req = true ∧ s.pair.role ≠ .lead ∧ tfind? s.cfg.lamp.groups 3 = some group1
           ∧ (∀ p, p ∈ group1.members → (s.lamp.pixAt p).status ≠ 2 ∧ (s.lamp.pixAt p).status ≠ 3)
           ∧ (s.lamp.grpAt 3).member = false ∧ tfind? s.cfg.lamp.groups 4 = none)
      ∧ (let s := groupDev 2
         ∃ p, p ∈ group1.members ∧ ((s.lamp.pixAt p).status = 2 ∨ (s.lamp.pixAt p).status = 3)) := by decide

/-! ### EthernetPortsTransmit -/

theorem wit_EthernetPortsTransmit :
    (let s := portDev { gates := [{ kind := .gate 1 }] }
     s.portOn 0 = true ∧ (s.port 0).link = true ∧ (s.port 0).paused = false ∧ (s.port 0).cur = none ∧ s.glb.clk.rootLock = true
       ∧ s.glb.faulted = false ∧ s.brd.txStop = false ∧ (s.port 0).gates = [{ kind := .gate 1 }])
      ∧ (let x : TxFrame := { kind := .data 0 1 0 1, guar := true }
         let s := portDev { guar := [x] }
         beforeGate s 0 x = true ∧ (s.port 0).gates = [] ∧ (s.port 0).guar.find? (mayStart s) = some x)
      ∧ (let x : TxFrame := { kind := .lldp }
         let s := portDev { be := [x] }
         beforeGate s 0 x = true ∧ (s.port 0).guar.find? (mayStart s) = none ∧ (s.port 0).be.find? (mayStart s) = some x)
      ∧ (gateGuard (portDev {}).cfg 0 = 1237)
      ∧ (State.reset.portOn 0 = false ∧ (State.reset.port 0).cur = none ∧ (State.reset.port 0).link = false) := by decide
theorem wit_a_gate_near :
    let s := atNs 16866000 { portDev {} with ym := { (portDev {}).ym with flights := [{ n := 1 }] } }
    (s.port 0).gates = [] ∧ s.nextPt = some 16866670 ∧ 16866670 ≤ s.elt + gateGuard s.cfg 0 ∧ s.elt < 16866670 := by decide
theorem wit_frames_leave :
    (let x : TxFrame := { kind := .data 0 1 0 1 }
     let s := portDev { cur := some x }
     0 < s.nEth ∧ (s.port 0).cur = some x ∧ x.tag = none)
      ∧ (let s := portDev { cur := some { kind := .ethTx 0, tag := some 5 } }
         (s.port 0).tsq.length < 64)
      ∧ (let s := { portDev { cur := some { kind := .ethTx 0 }, be := [{ kind := .ethTx 0 }] } with mbx := (ethTxDev).mbx }
         Live 0 s ∧ s.waits 0 0x0444#16 = true)
      ∧ (let s := portDev { cur := some { kind := .forward, stream := true } }
         (s.port 0).cur = some { kind := .forward, stream := true } ∧ (portDev {}).port 0 = { link := true })
      ∧ (let s := portDev { ctGood := 4096 }
         4096 ≤ (s.port 0).ctGood ∧ (State.reset.port 0).ctGood < 4096)
      ∧ (let s := portDev { tsq := [{ tag := 5, mailbox := none, lt := 0, frac := 0 }] }
         (s.port 0).tsq = [{ tag := 5, mailbox := none, lt := 0, frac := 0 }] ∧ (State.reset.port 0).tsq = [])
      ∧ (let a : TxStamp := { tag := 5, mailbox := none, sync := true, lt := 0, frac := 0 }
         let s := portDev { tsq := [a] }
         (s.port 0).tsq = [a] ∧ 0 < s.nEth ∧ s.portOn 0 = true ∧ (s.port 0).link = true)
      ∧ (let x : TxFrame := { kind := .ptp (.delayReq 5), tag := some 5 }
         let s := portDev { cur := some x, tsq := List.replicate 64 { tag := 4, mailbox := none, lt := 0, frac := 0 } }
         (s.port 0).cur = some x ∧ x.stream = false ∧ 64 ≤ (s.port 0).tsq.length ∧ (portDev {}).port 0 = { link := true })
      ∧ (let s := { portDev {} with eth := [] }
         s.portOn 0 = true ∧ (s.port 0).link = false ∧ s.serRef 0 = true)
      ∧ (let s := atNs 90000000000 (portDev {})
         (s.port 0).arpAt + 60000000000 ≤ s.elt ∧ (s.port 0).lldpAt = none ∧ s.flw.discAt + 10000000000 ≤ s.elt
           ∧ s.netOn s.txContent = true)
      ∧ (let s := atNs 5000 (portDev { lldpAt := some 0 })
         (s.port 0).lldpAt = some 0 ∧ s.elt < 0 + 30000000000 ∧ s.elt < s.flw.discAt + 10000000000)
      ∧ (let s := atNs 5000 (portDev { agreed := true })
         (s.port 0).agreed = true ∧ bitOf (s.ethCfg 0) 27 = true ∧ (s.port 0).quiet = true
           ∧ (s.port 0).idleAt + fld (s.portRegs 0).eee 31 16 ≤ s.elt ∧ s.ym.armed = [] ∧ (s.port 0).noLpi = none
           ∧ gateNear s 0 = false ∧ delayReqNear s 0 = false)
      ∧ (let s := atNs 16866000 { portDev { lpi := true } with ym := { (portDev {}).ym with flights := [{ n := 1 }] } }
         s.nextPt = some 16866670 ∧ gateNear s 0 = true ∧ (s.port 0).lpi = true ∧ 16866670 ≤ s.elt + fld (s.portRegs 0).eee 15 0 + 100)
      ∧ (let s := atNs 5000 (portDev { paused := true, pauseEnd := 4000 })
         (s.port 0).paused = true ∧ (s.port 0).pauseEnd ≤ s.elt) := by decide

/-! ### ReceptionAndYardlineMessages -/

theorem wit_ReceptionAndYardlineMessages :
    (let s := portDev {}
     s.portOn 0 = true ∧ (s.port 0).link = true ∧ bitOf (s.ethCfg 0) 28 = true ∧ filterFor s.cfg.eth 0 {} = none
       ∧ State.reset.portOn 0 = false ∧ bitOf ((portDev {}).ethCfg 1) 28 = false)
      ∧ (let s := rxDev
         s.portOn 0 = true ∧ (s.port 0).link = true ∧ filterFor s.cfg.eth 0 {} = some 0 ∧ fld (rxqCfg s.cfg.eth 0 0) 31 30 = 2
           ∧ fld ((((tget s.cfg.eth.filters 0 {}).filters[0]?).map (·.1)).getD 0) 30 28 = 0
           ∧ 2 ^ fld (rxqCfg s.cfg.eth 0 0) 3 0 = 64 ∧ (tget (s.port 0).rxq 0 {}).stored = [])
      ∧ (let s := thruDev
         partner s 0 = some 1 ∧ s.portOn 0 = true ∧ s.portOn 1 = true ∧ (s.port 1).link = true ∧ (s.port 0).link = true)
      ∧ (let s := atNs 9000000 (portDev { rxq := [(0, { waitOwn := true })] })
         (tget (s.port 0).rxq 0 {}).waitOwn = true ∧ (tget (s.port 0).rxq 0 {}).restart = false
           ∧ (tget (s.port 0).rxq 0 {}).pollAt + 1000 * fld (rxqCfg s.cfg.eth 0 0) 29 20 ≤ s.elt)
      ∧ (Runs 0 0x0443#16 (runs 0 0x0443#16) ∧ 0 < (runs 0 0x0443#16).nEth ∧ (runs 0 0x0443#16).nEth ≤ 16) := by decide
theorem wit_a_full_ring :
    let s := fullRingDev
    filterFor s.cfg.eth 0 {} = some 0 ∧ fld (rxqCfg s.cfg.eth 0 0) 31 30 = 2
      ∧ 2 ^ fld (rxqCfg s.cfg.eth 0 0) 3 0
          < ((tget (s.port 0).rxq 0 {}).stored.map (fun y => max 1 (ceilDiv y.bytes.length 2048))).sum
              + max 1 (ceilDiv ({} : RxFrame).bytes.length 2048) := by decide
theorem wit_yardline_messages :
    (badHeader { type := 9 } = false ∧ zerosOk 9 [] = true ∧ badHeader { type := 6, version := 2 } = true)
      ∧ (let s := portDev {}
         badHeader { type := 6 } = false ∧ zerosOk 6 [] = true ∧ knownStream s.cfg 0 = false)
      ∧ (let s := { ylDev with flw := { ylDev.flw with up := [(7, { h := 5, heard := 0 })] } }
         knownStream s.cfg 7 = true ∧ upType 6 = true ∧ tfind? s.flw.up 7 = some { h := 5, heard := 0 } ∧ s.flw.asm = [])
      ∧ (let s := ylDev
         let b : List Byte := [0, 0, 1, 0]
         streamFlow s.cfg 7 = some (0, { enable := true, stream := 7 })
           ∧ lampMsgOf s.cfg 0 { enable := true, stream := 7 } 7 0 b = some (.proof 0 0 [(0, 1)]) ∧ zerosOk 7 b = true
           ∧ tfind? s.flw.up 7 = none ∧ s.pair.role ≠ .shadow ∧ s.pair.role ≠ .lead
           ∧ badHeader { type := 7, stream := 7, total := 4, payload := b } = false
           ∧ badHeader { type := 7, stream := 7, total := 8, payload := b } = false)
      ∧ (let s := { runs 0 0x0406#16 with cfg := ylDev.cfg, eth := ylDev.eth }
         Runs 0 0x0406#16 s ∧ streamFlow s.cfg 7 = some (0, { enable := true, stream := 7 }) ∧ streamFlow s.cfg 8 = none
           ∧ s.portOn 0 = true ∧ (s.port 0).link = true ∧ s.pair.role ≠ .shadow)
      ∧ (let s := { runs 0 0x0406#16 with cfg := ylDev.cfg, pair := { State.reset.pair with role := .shadow } }
         Runs 0 0x0406#16 s ∧ (streamFlow s.cfg 7).isSome = true ∧ s.pair.role = .shadow)
      ∧ (let s := (runs 0 0x0406#16).setBox 0 { (runs 0 0x0406#16).box 0 with waiting := true }
         let u := { s with flw := { s.flw with diags := [(0, 7, 0, 1)] } }
         Live 0 u ∧ u.waits 0 0x0406#16 = true ∧ u.flw.diags.find? (fun x => x.1 = 0) = some (0, 7, 0, 1) ∧ 0 ≤ u.elt) := by
  decide

/-! ### LinePortsRunFramesAndRdm -/

theorem wit_LinePortsRunFramesAndRdm :
    (let s := lineDev
     let f : FlowRec := { kind := 3, enable := true, pixels := true, port := 0 }
     0 < s.nLine ∧ (s.lp 0).regs.on = true ∧ (s.lp 0).regs.kind = 1 ∧ lineFlow (s.cfgFor s.txContent) 0 = some (0, f)
       ∧ s.nextPt = some 16866670 ∧ 16866670 ≤ s.elt + frameNs (s.lp 0).regs f ∧ s.elt < 16866670 ∧ (s.lp 0).tx = none
       ∧ (s.lp 0).cutShown = none ∧ tfind? (s.lp 0).next s.txContent = some [7])
      ∧ (let s := lineDev.setLp 0 { lineDev.lp 0 with next := [], last := [9] }
         tfind? (s.lp 0).next s.txContent = none ∧ (s.lp 0).last ≠ [] ∧ (s.lp 0).regs = (lineDev.lp 0).regs)
      ∧ State.reset.nextPt = none
      ∧ (let s := { lineDev.setLp 0 { lineDev.lp 0 with cutShown := some 3, cuts := [(3, [5])] } with
           ym := { lineDev.ym with holding := [{ cut := 3, left := 1 }] } }
         s.cutShows 3 s.txContent = true ∧ (s.lp 0).cutShown = some 3 ∧ tfind? (s.lp 0).cuts 3 = some [5] ∧ (s.lp 0).clear s.elt = true)
      ∧ (let s := rdmDev { tx := some { content := 1, payload := [], start := 0, dur := 900 } }
         (s.lp 0).tx = some { content := 1, payload := [], start := 0, dur := 900 } ∧ (s.lp 0).regs.kind = 0)
      ∧ (let s := rdmDev { drive := true, queue := [{ mailbox := 0, req := some { dest := 5 }, atNs := 0 }] }
         headAsk (s.lp 0) = some (0, .user { dest := 5 }) ∧ (s.lp 0).drive = true ∧ (s.lp 0).regs.kind = 0
           ∧ (s.lp 0).tx = none ∧ (s.lp 0).txn = none ∧ ({ dest := 5 } : RdmReq).broadcast = false ∧ nextBreak s 0 = none
           ∧ ({ dest := 0xFFFFFFFF } : RdmReq).broadcast = true ∧ Live 0 s ∧ s.waits 0 0x0461#16 = true)
      ∧ (let s := rdmDev { drive := true, txn := some { mailbox := 0, num := 3, ask := .user { dest := 5 }, deadline := 0 } }
         (s.lp 0).txn = some { mailbox := 0, num := 3, ask := .user { dest := 5 }, deadline := 0 } ∧ (0 : Nat) ≤ s.elt
           ∧ (s.lp 0).commit.toNat < 8192 ∧ ((s.lp 0).commit - (s.lp 0).read).toNat + (8 + 1) ≤ 4096
           ∧ Live 0 s ∧ s.waits 0 0x0461#16 = true)
      ∧ (let s := rdmDev { drive := true, write := 4096, commit := 4096 }
         4096 < ((s.lp 0).commit - (s.lp 0).read).toNat + (8 + 1)) := by decide
theorem wit_discovery_and_manger :
    (let d : Disc := { unmute := false, ranges := [(0, 9)] }
     let s := rdmDev { drive := true, disc := some d, txn := some { mailbox := 0, num := 3, ask := .branch 0 9, deadline := 0 } }
     (s.lp 0).disc = some d ∧ (s.box 0).abortReq = false
       ∧ (s.lp 0).txn = some { mailbox := 0, num := 3, ask := .branch 0 9, deadline := 0 } ∧ (s.lp 0).uids = [])
      ∧ (let s := atNs 1000000000 (rdmDev { queue := [{ mailbox := 0, req := some { dest := 5 }, atNs := 0 }] })
         (s.lp 0).queue = [{ mailbox := 0, req := some { dest := 5 }, atNs := 0 }] ∧ 0 + 1000000000 ≤ s.elt)
      ∧ (let s := rdmDev { commit := 32, mem := [(4, 1), (7, 3), (8, 9)], owed := [(3, 0)] }
         let acc := (s.lp 0).reading ++ (List.range 32).map (fun k => mget (s.lp 0).mem (((s.lp 0).read.toNat + k) % 4096))
         (s.lp 0).read ≠ (s.lp 0).commit ∧ 8 + unle ((acc.drop 4).take 2) ≤ acc.length
           ∧ (s.lp 0).owed.find? (fun x => x.1 = (acc[7]?).getD 0) = some (3, 0) ∧ Live 0 s ∧ s.waits 0 0x0461#16 = true)
      ∧ (let s := rdmDev { commit := 64, mem := [(4, 60), (7, 3)] }
         let acc := (s.lp 0).reading ++ (List.range 32).map (fun k => mget (s.lp 0).mem (((s.lp 0).read.toNat + k) % 4096))
         acc.length < 8 + unle ((acc.drop 4).take 2)) := by decide
theorem wit_drive_and_triggers :
    (let s := { lineDev with line := [(0, { drive := true })] }
     (s.lp 0).drive = true ∧ driveCond s 0 = false)
      ∧ (let s := lineDev
         0 < s.nLine ∧ (s.lp 0).drive = false ∧ driveCond s 0 = true ∧ (s.lp 0).tx = none)
      ∧ (let x : LineTx := { content := 1, payload := [], start := 0, dur := 400 }
         let f : FlowRec := { kind := 3, enable := true, pixels := true, port := 0 }
         let s := lineDev
         let u := s.setLp 0 { s.lp 0 with tx := some x }
         (u.lp 0).tx = some x ∧ lineFlow (u.cfgFor 1) 0 = some (0, f) ∧ u.nextPt = some 16866670 ∧ u.elt + 400 ≤ 16866670
           ∧ (u.lp 0).drive = false ∧ driveCond u 0 = true)
      ∧ (let x : LineTx := { content := 1, payload := [], start := 0, dur := 16866670 }
         let s := lineDev
         let u := s.setLp 0 { s.lp 0 with tx := some x }
         16866670 < u.elt + x.dur ∧ driveCond u 0 = true)
      ∧ (let s := State.reset.setLp 0 { regs := { mode := 0xB0000000#32 } }
         (s.lp 0).regs.on = true ∧ (s.lp 0).regs.kind = 3 ∧ edgeSelected (fld (s.lp 0).regs.trig 31 30) true = true
           ∧ edgeSelected (fld (s.lp 0).regs.trig 31 30) false = false ∧ (∀ c, c < 64 → s.cutRec c = none))
      ∧ (let s := State.reset.setLp 0 { drive := true }
         (s.lp 0).drive = true ∧ (State.reset.lp 0).drive = false)
      ∧ (let s := atNs 90000 (State.reset.setLp 0 { short := true, pulse := some 7 })
         (s.lp 0).short = true ∧ (s.lp 0).regs.limited = false ∧ (s.lp 0).shortAt + 90000 ≤ s.elt ∧ (s.lp 0).pulse = some 7)
      ∧ (let s := (runs 0 0x0461#16).setLp 0 { regs := { mode := 0x80000000#32 } }
         Runs 0 0x0461#16 s ∧ 0 < s.nLine ∧ (s.lp 0).regs.kind = 0 ∧ (s.lp 0).regs.on = true ∧ s.halter = true
           ∧ (s.lp 0).queue.length < 16)
      ∧ Runs 0 0x0462#16 (runs 0 0x0462#16) := by decide

/-! ### RasterHeadsScanAndWatch -/

theorem wit_RasterHeadsScanAndWatch :
    (let s := headDev {}
     nextFrame s 0 = some (0, 0) ∧ 0 < s.nHeads ∧ (s.head 0).run = true ∧ s.glb.clk.rootLock = true
       ∧ s.glb.faulted = false ∧ unseenLines s (s.head 0).shadow 0 = []
       ∧ s.reached (lineAt s.rst.ym (s.head 0).shadow 0 0 0) = true ∧ (s.head 0).link = false
       ∧ (s.head 0).restart ≠ some 0 ∧ canvasW (s.cfgFor 0).comp ≠ 0 ∧ 0 < (s.head 0).shadow.va)
      ∧ (let s := headDev { link := true }
         (s.head 0).link = true ∧ (s.head 0).shadow.dp = true)
      ∧ (nextFrame State.reset 0 = none ∧ (State.reset.head 0).run = false ∧ (State.reset.head 0).link = false)
      ∧ (let s := headDev { begun := 1, regs := headRegs1 }
         (s.head 0).begun = (s.head 0).regs.mul
           ∧ s.reached (lineAt s.rst.ym (s.head 0).regs (s.head 0).content ((s.head 0).begun - 1) (s.head 0).regs.va) = true
           ∧ s.sched = [] ∧ (s.head 0).regs.frzOn = true ∧ (s.head 0).sigDone ≠ some (s.head 0).content
           ∧ s.reached (lineAt s.rst.ym (s.head 0).regs (s.head 0).content 0
               (vert (s.head 0).regs.frzPos + vert (s.head 0).regs.frzSize)) = true
           ∧ changedAtSource s 0 0 = false)
      ∧ (let s := { headDev { begun := 1, regs := headRegs1 } with sched := [{ frame := 1, gen := 1, cfg := {} }] }
         s.sched = [{ frame := 1, gen := 1, cfg := {} }] ∧ 1 ≤ s.ym.next)
      ∧ (let s := headDev {}
         (headOf s.cfg 0).dp = true ∧ s.glb.clk.serRef1 = true ∧ (headOf State.reset.cfg 0).dp = false)
      ∧ (let s := headDev { hpd := true }
         (s.head 0).hpd = true) := by decide +kernel
theorem wit_tile_packets :
    let s := headDev { begun := 1, regs := headRegs1 }
    let fr : FlowRec := { kind := 4, enable := true, guaranteed := true, width := 2 }
    tileFlow s.cfg 0 0 = some (0, fr) ∧ (tileOf s.cfg 0 0).on = true ∧ tget (s.head 0).sent 0 0 < (tileOf s.cfg 0 0).pkts
      ∧ s.reached (tileDue s 0 0 (tget (s.head 0).sent 0 0)) = true ∧ s.netOn (s.head 0).content = true
      ∧ (s.port 0).link = true ∧ s.portOn 0 = true := by decide +kernel
theorem wit_freeze :
    let s := headDev { begun := 1, regs := headRegs1, content := 1, sigDone := some 0, frzCount := 1 }
    let u := s.setHead 0 { s.head 0 with sig := crc32 (frzBytes s 0) }
    (u.head 0).sigDone = some ((u.head 0).content - 1) ∧ changedAtSource u 0 1 = true ∧ (u.head 0).bg = false
      ∧ (u.head 0).frzCount.toNat + 1 = fld (u.head 0).regs.frzCtrl 23 16 := by decide +kernel

/-! ### FeedsAndRoleSwaps -/

theorem wit_FeedsAndRoleSwaps :
    (Rail.core.limits.1 ≤ 7500 ∧ 7500 ≤ Rail.core.limits.2.1 ∧ 6999 < Rail.core.limits.1)
      ∧ (let s := feedDev .standby
         ((s.rail .core).feed false).st ≠ .fault ∧ (s.rail .core).onB = false ∧ ((s.rail .core).feed true).st = .standby
           ∧ s.feeds.core.ready = true ∧ s.feeds.aon.ready = false
           ∧ (s.feeds.core.feed s.feeds.core.onB).st = .active)
      ∧ (((State.reset.rail .core).feed true).st = .fault ∧ ((State.reset.rail .core).feed false).st = .active
          ∧ Rail.core.limits.2.2.1 ≤ 7500 ∧ 7500 ≤ Rail.core.limits.2.2.2 ∧ State.reset.feeds.core.ready = false)
      ∧ (let s := atNs 3600000000000 (feedDev .resync)
         ((s.rail .core).feed true).st = .resync ∧ ((s.rail .core).feed true).since + 500000000 ≤ s.elt
           ∧ fld s.feeds.cfg 10 0 ≠ 0 ∧ s.feeds.swapAt + fld s.feeds.cfg 10 0 * 60000000000 ≤ s.elt)
      ∧ (State.reset.elt < State.reset.feeds.swapAt + fld State.reset.feeds.cfg 10 0 * 60000000000 ∧ State.reset.feeds.aonDue = none)
      ∧ (let s : State := { State.reset with feeds := { State.reset.feeds with aonDue := some 0 } }
         s.feeds.aonDue = some 0 ∧ 0 ≤ s.elt)
      ∧ (Runs 0 0x0A04#16 (runs 0 0x0A04#16) ∧ fld (1440#32) 10 0 ≤ 1440 ∧ 1440 < fld (1441#32) 10 0)
      ∧ (let s := { runs 0 0x0A05#16 with feeds := (feedDev .standby).feeds }
         Runs 0 0x0A05#16 s ∧ bitOf (1#32) 0 = true ∧ bitOf (1#32) 1 = false ∧ bitOf (2#32) 1 = true ∧ s.feeds.core.ready = true) := by
  decide
theorem wit_FeedsAndRoleSwaps_b :
    (let s := { runs 0 0x0A02#16 with pair := { State.reset.pair with role := .lead, st := .inSync } }
     Runs 0 0x0A02#16 s ∧ s.mirrored (s.box 0).req = true ∧ s.pair.st = .inSync ∧ s.pair.muted = false)
      ∧ (Runs 0 0x0A02#16 (runs 0 0x0A02#16) ∧ (runs 0 0x0A02#16).pair.st ≠ .inSync)
      ∧ (let s := { runs 0 0x0A02#16 with pair := { State.reset.pair with role := .shadow } }
         s.mirrored (s.box 0).req = false)
      ∧ (let s := pairDev { role := .lead, st := .inSync, swap := some { atNs := 0, force := true } }
         let u := { s with ym := { s.ym with lit := some 4 } }
         u.pair.swap = some { atNs := 0, force := true } ∧ u.pair.role = .lead ∧ u.pair.st = .inSync ∧ u.ym.lit ≠ none ∧ s.ym.lit = none)
      ∧ (let s := pairDev { role := .lead, st := .inSync, swap := some { atNs := 0 } }
         let u := { s with ym := { s.ym with fbNs := 1000000 } }
         lineGap u = true ∧ 0 + 1000000 ≤ u.ym.fbNs ∧ s.ym.fbNs < 0 + 1000000)
      ∧ (let s := pairDev { role := .shadow, st := .inSync }
         s.pair.role = .shadow ∧ s.elt + 100000 ≤ s.elt + 100000)
      ∧ (let s := { (runs 0 0x0A02#16).setBox 0 { (runs 0 0x0A02#16).box 0 with waiting := true } with
                      pair := { State.reset.pair with swap := some { atNs := 0, boxes := [0] } } }
         let u := atNs 10000000000 s
         u.pair.swap = some { atNs := 0, boxes := [0] } ∧ 0 + 10000000000 ≤ u.elt ∧ Live 0 u ∧ u.waits 0 0x0A02#16 = true)
      ∧ (let s := pairDev { role := .lead, st := .inSync, lane0 := true, lane1 := true }
         let u := { s with cfg := { s.cfg with pair := { s.cfg.pair with cfg := 0xC0100000#32, swap := 5 } } }
         u.cfg.pair.swap.toNat ≠ 0 ∧ u.pair.swapAt + u.cfg.pair.swap.toNat * 1000000000 ≤ u.elt
           ∧ u.pair.syncAt + 30000000000 ≤ u.elt ∧ u.pair.swap = none ∧ fld u.cfg.pair.cfg 30 29 = (if u.pair.side then 1 else 2)
           ∧ fld s.cfg.pair.cfg 30 29 ≠ (if s.pair.side then 1 else 2)) := by decide

/-! ### PairFormsWatchesAndTakesOver -/

theorem wit_PairFormsWatchesAndTakesOver :
    (let s := pairDev { lane0 := true, lane1 := true }
     s.pair.lane0 = true ∧ s.pair.lane1 = true ∧ s.isP = true ∧ s.glb.clk.serRef0 = true ∧ s.pairOn = true
       ∧ s.pair.hbTx + 2000 ≤ s.elt ∧ State.reset.pairOn = false ∧ State.reset.glb.clk.serRef0 = false)
      ∧ (let s := pairDev { hbRx := some 0, missed := 3, role := .shadow }
         s.pair.hbRx = some 0 ∧ 0 + 2100 ≤ s.elt ∧ 3 ≤ s.pair.missed ∧ s.pair.role = .shadow ∧ s.pair.inp = false ∧ s.pair.taking = .no)
      ∧ (let s := pairDev { inp := true, role := .shadow, st := .inSync, swapTs := some 5 }
         s.pair.inp = true ∧ s.pairOn = true ∧ s.pair.role = .shadow ∧ s.pair.st = .inSync ∧ s.pair.swapTs = some 5 ∧ 5 ≤ s.elt)
      ∧ (let s := pairDev { out := true }
         s.pair.inp = false ∧ s.isP = true ∧ s.pair.out = true ∧ s.pair.hbTx + 6000 ≤ s.elt)
      ∧ (let s := pairDev { role := .shadow, st := .handover }
         s.pair.out = false ∧ s.pair.role = .shadow ∧ s.pair.st = .handover ∧ s.pair.taking = .no)
      ∧ (let s := pairDev { role := .solo, st := .forming, taking := .swap }
         s.pair.lowAt + 5000 ≤ s.elt ∧ s.glb.clk.rootLock = true ∧ s.glb.faulted = false ∧ s.pair.taking = .swap
           ∧ s.pair.role = .solo ∧ s.pair.st = .forming ∧ s.halter = false)
      ∧ (let s := pairDev { role := .solo, st := .forming, out := true }
         s.halter = true ∧ s.pair.out = true ∧ s.pair.conflict = false)
      ∧ (let s := pairDev { role := .shadow, st := .inSync, lane0 := true }
         let u := { s with ym := { s.ym with lit := some 0 } }
         u.hashNext = some 0 ∧ (u.cfgFor 0).ym.ptAt 0 + 2000000 ≤ u.elt ∧ differing u 0 = [])
      ∧ (let s := pairDev { role := .shadow, st := .inSync, divRun := 15 }
         let u := { s with ym := { s.ym with lit := some 0 }
                           cfg := { s.cfg with flow := { s.cfg.flow with flows := [(4, { enable := true })] } } }
         differing u 0 = [4] ∧ fld u.cfg.pair.cfg 23 16 ≤ u.pair.divRun + 1 ∧ u.pair.muted = false) := by decide
theorem wit_pair_in_sync :
    let s := pairDev { role := .lead, st := .forming }
    s.pair.st = .forming ∧ s.configHash s.cfg = s.configHash s.cfg ∧ s.pair.role = .lead := ⟨by decide, rfl, by decide⟩

/-! ### BridleMeasuresAndTrips -/

theorem wit_BridleMeasuresAndTrips :
    ((List.replicate 24 (some (1840 : Int))).length = 24 ∧ State.reset.brd.dark = false ∧ State.reset.brd.level < 4
        ∧ State.reset.brd.sampleAt = none)
      ∧ (let s : State := { State.reset with brd := { State.reset.brd with sampleAt := some 0, level := 4 } }
         s.brd.sampleAt = some 0 ∧ s.brd.level = 4 ∧ s.elt < 0 + (if s.brd.fast then 100000 else 1000000))
      ∧ (let s := graceDev
         s.brd.grace = some 0 ∧ s.brd.expired = false ∧ 0 + fld s.cfg.brd.brd 8 0 * 100000000 ≤ s.elt
           ∧ s.brd.level = 1 ∧ 1520 ≤ s.brd.tmax ∧ s.brd.fallAt = some 5 ∧ 5 ≤ s.elt)
      ∧ (State.reset.brd.grace = none ∧ State.reset.brd.fallAt = none ∧ State.reset.brd.trip = none ∧ State.reset.brd.txStop = false
          ∧ State.reset.brd.dark = false)
      ∧ (let s := tripDev
         s.brd.trip = some 0 ∧ s.brd.tripMsgs < 3 ∧ s.brd.txStop = false ∧ 0 + 1000 + 10000 * s.brd.tripMsgs ≤ s.elt
           ∧ 0 + 30000 ≤ s.elt ∧ 0 < s.nEth ∧ s.portOn 0 = true ∧ (s.port 0).link = true)
      ∧ (let s : State := { tripDev with brd := { tripDev.brd with txStop := true } }
         s.brd.txStop = true ∧ s.brd.dark = false)
      ∧ (let s : State := { tripDev with brd := { tripDev.brd with txStop := true, dark := true }
                                         glb := { tripDev.glb with domain := 0x30000003#32 } }
         s.brd.dark = true ∧ fld s.glb.domain 29 28 ≠ 0)
      ∧ (Runs 0 0x0B03#16 (runs 0 0x0B03#16) ∧ 1 ≤ 60000 ∧ 60000 < 60001 ∧ 0 < 1)
      ∧ (let s := waitDev
         s.brd.waits.find? (fun x => x.1 = 0) = some (0, 0) ∧ 0 ≤ s.elt ∧ Live 0 s ∧ s.waits 0 0x0B03#16 = true
           ∧ s.brd.waits = [(0, 0)])
      ∧ State.reset.brd.waits.find? (fun x => x.1 = 0) = none
      ∧ Runs 0 0x0B04#16 (runs 0 0x0B04#16) := by decide

/-! ### CalibrationRunsAndQuiets -/

theorem wit_CalibrationRunsAndQuiets :
    (Runs 0 0x0C02#16 (runs 0 0x0C02#16) ∧ Runs 0 0x0C04#16 (runs 0 0x0C04#16)
        ∧ (runs 0 0x0C02#16).brd.level < 3 ∧ (runs 0 0x0C02#16).brd.cal.run = none)
      ∧ (let s := { runs 0 0x0C02#16 with brd := { State.reset.brd with level := 3 } }
         Runs 0 0x0C02#16 s ∧ 3 ≤ s.brd.level)
      ∧ (let s := { runs 0 0x0C04#16 with brd := { State.reset.brd with cal := { run := some { groups := [(0, 0)] } } } }
         Runs 0 0x0C04#16 s ∧ s.brd.level < 3 ∧ s.brd.cal.run.isSome = true)
      ∧ (let b := calBytes
         unle (b.take 4) = 0x4C435848 ∧ unle ((b.drop 4).take 2) = 1 ∧ 1 ≤ unle ((b.drop 6).take 2)
           ∧ b.length = 32 + 4 * unle ((b.drop 6).take 2)
           ∧ unle ((b.drop 12).take 4) = (crc32 (b.take 12 ++ le 4 0 ++ b.drop 16)).toNat)
      ∧ (let b : List Byte := []
         unle (b.take 4) ≠ 0x4C435848)
      ∧ (let s := calDev { groups := [(2, 0), (3, 0)], box := some 0 }
         s.brd.cal.run = some { groups := [(2, 0), (3, 0)], box := some 0 } ∧ Live 0 s
           ∧ s.waits 0 (s.box 0).req.opcode = true ∧ ¬ (s.pair.role = .shadow ∧ s.pair.st = .inSync)
           ∧ rateChangeNear s = false ∧ s.brd.hold = none)
      ∧ (let s := calDev { groups := [(3, 0), (4, 0)], measured := true, left := [(3, 0), (4, 0)] }
         s.brd.cal.run = some { groups := [(3, 0), (4, 0)], measured := true, left := [(3, 0), (4, 0)] }
           ∧ applyPoint s (3, 0) = true ∧ applyPoint s (4, 0) = true ∧ applyPoint s (2, 0) = false
           ∧ 256 * 3 + 0 ∉ s.brd.cal.lost ∧ s.brd.cal.next = [])
      ∧ (State.reset.brd.cal.run = none ∧ State.reset.brd.cal.quiet = none)
      ∧ (let s := pairDev { role := .lead, st := .inSync }
         s.pair.st = .inSync ∧ s.pair.role = .lead ∧ quietSlack s = true ∧ rateChangeNear s = false)
      ∧ (pairDev { role := .shadow, st := .inSync }).pair.role = .shadow ∧ State.reset.pair.st ≠ .inSync := by decide +kernel
theorem wit_CalibrationRunsAndQuiets_b :
    let s := quietDev
    s.brd.cal.run.isSome = true ∧ s.brd.cal.quiet = some 1 ∧ s.ym.latest = some 1
      ∧ (s.cfgFor 1).ym.ptAt 1 ≤ s.elt + 45000 ∧ s.elt < (s.cfgFor 1).ym.ptAt 1
      ∧ (let u : State := { s with brd := { s.brd with cal := { quiet := some 1 } } }
         u.brd.cal.run = none ∧ u.brd.cal.quiet = some 1 ∧ u.ym.latest = some 1
           ∧ (u.cfgFor 1).ym.ptAt 1 ≤ u.elt + 45000 ∧ u.elt < (u.cfgFor 1).ym.ptAt 1) := by decide +kernel

/-! ### CheckUnitsRunScanAndAbort -/

theorem wit_CheckUnitsRunScanAndAbort :
    ((State.reset.unit 3).mayWrite .pcie = true ∧ (State.reset.unit 3).running = false ∧ (State.reset.unit 0).settingsOk = true
        ∧ (State.reset.unit 0).armed = false)
      ∧ (let s := unitDev { ctrl := 0x40000000#32 }
         (s.unit 0).mayWrite .pcie = false ∧ Path.pcie ≠ .groom ∧ (s.unit 0).owner ≠ 0 ∧ (s.unit 0).mayWrite .groom = true
           ∧ (s.unit 0).box = none ∧ (s.unit 0).done = false)
      ∧ (unitDev { ctrl := 0x18000000#32 }).unit 0 = { ctrl := 0x18000000#32 }
      ∧ ((unitDev { ctrl := 0x18000000#32 }).unit 0).settingsOk = false
      ∧ (let s := unitDev { ctrl := 0x24400400#32, running := true, armed := true }
         (s.unit 0).armed = true ∧ s.ym.lit = some 3 ∧ (s.unit 0).running = true ∧ (s.unit 0).mayWrite .pcie = true)
      ∧ (let s := unitDev { running := true }
         (s.unit 0).running = true ∧ (s.unit 0).scanMode = false ∧ (s.unit 0).box = none)
      ∧ ((unitDev { done := true }).unit 0).done = true
      ∧ (let s := unitDev { ctrl := 0x44000400#32, running := true, length := 8, box := some 1 }
         (s.unit 0).running = true ∧ (s.unit 0).scanMode = true ∧ (s.unit 0).armed = false ∧ (s.unit 0).torn = false
           ∧ (s.unit 0).done = false ∧ (s.unit 0).box = some 1 ∧ Live 1 s ∧ s.waits 1 0x0D01#16 = true
           ∧ (scanFrom (s.unit 0) 8 (fun _ => 0) (some 4) 8 0 0).2.2 = 2)
      ∧ (let s := runs 0 0x0D01#16
         Runs 0 0x0D01#16 s ∧ (s.unit 0).owner = 0
           ∧ ({ ctrl := setFld (0x00800000#32 &&& 0xFFC0FFFF#32) 31 29 2 } : ChkUnit).settingsOk = true
           ∧ ({ ctrl := setFld (0x00800000#32 &&& 0xFFC0FFFF#32) 31 29 2 } : ChkUnit).scanMode = false
           ∧ ({ ctrl := setFld (0x04000400#32 &&& 0xFFC0FFFF#32) 31 29 2, length := 8 } : ChkUnit).settingsOk = true
           ∧ ({ ctrl := setFld (0x04000400#32 &&& 0xFFC0FFFF#32) 31 29 2, length := 8 } : ChkUnit).scanMode = true
           ∧ ({ ctrl := setFld (0x18000000#32 &&& 0xFFC0FFFF#32) 31 29 2 } : ChkUnit).settingsOk = false)
      ∧ (let s := { runs 0 0x0D01#16 with far := (unitDev { ctrl := 0x20000000#32 }).far }
         Runs 0 0x0D01#16 s ∧ (s.unit 0).owner ≠ 0)
      ∧ (let s := { runs 0 0x0D02#16 with far := (unitDev { ctrl := 0x20000000#32 }).far }
         Runs 0 0x0D02#16 s ∧ (s.unit 0).mayWrite .groom = false ∧ (s.unit 1).mayWrite .groom = true ∧ (s.unit 1).done = false) := by
  decide

/-! ### ScrubbersAndFieldTests -/

theorem wit_ScrubbersAndFieldTests :
    (({} : EccRead).out = .clean ∧ ({ located := some [3] } : EccRead).out = .corrected
        ∧ ({ located := none } : EccRead).out = .uncorrectable ∧ ({ fold := false } : EccRead).out = .address)
      ∧ (let s : State := { State.reset with glb := { State.reset.glb with dramGiB := [4] } }
         0 < s.channels ∧ tget s.far.patrol 0 0 < channelLines s 0)
      ∧ (let s := fieldDev {}
         s.fieldOn = true ∧ s.inRound = false ∧ s.far.roundAt + 1000000000 * fld s.cfg.far 23 12 ≤ s.elt
           ∧ s.nextStall 0 = some 0 ∧ s.mayRotate 0 = true ∧ (s.rot 0).atNs + 1000000000 * fld s.cfg.far 11 0 ≤ s.elt
           ∧ s.far.active = none ∧ (s.rot 0).march = none ∧ s.mayRotate 3 = false
           ∧ s.far.want.find? (fun x => x.sinceNs + 1000000000 ≤ s.elt) = none)
      ∧ (State.reset.fieldOn = false)
      ∧ (let s := fieldDev { active := some { stall := 2, slice := 15, sinceNs := 0, box := some 0 }, want := [{ stall := 1, slice := 4, sinceNs := 0 }]
                             rots := [(0, { spare := some 320, march := some 7, box := some 0 })] }
         s.far.active = some { stall := 2, slice := 15, sinceNs := 0, box := some 0 } ∧ Live 0 s ∧ s.waits 0 0x0E02#16 = true
           ∧ s.far.want.find? (fun x => x.sinceNs + 1000000000 ≤ s.elt) = some { stall := 1, slice := 4, sinceNs := 0 }
           ∧ s.nextStall 2 = some 2 ∧ (s.rot 0).march = some 7 ∧ (s.rot 0).box = some 0)
      ∧ (let s := (fieldDev {}).setBox 0 ((runs 0 0x0E02#16).box 0)
         Runs 0 0x0E02#16 s ∧ 5 < s.nStalls ∧ s.fieldOn = true ∧ (s.stall 5).withdrawn = false ∧ s.mayRotate 0 = true
           ∧ regionBanks 3 = 0)
      ∧ (Runs 0 0x0E02#16 (runs 0 0x0E02#16) ∧ (runs 0 0x0E02#16).fieldOn = false) := by decide
theorem wit_ScrubbersAndFieldTests_b : Config.signature 2 15 + 1 ≠ Config.signature 2 15 := by
  intro h
  have := congrArg (· - Config.signature 2 15) h
  simp [BitVec.add_comm] at this

/-! ### SecurityStatesKeysAndDebug -/

theorem wit_SecurityStatesKeysAndDebug :
    (let s := secDev 0x1002#16 {}
     Runs 0 0x1002#16 s ∧ lcAllowed s.lcNow .test = false ∧ s.lcNow = .field ∧ lcAllowed s.lcNow .rma = true)
      ∧ (let s := secDev 0x1002#16 { lc := .provisioned }
         Runs 0 0x1002#16 s ∧ s.lcNow = .provisioned ∧ s.creds.any Cred.service = false ∧ lcAllowed s.lcNow .field = true)
      ∧ ((secDev 0x1002#16 { lc := .raw }).lcNow = .raw ∧ State.reset.lcNow ≠ .raw)
      ∧ (let s := secDev 0x1003#16 { settings := [(0, { creds := (List.range 16).map (fun i => { id := BitVec.ofNat 16 i, mask := 0x10#8 }) })] }
         Runs 0 0x1003#16 s ∧ 16 ≤ (s.creds.filter (fun x => x.id ≠ 99#16)).length
           ∧ (s.creds.filter (fun x => x.id ≠ 3#16)).length < 16 ∧ s.pair.st ≠ .refused)
      ∧ (let s := { secDev 0x1003#16 {} with pair := { st := .refused } }
         Runs 0 0x1003#16 s ∧ s.pair.st = .refused ∧ (s.creds.filter (fun x => x.id ≠ 3#16)).length < 16)
      ∧ (let s := secDev 0x1004#16 { settings := [(0, { creds := [{ id := 7, mask := 0x10#8 }] })] }
         Runs 0 0x1004#16 s ∧ (∀ c, c ∈ s.creds → c.id ≠ 8) ∧ s.creds.any (fun c => c.id = 7) = true ∧ s.lcNow = .field
           ∧ s.creds.any Cred.service = true ∧ (s.creds.filter (fun x => x.id ≠ 7#16)).any Cred.service = false)
      ∧ (let s := secDev 0x1004#16 { lc := .provisioned, settings := [(0, { creds := [{ id := 7, mask := 0x10#8 }] })] }
         Runs 0 0x1004#16 s ∧ s.lcNow ≠ .field ∧ s.pair.st ≠ .refused ∧ s.creds.any (fun c => c.id = 7) = true) := by decide
theorem wit_SecurityStatesKeysAndDebug_b :
    Runs 0 0x1006#16 (secDev 0x1006#16 {})
      ∧ (let s := secDev 0x1007#16 { revoked := 0x6#4 }
         Runs 0 0x1007#16 s ∧ s.sec.revoked ||| bitMask 4 3 ≠ 0xF#4 ∧ 3 ≠ s.sec.running.keyIndex ∧ 0 = s.sec.running.keyIndex)
      ∧ (State.reset.sec.lc ≠ .scrapped ∧ State.reset.sec.keys = true
          ∧ (secDev 0x1002#16 { lc := .scrapped, keys := false }).sec.lc = .scrapped)
      ∧ (let s := secDev 0x1005#16 { lc := .provisioned, challenge := some (0, 5) }
         Runs 0 0x1005#16 s ∧ s.unlockable = true ∧ s.sec.fails < 3 ∧ s.sec.challenge = some (0, 5) ∧ s.elt < 0 + 60000000000)
      ∧ (let s := secDev 0x1005#16 { lc := .provisioned, fails := 3 }
         Runs 0 0x1005#16 s ∧ s.unlockable = true ∧ 3 ≤ s.sec.fails)
      ∧ (let s := secDev 0x1005#16 {}
         Runs 0 0x1005#16 s ∧ s.unlockable = false)
      ∧ (let s := atNs 60000000000 (secDev 0x1005#16 { lc := .provisioned, challenge := some (0, 5) })
         s.sec.challenge = some (0, 5) ∧ 0 + 60000000000 ≤ s.elt)
      ∧ (let s := secDev 0x1005#16 { lc := .rma }
         s.debugOn = true ∧ s.hasCore (.stall 15) = true ∧ DbgCore.stall 15 ∉ s.sec.halted ∧ s.lcNow = .rma)
      ∧ (let s := secDev 0x1005#16 { lc := .rma, halted := [.groom] }
         s.debugOn = true ∧ DbgCore.groom ∈ s.sec.halted ∧ s.sec.halted = [.groom])
      ∧ (State.reset.debugOn = false ∧ State.reset.lcNow ≠ .raw ∧ State.reset.lcNow ≠ .test ∧ State.reset.lcNow ≠ .rma) := by decide

/-! ### UpdateSessionsStageAndInstall -/

theorem wit_UpdateSessionsStageAndInstall :
    (let s := updDev 0x0F01#16 (holds1 {})
     Runs 0 0x0F01#16 s ∧ s.sec.upd.heldBy (s.box 0).req = true)
      ∧ (let s := updDev 0x0F01#16 { lock := some { from? := some 1, atNs := 0, id := 1, lastNs := 0 } }
         Runs 0 0x0F01#16 s ∧ s.sec.upd.heldBy (s.box 0).req = false ∧ s.sec.upd.lock.isSome = true)
      ∧ (let s := updDev 0x0F01#16 {}
         Runs 0 0x0F01#16 s ∧ s.sec.upd.lock = none ∧ partner s 0 = none ∧ s.session? (s.box 0).req.session.toNat = some ses1
           ∧ s.sec.upd.heldBy (s.box 0).req = false)
      ∧ (Runs 0 0x0F02#16 (updDev 0x0F02#16 {}) ∧ Runs 0 0x0F03#16 (updDev 0x0F03#16 {})
          ∧ Runs 0 0x0F04#16 (updDev 0x0F04#16 {}) ∧ Runs 0 0x0F05#16 (updDev 0x0F05#16 {})
          ∧ Runs 0 0x0F06#16 (updDev 0x0F06#16 {}) ∧ Runs 0 0x0F07#16 (updDev 0x0F07#16 {})
          ∧ Runs 0 0x0F08#16 (updDev 0x0F08#16 {})) := by decide
theorem wit_UpdateSessionsStageAndInstall_b :
    (let s := updDev 0x0F02#16 (holds1 {})
     let man := parseManifest man0
     Runs 0 0x0F02#16 s ∧ s.sec.upd.heldBy (s.box 0).req = true ∧ s.peerKnown = false ∧ s.sec.counter ≤ man.svn
       ∧ (man.clean && man.compsOk && true && decide (man.keyIndex < 4) && !bitOf s.sec.revoked man.keyIndex) = true
       ∧ man.compatible 0 = false)
      ∧ (let s := updDev 0x0F02#16 (holds1 {})
         let t := { s with sec := { s.sec with counter := 2 }, pair := { role := .lead, st := .inSync } }
         Runs 0 0x0F02#16 t ∧ t.sec.upd.heldBy (t.box 0).req = true ∧ t.peerKnown = true
           ∧ (parseManifest man0).svn < t.sec.counter ∧ (parseManifest []).clean = false) := by decide +kernel
theorem wit_UpdateSessionsStageAndInstall_c :
    (let s := updDev 0x0F03#16 (holds1 { man := some { chunks := 2 } })
     Runs 0 0x0F03#16 s ∧ s.sec.upd.heldBy (s.box 0).req = true ∧ s.sec.upd.man.isSome = true ∧ s.sec.upd.staged = false
       ∧ s.sec.upd.half = none ∧ 0 = s.sec.upd.chunks.length ∧ (List.replicate 2048 0#8).length = 2048)
      ∧ (let s := updDev 0x0F03#16 (holds1 { man := some { chunks := 2 }, chunks := [[]], half := some (0, []) })
         Runs 0 0x0F03#16 s ∧ 0 + 1 = s.sec.upd.chunks.length ∧ s.sec.upd.half = some (1 - 1, []))
      ∧ (let s := updDev 0x0F03#16 (holds1 {})
         Runs 0 0x0F03#16 s ∧ s.sec.upd.man = none)
      ∧ (let s := updDev 0x0F04#16 (holds1 { man := some {}, relay := some { port := 0, addr := 1 } })
         Runs 0 0x0F04#16 s ∧ s.sec.upd.heldBy (s.box 0).req = true ∧ s.sec.upd.staged = true ∧ s.sec.upd.man = some {}
           ∧ s.sec.upd.relay = some { port := 0, addr := 1 } ∧ (0 : Nat) = s.sec.upd.chunks.length)
      ∧ (let s := updDev 0x0F05#16 (holds1 { installed := true })
         Runs 0 0x0F05#16 s ∧ s.sec.upd.installed = true ∧ s.pair.st ≠ .inSync)
      ∧ (let s := updDev 0x0F06#16 (holds1 {})
         Runs 0 0x0F06#16 s ∧ s.glb.recovery = false ∧ s.sec.upd.installed = false ∧ s.sec.upd.relay = none)
      ∧ (let s := atNs 120000000000 (updDev 0x0F06#16 (holds1 {}))
         s.sec.upd.lock.isSome = true ∧ 0 + 120000000000 ≤ s.elt ∧ s.sec.upd.box = none)
      ∧ State.reset.sec.upd.lock = none := by decide +kernel
theorem wit_UpdateSessionsStageAndInstall_e :
    let s := updDev 0x0F03#16 (holds1 { man := some { chunks := 2 } })
    let u (k : Nat) : State :=
      s.setBox 0 { s.box 0 with dma := some { ended := true, obj := ({} : StageObj).put 0 (List.replicate k 0) } }
    Runs 0 0x0F03#16 (u 4096) ∧ (u 4096).sec.upd.heldBy ((u 4096).box 0).req = true ∧ (u 4096).sec.upd.man.isSome = true
      ∧ (u 4096).moved 0 = some (List.replicate 4096 0) ∧ (u 8).moved 0 = some (List.replicate 8 0) := by decide +kernel
theorem wit_UpdateSessionsStageAndInstall_d :
    Installs {} [] (updDev 0x0F04#16 (holds1 { man := some {} }))
      ∧ ¬ Installs { comps := [{ type := 1, offset := 0, length := 0, version := 0, digest := 0 }] } [2] State.reset
      ∧ acceptAll [List.replicate 4096 0] { man := some { chunks := 1 }, expect := Config.sha384 (List.replicate 4096 0) }
          = (true, { man := some { chunks := 1 }, chunks := [List.replicate 4096 0], expect := 0 })
      ∧ acceptAll [[]] {} = (false, {}) := by
  have hz : unbe (sl (List.replicate 4096 (0 : Byte)) 4048 48) = 0 := by decide +kernel
  have key : ∀ b : List Byte, b.length = 4096 → unbe (sl b 4048 48) = 0 →
      acceptAll [b] { man := some { chunks := 1 }, expect := Config.sha384 b }
        = (true, { man := some { chunks := 1 }, chunks := [b], expect := 0 }) := by
    intro b h1 h2; simp [acceptAll, Upd.accept, Upd.staged, h1, h2]
  exact ⟨by intro i c h; simp at h, fun h => by have := (h 0 _ rfl).1; simp at this,
    key _ List.length_replicate hz, by simp [acceptAll, Upd.accept]⟩

/-! ### ChainRelaysUpdates -/

theorem wit_ChainRelaysUpdates :
    (manifestStatus State.reset (parseManifest man0) true = .ok ∧ manifestStatus State.reset (parseManifest man0) false ≠ .ok
        ∧ State.reset.sec.upd.lock = none ∧ (upDev {}).sec.upd.lock.isSome = true)
      ∧ (let s := upDev { relay := some { port := 1, addr := 2 }, man := some { compat := [(0, 9)] } }
         fromDown s 2 5 = some { port := 1, addr := 2 } ∧ ({ compat := [(0, 9)] } : Manifest).compatible 9 = true
           ∧ ({ compat := [(0, 9)] } : Manifest).compatible 10 = false ∧ fromDown s 3 5 = none
           ∧ s.sec.upd.lock.isSome = true ∧ fromUp s 1 5 = true ∧ fromUp s 2 5 = false)
      ∧ (let s := upDev { man := some { chunks := 1 } }
         fromUp s 1 5 = true ∧ 0 = s.sec.upd.chunks.length ∧ s.sec.upd.staged = false ∧ s.sec.upd.bad = 0
           ∧ s.sec.upd.relay = none ∧ s.sec.upd.chunks = [] ∧ (1 : Nat) ≠ s.sec.upd.chunks.length)
      ∧ (let s := upDev { man := some { chunks := 3 }, chunks := [[]], bad := 1 }
         fromUp s 1 5 = true ∧ (1 : Nat) = s.sec.upd.chunks.length ∧ s.sec.upd.bad ≠ 0 ∧ s.sec.upd.chunks ≠ [])
      ∧ (let r : Relay := { port := 1, addr := 2, accepted := true, sent := 16, install := true, reportNs := 50000000 }
         let s := atNs 50000000 (upDev { relay := some r, man := some {} })
         fromDown s 2 5 = some r ∧ r.acked ≤ 15 ∧ 15 < r.sent ∧ s.sec.upd.relay = some r ∧ r.accepted = true
           ∧ r.acked < r.sent ∧ r.ackNs + 50000000 ≤ s.elt ∧ r.install = true ∧ r.reportNs ≤ s.elt ∧ s.sec.upd.staged = true
           ∧ fromUp s 1 5 = true)
      ∧ (let r : Relay := { port := 1, addr := 2, accepted := true, install := true }
         let s := originDev { relay := some r, man := some {} }
         fromDown s 2 5 = some r ∧ s.sec.upd.lock.any (fun l => l.from?.isNone) = true ∧ s.sec.upd.box = some 0 ∧ Live 0 s
           ∧ s.waits 0 0x0F04#16 = true ∧ s.sec.upd.man = some {}) := by decide +kernel
theorem wit_ChainRelaysUpdates_b :
    (let s := upDev { man := some {} }
     fromUp s 1 5 = true ∧ s.sec.upd.staged = true ∧ s.sec.upd.relay = none ∧ s.portOn 0 = true ∧ (s.port 0).link = true)
      ∧ Installs {} [] (upDev { man := some {} })
      ∧ (let s := upDev { man := some { chunks := 1 }, expect := Config.sha384 (List.replicate 4096 0) }
         Config.sha384 (List.replicate 4096 0) = s.sec.upd.expect)
      ∧ (List.replicate 4096 (0 : Byte)).length = 4096 :=
  ⟨by decide +kernel, by intro i c h; simp at h, rfl, List.length_replicate⟩

end Sys2Proof.Tests
end

section
/-! Proofs for chapter 00: a step goes on, keeps the device's identity and takes its own command from the queue. -/
namespace Sys2Proof.Machine
open Sys2Proof

/-! ## Every step goes on -/

/-- Every command's meaning ends in `commit`: there is no fault and no refusal. -/
theorem exec_eq_commit (c : Instr) (s : State) : ∃ u, exec c s = commit s u := by
  cases c <;> exact ⟨_, rfl⟩

/-- A step with a command at the front takes that command alone from the queue and keeps the identity. -/
theorem step_cons (s : State) (c : Instr) (rest : List Instr) (h : s.pending = c :: rest) :
    ∃ t, step s = .next t ∧ sameDevice s t ∧ t.pending = rest := by
  obtain ⟨u, hu⟩ := exec_eq_commit c { s with pending := rest }
  refine ⟨{ u with pending := rest, variant := s.variant, glb := { u.glb with deviceId := s.glb.deviceId } },
    ?_, ⟨rfl, rfl⟩, rfl⟩
  rw [step, h]
  exact hu

/-- A step on an empty queue is an edge of TIMECLK, which keeps the identity. -/
theorem step_nil (s : State) (h : s.pending = []) : step s = .next (clockEdge s) ∧ sameDevice s (clockEdge s) := by
  rw [step, h]
  exact ⟨rfl, rfl, rfl⟩

/-- A step of any state goes on, on the same device. -/
theorem step_keeps_device (s : State) : ∃ t, step s = .next t ∧ sameDevice s t := by
  cases h : s.pending with
  | nil => exact ⟨_, step_nil s h⟩
  | cons c rest =>
    obtain ⟨t, ht, hd, -⟩ := step_cons s c rest h
    exact ⟨t, ht, hd⟩

/-- The device of a later state is that of an earlier one. -/
theorem sameDevice.trans {s t u : State} (h : sameDevice s t) (k : sameDevice t u) : sameDevice s u :=
  ⟨k.1.trans h.1, k.2.trans h.2⟩

/-- A run of one step more goes on from where its first step leads. -/
theorem run_succ (n : Nat) {s t : State} (h : step s = .next t) :
    Host.Core.run Sys2Proof.core (n + 1) s = Host.Core.run Sys2Proof.core n t := by
  have hc : Sys2Proof.core.step s = .next t := h
  simp only [Host.Core.run, hc]

/-- A queue is empty after as many steps as it holds commands. -/
theorem run_empties_queue (n : Nat) (s : State) (h : s.pending.length = n) :
    ∃ t, Host.Core.run Sys2Proof.core n s = .next t ∧ t.pending = [] ∧ sameDevice s t := by
  induction n generalizing s with
  | zero => exact ⟨s, rfl, List.length_eq_zero_iff.mp h, rfl, rfl⟩
  | succ n ih =>
    obtain ⟨c, rest, hp⟩ := List.exists_cons_of_length_eq_add_one h
    obtain ⟨t, ht, hd, hr⟩ := step_cons s c rest hp
    obtain ⟨u, hu, he, hk⟩ := ih t (by simpa [hr, hp] using h)
    exact ⟨u, (run_succ n ht).trans hu, he, hd.trans hk⟩

end Sys2Proof.Machine

open Sys2Proof Sys2Proof.Machine

/-- Settles O3: every meaning ends in `commit`, which puts the identity back, and an edge of TIMECLK leaves it alone. -/
theorem everyStepKeepsTheIdentity : Obligations.EveryStepKeepsTheIdentity := by
  intro s
  obtain ⟨t, ht, hv, hd⟩ := step_keeps_device s
  exact ⟨t, ht, hd, congrArg Variant.code hv⟩

/-- Settles O4, by induction on the length of the queue. -/
theorem everyQueueRunsToItsEnd : Obligations.EveryQueueRunsToItsEnd := run_empties_queue
end

section
/-! Proofs for the cause registers: what a clearing write and a clearing read do, once each. -/
namespace Sys2Proof.Machine
open Sys2Proof

/-! ## Reads that return a value -/

/-- A read by one path leaves what another path's latest read returned. -/
theorem returns_readOf_ne (s : State) (p q : Path) (v : Word) (h : q ≠ p) :
    (s.returns p v).readOf q = s.readOf q := by
  have hk : ∀ e : Path × Word, (decide (e.1 ≠ p) && decide (e.1 = q)) = decide (e.1 = q) := by
    intro e
    by_cases he : e.1 = q <;> simp [he, h]
  simp only [State.returns, State.readOf, List.find?_cons, List.find?_filter, decide_eq_false h.symm,
    ← Bool.and_eq_true, Bool.decide_eq_true, hk]

/-- A read returns its value to its path, and in the GLOBAL block does nothing more. -/
theorem returns_returns (s : State) (p : Path) (v : Word) : Returns p v s (s.returns p v) :=
  ⟨State.returns_readOf s p v, rfl, fun q hq => returns_readOf_ne s p q v hq⟩

/-- What was read depends on the GLOBAL block alone. -/
theorem Returns.of_glb {p : Path} {v : Word} {s t u : State} (h : Returns p v s t) (hg : u.glb = t.glb) :
    Returns p v s u := by
  have hr : ∀ q, u.readOf q = t.readOf q := fun q => by rw [State.readOf, hg, State.readOf]
  obtain ⟨hv, hglb, hne⟩ := h
  exact ⟨(hr p).trans hv, by rw [hg]; exact hglb, fun q hq => (hr q).trans (hne q hq)⟩

/-! ## Clearing -/

@[simp] theorem clearCause_glb (s : State) (r : CauseReg) (m : Word) : (s.clearCause r m).glb = s.glb := by
  rw [clearCause_frame]

@[simp] theorem clearCause_pending (s : State) (r : CauseReg) (m : Word) : (s.clearCause r m).pending = s.pending := by
  rw [clearCause_frame]

@[simp] theorem clearCause_variant (s : State) (r : CauseReg) (m : Word) : (s.clearCause r m).variant = s.variant := by
  rw [clearCause_frame]

/-- Clearing bits of a register does what the claims call clearing. -/
theorem clearCause_clears (s : State) (r : CauseReg) (m : Word) : ClearsCause r m s (s.clearCause r m) :=
  ⟨clearCause_cause s r m, fun q hq => clearCause_cause_ne s r q m hq, by rw [clearCause_frame]⟩

/-- Clearing does not look at the GLOBAL block, so a read may return its value before or after. -/
theorem ClearsCause.of_glb {r : CauseReg} {m : Word} {s t : State} (g : Glb)
    (h : ClearsCause r m { s with glb := g } t) : ClearsCause r m s t := by
  obtain ⟨hr, hne, hf⟩ := h
  exact ⟨hr, hne, hf⟩

/-- A write of ones to a W1C register: its row's outcome. -/
theorem commit_clearCause (s : State) (r : CauseReg) (m : Word) :
    ∃ t, commit s (s.clearCause r m) = .next t ∧ ClearsCause r m s t ∧ t.glb = s.glb :=
  ⟨_, commit_same s _ (by simp) (by simp) (by simp), clearCause_clears s r m, clearCause_glb s r m⟩

/-- A read of an RC register that returns it and then clears it: its row's outcome. -/
theorem commit_readClear (s : State) (p : Path) (r : CauseReg) :
    ∃ t, commit s ((s.returns p (s.cause r)).clearCause r 0xFFFFFFFF#32) = .next t
      ∧ ClearsCause r 0xFFFFFFFF#32 s t ∧ Returns p (s.cause r) s t :=
  ⟨_, commit_same s _ (by simp) (by simp) (by simp [State.returns]),
    (clearCause_clears (s.returns p _) r _).of_glb _, (returns_returns s p _).of_glb (clearCause_glb _ _ _)⟩

/-- The same of a register that is one of several, where the variant has it. -/
theorem commit_readClear_if (s : State) (p : Path) (r : CauseReg) {k n : Nat} (h : k < n) :
    ∃ t, commit s (if k < n then (s.returns p (s.cause r)).clearCause r 0xFFFFFFFF#32 else s) = .next t
      ∧ ClearsCause r 0xFFFFFFFF#32 s t ∧ Returns p (s.cause r) s t := by
  rw [if_pos h]
  exact commit_readClear s p r

/-- A read that clears first and then returns what stood there, as LAMP_EVT_CAUSE's does. -/
theorem commit_clearRead (s : State) (p : Path) (r : CauseReg) :
    ∃ t, commit s ((s.clearCause r 0xFFFFFFFF#32).returns p (s.cause r)) = .next t
      ∧ ClearsCause r 0xFFFFFFFF#32 s t ∧ Returns p (s.cause r) s t := by
  obtain ⟨hr, hne, -⟩ := clearCause_clears s r 0xFFFFFFFF#32
  obtain ⟨hv, hglb, hq⟩ := returns_returns (s.clearCause r 0xFFFFFFFF#32) p (s.cause r)
  refine ⟨_, commit_same s _ (by simp) (by simp) (by simp [State.returns]), ⟨hr, hne, ?_⟩, hv, ?_, ?_⟩
  · rw [clearCause_frame]; rfl
  · rw [hglb, clearCause_glb]
  · intro q h
    rw [hq q h, State.readOf, clearCause_glb, State.readOf]

/-! ## MBX_EVT_CAUSE -/

/-- Bit n of a word with bit i alone set. -/
theorem bitOf_bitMask (w i n : Nat) (h : n < w) : bitOf (bitMask w i) n = decide (i = n) := by
  rw [bitOf, bitMask, BitVec.getLsbD_ofNat, Nat.testBit_two_pow, decide_eq_true h, Bool.true_and]

/-- A word gathered bit by bit from a list has the bits that the list names, and those it began with. -/
theorem bitOf_foldl_bitMask (l : List Nat) (a : Word) (n : Nat) (h : n < 32) :
    bitOf (l.foldl (fun (a : Word) m => a ||| bitMask 32 m) a) n = (bitOf a n || decide (n ∈ l)) := by
  induction l generalizing a with
  | nil => simp
  | cons m l ih =>
    have hb : bitOf (a ||| bitMask 32 m) n = (bitOf a n || decide (m = n)) := by
      rw [← bitOf_bitMask 32 m n h]
      exact BitVec.getLsbD_or
    rw [List.foldl_cons, ih, hb]
    simp [Bool.or_assoc, eq_comm]

/-- The bits that a write by a path may clear: its own mailboxes', all of them by Groom (R45). -/
def ownMbxBits (s : State) (p : Path) : Word :=
  ((List.range 16).filter (fun m => p = .groom ∨ s.boxPath m = some p)).foldl
    (fun (a : Word) m => a ||| bitMask 32 m) 0

theorem bitOf_ownMbxBits (s : State) (p : Path) (n : Nat) (h : n < 32) :
    bitOf (ownMbxBits s p) n = true ↔ n < 16 ∧ (p = .groom ∨ s.boxPath n = some p) := by
  rw [ownMbxBits, bitOf_foldl_bitMask _ _ _ h]
  simp [bitOf]

/-- A bit is cleared where it is written 1 and lies among the writing path's mailboxes. -/
theorem bitOf_mbxClearMask (s : State) (p : Path) (v : Word) (n : Nat) (h : n < 32) :
    bitOf (v &&& ownMbxBits s p &&& 0x0000FFFF#32) n = true
      ↔ bitOf v n = true ∧ n < 16 ∧ (p = .groom ∨ s.boxPath n = some p) := by
  have hlow : bitOf 0x0000FFFF#32 n = decide (n < 16) := by
    interval_cases n <;> rfl
  have hand : bitOf (v &&& ownMbxBits s p &&& 0x0000FFFF#32) n
      = (bitOf v n && bitOf (ownMbxBits s p) n && bitOf 0x0000FFFF#32 n) := by
    simp only [bitOf, BitVec.getLsbD_and]
  rw [hand, hlow, Bool.and_eq_true, Bool.and_eq_true, bitOf_ownMbxBits s p n h, decide_eq_true_eq]
  tauto

end Sys2Proof.Machine

open Sys2Proof Sys2Proof.Machine

/-- Settles O8: each W1C row is `clearCause`, each RC row a return and `clearCause`. -/
theorem causeRegistersClear : Obligations.CauseRegistersClear := by
  refine ⟨?_, ?_, ?_, ?_, ?_, ?_, ?_, ?_, ?_, ?_, ?_, ?_, ?_, ?_, ?_, ?_, ?_, ?_, ?_⟩
  · exact fun v s => commit_clearCause s .glb (v &&& 0xE#32)
  · intro p v s
    obtain ⟨t, ht, hc, hg⟩ := commit_clearCause s .mbx (v &&& ownMbxBits s p &&& 0x0000FFFF#32)
    exact ⟨t, _, ht, hc, hg, bitOf_mbxClearMask s p v⟩
  · exact fun v s => commit_clearCause s .ym (v &&& 0xFF#32)
  · exact fun v s => commit_clearCause s .time (v &&& 0xFF#32)
  · exact fun v s => commit_clearCause s .comp (v &&& 0x1FFF#32)
  · exact fun v s => commit_clearCause s .map (v &&& 0xF#32)
  · exact fun p s => commit_clearRead s p .lamp
  · exact fun p k s h => commit_readClear_if s p (.pdk k) h
  · exact fun p k s h => commit_readClear_if s p (.stl k) h
  · exact fun p k s h => commit_readClear_if s p (.ethTx k) h
  · exact fun p k s h => commit_readClear_if s p (.ethRx k) h
  · exact fun p k s h => commit_readClear_if s p (.flwTx k) h
  · exact fun p k s h => commit_readClear_if s p (.ylRx k) h
  · exact fun p k s h => commit_readClear_if s p (.lp k) h
  · exact fun p k s h => commit_readClear_if s p (.rst k) h
  · exact fun p s => commit_readClear s p .pair
  · exact fun p s => commit_readClear s p .brd
  · exact fun p s => commit_readClear s p .far
  · exact fun s => commit_readClear s .groom .sec
end

section
/-! Proofs for the register accesses: the _HI latches, GLB_ACCESS_ERR, and the registers written by REGISTER_WRITE. -/
namespace Sys2Proof.Machine
open Sys2Proof

/-! ## Fields -/

/-- A field is less than two to its width. -/
theorem fld_lt {w : Nat} (r : BitVec w) (hi lo : Nat) : fld r hi lo < 2 ^ (hi + 1 - lo) :=
  Nat.mod_lt _ (Nat.two_pow_pos _)

/-- A saturating count goes up by one, short of its greatest value. -/
theorem satInc_toNat {w : Nat} (v : BitVec w) : (satInc v).toNat = min (2 ^ w - 1) (v.toNat + 1) := by
  have hv := v.isLt
  unfold satInc
  split
  · omega
  · have hlt : v.toNat + 1 < 2 ^ w := by omega
    rw [show (1 : BitVec w) = BitVec.ofNat w 1 from rfl, BitVec.toNat_add, BitVec.toNat_ofNat, Nat.add_mod_mod,
      Nat.mod_eq_of_lt hlt]
    omega

/-! ## The event controller: what delivery leaves alone -/

/-- The four configuration fields of a target (R85). -/
def Tgt.cfgFields (g : Tgt) : BitVec 4 × BitVec 4 × Byte × Half := (g.base, g.bypass, g.modCnt, g.modUs)

/-- Two states of the event controller have the same sources and the same configuration of every target. -/
def Evc.SameSetup (e f : Evc) : Prop := f.src = e.src ∧ ∀ t, (f.tgtAt t).cfgFields = (e.tgtAt t).cfgFields

theorem Evc.SameSetup.refl (e : Evc) : e.SameSetup e := ⟨rfl, fun _ => rfl⟩

theorem Evc.SameSetup.trans {e f g : Evc} (h : e.SameSetup f) (k : f.SameSetup g) : e.SameSetup g :=
  ⟨k.1.trans h.1, fun t => (k.2 t).trans (h.2 t)⟩

/-- What only sends changes no source and no target. -/
theorem Evc.SameSetup.of_eq {e f : Evc} (hs : f.src = e.src) (ht : f.tgt = e.tgt) : e.SameSetup f :=
  ⟨hs, fun t => by rw [Evc.tgtAt, ht, Evc.tgtAt]⟩

/-- A fold of operations that each keep the setup keeps it. -/
theorem Evc.SameSetup.foldl {α : Type} (f : Evc → α → Evc)
    (h : ∀ (e : Evc) a, e.SameSetup (f e a)) (l : List α) (e : Evc) :
    e.SameSetup (l.foldl f e) := by
  induction l generalizing e with
  | nil => exact .refl e
  | cons a l ih => exact (h e a).trans (ih (f e a))

theorem Evc.sendVec_sameSetup (e : Evc) (v : Nat) : e.SameSetup (e.sendVec v) := by
  unfold Evc.sendVec
  split <;> exact .of_eq rfl rfl

theorem Evc.deliverHost_sameSetup (e : Evc) (ns : List Nat) : e.SameSetup (e.deliverHost ns) := by
  unfold Evc.deliverHost
  split
  · exact .of_eq rfl rfl
  · exact .foldl _ sendVec_sameSetup _ e

theorem Evc.deliver_sameSetup (e : Evc) (t : Nat) (ns : List Nat) : e.SameSetup (e.deliver t ns) := by
  unfold Evc.deliver
  split
  · exact .refl e
  · split
    · exact deliverHost_sameSetup e ns
    · exact .of_eq rfl rfl

/-- A target's record put in place with the same configuration. -/
theorem Evc.setTgt_sameSetup (e : Evc) (t : Nat) (g : Tgt) (h : g.cfgFields = (e.tgtAt t).cfgFields) :
    e.SameSetup (e.setTgt t g) := by
  refine ⟨rfl, fun j => ?_⟩
  by_cases hj : j = t
  · subst hj; simp [Evc.tgtAt, Evc.setTgt] at h ⊢; exact h
  · simp [Evc.tgtAt, Evc.setTgt, tget_tset_ne _ _ _ _ _ hj]

theorem Evc.release_sameSetup (e : Evc) (t : Nat) : e.SameSetup (e.release t) :=
  (setTgt_sameSetup e t { e.tgtAt t with held := [], count := 0, running := false, age := 0 } rfl).trans
    (deliver_sameSetup _ t _)

theorem Evc.present_sameSetup (e : Evc) (t : Nat) (ns : List (Nat × Pend)) : e.SameSetup (e.present t ns) := by
  have hheld : ∀ l, e.SameSetup (e.setTgt t { e.tgtAt t with held := l, running := true }) :=
    fun _ => setTgt_sameSetup e t _ rfl
  unfold Evc.present
  dsimp only
  split
  · exact .refl e
  · split
    · exact deliver_sameSetup e t _
    · split
      · exact (hheld _).trans (release_sameSetup _ t)
      · exact hheld _

/-- Presenting what has become presentable changes no source and no target's configuration. -/
theorem Evc.settle_sameSetup (old new : Evc) : new.SameSetup (Evc.settle old new) :=
  .foldl (fun e t => e.present t (Evc.newly old new t)) (fun e t => present_sameSetup e t _) _ new

theorem Src.refreshOne_level (r : Src) (t : Nat) : (r.refreshOne t).level = r.level := by
  unfold Src.refreshOne
  split
  · split <;> rfl
  · rfl

theorem Src.refresh_level (r : Src) : r.refresh.level = r.level := by
  simp only [Src.refresh, Src.refreshOne_level]

/-- The level of a source is what it is set to. -/
theorem Evc.level_srcAt (e : Evc) (n : Nat) (l : Bool) : ((e.level n l).srcAt n).level = l := by
  unfold Evc.level
  split
  · assumption
  · rw [Evc.change, Evc.srcAt, (settle_sameSetup _ _).1, Evc.setSrc, tget_tset_self, Src.refresh_level]

/-! ## The _HI latches (R9) -/

/-- A latch put at the front leaves the latches of another path. -/
theorem latch_ne (l : List ((Path × Nat) × Word)) (k j : Path × Nat) (v : Word) (h : j ≠ k) :
    ((k, v) :: l.filter (fun e => e.1 ≠ k)).find? (fun e => e.1 = j) = l.find? (fun e => e.1 = j) := by
  have hk : ∀ e : (Path × Nat) × Word, (decide (e.1 ≠ k) && decide (e.1 = j)) = decide (e.1 = j) := by
    intro e
    by_cases he : e.1 = j <;> simp [he, h]
  simp only [List.find?_cons, List.find?_filter, decide_eq_false h.symm, ← Bool.and_eq_true, Bool.decide_eq_true, hk]

/-- A read of a _LO register returns its word, latches the other for its path, and does nothing else. -/
theorem counterLoRead_reads (p : Path) (r : Reg64) (s : State) : let t := counterLoReadEffect p r s
    Returns p (BitVec.ofNat 32 (s.value64 r)) s { t with glb := { t.glb with hiLatch := s.glb.hiLatch } }
      ∧ t.hiOf p r = BitVec.ofNat 32 (s.value64 r / 4294967296)
      ∧ (∀ q k, q ≠ p → t.hiOf q k = s.hiOf q k) ∧ t = { s with glb := t.glb } := by
  refine ⟨returns_returns s p _, ?_, ?_, rfl⟩
  · simp [counterLoReadEffect, State.hiOf, State.returns]
  · intro q k hq
    simp only [counterLoReadEffect, State.hiOf, State.returns]
    rw [latch_ne _ _ _ _ (fun h => hq (congrArg Prod.fst h))]

/-! ## Access errors (R33, R35) -/

/-- The first access error is recorded whole. -/
theorem accessError_first (s : State) (p : Path) (c : BitVec 4) (a : Nat) (h : s.glb.acc.valid = false) :
    (s.accessError p c a).glb.acc
      = { valid := true, path := p.code, cause := c, count := 0, addr := BitVec.ofNat 26 a } := by
  simp [State.accessError, State.occur, h]

/-- A later one is only counted. -/
theorem accessError_later (s : State) (p : Path) (c : BitVec 4) (a : Nat) (h : s.glb.acc.valid = true) :
    (s.accessError p c a).glb.acc = { s.glb.acc with count := satInc s.glb.acc.count } := by
  simp [State.accessError, State.occur, h]

/-- What a refused access returns before it is recorded: a read all ones, a write nothing. -/
def refusedRead (p : Path) (w : Bool) (s : State) : State := if w then s else s.returns p 0xFFFFFFFF#32

theorem refusedRead_readOf (p : Path) (w : Bool) (s : State) :
    (refusedRead p w s).readOf p = if w then s.readOf p else some 0xFFFFFFFF#32 := by
  cases w
  · exact State.returns_readOf s p _
  · rfl

/-- A refused access that is recorded, as its row leaves it. -/
theorem commit_refused (p : Path) (w : Bool) (c : BitVec 4) (a : Nat) (s : State) :
    commit s ((refusedRead p w s).accessError p c a) = .next ((refusedRead p w s).accessError p c a) := by
  refine commit_same s _ ?_ ?_ ?_ <;> cases w <;> rfl

/-- Beyond GLB_ACCESS_ERR and what the path read, recording it touches source 0 alone. -/
theorem refused_frame (p : Path) (w : Bool) (c : BitVec 4) (a : Nat) (s : State) :
    let t := (refusedRead p w s).accessError p c a
    t = { s with glb := { s.glb with acc := t.glb.acc, readData := t.glb.readData }, evc := s.evc.occur 0 } := by
  cases w <;> rfl

/-- In the claims' terms, with the GLOBAL block whole. -/
theorem refused_frame_glb (p : Path) (w : Bool) (c : BitVec 4) (a : Nat) (s : State) :
    let t := (refusedRead p w s).accessError p c a
    t = { s with glb := t.glb, evc := s.evc.occur 0 } := by
  cases w <;> rfl

theorem refused_readOf (p : Path) (w : Bool) (c : BitVec 4) (a : Nat) (s : State) :
    ((refusedRead p w s).accessError p c a).readOf p = if w then s.readOf p else some 0xFFFFFFFF#32 :=
  refusedRead_readOf p w s

theorem refusedRead_acc (p : Path) (w : Bool) (s : State) : (refusedRead p w s).glb.acc = s.glb.acc := by
  cases w <;> rfl

/-- A narrow access of a path other than Groom is refused with cause 0x1 (R8). -/
theorem narrowAccess_refused (p : Path) (w : Bool) (n a : Nat) (s : State) (h : n < 4 ∨ a % 4 ≠ 0)
    (hp : p ≠ .groom) :
    exec (.narrowAccess p w n a) s = .next ((refusedRead p w s).accessError p 1 a) := by
  rw [← commit_refused]
  show commit s (narrowAccessEffect p w n a s) = _
  rw [narrowAccessEffect, if_pos h]
  dsimp only
  rw [if_neg hp, refusedRead]

/-- A narrow access of Groom's is refused and recorded nowhere (log 41). -/
theorem narrowAccess_groom (w : Bool) (n a : Nat) (s : State) (h : n < 4 ∨ a % 4 ≠ 0) :
    exec (.narrowAccess .groom w n a) s = .next (refusedRead .groom w s) := by
  show commit s (narrowAccessEffect .groom w n a s) = _
  rw [narrowAccessEffect, if_pos h]
  cases w <;> rfl

/-- The cause of an access that the map refuses (R33). -/
def refusalCause (w : Bool) (a : Nat) : BitVec 4 := if w = true ∧ a < 0x1100000 then 2 else 3

/-- An access of a path other than Groom that the map refuses. -/
theorem unpermittedAccess_refused (p : Path) (w : Bool) (a : Nat) (s : State) (hp : p ≠ .groom) (ha : a < 0x4000000)
    (h4 : a % 4 = 0) (hm : (if w then mayWriteAt s p a else mayReadAt s p a) = false) :
    exec (.unpermittedAccess p w a) s = .next ((refusedRead p w s).accessError p (refusalCause w a) a) := by
  rw [← commit_refused]
  show commit s (unpermittedAccessEffect p w a s) = _
  have hn : ¬ (p = .groom ∨ 0x4000000 ≤ a ∨ a % 4 ≠ 0) := by simp [hp, h4]; omega
  rw [unpermittedAccessEffect, if_neg hn]
  cases w with
  | false => simp_all [refusedRead, refusalCause]
  | true => simp_all [refusedRead, refusalCause]

/-- Where an error is recorded already, the refusal counts it and keeps what was recorded. -/
theorem accessError_counts (s : State) (p : Path) (c : BitVec 4) (a : Nat) (h : s.glb.acc.valid = true) :
    let x := (s.accessError p c a).glb.acc
    x.valid = true ∧ x.path = s.glb.acc.path ∧ x.cause = s.glb.acc.cause ∧ x.addr = s.glb.acc.addr
      ∧ x.count.toNat = min 255 (s.glb.acc.count.toNat + 1) := by
  rw [accessError_later s p c a h]
  exact ⟨h, rfl, rfl, rfl, satInc_toNat _⟩

/-- GLB_ACCESS_ERR.VALID written 1 (R35). -/
theorem accessErrClear_valid (v : Word) (s : State) (h : bitOf v 31 = true) :
    exec (.accessErrClear v) s = .next
      { s with glb := { s.glb with acc := { s.glb.acc with valid := false, count := 0 } }
               evc := s.evc.level 0 false } := by
  show commit s (accessErrClearEffect v s) = _
  rw [accessErrClearEffect, if_pos h]
  rfl

theorem accessErrClear_zero (v : Word) (s : State) (h : bitOf v 31 = false) : exec (.accessErrClear v) s = .next s := by
  show commit s (accessErrClearEffect v s) = _
  rw [accessErrClearEffect, if_neg (by simp [h])]
  rfl

/-! ## Written registers (R11, R46, R80, R153) -/

/-- A row that puts r into TIME_TRIG alone. -/
theorem commit_trig (s : State) (r : DWord) : commit s { s with tim := { s.tim with trig := r } }
    = .next { s with tim := { s.tim with trig := r } } := commit_same s _ rfl rfl rfl

theorem exec_registerWrite (p : Path) (r : RegW) (v : Word) (s : State) :
    exec (.registerWrite p r v) s = commit s (registerWriteEffect p r v s) := rfl

/-- TIME_TRIG_LO takes the word, and TIME_TRIG_HI stays. The new value stands behind `∃`, so that no proof that cites
this computes with it. -/
theorem registerWrite_trigLo (p : Path) (v : Word) (s : State) :
    ∃ r : DWord, exec (.registerWrite p .trigLo v) s = .next { s with tim := { s.tim with trig := r } }
      ∧ r.toNat % 2 ^ 32 = v.toNat ∧ r.toNat / 2 ^ 32 = s.tim.trig.toNat / 2 ^ 32 := by
  have hr := s.tim.trig.isLt
  have hv := v.isLt
  refine ⟨_, by rw [exec_registerWrite, registerWriteEffect, commit_trig], ?_, ?_⟩ <;>
    rw [BitVec.toNat_ofNat] <;> omega

/-- TIME_TRIG_HI takes the word, and TIME_TRIG_LO stays. -/
theorem registerWrite_trigHi (p : Path) (v : Word) (s : State) :
    ∃ r : DWord, exec (.registerWrite p .trigHi v) s = .next { s with tim := { s.tim with trig := r } }
      ∧ r.toNat / 2 ^ 32 = v.toNat ∧ r.toNat % 2 ^ 32 = s.tim.trig.toNat % 2 ^ 32 := by
  have hr := s.tim.trig.isLt
  have hv := v.isLt
  refine ⟨_, by rw [exec_registerWrite, registerWriteEffect, commit_trig], ?_, ?_⟩ <;>
    rw [BitVec.toNat_ofNat] <;> omega

/-- A word of an unlocked request window takes the value written. -/
theorem registerWrite_window (p : Path) (m i : Nat) (v : Word) (s : State) (hm : m < 16) (hi : i < 1024)
    (hl : (s.box m).locked = false) : exec (.registerWrite p (.window m i) v) s
      = .next (s.setBox m { s.box m with window := tset (s.box m).window i v }) := by
  have hn : ¬ (16 ≤ m ∨ 1024 ≤ i) := by omega
  show commit s (writeWindow p m i v s) = _
  rw [writeWindow, if_neg hn]
  dsimp only
  rw [hl]
  rfl

/-- The image of EVC_TGT_CFG as the target's fields. -/
def tgtFields (v : Word) : BitVec 4 × BitVec 4 × Byte × Half :=
  (BitVec.ofNat 4 (fld v 31 28), BitVec.ofNat 4 (fld v 27 24), BitVec.ofNat 8 (fld v 23 16),
    BitVec.ofNat 16 (fld v 15 0))

/-- The numbers that the fields of a target hold, where they are an image's. -/
theorem tgtFields_toNat {g : Tgt} {v : Word} (h : g.cfgFields = tgtFields v) :
    g.base.toNat = fld v 31 28 ∧ g.bypass.toNat = fld v 27 24 ∧ g.modCnt.toNat = fld v 23 16
      ∧ g.modUs.toNat = fld v 15 0 := by
  have hput : ∀ hi lo : Nat, (BitVec.ofNat (hi + 1 - lo) (fld v hi lo)).toNat = fld v hi lo := fun hi lo => by
    rw [BitVec.toNat_ofNat, Nat.mod_eq_of_lt (fld_lt v hi lo)]
  obtain ⟨hb, hy, hc, hu⟩ : g.base = _ ∧ g.bypass = _ ∧ g.modCnt = _ ∧ g.modUs = _ := by
    simpa [Tgt.cfgFields, tgtFields] using h
  rw [hb, hy, hc, hu]
  exact ⟨hput 31 28, hput 27 24, hput 23 16, hput 15 0⟩

/-- EVC_TGT_CFG takes its four fields, whatever the change then presents or releases. -/
theorem writeTgtCfg_fields (t : Nat) (v : Word) (s : State) (h : t < 4) :
    ((writeTgtCfg t v s).evc.tgtAt t).cfgFields = tgtFields v
      ∧ writeTgtCfg t v s = { s with evc := (writeTgtCfg t v s).evc } := by
  have hset : ∀ g : Tgt, ((Evc.settle s.evc (s.evc.setTgt t g)).tgtAt t).cfgFields = g.cfgFields := by
    intro g
    rw [(Evc.settle_sameSetup _ _).2 t]
    simp [Evc.tgtAt, Evc.setTgt]
  rw [writeTgtCfg, if_neg (by omega)]
  dsimp only
  refine ⟨?_, rfl⟩
  split
  · rw [(Evc.release_sameSetup _ t).2 t]
    exact hset _
  · exact hset _

theorem registerWrite_tgtCfg (p : Path) (t : Nat) (v : Word) (s : State) (h : t < 4) :
    exec (.registerWrite p (.tgtCfg t) v) s = .next (writeTgtCfg t v s) := by
  show commit s (writeTgtCfg t v s) = _
  rw [(writeTgtCfg_fields t v s h).2]
  rfl

end Sys2Proof.Machine

open Sys2Proof Sys2Proof.Machine

/-- Settles O7: each access is what its shared operation does, and a refused one is `refusedRead` and then
`accessError`, which records the first error whole and counts the others. -/
theorem registerAccesses : Obligations.RegisterAccesses := by
  refine ⟨⟨?loRead, ?narrowFirst, ?narrowLater, ?narrowGroom, ?writeRefused, ?readRefused, ?clear,
    ?noClear, ?trigLo,
    ?trigHi, ?window, ?tgtCfg, ?readOnly⟩, ?later⟩
  case loRead => exact fun p r s => ⟨counterLoReadEffect p r s, rfl, counterLoRead_reads p r s⟩
  case narrowFirst =>
    intro p w n a s h hp hv
    exact ⟨_, narrowAccess_refused p w n a s h hp, accessError_first _ p 1 a (by rw [refusedRead_acc]; exact hv),
      refused_readOf p w 1 a s, refused_frame_glb p w 1 a s⟩
  case narrowLater =>
    intro p w n a s h hp hv
    have hacc := accessError_later (refusedRead p w s) p 1 a (by rw [refusedRead_acc]; exact hv)
    exact ⟨_, narrowAccess_refused p w n a s h hp, by rw [hacc, refusedRead_acc], refused_frame_glb p w 1 a s⟩
  case narrowGroom =>
    intro w n a s h
    exact ⟨_, narrowAccess_groom w n a s h, refusedRead_readOf .groom w s, refusedRead_acc .groom w s⟩
  case writeRefused =>
    intro p a s hp ha h4 hm hv
    exact ⟨_, unpermittedAccess_refused p true a s hp ha h4 hm,
      by rw [accessError_first _ p _ a (by rw [refusedRead_acc]; exact hv)]; simp [refusalCause], rfl⟩
  case readRefused =>
    intro p a s hp ha h4 hm hv
    exact ⟨_, unpermittedAccess_refused p false a s hp ha h4 hm, refused_readOf p false _ a s,
      accessError_first _ p _ a (by rw [refusedRead_acc]; exact hv)⟩
  case clear =>
    intro v s hv
    exact ⟨_, accessErrClear_valid v s hv, rfl, Evc.level_srcAt s.evc 0 false, rfl⟩
  case noClear => exact accessErrClear_zero
  case trigLo =>
    intro p v s
    obtain ⟨r, hr, hlo, hhi⟩ := registerWrite_trigLo p v s
    exact ⟨_, hr, hlo, hhi, rfl⟩
  case trigHi =>
    intro p v s
    obtain ⟨r, hr, hhi, hlo⟩ := registerWrite_trigHi p v s
    exact ⟨_, hr, hhi, hlo, rfl⟩
  case window =>
    intro p m i v s hm hi hl
    refine ⟨_, registerWrite_window p m i v s hm hi hl, ?_, ?_, fun k hk => box_setBox_ne s m k _ hk, rfl⟩
    · rw [box_setBox_self, tget_tset_self]
    · intro j hj
      rw [box_setBox_self, tget_tset_ne _ _ _ _ _ hj]
  case tgtCfg =>
    intro p t v s ht
    obtain ⟨hf, hframe⟩ := writeTgtCfg_fields t v s ht
    obtain ⟨hb, hy, hc, hu⟩ := tgtFields_toNat hf
    exact ⟨_, registerWrite_tgtCfg p t v s ht, hb, hy, hc, hu, hframe⟩
  case readOnly => exact fun p v s => rfl
  case later =>
    intro p w a s hp ha h4 hm hv
    have hx := accessError_counts (refusedRead p w s) p (refusalCause w a) a (by rw [refusedRead_acc]; exact hv)
    rw [refusedRead_acc] at hx
    obtain ⟨hvalid, hpath, hcause, haddr, hcount⟩ := hx
    exact ⟨_, unpermittedAccess_refused p w a s hp ha h4 hm, hvalid, hpath, hcause, haddr, hcount,
      refused_frame p w _ a s⟩
end

section
/-! Proofs for the management port and bulk data: windows byte by byte, associations, and the segments of a transfer. -/
namespace Sys2Proof.Machine
open Sys2Proof

/-! ## Request windows, byte by byte -/

/-- A byte put into a word: the byte reads as put, the others as before. -/
theorem byte_setFld (r : Word) (b : Byte) (k j : Nat) (hk : k < 4) (hj : j < 4) :
    BitVec.ofNat 8 ((setFld r (8 * k + 7) (8 * k) b.toNat).toNat / 2 ^ (8 * j))
      = if j = k then b else BitVec.ofNat 8 (r.toNat / 2 ^ (8 * j)) := by
  have hr := r.isLt
  have hb := b.isLt
  apply BitVec.eq_of_toNat_eq
  interval_cases k <;> interval_cases j <;>
    simp [setFld, fld, Nat.shiftRight_eq_div_pow] <;> omega

theorem winByte_putWinByte (w : Tab Word) (a i : Nat) (b : Byte) :
    winByte (putWinByte w a b) i = if i = a then b else winByte w i := by
  by_cases hd : i / 4 = a / 4
  · rw [winByte, putWinByte, hd, tget_tset_self,
      byte_setFld _ _ _ _ (Nat.mod_lt _ (by omega)) (Nat.mod_lt _ (by omega)),
      winByte, hd]
    exact if_congr (by omega) rfl rfl
  · rw [winByte, putWinByte, tget_tset_ne _ _ _ _ _ hd, if_neg (by omega), winByte]

/-- A window with an image put in from byte a on. -/
def fillWindow (w : Tab Word) (a : Nat) (image : List Byte) : Tab Word :=
  ((List.range' a image.length).zip image).foldl (fun w e => putWinByte w e.1 e.2) w

theorem winByte_fillWindow (image : List Byte) (w : Tab Word) (a i : Nat) :
    winByte (fillWindow w a image) i
      = if a ≤ i ∧ i < a + image.length then image.getD (i - a) 0 else winByte w i := by
  induction image generalizing w a with
  | nil => rw [if_neg (by simp)]; rfl
  | cons b bs ih =>
    have hstep : fillWindow w a (b :: bs) = fillWindow (putWinByte w a b) (a + 1) bs := rfl
    rw [hstep, ih, winByte_putWinByte, List.length_cons]
    by_cases hi : i = a
    · subst hi
      rw [if_neg (by omega), if_pos rfl, if_pos (by omega), Nat.sub_self]
      rfl
    · by_cases hin : a + 1 ≤ i ∧ i < a + 1 + bs.length
      · rw [if_pos hin, if_pos (by omega), show i - a = i - (a + 1) + 1 by omega]
        rfl
      · rw [if_neg hin, if_neg hi, if_neg (by omega)]

/-! ## Doorbells -/

/-- Outside a locked window a ring takes the request from the window: PENDING, and the other mailboxes stay. -/
theorem ringBox_takes (m : Nat) (s : State) (h : (s.box m).locked = false) : let t := ringBox m s
    (t.box m).st = .pending ∧ (t.box m).window = (s.box m).window ∧ (t.box m).req = readReq (s.box m).window
      ∧ (∀ j, j ≠ m → t.box j = s.box j) ∧ t.mbx.assoc = s.mbx.assoc ∧ t = { s with mbx := t.mbx } := by
  have hbox : ∀ j, ({ s with mbx := { s.mbx with order := s.mbx.order + 1 } } : State).box j = s.box j := fun _ => rfl
  unfold ringBox
  dsimp only
  rw [h, if_neg (by simp)]
  refine ⟨?_, ?_, ?_, fun j hj => (box_setBox_ne _ _ _ _ hj).trans (hbox j), rfl, rfl⟩ <;> rw [box_setBox_self]

/-- An image that goes into an unlocked window and rings. -/
theorem assembled_unlocked (m : Nat) (image : List Byte) (s : State) (h : (s.box m).locked = false)
    (hn : image.length ≤ 4096) : assembled m image s
      = ringBox m (s.setBox m { s.box m with window := fillWindow (s.box m).window 0 image }) := by
  rw [assembled]
  dsimp only
  rw [h, if_neg (by simp), Nat.min_eq_left hn, List.range_eq_range', fillWindow]

/-- A request of one fragment is assembled at once, where no part of it waits. -/
theorem takeFragment_whole (m : Nat) (x : MgmtMsg) (s : State) (hc : x.count = 1) (hi : x.index = 0)
    (hp : tfind? s.mbx.part (partKey m x.tag) = none) : takeFragment m x s
      = assembled m x.data { s with mbx := { s.mbx with part := tdel s.mbx.part (partKey m x.tag) } } := by
  simp [takeFragment, tget, hp, hc, hi, tfind?, tset]

/-! ## Associations and partial requests -/

/-- What is deleted from a table is not found. -/
theorem tfind_filter_none {α : Type} (t : Tab α) (p : Nat × α → Bool) (k : Nat) (h : ∀ v, p (k, v) = false) :
    tfind? (t.filter p) k = none := by
  induction t with
  | nil => rfl
  | cons e r ih =>
    obtain ⟨i, v⟩ := e
    rw [List.filter_cons]
    split
    next hpe =>
      have hne : i ≠ k := by
        intro he
        rw [he, h v] at hpe
        exact absurd hpe (by simp)
      rw [tfind?, if_neg hne, ih]
    next => exact ih

theorem tfind_tdel_self {α : Type} (t : Tab α) (k : Nat) : tfind? (tdel t k) k = none :=
  tfind_filter_none t _ k (by simp)

theorem partKey_div (m : Nat) (tag : Word) : partKey m tag / 4294967296 = m := by
  have h := tag.isLt
  unfold partKey
  omega

/-- No partial request of a mailbox is left once they are dropped. -/
theorem dropParts_none (m : Nat) (tag : Word) (s : State) : tfind? (dropParts m s).mbx.part (partKey m tag) = none :=
  tfind_filter_none _ _ _ (by simp [partKey_div])

/-- Where a datagram has arrived for its association, what each kind does. -/
theorem mgmtDatagram_arrives (x : MgmtMsg) (m : Nat) (s : State) (hl : s.mgmtLink = true) (hu : x.udp = 30811)
    (ha : s.assocOf x.peer = some m) (hc : x.close = false) (hb : 8 ≤ x.bytes.length) (hm : x.mailbox = m) :
    mgmtDatagramEffect x s =
      let s1 : State := { s with mbx := { s.mbx with
        assoc := tset s.mbx.assoc m { tget s.mbx.assoc m {} with lastNs := s.elt } } }
      if x.kind = 3 then abortBox m s1 else if x.kind = 1 ∧ x.fragOk then takeFragment m x s1 else s := by
  have h8 : ¬ (x.bytes.length < 8 ∨ x.mailbox ≠ m) := by simp [hm]; omega
  simp only [mgmtDatagramEffect, hl, hu, ha, hc, if_neg h8]
  simp

/-- A datagram of a request of one fragment is put into the window and rung. -/
theorem mgmtDatagram_request (x : MgmtMsg) (m : Nat) (s : State) (hl : s.mgmtLink = true) (hu : x.udp = 30811)
    (ha : s.assocOf x.peer = some m) (hc : x.close = false) (hb : 8 ≤ x.bytes.length) (hm : x.mailbox = m)
    (hk : x.kind = 1) (hn : x.count = 1) (hi : x.index = 0) (hd : x.data.length ≤ 1184)
    (hw : (s.box m).locked = false)
    (hp : tfind? s.mbx.part (partKey m x.tag) = none) :
    ∃ t, exec (.mgmtDatagram x) s = .next t ∧ (t.box m).st = .pending
      ∧ (t.box m).window = fillWindow (s.box m).window 0 x.data ∧ (t.box m).req = readReq (t.box m).window
      ∧ (tget t.mbx.assoc m {}).lastNs = s.elt ∧ (∀ j, j ≠ m → t.box j = s.box j) := by
  have hok : x.fragOk = true := by simp [MgmtMsg.fragOk, hn, hi, hd]
  let s1 : State := { s with mbx := { s.mbx with
    assoc := tset s.mbx.assoc m { tget s.mbx.assoc m {} with lastNs := s.elt } } }
  let s2 : State := { s1 with mbx := { s1.mbx with part := tdel s1.mbx.part (partKey m x.tag) } }
  let s3 := s2.setBox m { s2.box m with window := fillWindow (s2.box m).window 0 x.data }
  have heff : mgmtDatagramEffect x s = ringBox m s3 := by
    rw [mgmtDatagram_arrives x m s hl hu ha hc hb hm, if_neg (by omega), if_pos ⟨hk, hok⟩,
      takeFragment_whole m x s1 hn hi hp, assembled_unlocked m x.data s2 hw (by omega)]
  have h3 : (s3.box m).locked = false := by rw [box_setBox_self]; exact hw
  obtain ⟨hst, hwin, hreq, hne, has, hf⟩ := ringBox_takes m s3 h3
  have hw3 : (s3.box m).window = fillWindow (s.box m).window 0 x.data := by rw [box_setBox_self]; rfl
  refine ⟨ringBox m s3, ?_, hst, hwin.trans hw3, hreq.trans (by rw [hwin]), ?_, ?_⟩
  · show commit s (mgmtDatagramEffect x s) = _
    rw [heff]
    refine commit_same s _ ?_ ?_ ?_ <;> rw [hf] <;> rfl
  · rw [has]
    show (tget (tset s.mbx.assoc m { tget s.mbx.assoc m {} with lastNs := s.elt }) m {}).lastNs = s.elt
    rw [tget_tset_self]
  · intro j hj
    rw [hne j hj]
    exact box_setBox_ne _ _ _ _ hj

/-- An abort message to an idle mailbox finds nothing to abort (R47). -/
theorem mgmtDatagram_abortIdle (x : MgmtMsg) (m : Nat) (s : State) (hl : s.mgmtLink = true) (hu : x.udp = 30811)
    (ha : s.assocOf x.peer = some m) (hc : x.close = false) (hb : 8 ≤ x.bytes.length) (hm : x.mailbox = m)
    (hk : x.kind = 3) (hi : (s.box m).st = .idle) :
    ∃ t, exec (.mgmtDatagram x) s = .next t ∧ (t.box m).abortRes = 2 ∧ (t.box m).st = .idle := by
  let s1 : State := { s with mbx := { s.mbx with
    assoc := tset s.mbx.assoc m { tget s.mbx.assoc m {} with lastNs := s.elt } } }
  have heff : mgmtDatagramEffect x s = s1.setBox m { s1.box m with abortRes := 2 } := by
    have hi1 : (s1.box m).st = .idle := hi
    rw [mgmtDatagram_arrives x m s hl hu ha hc hb hm, if_pos hk, abortBox]
    dsimp only
    rw [hi1]
  refine ⟨s1.setBox m { s1.box m with abortRes := 2 }, ?_, ?_, ?_⟩
  · show commit s (mgmtDatagramEffect x s) = _
    rw [heff]
    exact commit_same s _ rfl rfl rfl
  · rw [box_setBox_self]
  · rw [box_setBox_self]; exact hi

/-- A datagram that is discarded changes nothing (R22, R23, R39). -/
theorem mgmtDatagram_discarded (x : MgmtMsg) (s : State)
    (h : s.mgmtLink = false ∨ x.udp ≠ 30811 ∨ s.assocOf x.peer = none) : exec (.mgmtDatagram x) s = .next s := by
  show commit s (mgmtDatagramEffect x s) = .next s
  have heff : mgmtDatagramEffect x s = s := by
    rcases h with h | h | h <;> simp [mgmtDatagramEffect, h]
  rw [heff]
  rfl

/-- The state in which the association of mailbox m is a and its partial requests are dropped. -/
def withAssoc (m : Nat) (a : Assoc) (s : State) : State :=
  dropParts m { s with mbx := { s.mbx with assoc := tset s.mbx.assoc m a } }

/-- It changes the association, the partial requests and nothing else. -/
theorem withAssoc_frame (m : Nat) (a : Assoc) (s : State) : let t := withAssoc m a s
    t = { s with mbx := { s.mbx with assoc := t.mbx.assoc, part := t.mbx.part } } := rfl

@[simp] theorem withAssoc_assoc (m : Nat) (a : Assoc) (s : State) : tget (withAssoc m a s).mbx.assoc m {} = a :=
  tget_tset_self _ _ _ _

theorem withAssoc_part (m : Nat) (a : Assoc) (s : State) (tag : Word) :
    tfind? (withAssoc m a s).mbx.part (partKey m tag) = none := dropParts_none m tag _

theorem commit_withAssoc (m : Nat) (a : Assoc) (s : State) : commit s (withAssoc m a s) = .next (withAssoc m a s) :=
  commit_same s _ rfl rfl rfl

/-- A closure alert closes the association (R39). -/
theorem mgmtDatagram_close (x : MgmtMsg) (m : Nat) (s : State) (hl : s.mgmtLink = true) (hu : x.udp = 30811)
    (ha : s.assocOf x.peer = some m) (hc : x.close = true) : exec (.mgmtDatagram x) s
      = .next (withAssoc m { tget s.mbx.assoc m {} with opened := false } s) := by
  rw [← commit_withAssoc]
  show commit s (mgmtDatagramEffect x s) = _
  simp only [mgmtDatagramEffect, hl, hu, ha, hc]
  rfl

/-- A partial request that has waited 50 ms is dropped (R41). -/
theorem mgmtAssemblyTimeout_old (m : Nat) (tag : Word) (x : Partial) (s : State)
    (hp : tfind? s.mbx.part (partKey m tag) = some x) (ht : x.firstNs + 50000000 ≤ s.elt) :
    exec (.mgmtAssemblyTimeout m tag) s
      = .next { s with mbx := { s.mbx with part := tdel s.mbx.part (partKey m tag) } } := by
  show commit s (mgmtAssemblyTimeoutEffect m tag s) = _
  rw [mgmtAssemblyTimeoutEffect, hp]
  dsimp only
  rw [if_pos ht]
  exact commit_same s _ rfl rfl rfl

theorem mgmtAssemblyTimeout_young (m : Nat) (tag : Word) (x : Partial) (s : State)
    (hp : tfind? s.mbx.part (partKey m tag) = some x) (ht : s.elt < x.firstNs + 50000000) :
    exec (.mgmtAssemblyTimeout m tag) s = .next s := by
  show commit s (mgmtAssemblyTimeoutEffect m tag s) = _
  rw [mgmtAssemblyTimeoutEffect, hp]
  dsimp only
  rw [if_neg (by omega)]
  rfl

/-- A handshake opens an association that is not open or has been idle for 300 s (R39). -/
theorem dtlsHandshake_opens (m peer : Nat) (s : State) (hm : m = 12 ∨ m = 13) (hl : s.mgmtLink = true)
    (hs : s.sec.lc ≠ .scrapped) (ha : (tget s.mbx.assoc m {}).opened = false
      ∨ (tget s.mbx.assoc m {}).lastNs + 300000000000 ≤ s.elt) :
    exec (.dtlsHandshake { mailbox := m, peer := peer }) s
      = .next ((withAssoc m { opened := true, peer := peer, lastNs := s.elt } s).emit
          (.dtlsAccept m peer Config.certDigest)) := by
  show commit s (dtlsHandshakeEffect { mailbox := m, peer := peer } s) = _
  have hn : ¬ ((m ≠ 12 ∧ m ≠ 13) ∨ !s.mgmtLink ∨ s.sec.lc = .scrapped
      ∨ ((tget s.mbx.assoc m {}).opened ∧ s.elt < (tget s.mbx.assoc m {}).lastNs + 300000000000)) := by
    rintro (⟨h1, h2⟩ | h | h | ⟨h1, h2⟩)
    · omega
    · simp [hl] at h
    · exact hs h
    · rcases ha with ha | ha
      · simp [ha] at h1
      · omega
  rw [dtlsHandshakeEffect]
  dsimp only
  rw [if_neg hn]
  exact commit_same s _ rfl rfl rfl

theorem dtlsHandshake_refused (m peer : Nat) (s : State) (ho : (tget s.mbx.assoc m {}).opened = true)
    (hi : s.elt < (tget s.mbx.assoc m {}).lastNs + 300000000000) :
    exec (.dtlsHandshake { mailbox := m, peer := peer }) s = .next s := by
  show commit s (dtlsHandshakeEffect { mailbox := m, peer := peer } s) = _
  rw [dtlsHandshakeEffect]
  dsimp only
  rw [if_pos (.inr (.inr (.inr ⟨ho, hi⟩)))]
  rfl

/-- An association that has been idle for 300 s closes. -/
theorem dtlsIdleExpire_closes (m : Nat) (s : State) (ho : (tget s.mbx.assoc m {}).opened = true)
    (hi : (tget s.mbx.assoc m {}).lastNs + 300000000000 ≤ s.elt) :
    exec (.dtlsIdleExpire m) s = .next (withAssoc m { tget s.mbx.assoc m {} with opened := false } s) := by
  rw [← commit_withAssoc]
  show commit s (dtlsIdleExpireEffect m s) = _
  rw [dtlsIdleExpireEffect]
  dsimp only
  rw [if_pos ⟨ho, hi⟩, withAssoc]

/-! ## Segments of bulk data (R55, R56) -/

section
variable (m : Nat) (x : DmaSeg) (bs : List Byte) (d : Dma) (s : State)

/-- Mailbox m executes a command whose transfer d goes on. -/
def Transfers (m : Nat) (d : Dma) (s : State) : Prop :=
  (s.box m).dma = some d ∧ d.ended = false ∧ (s.box m).st = .executing

/-- The segment's descriptor is in order and its accesses completed (R55). -/
def InOrder (x : DmaSeg) (bs : List Byte) : Prop :=
  x.desc = some bs ∧ bs.length = 32 ∧ (readDesc bs).bad = false ∧ x.done = true

/-- A segment to the device moves its bytes. -/
theorem dmaSegmentDone_toDevice (ht : Transfers m d s) (ha : (s.box m).abortReq = false) (ho : InOrder x bs)
    (hd : (readDesc bs).toHost = false) (hl : x.data.length = (readDesc bs).length)
    (hc : (readDesc bs).checked = true → crc32c x.data = (readDesc bs).crc) :
    exec (.dmaSegmentDone m x) s = .next (s.setBox m { s.box m with
      dma := some (d.moved (readDesc bs) x.data (s.box m).req.descCount.toNat) }) := by
  obtain ⟨hdma, hend, hst⟩ := ht
  obtain ⟨hdesc, hlen, hbad, hdone⟩ := ho
  show commit s (dmaSegmentDoneEffect m x s) = _
  have hcrc : ¬ ((readDesc bs).checked = true ∧ crc32c x.data ≠ (readDesc bs).crc) := fun h => h.2 (hc h.1)
  simp only [dmaSegmentDoneEffect, hdma, hend, hst, hdesc, hlen, hbad, hdone, hd, hl, ha]
  simp only [Bool.false_eq_true, if_false, ne_eq, not_true_eq_false, or_self, Bool.not_true, and_false, hcrc,
    Bool.not_false, if_true]
  exact commit_same s _ rfl rfl rfl

/-- A segment to the host, without a checksum, puts its bytes into host memory. -/
theorem dmaSegmentDone_toHost (ht : Transfers m d s) (ha : (s.box m).abortReq = false) (ho : InOrder x bs)
    (hd : (readDesc bs).toHost = true) (hc : (readDesc bs).checked = false) :
    exec (.dmaSegmentDone m x) s = .next ((s.takeFree.emit
        (.hostWrite (readDesc bs).addr (hostSegment (readDesc bs) s.freeCtr))).setBox m { s.box m with
      dma := some (d.moved (readDesc bs) (hostSegment (readDesc bs) s.freeCtr) (s.box m).req.descCount.toNat) }) := by
  obtain ⟨hdma, hend, hst⟩ := ht
  obtain ⟨hdesc, hlen, hbad, hdone⟩ := ho
  show commit s (dmaSegmentDoneEffect m x s) = _
  simp only [dmaSegmentDoneEffect, hdma, hend, hst, hdesc, hlen, hbad, hdone, hd, hc, ha]
  simp only [Bool.false_eq_true, if_false, ne_eq, not_true_eq_false, or_self, Bool.not_true, false_and,
    Bool.not_false, if_true]
  exact commit_same s _ rfl rfl rfl

/-- A faulty segment: no descriptor, one that is bad, an access that did not complete, a checksum that does not hold. -/
def Faulty (x : DmaSeg) : Prop :=
  match x.desc with
  | none => True
  | some bs => bs.length ≠ 32 ∨ (readDesc bs).bad = true ∨ x.done = false
      ∨ (readDesc bs).toHost = false ∧ x.data.length = (readDesc bs).length ∧ (readDesc bs).checked = true
          ∧ crc32c x.data ≠ (readDesc bs).crc

/-- A faulty segment ends the command with DMA_FAULT (R56). -/
theorem dmaSegmentDone_faults (ht : Transfers m d s) (hf : Faulty x) :
    dmaSegmentDoneEffect m x s = s.finish m { status := .dmaFault, data := s.failData m } := by
  obtain ⟨hdma, hend, hst⟩ := ht
  cases hx : x.desc with
  | none => simp [dmaSegmentDoneEffect, hdma, hend, hst, hx]
  | some bs =>
    rw [Faulty, hx] at hf
    simp only [dmaSegmentDoneEffect, hdma, hend, hst, hx]
    by_cases hb : bs.length ≠ 32 ∨ (readDesc bs).bad = true ∨ x.done = false
    · simp [hb]
    · obtain ⟨hd, hl, hc, hcrc⟩ : (readDesc bs).toHost = false ∧ x.data.length = (readDesc bs).length
          ∧ (readDesc bs).checked = true ∧ crc32c x.data ≠ (readDesc bs).crc := by tauto
      simp [hb, hd, hl, hc, hcrc]

/-- The transfer has ended with LAST or at DESC_COUNT. -/
theorem moved_ended (e : DmaDesc) (data : List Byte) (n : Nat) :
    (d.moved e data n).ended = true ↔ e.last = true ∨ n ≤ d.consumed + 1 := by
  simp [Dma.moved]

end

end Sys2Proof.Machine

open Sys2Proof Sys2Proof.Machine

/-- Settles O12: datagrams and associations by the cases of their rows, a segment by whether it is faulty and by its
direction. -/
theorem managementPortAndBulkData : Obligations.ManagementPortAndBulkData := by
  refine ⟨⟨?request, ?abort, ?discarded, ?close, ?old, ?young, ?opens, ?refused, ?idle⟩,
    ?toDevice, ?toHost, ?fault, ?bad⟩
  case request =>
    intro x m s _ hl hu ha hc hb hm hk hn hi hd hw hp
    obtain ⟨t, ht, hst, hwin, hreq, has, hne⟩ := mgmtDatagram_request x m s hl hu ha hc hb hm hk hn hi hd hw hp
    refine ⟨t, ht, hst, fun i hx => ?_, hreq, has, hne⟩
    rw [hwin, winByte_fillWindow, if_pos (by omega), Nat.sub_zero]
  case abort => exact fun x m s _ hl hu ha hc hb hm hk hi => mgmtDatagram_abortIdle x m s hl hu ha hc hb hm hk hi
  case discarded => exact mgmtDatagram_discarded
  case close =>
    intro x m s hl hu ha hc
    exact ⟨_, mgmtDatagram_close x m s hl hu ha hc, by rw [withAssoc_assoc], withAssoc_part m _ s,
      withAssoc_frame m _ s⟩
  case old =>
    intro m tag x s hp ht
    exact ⟨_, mgmtAssemblyTimeout_old m tag x s hp ht, tfind_tdel_self _ _, rfl⟩
  case young => exact mgmtAssemblyTimeout_young
  case opens =>
    intro m peer s hm hl hs ha
    exact ⟨_, dtlsHandshake_opens m peer s hm hl hs ha, withAssoc_assoc m _ s, withAssoc_part m _ s, rfl, rfl⟩
  case refused => exact dtlsHandshake_refused
  case idle =>
    intro m s ho hi
    exact ⟨_, dtlsIdleExpire_closes m s ho hi, by rw [withAssoc_assoc], withAssoc_frame m _ s⟩
  case toDevice =>
    intro m x bs d s hd he hst ha hx hn hdone hb hdir hl hc
    have hmoved : (d.moved (readDesc bs) x.data (s.box m).req.descCount.toNat).obj
        = d.obj.put (readDesc bs).offset x.data := by simp [Dma.moved, hdir]
    refine ⟨_, _, dmaSegmentDone_toDevice m x bs d s ⟨hd, he, hst⟩ ha ⟨hx, hn, hb, hdone⟩ hdir hl hc,
      by rw [box_setBox_self], rfl, moved_ended d _ _ _, ?_, ?_, by rw [box_setBox_self]; exact hst,
      fun j hj => box_setBox_ne s m j _ hj, rfl⟩
    · intro i hi
      rw [hmoved]
      exact mget_mwrite _ _ _ _ hi
    · intro a hout
      rw [hmoved]
      exact hout.elim (mget_mwrite_below _ _ _ _) (mget_mwrite_above _ _ _ _)
  case toHost =>
    intro m x bs d s hd he hst ha hx hn hdone hb hdir hc
    refine ⟨_, _, _, dmaSegmentDone_toHost m x bs d s ⟨hd, he, hst⟩ ha ⟨hx, hn, hb, hdone⟩ hdir hc,
      by rw [box_setBox_self], rfl, moved_ended d _ _ _, by simp [Dma.moved, hdir], by simp [hostSegment], rfl, rfl⟩
  case fault =>
    intro m x d s hlive hd he hst hf
    have ha := finish_answers s s m { status := .dmaFault, data := s.failData m } hlive.1 rfl hlive.2
    refine ⟨_, ?_, ha⟩
    show commit s (dmaSegmentDoneEffect m x s) = _
    rw [dmaSegmentDone_faults m x d s ⟨hd, he, hst⟩ hf]
    exact ha.commit rfl rfl rfl
  case bad =>
    intro d
    simp [DmaDesc.bad, or_assoc]
end

section
/-! Proofs for the frame boundary and the Gate: what every part of a boundary leaves of the frame clock and of the
configuration in effect. One lemma for each operation that a boundary or a Gate calls. -/
namespace Sys2Proof.Machine
open Sys2Proof

/-! ## What a boundary's parts keep -/

/-- What the claims about boundaries read: the configuration in effect, its generation, the scheduled commits, the latest
boundary with its instant, the next one, and whether CONFIG_COMMITTED stands in YM_EVT_CAUSE. -/
structure ClockView where
  cfg       : Cfg
  gen       : Nat
  sched     : List Sched
  latest    : Option Nat
  fbNs      : Nat
  next      : Nat
  committed : Bool

def State.clock (s : State) : ClockView :=
  { cfg := s.cfg, gen := s.gen, sched := s.sched, latest := s.ym.latest, fbNs := s.ym.fbNs, next := s.ym.next
    committed := bitOf (s.cause .ym) 1 }

/-- From s to t the clock view stays. -/
def KeepsClock (s t : State) : Prop := t.clock = s.clock

theorem KeepsClock.refl (s : State) : KeepsClock s s := rfl

theorem KeepsClock.trans {s t u : State} (h : KeepsClock s t) (k : KeepsClock t u) : KeepsClock s u := Eq.trans k h

/-- The same, the later part first. -/
theorem KeepsClock.after {s t u : State} (k : KeepsClock t u) (h : KeepsClock s t) : KeepsClock s u := h.trans k

/-- A fold of operations that keep the view keeps it. -/
theorem KeepsClock.foldl {α : Type} {f : State → α → State} (h : ∀ s a, KeepsClock s (f s a))
    (l : List α) (s : State) :
    KeepsClock s (l.foldl f s) := by
  induction l generalizing s with
  | nil => exact .refl s
  | cons a l ih => exact (h s a).trans (ih (f s a))

/-- A branch keeps the view where both sides do. -/
theorem KeepsClock.ite {c : Prop} [Decidable c] {s a b : State} (ha : KeepsClock s a) (hb : KeepsClock s b) :
    KeepsClock s (if c then a else b) := by
  split
  · exact ha
  · exact hb

/-! ## Causes, the log and memory errors -/

/-- No other register has the place of YM_EVT_CAUSE. -/
theorem causeKey_ym_ne (r : CauseReg) (h : r ≠ .ym) : causeKey .ym ≠ causeKey r := by
  cases r <;> simp_all [causeKey] <;> omega

/-- Raising a cause keeps the view where it does not raise CONFIG_COMMITTED. -/
theorem raiseCause_clock (s : State) (r : CauseReg) (b : Nat) (h : r ≠ .ym ∨ b ≠ 1) :
    KeepsClock s (s.raiseCause r b) := by
  have hc : bitOf ((s.raiseCause r b).cause .ym) 1 = bitOf (s.cause .ym) 1 := by
    by_cases hr : r = .ym
    · have hb : bitOf (bitMask 32 b) 1 = false := by
        rw [bitOf_bitMask 32 b 1 (by omega)]
        exact decide_eq_false (h.resolve_left (fun k => k hr))
      have hor : bitOf (s.cause .ym ||| bitMask 32 b) 1 = (bitOf (s.cause .ym) 1 || bitOf (bitMask 32 b) 1) :=
        BitVec.getLsbD_or
      rw [hr, cause_raiseCause_self, hor, hb, Bool.or_false]
    · rw [cause_raiseCause_ne s r .ym b (causeKey_ym_ne r hr)]
  rw [KeepsClock, State.clock, hc, raiseCause_frame]
  rfl

theorem raise_clock (s : State) (r : CauseReg) (b : Nat) (h : r ≠ .ym := by simp) : KeepsClock s (s.raiseCause r b) :=
  raiseCause_clock s r b (.inl h)

theorem raiseYm_clock (s : State) (b : Nat) (h : b ≠ 1 := by decide) : KeepsClock s (s.raiseCause .ym b) :=
  raiseCause_clock s .ym b (.inr h)

theorem log_clock (s : State) (l : EvLog) : KeepsClock s { s with log := l } := rfl

theorem logEvent_clock (s : State) (sev source : Nat) (code : Half) (d : Nat) :
    KeepsClock s (s.logEvent sev source code d) := by
  unfold State.logEvent
  exact .ite ((raise_clock _ _ _).after (log_clock s _)) (log_clock s _)

theorem eccFail_clock (s : State) (h : Hit) : KeepsClock s (s.eccFail h) :=
  (logEvent_clock _ _ _ _ _).after ((raise_clock _ _ _).after rfl)

theorem noteCond_clock (s : State) : KeepsClock s s.noteCond := rfl

theorem failCond_clock (s : State) (b : Nat) : KeepsClock s (s.failCond b) := rfl

theorem eccData_clock (s : State) (h : Hit) : KeepsClock s (s.eccData h) :=
  (failCond_clock _ _).after (eccFail_clock s h)

theorem eccAll_clock (s : State) (hs : List Hit) : KeepsClock s (s.eccAll hs) := .foldl eccData_clock hs s

theorem shed_clock (s : State) : KeepsClock s s.shed := (raiseYm_clock _ _).after rfl

/-! ## Mailboxes that a boundary answers -/

theorem respond_clock (s : State) (m : Nat) (r : Resp) : KeepsClock s (s.respond m r) := by
  rw [respond_frame]
  rfl

theorem completeAs_clock (s : State) (m : Nat) (id : Word) (r : Reply) : KeepsClock s (s.completeAs m id r) :=
  (raise_clock _ _ _).after ((respond_clock _ _ _).after rfl)

theorem settleClose_clock (s : State) : KeepsClock s s.settleClose := by
  unfold State.settleClose
  split
  · split
    · exact .ite rfl ((completeAs_clock _ _ _ _).after rfl)
    · rfl
  · rfl

theorem finish_clock (s : State) (m : Nat) (r : Reply) : KeepsClock s (s.finish m r) := by
  unfold State.finish
  exact .ite ((settleClose_clock _).after rfl) (completeAs_clock _ _ _ _)

theorem endWait_clock (m : Nat) (op : Half) (s : State) (r : Reply) : KeepsClock s (endWait m op s r) := by
  unfold endWait
  exact .ite (finish_clock s m r) rfl

/-! ## The Paddock (chapter 09) -/

theorem releaseStall_clock (i : Inst) (s : State) : KeepsClock s (releaseStall i s) := by
  unfold releaseStall
  split
  · exact .ite rfl rfl
  · rfl

theorem sealInst_clock (i : Inst) (done : Bool) (s : State) : KeepsClock s (sealInst i done s) := by
  unfold sealInst
  exact .ite rfl (.ite rfl rfl)

theorem settleInst_clock (i : Inst) (s : State) : KeepsClock s (settleInst i s) := by
  unfold settleInst
  exact .ite rfl (.ite rfl rfl)

theorem endCarry_clock (i : Inst) (s : State) : KeepsClock s (endCarry i s) := by
  unfold endCarry
  split
  · exact settleInst_clock _ s
  · rfl

theorem closeInst_clock (i : Inst) (e : TaskEnd) (s : State) : KeepsClock s (closeInst i e s) := by
  unfold closeInst
  refine (endCarry_clock i _).after ?_
  exact (sealInst_clock i _ s).trans (releaseStall_clock i _)

theorem decHw_clock (h c : Nat) (s : State) : KeepsClock s (decHw h c s) := by
  unfold decHw
  exact .ite rfl rfl

theorem decTask_clock (t c : Nat) (s : State) : KeepsClock s (decTask t c s) := by
  unfold decTask
  split
  · exact .ite (settleInst_clock _ s) rfl
  · rfl

theorem decSucc_clock (c : Nat) (x : Bool × Nat) (s : State) : KeepsClock s (decSucc c x s) := by
  unfold decSucc
  exact .ite (decHw_clock _ _ _) (decTask_clock _ _ _)

theorem tellStruck_clock (g : Graph) (x : (Bool × Nat) × Option Hit) (s : State) : KeepsClock s (tellStruck g x s) := by
  unfold tellStruck
  split
  · exact raise_clock _ _ _
  · rfl

theorem serve_clock (g : Graph) (c : Nat) (soft : Bool × Nat → Bool) (refs : List Word) (s : State) :
    KeepsClock s (serve g c soft refs s).1 :=
  (eccAll_clock _ _).after ((KeepsClock.foldl (fun s x => tellStruck_clock g x s) _ _).after
    (.foldl (fun s _ => decSucc_clock c _ s) _ _))

theorem cancelWork_clock (n : Nat) (l : List (Nat × Nat)) (k : Nat) (s : State) :
    KeepsClock s (cancelWork n l k s).2 := by
  induction n generalizing l k s with
  | zero => rfl
  | succ n ih =>
    cases l with
    | nil => rfl
    | cons e rest =>
      obtain ⟨t, c⟩ := e
      rw [cancelWork]
      split
      · exact ih rest k s
      · split
        · exact ih rest k s
        · refine (ih _ _ _).after ((serve_clock _ _ _ _ _).after ((raise_clock _ _ _).after ?_))
          exact closeInst_clock _ _ s

theorem cancelInst_clock (t c : Nat) (s : State) : KeepsClock s (cancelInst t c s).2 := cancelWork_clock _ _ _ s

theorem commitStalls_clock (m : Nat) (old : StlCfg) (s : State) : KeepsClock s (commitStalls m old s) := by
  unfold commitStalls
  refine .ite rfl (.ite rfl ?_)
  exact (KeepsClock.foldl (fun s (i : Inst) => cancelInst_clock i.task i.content s) _ _).after rfl

theorem dropPrimed_clock (g : Graph) (s : State) : KeepsClock s (dropPrimed g s) := by
  unfold dropPrimed
  exact .ite rfl rfl

theorem pdk_clock (s : State) (x : Pdk) : KeepsClock s { s with pdk := x } := rfl

theorem startHw_clock (n : Nat) (hs : List Nat) (s : State) : KeepsClock s (startHw n hs s) := rfl

theorem raiseCarry_clock (n : Nat) (s : State) : KeepsClock s (raiseCarry n s) :=
  .foldl (fun _ _ => raise_clock _ _ _) _ s

theorem holdGraph_clock (n : Nat) (s : State) : KeepsClock s (holdGraph n s) := raiseCarry_clock n s

theorem freeUndrawn_clock (n : Nat) (s : State) (l : Nat) : KeepsClock s (freeUndrawn n s l) := by
  unfold freeUndrawn
  exact .ite rfl rfl

theorem drawCheck_clock (n : Nat) (s : State) : KeepsClock s (drawCheck n s) := .foldl (freeUndrawn_clock n) _ s

theorem releaseTask_clock (n fbNs : Nat) (be : Bool) (d : TaskDesc) (s : State) :
    KeepsClock s (releaseTask n fbNs be d s) := by
  unfold releaseTask
  exact .ite rfl ((settleInst_clock _ _).after rfl)

theorem shedTask_clock (n : Nat) (d : TaskDesc) (s : State) : KeepsClock s (shedTask n d s) := by
  unfold shedTask
  split
  · rfl
  · exact (cancelWork_clock _ _ _ _).after ((serve_clock _ _ _ _ _).after (sealInst_clock _ _ s))

theorem releaseGraph_clock (n fbNs level : Nat) (s : State) : KeepsClock s (releaseGraph n fbNs level s) := by
  unfold releaseGraph
  extract_lets s0 hw s1 pdk1 s2 order be s2b pdk2 s3 shed s4
  have h0 : KeepsClock s s0 := (drawCheck_clock n _).after ((raiseCarry_clock n _).after rfl)
  have h2 : KeepsClock s s2 := (pdk_clock s1 _).after ((startHw_clock n _ s0).after h0)
  have h3 : KeepsClock s s3 := (pdk_clock s2b _).after
    ((KeepsClock.foldl (fun s d => releaseTask_clock n fbNs be d s) order s2).after h2)
  have h4 : KeepsClock s s4 := (KeepsClock.foldl (fun s d => shedTask_clock n d s) shed s3).after h3
  exact .ite (.ite h4 ((raiseYm_clock _ _).after h4)) h3

end Sys2Proof.Machine
end

section
/-! The same for the parts outside the Paddock: compositor, lamps, ports, line ports, heads, pair, power, cuts, time. -/
namespace Sys2Proof.Machine
open Sys2Proof

theorem bump_clock (s : State) (c : Ctr) : KeepsClock s (s.bump c) := rfl
theorem emit_clock (s : State) (o : Out) : KeepsClock s (s.emit o) := rfl
theorem comp_clock (s : State) (x : Comp) : KeepsClock s { s with comp := x } := rfl
theorem lamp_clock (s : State) (x : Lamp) : KeepsClock s { s with lamp := x } := rfl
theorem flw_clock (s : State) (x : Flw) : KeepsClock s { s with flw := x } := rfl

/-! ## The compositor (chapter 06) -/

theorem dropFrame_clock (i : Nat) (count : Bool) (s : State) : KeepsClock s (dropFrame i count s) := by
  unfold dropFrame
  exact .ite ((raise_clock _ _ _).after rfl) (comp_clock s _)

theorem commitLayers_clock (old new : CompCfg) (s : State) : KeepsClock s (commitLayers old new s) :=
  (comp_clock _ _).after (.foldl (fun s i => (comp_clock _ _).after (dropFrame_clock i false s)) _ s)

theorem beginComposition_clock (w : CompWait) (late : Bool) (s : State) : KeepsClock s (beginComposition w late s) :=
  comp_clock s _

theorem startComposition_clock (n : Nat) (s : State) : KeepsClock s (startComposition n s) := by
  unfold startComposition
  extract_lets late s1 w s2
  have h1 : KeepsClock s s1 := .ite (raise_clock _ _ _) rfl
  have h2 : KeepsClock s s2 := .ite ((shed_clock s1).after h1) h1
  exact .ite h1 (.ite ((comp_clock s2 _).after h2) ((beginComposition_clock w false s2).after h2))

theorem latchBuf_clock (l b m : Nat) (s : State) : KeepsClock s (latchBuf l b m s) := comp_clock s _

theorem layerLate_clock (l : Nat) (s : State) : KeepsClock s (layerLate l s) := (raise_clock _ _ _).after rfl

theorem latchLayer_clock (l m fb : Nat) (s : State) : KeepsClock s (latchLayer l m fb s) := by
  unfold latchLayer
  extract_lets r ls
  refine .ite rfl (.ite ?input (.ite ?host (.ite ?stalls rfl)))
  case input =>
    extract_lets
    refine .ite rfl ?_
    split
    · rfl
    · extract_lets shown paired
      refine .ite rfl ?_
      split
      · exact .ite (latchBuf_clock _ _ _ _) (layerLate_clock _ _)
      · exact layerLate_clock _ _
  case host =>
    split
    · exact latchBuf_clock _ _ _ _
    · rfl
  case stalls =>
    split
    · exact latchBuf_clock _ _ _ _
    · exact layerLate_clock _ _

theorem latchLayers_clock (m fb : Nat) (s : State) : KeepsClock s (latchLayers m fb s) :=
  .foldl (fun s l => latchLayer_clock l m fb s) _ s

/-! ## Lamps (chapter 08) -/

theorem groupOff_clock (g : Nat) (cause : OffCause) (s : State) : KeepsClock s (groupOff g cause s) := by
  unfold groupOff
  exact .ite rfl ((logEvent_clock _ _ _ _ _).after ((raise_clock _ _ _).after (lamp_clock s _)))

theorem membership_clock (g : Nat) (x : Group) (s : State) : KeepsClock s (membership g x s) := by
  unfold membership
  exact .ite (lamp_clock s _) ((groupOff_clock _ _ _).after ((raise_clock _ _ _).after (lamp_clock s _)))

theorem lampCommit_clock (old : Cfg) (m : Nat) (s : State) : KeepsClock s (lampCommit old m s) :=
  (KeepsClock.foldl (fun s (e : Nat × Group) => membership_clock e.1 e.2 s) _ _).after (lamp_clock s _)

theorem applyTemp_clock (fbNs f : Nat) (t : Int) (s : State) : KeepsClock s (applyTemp fbNs f t s) := lamp_clock s _

theorem atPos_clock (f pos : Nat) (g : Nat → State → State) (s : State) (h : ∀ p s, KeepsClock s (g p s)) :
    KeepsClock s (atPos f pos g s) := by
  unfold atPos
  split
  · exact h _ s
  · rfl

theorem applyStatus_clock (n p v : Nat) (s : State) : KeepsClock s (applyStatus n p v s) := by
  unfold applyStatus
  exact .ite ((logEvent_clock _ _ _ _ _).after ((raise_clock _ _ _).after rfl)) (lamp_clock s _)

theorem applyCurrent_clock (p v : Nat) (s : State) : KeepsClock s (applyCurrent p v s) := lamp_clock s _

theorem endPulse_clock (p k : Nat) (s : State) : KeepsClock s (endPulse p k s) := lamp_clock s _

theorem applyProof_clock (n pt p v : Nat) (s : State) : KeepsClock s (applyProof n pt p v s) := by
  unfold applyProof
  split
  · exact (applyStatus_clock _ _ _ _).after (endPulse_clock _ _ s)
  · rfl

theorem applyMsg_clock (n fbNs : Nat) (m : LampMsg) (s : State) : KeepsClock s (applyMsg n fbNs m s) := by
  unfold applyMsg
  split
  · refine (KeepsClock.foldl (fun s e => atPos_clock _ _ _ s fun p s => applyCurrent_clock p _ s) _ _).after ?_
    refine (KeepsClock.foldl (fun s e => atPos_clock _ _ _ s fun p s => applyStatus_clock n p _ s) _ _).after ?_
    exact .foldl (fun s e => applyTemp_clock fbNs _ _ s) _ s
  · exact .foldl (fun s e => atPos_clock _ _ _ s fun p s => applyProof_clock n _ p _ s) _ s

theorem checkGroups_clock (m : Nat) (s : State) : KeepsClock s (checkGroups m s) :=
  .foldl (fun s _ => .ite rfl (.ite (groupOff_clock _ _ s) (.ite (groupOff_clock _ _ s) rfl))) _ s

theorem missPulses_clock (m : Nat) (s : State) : KeepsClock s (missPulses m s) :=
  .foldl (fun s (e : Nat × PixLamp) => .foldl (fun s k =>
    (raise_clock _ _ _).after ((bump_clock _ _).after (endPulse_clock e.1 k s))) _ s) _ s

theorem groupResets_clock (m : Nat) (s : State) : KeepsClock s (groupResets m s) := lamp_clock s _

theorem capAll_clock (from? : Option Nat) (s : State) : KeepsClock s (capAll from? s) :=
  .foldl (fun s _ => .ite ((raise_clock _ _ _).after (lamp_clock s _)) (lamp_clock s _)) _ s

theorem underated_clock (f : Nat) (s : State) : KeepsClock s (underated f s) := by
  unfold underated
  exact .ite rfl (lamp_clock s _)

theorem derateOne_clock (fbNs f : Nat) (md : Model) (s : State) : KeepsClock s (derateOne fbNs f md s) := by
  unfold derateOne
  exact .ite ((raise_clock _ _ _).after (lamp_clock s _)) (lamp_clock s _)

theorem derate_clock (fbNs : Nat) (s : State) : KeepsClock s (derate fbNs s) := by
  unfold derate
  extract_lets low s1
  have h1 : KeepsClock s s1 := by
    refine .foldl (fun s e => ?_) _ s
    split
    · exact .ite (underated_clock _ s) (derateOne_clock _ _ _ s)
    · rfl
  exact .ite ((raise_clock _ _ _).after h1) h1

theorem lampBoundary_clock (m fbNs : Nat) (srcOf : Nat → Nat) (keep : Option Nat) (s : State) :
    KeepsClock s (lampBoundary m fbNs srcOf keep s) := by
  unfold lampBoundary
  split
  next set l _ =>
    refine (lamp_clock _ _).after ((capAll_clock _ _).after ((derate_clock _ _).after ((checkGroups_clock _ _).after
      ((missPulses_clock _ _).after ((groupResets_clock _ _).after ?_)))))
    exact (KeepsClock.foldl (fun s (a : LampAcc) => applyMsg_clock (m + 1) fbNs a.msg s) set _).after (lamp_clock s l)

/-! ## Ports, flows and line ports (chapters 11 to 13) -/

theorem enqueue_clock (p : Nat) (f : PortSt → PortSt) (s : State) : KeepsClock s (enqueue p f s) := by
  unfold enqueue
  exact .ite rfl rfl

theorem enqueueBe_clock (p : Nat) (x : TxFrame) (s : State) : KeepsClock s (enqueueBe p x s) := enqueue_clock p _ s

theorem enqueueGate_clock (p : Nat) (x : TxFrame) (s : State) : KeepsClock s (enqueueGate p x s) := enqueue_clock p _ s

theorem enqueueData_clock (p : Nat) (x : TxFrame) (s : State) : KeepsClock s (enqueueData p x s) := by
  unfold enqueueData
  split
  · exact .ite rfl (.ite (enqueue_clock _ _ s) (.ite rfl (enqueueBe_clock _ _ s)))
  · rfl

theorem setPort_clock (s : State) (p : Nat) (r : PortSt) : KeepsClock s (s.setPort p r) := rfl

theorem commitEth_clock (old : Cfg) (s : State) : KeepsClock s (commitEth old s) :=
  .foldl (fun s p => (KeepsClock.foldl (fun s _ => enqueueBe_clock p _ s) _ _).after (setPort_clock s p _)) _ s

theorem sendFrames_clock (n f : Nat) (r : FlowRec) (gs : List Nat) (errs : List FillErr) (s : State) :
    KeepsClock s (sendFrames n f r gs errs s) := by
  unfold sendFrames
  exact .ite rfl (.foldl (fun s _ => enqueueData_clock _ _ s) _ s)

theorem noteHash_clock (f n : Nat) (bytes : List Byte) (s : State) : KeepsClock s (noteHash f n bytes s) := by
  unfold noteHash
  exact .ite rfl rfl

theorem flowWhole_clock (n f : Nat) (r : FlowRec) (s : State) : KeepsClock s (flowWhole n f r s) :=
  (flw_clock _ _).after (noteHash_clock f n _ s)

theorem setLp_clock (s : State) (n : Nat) (r : LineSt) : KeepsClock s (s.setLp n r) := rfl

theorem packLine_clock (n f : Nat) (r : FlowRec) (s : State) : KeepsClock s (packLine n f r s) := by
  unfold packLine
  exact .ite rfl (setLp_clock s _ _)

theorem unfedFrames_clock (n : Nat) (s : State) : KeepsClock s (unfedFrames n s) := by
  refine .foldl (fun s e => ?_) _ s
  obtain ⟨f, r⟩ := e
  have h1 (c : Bool) (d : Prop) [Decidable d] (gs : List Nat) : KeepsClock s
      (if r.onLine then (if c then packLine n f r s else s) else if d then s else sendFrames n f r gs [] s) :=
    .ite (.ite (packLine_clock n f r s) rfl) (.ite rfl (sendFrames_clock n f r gs [] s))
  exact .ite ((flowWhole_clock n f r _).after (h1 _ _ _)) (h1 _ _ _)

theorem retryShort_clock (n : Nat) (s : State) : KeepsClock s (retryShort n s) := by
  unfold retryShort
  exact .ite ((noteCond_clock _).after rfl) rfl

theorem trigOut_clock (src : Nat) (s : State) : KeepsClock s (trigOut src s) := by
  refine .foldl (fun s n => .ite ?_ rfl) _ s
  have h1 (r : LineSt) : KeepsClock s ((retryShort n s).setLp n r) := (setLp_clock _ n r).after (retryShort_clock n s)
  exact .ite ((emit_clock _ _).after (h1 _)) (h1 _)

/-! ## Heads, pair and power (chapters 14, 15, 01) -/

theorem restartHead_clock (h m : Nat) (s : State) : KeepsClock s (restartHead h m s) := (raise_clock _ _ _).after rfl

theorem setHead_clock (s : State) (h : Nat) (r : HeadSt) : KeepsClock s (s.setHead h r) := rfl

theorem commitRaster_clock (m : Nat) (old : Cfg) (s : State) : KeepsClock s (commitRaster m old s) :=
  .foldl (fun s h => .ite ((restartHead_clock h m _).after (setHead_clock s h _)) (setHead_clock s h _)) _ s

theorem restartHeads_clock (m : Nat) (s : State) : KeepsClock s (restartHeads m s) :=
  .foldl (fun s h => .ite (restartHead_clock h m s) rfl) _ s

theorem answerSwap_clock (r : Reply) (s : State) : KeepsClock s (answerSwap r s) := by
  unfold answerSwap
  split
  · exact (KeepsClock.foldl (fun s m => endWait_clock m _ s r) _ _).after rfl
  · rfl

theorem commitPair_clock (old : Cfg) (s : State) : KeepsClock s (commitPair old s) := by
  unfold commitPair
  exact .ite ((noteCond_clock _).after rfl)
    (.ite ((noteCond_clock _).after ((answerSwap_clock _ _).after rfl)) (.ite rfl rfl))

theorem wipeDomain_clock (d : Nat) (s : State) : KeepsClock s (wipeDomain d s) := by
  unfold wipeDomain
  split <;> rfl

theorem setDomain_clock (d v : Nat) (s : State) : KeepsClock s (setDomain d v s) := rfl

theorem powerOn_clock (d : Nat) (s : State) : KeepsClock s (powerOn d s) :=
  (setDomain_clock d 1 _).after (wipeDomain_clock d s)

theorem powerNeeded_clock (s : State) :
    KeepsClock s (powerNeeded s) := .foldl (fun s d => .ite (powerOn_clock d s) rfl) _ s

theorem powerDown_clock (s : State) : KeepsClock s (powerDown s) :=
  .foldl (fun s d => .ite (setDomain_clock d 0 s) rfl) _ s

theorem pairBoundary_clock (s : State) : KeepsClock s (pairBoundary s) := by
  unfold pairBoundary
  exact .ite rfl rfl

theorem holdBoundary_clock (m : Nat) (s : State) : KeepsClock s (holdBoundary m s) := by
  unfold holdBoundary
  split
  · exact .ite rfl rfl
  · exact .ite rfl rfl

theorem scheduleQuiet_clock (m : Nat) (s : State) : KeepsClock s (scheduleQuiet m s) := by
  unfold scheduleQuiet
  exact .ite rfl (.ite (.ite rfl rfl) ((raise_clock _ _ _).after rfl))

theorem retryQuiet_clock (m : Nat) (s : State) : KeepsClock s (retryQuiet m s) := by
  unfold retryQuiet
  split
  · exact .ite (scheduleQuiet_clock _ s) rfl
  · rfl

/-! ## Cuts and misses (chapter 04) -/

theorem disarm_clock (c : Nat) (s : State) : KeepsClock s (disarm c s) :=
  (KeepsClock.foldl (fun s m => endWait_clock m _ s _) _ _).after rfl

theorem cutCommit_clock (old : Cfg) (s : State) : KeepsClock s (cutCommit old s) :=
  .foldl (fun s c => disarm_clock c s) _ s

theorem cutBoundary_clock (m : Nat) (s : State) : KeepsClock s (cutBoundary m s) := rfl

theorem cutGateEnds_clock (n : Nat) (s : State) : KeepsClock s (cutGateEnds n s) := rfl

theorem countMiss_clock (f n : Nat) (fail : BitVec 6) (s : State) : KeepsClock s (countMiss f n fail s) := by
  unfold countMiss
  refine .ite rfl ?_
  extract_lets c l l' flw0 ym0 s1 s2
  have h1 : KeepsClock s s1 := rfl
  have h2 : KeepsClock s s2 := (raiseYm_clock _ 0).after ((bump_clock s1 _).after h1)
  exact .ite ((logEvent_clock _ _ _ _ _).after ((raiseYm_clock _ _).after h2)) h2

theorem tileMissAs_clock (f n : Nat) (fail : BitVec 6) (s : State) : KeepsClock s (tileMissAs f n fail s) := by
  unfold tileMissAs
  refine .ite rfl ?_
  exact .ite ((countMiss_clock _ _ _ _).after ((raise_clock _ _ _).after rfl)) ((raise_clock _ _ _).after rfl)

theorem missAll_clock (n : Nat) (fail : BitVec 6) (free : Nat → FlowRec → Bool) (s : State) :
    KeepsClock s (missAll n fail free s) :=
  .foldl (fun s _ => .ite rfl (.ite (tileMissAs_clock _ _ _ s) (.ite (countMiss_clock _ _ _ s) rfl))) _ s

theorem discardPort_clock (gone : Nat → Bool) (p : Nat) (s : State) : KeepsClock s (discardPort gone p s) := by
  unfold discardPort
  exact .ite rfl ((raise_clock _ _ _).after rfl)

theorem discardAll_clock (gone : Nat → Bool) (s : State) : KeepsClock s (discardAll gone s) :=
  .foldl (fun s p => discardPort_clock gone p s) _ s

theorem abandon_clock (n : Nat) (s : State) : KeepsClock s (abandon n s) :=
  (discardAll_clock _ _).after ((missAll_clock _ _ _ _).after ((raiseYm_clock _ _).after rfl))

end Sys2Proof.Machine
end

section
/-! What a whole boundary and a whole Gate keep, and O19. -/
namespace Sys2Proof.Machine
open Sys2Proof

/-! ## Commits (R93, R96) -/

theorem endUniverses_clock (old : Cfg) (s : State) : KeepsClock s (endUniverses old s) := flw_clock s _

theorem flowsSince_clock (m : Nat) (old : Cfg) (s : State) : KeepsClock s (flowsSince m old s) := flw_clock s _

theorem tim_clock (s : State) (x : Tim) : KeepsClock s { s with tim := x } := rfl

theorem realign_clock (old : Cfg) (s : State) : KeepsClock s (realign old s) := by
  unfold realign
  refine .ite rfl ?_
  extract_lets tim0 t s1
  have h1 : KeepsClock s s1 := .ite (raise_clock _ _ _) rfl
  exact (tim_clock s1 _).after h1

theorem commitPtp_clock (old : Cfg) (s : State) : KeepsClock s (commitPtp old s) := by
  unfold commitPtp
  exact .ite (tim_clock s _) rfl

theorem suspend_clock (m : Nat) (old : Cfg) (s : State) : KeepsClock s (suspend m old s) := by
  unfold suspend
  exact .ite (.ite (realign_clock old s) ((failCond_clock _ _).after ((raiseYm_clock _ _).after (KeepsClock.after rfl
    (realign_clock old s))))) rfl

/-- Raising CONFIG_COMMITTED sets it in the view and changes nothing else of it. -/
theorem raiseCommitted_clock (s : State) : (s.raiseCause .ym 1).clock = { s.clock with committed := true } := by
  rw [State.clock, raiseCause_bit s .ym 1 (by omega), raiseCause_frame]
  rfl

/-- A commit puts its configuration and generation in effect and raises CONFIG_COMMITTED. -/
theorem commitOne_clock (m : Nat) (x : Sched) (s : State) :
    (commitOne m x s).clock = { s.clock with cfg := x.cfg, gen := x.gen, committed := true } := by
  unfold commitOne
  extract_lets old s0 s1 s2 s3 sec0 far0 brd0 s4
  have h1 : KeepsClock s0 s1 :=
    (commitLayers_clock _ _ _).after ((commitStalls_clock m _ _).after (commitEth_clock old s0))
  have h2 : KeepsClock s1 s2 := (lampCommit_clock old m _).after ((cutCommit_clock old _).after
    ((commitPair_clock old _).after (commitRaster_clock m old s1)))
  have h3 : KeepsClock s2 s3 :=
    (endUniverses_clock old _).after ((flowsSince_clock m old _).after (powerNeeded_clock s2))
  have h4 : KeepsClock s3 s4 := rfl
  have h5 : KeepsClock s0 (suspend m old (commitPtp old s4)) :=
    (suspend_clock m old _).after ((commitPtp_clock old s4).after (h4.after (h3.after (h2.after h1))))
  rw [raiseCommitted_clock, h5]
  rfl

/-- Commits leave the latest boundary and its instant. -/
theorem applyCommits_boundary (m : Nat) (s : State) :
    (applyCommits m s).ym.latest = s.ym.latest ∧ (applyCommits m s).ym.fbNs = s.ym.fbNs := by
  have hfold : ∀ (l : List Sched) (u : State), (l.foldl (fun s x => commitOne m x s) u).clock.latest = u.clock.latest
      ∧ (l.foldl (fun s x => commitOne m x s) u).clock.fbNs = u.clock.fbNs := by
    intro l
    induction l with
    | nil => exact fun u => ⟨rfl, rfl⟩
    | cons x l ih =>
      intro u
      obtain ⟨hl, hf⟩ := ih (commitOne m x u)
      rw [commitOne_clock] at hl hf
      exact ⟨hl, hf⟩
  unfold applyCommits
  split
  · exact ⟨rfl, rfl⟩
  · exact hfold _ _

/-- With nothing scheduled nothing is committed. -/
theorem applyCommits_none (m : Nat) (s : State) (h : s.sched = []) : KeepsClock s (applyCommits m s) := by
  have hs : KeepsClock s { s with sched := [] } := congrArg (fun l => ({ s.clock with sched := l } : ClockView)) h.symm
  unfold applyCommits
  rw [h]
  exact .ite rfl hs

/-- The one commit that is due takes effect, where no hold keeps it waiting. -/
theorem applyCommits_one (m : Nat) (x : Sched) (s : State) (hs : s.sched = [x]) (hx : x.frame ≤ m)
    (hh : s.brd.hold = none) : (applyCommits m s).clock
      = { s.clock with cfg := x.cfg, gen := x.gen, sched := [], committed := true } := by
  have hdue : s.sched.filter (fun x => decide (x.frame ≤ m)) = [x] := by simp [hs, hx]
  have hrest : s.sched.filter (fun x => decide (m < x.frame)) = [] := by simp [hs, hx]
  rw [applyCommits, hh, if_neg (by simp), hdue, hrest, List.foldl_cons, List.foldl_nil, commitOne_clock]
  rfl

/-! ## What a boundary releases and does to the rest (R16) -/

theorem noteFresh_clock (m : Nat) (s : State) : KeepsClock s (noteFresh m s) := rfl

theorem clearMapped_clock (n : Nat) (s : State) : KeepsClock s (clearMapped n s) := rfl

theorem takeFlight_clock (n : Nat) (s : State) : KeepsClock s (takeFlight n s) := rfl

theorem brd_clock (s : State) (x : Brd) : KeepsClock s { s with brd := x } := rfl

theorem releaseHeld_clock (m : Nat) (h : Hold) (s : State) : KeepsClock s (releaseHeld m h s) := by
  unfold releaseHeld
  extract_lets brd0 s1
  have h1 : KeepsClock s s1 := brd_clock s _
  refine (dropPrimed_clock _ _).after ((holdGraph_clock _ _).after ((clearMapped_clock _ _).after ?_))
  exact .ite ((raise_clock _ _ _).after ((bump_clock _ _).after h1)) h1

theorem releaseNew_clock (m fb : Nat) (s : State) : KeepsClock s (releaseNew m fb s) :=
  (releaseGraph_clock _ _ _ _).after ((startComposition_clock _ _).after ((clearMapped_clock _ _).after
    ((noteFresh_clock m _).after (latchLayers_clock m fb s))))

theorem takeFree_clock (s : State) : KeepsClock s s.takeFree := rfl

theorem sendEnded_clock (n : Nat) (s : State) : KeepsClock s (sendEnded n s) :=
  (flw_clock _ _).after (.foldl (fun s _ => (takeFree_clock _).after (enqueueBe_clock _ _ s)) _ s)

theorem release_clock (m fb : Nat) (s : State) : KeepsClock s (release m fb s) := by
  unfold release
  extract_lets s1 s2
  have h1 : KeepsClock s s1 := by
    show KeepsClock s (match s.brd.hold with | some h => releaseHeld m h s | none => releaseNew m fb s)
    split
    · exact releaseHeld_clock m _ s
    · exact releaseNew_clock m fb s
  have h2 : KeepsClock s s2 := (lampBoundary_clock _ _ _ _ _).after h1
  exact (sendEnded_clock _ _).after ((unfedFrames_clock _ _).after ((takeFlight_clock _ s2).after h2))

theorem forget_clock (m : Nat) (s : State) : KeepsClock s (forget m s) := rfl

theorem boundaryNotes_clock (s : State) : KeepsClock s (boundaryNotes s) := by
  unfold boundaryNotes
  extract_lets s1 s2
  have h2 : KeepsClock s s2 := .ite (noteCond_clock s) ((raiseYm_clock _ 3).after (noteCond_clock s))
  exact (noteCond_clock _).after (KeepsClock.after rfl h2)

theorem far_clock (s : State) (x : Far) : KeepsClock s { s with far := x } := rfl

theorem rst_clock (s : State) (x : Rst) : KeepsClock s { s with rst := x } := rfl

theorem boundaryRest_clock (m : Nat) (copied : List Nat) (again : Bool) (s : State) :
    KeepsClock s (boundaryRest m copied again s) := by
  unfold boundaryRest
  extract_lets s1 rst1 s2
  have h1 : KeepsClock s s1 := (far_clock _ _).after ((far_clock _ _).after
    ((retryQuiet_clock m _).after (pairBoundary_clock s)))
  have h2 : KeepsClock s s2 := .ite h1 ((rst_clock s1 _).after h1)
  exact (trigOut_clock _ _).after ((cutBoundary_clock m _).after (.ite ((restartHeads_clock m s2).after h2) h2))

/-! ## Steps of device time (R132 to R135) -/

/-- From s to t the clock view stays but for the number of the next boundary. -/
def StepsClock (s t : State) : Prop := ∃ k, t.clock = { s.clock with next := k }

theorem timeTriggerFire_clock (s : State) : KeepsClock s (timeTriggerFireEffect s) := by
  unfold timeTriggerFireEffect
  exact .ite ((trigOut_clock _ _).after ((raise_clock _ _ _).after (tim_clock s _))) rfl

theorem addElt_clock (s : State) (ns : Int) : KeepsClock s (s.addElt ns) := tim_clock s _

theorem stepTime_clock (m : Nat) (ns : Int) (s : State) : StepsClock s (stepTime m ns s) := by
  unfold stepTime
  extract_lets s0 s1 y k gone ym1
  have h1 : KeepsClock s s1 := (failCond_clock _ _).after ((timeTriggerFire_clock _).after
    ((raise_clock _ _ _).after (addElt_clock s ns)))
  refine ⟨k, ?_⟩
  rw [KeepsClock.foldl (fun s n => abandon_clock n s), ← h1]
  rfl

theorem applySteps_clock (m : Nat) (s : State) : StepsClock s (applySteps m s) := by
  unfold applySteps
  extract_lets forced own tim0 s1
  split
  · obtain ⟨k, hk⟩ := stepTime_clock m _ s1
    exact ⟨k, hk⟩
  · exact ⟨_, rfl⟩

/-! ## FRAME_BOUNDARY -/

/-- The state in which a boundary begins its work: FB(m) is the latest, on the scale of before or a new one (R89). -/
def boundaryStart (s : State) : State :=
  let s1 := if s.ym.noRelease then newScale s.frameNow s.ym.next s else s
  { s1 with ym := { s1.ym with latest := some s.ym.next, fbNs := s.cfg.ym.fbAt s.ym.next, next := s.ym.next + 1 }
            brd := { s1.brd with spent := [] } }

/-- Its state once the commits that are due have taken effect. -/
def boundaryCommitted (s : State) : State :=
  applyCommits s.ym.next (holdBoundary s.ym.next (powerDown (boundaryStart s)))

/-- After its commits a boundary changes the view in the number of the next boundary alone. -/
theorem frameBoundary_clock (copied : List Nat) (s : State) (h : boundaryDue s = true) :
    StepsClock (boundaryCommitted s) (frameBoundaryEffect copied s) := by
  unfold frameBoundaryEffect
  rw [h, if_neg (by simp)]
  extract_lets m fb again s1 ym1 brd1 s2 s3 s4 s5 ym5
  have h4 : KeepsClock s3 s4 := .ite rfl (release_clock m fb s3)
  have h5 : KeepsClock s3 s5 := (dropPrimed_clock _ _).after ((forget_clock m _).after ((boundaryNotes_clock _).after
    ((boundaryRest_clock m copied again s4).after h4)))
  have hk : ∀ t, StepsClock s5 t → StepsClock s3 t := by
    rintro t ⟨k, hk⟩
    exact ⟨k, by rw [hk, h5]⟩
  split
  · exact hk _ ⟨_, rfl⟩
  · exact hk _ (applySteps_clock m s5)

theorem boundaryStart_keeps (s : State) : (boundaryStart s).cfg = s.cfg ∧ (boundaryStart s).gen = s.gen
    ∧ (boundaryStart s).ym.latest = some s.ym.next ∧ (boundaryStart s).ym.fbNs = s.cfg.ym.fbAt s.ym.next := by
  unfold boundaryStart
  cases s.ym.noRelease <;> exact ⟨rfl, rfl, rfl, rfl⟩

theorem boundaryStart_sched (s : State) (h : s.sched = []) : (boundaryStart s).sched = [] := by
  unfold boundaryStart
  cases s.ym.noRelease
  · exact h
  · show s.sched.map _ = []
    rw [h]
    rfl

/-- Before its commits a boundary holds or lifts a hold and powers domains down, which the view does not show. -/
theorem holdBoundary_powerDown_clock (m : Nat) (s : State) : KeepsClock s (holdBoundary m (powerDown s)) :=
  (holdBoundary_clock m _).after (powerDown_clock s)

/-- Powering down touches GLB_DOMAIN_STATUS alone. -/
theorem powerDown_brd (s : State) : (powerDown s).brd = s.brd := by
  refine List.foldlRecOn (motive := fun u : State => u.brd = s.brd) _ _ rfl (fun u hu d _ => ?_)
  split
  · exact hu
  · exact hu

/-- No hold begins below level 3 and without a quiet boundary (R444, R451). -/
theorem holdBoundary_none (m : Nat) (s : State) (hh : s.brd.hold = none) (hl : s.brd.level < 3)
    (hq : s.brd.cal.quiet = none) : holdBoundary m s = s := by
  rw [holdBoundary, hh]
  dsimp only
  rw [if_neg (by simp [hq]; omega)]

/-- A boundary that is due names itself and its instant. -/
theorem frameBoundary_names (copied : List Nat) (s : State) (h : boundaryDue s = true) :
    let t := frameBoundaryEffect copied s
    t.ym.latest = some s.ym.next ∧ t.ym.fbNs = s.cfg.ym.fbAt s.ym.next := by
  obtain ⟨k, hk⟩ := frameBoundary_clock copied s h
  obtain ⟨hl, hf⟩ := applyCommits_boundary s.ym.next (holdBoundary s.ym.next (powerDown (boundaryStart s)))
  have hp := holdBoundary_powerDown_clock s.ym.next (boundaryStart s)
  obtain ⟨-, -, hlatest, hfb⟩ := boundaryStart_keeps s
  exact ⟨(congrArg ClockView.latest hk).trans (hl.trans ((congrArg ClockView.latest hp).trans hlatest)),
    (congrArg ClockView.fbNs hk).trans (hf.trans ((congrArg ClockView.fbNs hp).trans hfb))⟩

/-- With nothing scheduled the configuration in effect and the generation stay. -/
theorem frameBoundary_unscheduled (copied : List Nat) (s : State) (h : boundaryDue s = true) (hs : s.sched = []) :
    let t := frameBoundaryEffect copied s
    t.cfg = s.cfg ∧ t.gen = s.gen ∧ t.sched = [] := by
  obtain ⟨k, hk⟩ := frameBoundary_clock copied s h
  have hp := holdBoundary_powerDown_clock s.ym.next (boundaryStart s)
  have h0 := boundaryStart_sched s hs
  obtain ⟨hcfg, hgen, -, -⟩ := boundaryStart_keeps s
  have hc := (applyCommits_none s.ym.next _ ((congrArg ClockView.sched hp).trans h0)).after hp
  exact ⟨(congrArg ClockView.cfg hk).trans ((congrArg ClockView.cfg hc).trans hcfg),
    (congrArg ClockView.gen hk).trans ((congrArg ClockView.gen hc).trans hgen),
    (congrArg ClockView.sched hk).trans ((congrArg ClockView.sched hc).trans h0)⟩

/-- With one commit due and no hold, that commit is in effect afterwards (R96). -/
theorem frameBoundary_commits (copied : List Nat) (s : State) (x : Sched) (h : boundaryDue s = true)
    (hn : s.ym.noRelease = false) (hh : s.brd.hold = none) (hl : s.brd.level < 3) (hq : s.brd.cal.quiet = none)
    (hs : s.sched = [x]) (hx : x.frame ≤ s.ym.next) : let t := frameBoundaryEffect copied s
    t.cfg = x.cfg ∧ t.gen = x.gen ∧ t.sched = [] ∧ bitOf (t.cause .ym) 1 = true := by
  obtain ⟨k, hk⟩ := frameBoundary_clock copied s h
  have hstart : (boundaryStart s).sched = s.sched ∧ (boundaryStart s).brd.hold = s.brd.hold
      ∧ (boundaryStart s).brd.level = s.brd.level ∧ (boundaryStart s).brd.cal = s.brd.cal := by
    unfold boundaryStart
    rw [hn]
    exact ⟨rfl, rfl, rfl, rfl⟩
  obtain ⟨hsched, hhold, hlevel, hcal⟩ := hstart
  have hb := powerDown_brd (boundaryStart s)
  have hno : holdBoundary s.ym.next (powerDown (boundaryStart s)) = powerDown (boundaryStart s) :=
    holdBoundary_none _ _ (by rw [hb, hhold, hh]) (by rw [hb, hlevel]; exact hl) (by rw [hb, hcal, hq])
  have hp := congrArg ClockView.sched (powerDown_clock (boundaryStart s))
  have hc : (boundaryCommitted s).clock
      = { (powerDown (boundaryStart s)).clock with cfg := x.cfg, gen := x.gen, sched := [], committed := true } := by
    rw [boundaryCommitted, hno]
    exact applyCommits_one _ x _ (hp.trans (hsched.trans hs)) hx (by rw [hb, hhold, hh])
  rw [hc] at hk
  exact ⟨congrArg ClockView.cfg hk, congrArg ClockView.gen hk, congrArg ClockView.sched hk,
    congrArg ClockView.committed hk⟩

end Sys2Proof.Machine
end

section
/-! What a whole Gate keeps, the arithmetic of the scale, and O19. -/
namespace Sys2Proof.Machine
open Sys2Proof

/-! ## What a Gate keeps of the clock view (R99, R114 to R117) -/

theorem noteSent_clock (n : Nat) (fs : List Nat) (s : State) : KeepsClock s (noteSent n fs s) := flw_clock s _

theorem launchGates_clock (n : Nat) (s : State) : KeepsClock s (launchGates n s) := by
  unfold launchGates
  exact .ite (.foldl (fun s p => .foldl (fun s x => enqueueGate_clock p x s) _ s) _ s) rfl

theorem takeRegs_clock (n content : Nat) (s : State) : KeepsClock s (takeRegs n content s) := by
  unfold takeRegs
  exact .ite rfl (.ite (setLp_clock s n _) (setLp_clock s n _))

theorem putLine_clock (n : Nat) (f : FlowRec) (t : LineTx) (s : State) : KeepsClock s (putLine n f t s) := by
  unfold putLine
  exact .ite rfl (.ite (emit_clock s _) (emit_clock s _))

theorem startLine_clock (n content : Nat) (f : FlowRec) (dur : Nat) (errs : List LineBad) (s0 : State) :
    KeepsClock s0 (startLine n content f dur errs s0) := by
  unfold startLine
  extract_lets bad s r
  have h1 : KeepsClock s0 s := (retryShort_clock n _).after
    (.foldl (fun s (b : LineBad) => (eccData_clock _ b.hit).after (raise_clock s (.lp n) 6)) bad s0)
  split
  · exact (bump_clock _ _).after ((putLine_clock _ _ _ _).after ((setLp_clock s n _).after h1))
  · rename_i ready p t s1 _ _
    have h2 : KeepsClock s0 s1 := (bump_clock _ _).after ((putLine_clock n f _ _).after ((setLp_clock s n _).after h1))
    exact .ite h2 ((raise_clock _ _ _).after ((bump_clock s1 _).after h2))

theorem endRdm_clock (n m res : Nat) (bytes : List Byte) (s : State) : KeepsClock s (endRdm n m res bytes s) := by
  unfold endRdm
  exact (endWait_clock m _ _ _).after (.ite ((bump_clock _ _).after (setLp_clock s n _)) (setLp_clock s n _))

theorem endDisc_clock (n m res : Nat) (s : State) : KeepsClock s (endDisc n m res s) :=
  (endWait_clock m _ _ _).after (setLp_clock s n _)

theorem preemptRdm_clock (n : Nat) (s : State) : KeepsClock s (preemptRdm n s) := by
  unfold preemptRdm
  extract_lets r
  split
  · rfl
  · rename_i s1 _ _ _
    have h1 : KeepsClock s s1 := setLp_clock s n _
    split
    · exact (endRdm_clock _ _ _ _ _).after h1
    · exact (endDisc_clock _ _ _ _).after h1

theorem gateLine_clock (n content : Nat) (errs : List LineBad) (s : State) :
    KeepsClock s (gateLine n content errs s) := by
  have hidle (r : LineSt) : KeepsClock s (takeRegs n content (s.setLp n r)) :=
    (takeRegs_clock n content _).after (setLp_clock s n r)
  unfold gateLine
  extract_lets r
  split
  · exact .ite rfl (hidle _)
  · refine .ite ?_ (hidle _)
    rename_i s1 _ _ _ _
    have h1 : KeepsClock s s1 := .ite (takeRegs_clock n content s) rfl
    exact .ite ((startLine_clock _ _ _ _ _ _).after ((preemptRdm_clock n s1).after h1)) h1

theorem gateMisses_clock (n : Nat) (s : State) : KeepsClock s (gateMisses n s) := by
  unfold gateMisses
  exact .ite (missAll_clock _ _ _ s)
    (.foldl (fun s _ => .ite rfl (.ite (countMiss_clock _ _ _ s) (.ite rfl (shed_clock s)))) _ s)

theorem swapGapStart_clock (s : State) : KeepsClock s (swapGapStartEffect s) := by
  unfold swapGapStartEffect
  split
  · rfl
  · exact .ite ((noteCond_clock _).after rfl) rfl

theorem forcedSwap_clock (s : State) : KeepsClock s (forcedSwap s) := by
  unfold forcedSwap
  split
  · exact .ite (swapGapStart_clock s) rfl
  · rfl

theorem answerParamReads_clock (s : State) : KeepsClock s (answerParamReads s) :=
  (KeepsClock.foldl (fun s (x : Nat × Nat × Nat) => endWait_clock x.1 _ s _) _ _).after rfl

/-- What keeps the view under another configuration keeps it under this one. -/
theorem underCfg_clock (n : Nat) (f : State → State) (s : State) (h : ∀ u, KeepsClock u (f u)) :
    KeepsClock s (underCfg n f s) := by
  have hf : (f { s with cfg := s.cfgFor n }).clock = _ := h { s with cfg := s.cfgFor n }
  exact congrArg (fun v : ClockView => { v with cfg := s.cfg }) hf

theorem light_clock (n : Nat) (fail : BitVec 6) (s : State) : KeepsClock s (light n fail s) := rfl

/-! ## The content that is lit -/

/-- The content that is lit, the conditions that failed for it, and the contents in flight. -/
def State.litView (s : State) : Option Nat × BitVec 6 × List Nat := (s.ym.lit, s.ym.litFail, s.ym.flights.map (·.n))

/-- What touches the YM block not at all leaves what is lit. -/
theorem litView_of_ym {s t : State} (h : t.ym = s.ym) : t.litView = s.litView := by rw [State.litView, h, State.litView]

theorem emit_litView (s : State) (o : Out) : (s.emit o).litView = s.litView := rfl

theorem noteCond_litView (s : State) : s.noteCond.litView = s.litView := by
  simp [State.noteCond, State.litView, Function.comp_def]

theorem retryShort_litView (n : Nat) (s : State) : (retryShort n s).litView = s.litView := by
  unfold retryShort
  split
  · exact noteCond_litView _
  · rfl

theorem trigOut_litView (src : Nat) (s : State) : (trigOut src s).litView = s.litView := by
  unfold trigOut
  refine List.foldlRecOn (motive := fun u : State => u.litView = s.litView) _ _ rfl (fun u hu n _ => ?_)
  dsimp only
  split
  · have hr : ∀ r, ((retryShort n u).setLp n r).litView = s.litView := fun r => (retryShort_litView n u).trans hu
    split
    · exact (emit_litView _ _).trans (hr _)
    · exact hr _
  · exact hu

theorem completeAs_ym (s : State) (m : Nat) (id : Word) (r : Reply) : (s.completeAs m id r).ym = s.ym := by
  unfold State.completeAs
  rw [raiseCause_frame, respond_frame]
  rfl

theorem settleClose_ym (s : State) : s.settleClose.ym = s.ym := by
  unfold State.settleClose
  split
  · split
    · dsimp only
      split
      · rfl
      · exact completeAs_ym _ _ _ _
    · rfl
  · rfl

theorem finish_ym (s : State) (m : Nat) (r : Reply) : (s.finish m r).ym = s.ym := by
  unfold State.finish
  dsimp only
  split
  · exact settleClose_ym _
  · exact completeAs_ym s m _ r

theorem endWait_ym (m : Nat) (op : Half) (s : State) (r : Reply) : (endWait m op s r).ym = s.ym := by
  unfold endWait
  dsimp only
  split
  · exact finish_ym s m r
  · rfl

theorem answerParamReads_ym (s : State) : (answerParamReads s).ym = s.ym :=
  List.foldlRecOn (motive := fun u : State => u.ym = s.ym) _ _ rfl (fun _ hu _ _ => (endWait_ym _ _ _ _).trans hu)

theorem forcedSwap_litView (s : State) : (forcedSwap s).litView = s.litView := by
  unfold forcedSwap swapGapStartEffect
  split
  · split
    · split
      · rfl
      · extract_lets due
        split
        · exact noteCond_litView _
        · rfl
    · rfl
  · rfl

/-! ## GATE_FIRE -/

/-- The state in which a Gate has lit content n, before the port triggers and what waits for the light (R99). -/
def gateLit (n : Nat) (fail : BitVec 6) (errs : List LineBad) (s : State) : State :=
  let s2 := launchGates n (discardAll (fun k => decide (k ≤ n)) (noteSent n (lineDelivers s n 3) s))
  let s3 := (List.range s2.nLine).foldl (fun s p => gateLine p n errs s) s2
  light n fail (cutGateEnds n (gateMisses n (noteSent n (lineDelivers s3 n 2) s3)))

theorem gateLit_clock (n : Nat) (fail : BitVec 6) (errs : List LineBad) (s : State) :
    KeepsClock s (gateLit n fail errs s) := by
  unfold gateLit
  extract_lets s2 s3
  have h2 : KeepsClock s s2 := (launchGates_clock n _).after ((discardAll_clock _ _).after (noteSent_clock n _ s))
  have h3 : KeepsClock s s3 := (KeepsClock.foldl (fun s p => gateLine_clock p n errs s) _ s2).after h2
  exact (light_clock n fail _).after ((cutGateEnds_clock n _).after ((gateMisses_clock n _).after
    ((noteSent_clock n _ s3).after h3)))

/-- A Gate whose content has reached its presentation time. -/
theorem gateFire_due (errs : List LineBad) (x : Flight) (r : List Flight) (s : State) (hx : s.ym.flights = x :: r)
    (hc : s.glb.clk.rootLock = true) (hf : s.glb.faulted = false) (hd : s.brd.dark = false)
    (hp : (s.cfgFor x.n).ym.ptAt x.n ≤ s.elt) : gateFireEffect errs s
      = forcedSwap (underCfg x.n answerParamReads (trigOut 1 (gateLit x.n x.fail errs s))) := by
  unfold gateFireEffect
  rw [hx]
  dsimp only
  rw [if_pos ⟨hc, by simp [hf], by simp [hd], hp⟩, gateLit]

/-- With nothing in flight, or before its time, a Gate does nothing. -/
theorem gateFire_idle (errs : List LineBad) (s : State)
    (h : s.ym.flights = [] ∨ ∃ x r, s.ym.flights = x :: r ∧ s.elt < (s.cfgFor x.n).ym.ptAt x.n) :
    gateFireEffect errs s = s := by
  unfold gateFireEffect
  obtain h | ⟨x, r, h, ht⟩ := h
  · rw [h]
  · rw [h]
    dsimp only
    rw [if_neg (by omega)]

/-- A Gate lights its content with its conditions, takes it out of flight and leaves the clock view. -/
theorem gateFire_lights (errs : List LineBad) (x : Flight) (r : List Flight) (s : State) (hx : s.ym.flights = x :: r)
    (hc : s.glb.clk.rootLock = true) (hf : s.glb.faulted = false) (hd : s.brd.dark = false)
    (hp : (s.cfgFor x.n).ym.ptAt x.n ≤ s.elt) : let t := gateFireEffect errs s
    t.ym.lit = some x.n ∧ t.ym.litFail = x.fail ∧ (∀ y ∈ t.ym.flights, x.n < y.n) ∧ KeepsClock s t := by
  rw [gateFire_due errs x r s hx hc hf hd hp]
  let u := gateLit x.n x.fail errs s
  let t := forcedSwap (underCfg x.n answerParamReads (trigOut 1 u))
  have hclock : KeepsClock s t := (forcedSwap_clock _).after ((underCfg_clock _ _ _ answerParamReads_clock).after
    ((trigOut_clock 1 _).after (gateLit_clock x.n x.fail errs s)))
  have hunder : (underCfg x.n answerParamReads (trigOut 1 u)).ym = (trigOut 1 u).ym := answerParamReads_ym _
  have hlit : t.litView = u.litView :=
    ((forcedSwap_litView _).trans (litView_of_ym hunder)).trans (trigOut_litView 1 u)
  have hn : ∀ n ∈ u.ym.flights.map (·.n), x.n < n := by
    intro n hn
    obtain ⟨y, hy, rfl⟩ := List.mem_map.mp hn
    exact of_decide_eq_true (List.mem_filter.mp hy).2
  have hfl : t.ym.flights.map (·.n) = u.ym.flights.map (·.n) := congrArg (·.2.2) hlit
  exact ⟨congrArg (·.1) hlit, congrArg (·.2.1) hlit,
    fun y hy => hn y.n (hfl ▸ List.mem_map_of_mem hy), hclock⟩

/-! ## The scale (R86, R87) -/

/-- The least multiple of 5 whose num-fold reaches a: it reaches it, by less than one step, and its part is 5. -/
theorem edge_bounds (a num : Nat) (h : 0 < num) :
    let e := 5 * ceilDiv a (5 * num)
    a ≤ e * num ∧ e * num < a + 5 * num ∧ e % 5 = 0 := by
  have hq := Nat.div_add_mod (a + 5 * num - 1) (5 * num)
  have hr := Nat.mod_lt (a + 5 * num - 1) (show 0 < 5 * num by omega)
  have he : 5 * ceilDiv a (5 * num) * num = 5 * num * ((a + 5 * num - 1) / (5 * num)) := by
    rw [ceilDiv]
    ring
  dsimp only
  rw [he]
  generalize 5 * num * ((a + 5 * num - 1) / (5 * num)) = e at *
  omega

section
variable (c : YmCfg) (n : Nat) (h : 24000 ≤ c.num) (hm : c.num ≤ 240000)
include h

theorem fbAt_bounds :
    n * c.tNum ≤ c.fbAt n * c.num ∧ c.fbAt n * c.num < n * c.tNum + 5 * c.num ∧ c.fbAt n % 5 = 0 :=
  edge_bounds (n * c.tNum) c.num (by omega)

theorem ptAt_bounds : n * c.tNum + c.gateNs.toNat * c.num ≤ c.ptAt n * c.num
    ∧ c.ptAt n * c.num < n * c.tNum + c.gateNs.toNat * c.num + 5 * c.num ∧ c.ptAt n % 5 = 0 :=
  edge_bounds (n * c.tNum + c.gateNs.toNat * c.num) c.num (by omega)

include hm

/-- A frame lasts longer than one edge of TIMECLK. -/
theorem edge_lt_frame : 5 * c.num < c.tNum := by
  unfold YmCfg.tNum
  split <;> omega

theorem fbAt_lt_succ : c.fbAt n < c.fbAt (n + 1) := by
  obtain ⟨-, hlt, -⟩ := fbAt_bounds c n h
  obtain ⟨hle, -, -⟩ := fbAt_bounds c (n + 1) h
  have ht := edge_lt_frame c h hm
  rw [Nat.succ_mul] at hle
  exact Nat.lt_of_mul_lt_mul_right (a := c.num) (by omega)

/-- Between two boundaries the frame count is the earlier one's. -/
theorem frameAt_between (t : Nat) (hlo : c.fbAt n ≤ t) (hhi : t < c.fbAt (n + 1)) : c.frameAt t = n := by
  obtain ⟨hn, -, -⟩ := fbAt_bounds c n h
  obtain ⟨-, hs, -⟩ := fbAt_bounds c (n + 1) h
  have ht := edge_lt_frame c h hm
  have hpos : 0 < c.tNum := by omega
  have hlow : n ≤ t * c.num / c.tNum :=
    (Nat.le_div_iff_mul_le hpos).mpr (hn.trans (Nat.mul_le_mul_right _ hlo))
  have hup : t * c.num / c.tNum < n + 2 := by
    have hmul : t * c.num ≤ c.fbAt (n + 1) * c.num := Nat.mul_le_mul_right _ hhi.le
    rw [Nat.div_lt_iff_lt_mul hpos]
    have h1 : (n + 1) * c.tNum = n * c.tNum + c.tNum := Nat.succ_mul _ _
    have h2 : (n + 2) * c.tNum = n * c.tNum + 2 * c.tNum := Nat.add_mul _ _ _
    omega
  unfold YmCfg.frameAt
  dsimp only
  obtain hq | hq : t * c.num / c.tNum = n ∨ t * c.num / c.tNum = n + 1 := by omega
  · rw [hq, if_neg (by omega)]
  · rw [hq, if_pos hhi]
    rfl

end

theorem boundaryDue_iff (s : State) : boundaryDue s = true ↔ (s.glb.clk.rootLock = true ∧ s.glb.faulted = false
    ∧ s.glb.recovery = false ∧ s.brd.dark = false ∧ s.tim.st ≠ .unset ∧ s.cfg.ym.fbAt s.ym.next ≤ s.elt) := by
  simp [boundaryDue, and_assoc]

end Sys2Proof.Machine

open Sys2Proof Sys2Proof.Machine

/-- Settles O19: the scale by arithmetic; a boundary and a Gate through the clock view, which every part of either keeps
but for the commits and the number of the next boundary. -/
theorem frameBoundaryAndGate : Obligations.FrameBoundaryAndGate := by
  refine ⟨?scale, ?names, boundaryDue_iff, ?commits, ?unscheduled, ?early, ?lights, ?idle⟩
  case scale =>
    intro c n h hm
    obtain ⟨hfle, hflt, hf5⟩ := fbAt_bounds c n h
    obtain ⟨hple, hplt, hp5⟩ := ptAt_bounds c n h
    exact ⟨hfle, hflt, hf5, hp5, hple, hplt, frameAt_between c n h hm, fbAt_lt_succ c n h hm, rfl⟩
  case names =>
    intro copied s h
    exact ⟨_, rfl, frameBoundary_names copied s h⟩
  case commits =>
    intro copied s x h hn hh hl hq hs hx
    exact ⟨_, rfl, frameBoundary_commits copied s x h hn hh hl hq hs hx⟩
  case unscheduled =>
    intro copied s h hs
    exact ⟨_, rfl, frameBoundary_unscheduled copied s h hs⟩
  case early =>
    intro copied s h
    show commit s (frameBoundaryEffect copied s) = .next s
    rw [frameBoundaryEffect, h]
    rfl
  case lights =>
    intro errs x r s hx hc hf hd hp
    obtain ⟨hlit, hfail, hfl, hclock⟩ := gateFire_lights errs x r s hx hc hf hd hp
    exact ⟨_, rfl, hlit, hfail, hfl, congrArg ClockView.latest hclock, congrArg ClockView.next hclock,
      congrArg ClockView.cfg hclock, congrArg ClockView.sched hclock⟩
  case idle =>
    intro errs s h
    show commit s (gateFireEffect errs s) = .next s
    rw [gateFire_idle errs s h]
    rfl
end

section
/-! Proofs for what the ports', lines' and heads' commands stage: the rules of each command on its records, then the
shared laws of staging. -/
namespace Sys2Proof.Machine
open Sys2Proof

/-! ## Staging commands by their rules -/

section
variable {i : Instr} {s : State} {m : Nat} {op : Half} {objs : List Nat} {x : Session} {tx : Txn}
  {f : Req → State → Cfg → Except Status Cfg} {pre : Req → State → Except Status Unit} {src : Option Nat}
  (he : exec i s = commit s (stage m op objs s f pre src)) (hr : Runs m op s)
include he hr

/-- A row that is a staging command stages what its rules give. -/
theorem stages_of_rules (hs : MayStage s m x tx) {c : Cfg} (hp : pre (s.box m).req s = .ok ())
    (hf : f (s.box m).req s tx.cfg = .ok c) : Stages i m objs c [] x tx s src := by
  intro hroom
  rw [he]
  exact stage_next s m op objs x tx f pre src c hr hs hp hroom hf

/-- It answers what its rules refuse with. -/
theorem refuses_of_rules (hs : MayStage s m x tx) {e : Status} (hp : pre (s.box m).req s = .ok ())
    (hf : f (s.box m).req s tx.cfg = .error e) : Refuses i m e x tx s := by
  rw [Refuses, he]
  exact stage_refused s m op objs x tx f pre src e hr hs hp hf

/-- It answers what the check before any transaction refuses with. -/
theorem denies_of_check {e : Status} (hp : pre (s.box m).req s = .error e) : Denies i m e s := by
  rw [Denies, he]
  exact stage_denied s m op objs f pre src e hr hp

end

/-! ## Rules -/

theorem need_of {b : Bool} {e : Status} (h : b = true) : need b e = .ok () := by rw [h]; rfl

theorem need_not {b : Bool} {e : Status} (h : b = false) : need b e = .error e := by rw [h]; rfl

/-- Rules in order: one that is kept leaves the rest. -/
theorem bind_of_ok {α : Type} {a : Except Status Unit} (h : a = .ok ()) (k : Unit → Except Status α) :
    (a >>= k) = k () := by rw [h]; rfl

/-- One that is not kept ends them. -/
theorem bind_of_error {α : Type} {e : Status} {a : Except Status Unit} (h : a = .error e)
    (k : Unit → Except Status α) : (a >>= k) = .error e := by rw [h]; rfl

/-- An IP MTU outside 1,280 to 9,198 breaks the rules of a port (R331). -/
theorem portRegsOk_mtu (p : Nat) (r : PortRegs) (h : fld r.cfg 13 0 < 1280 ∨ 9198 < fld r.cfg 13 0) :
    portRegsOk p r = false := by
  rcases h with h | h
  · have h1 : decide (1280 ≤ fld r.cfg 13 0) = false := decide_eq_false (by omega)
    simp [portRegsOk, h1]
  · have h1 : decide (fld r.cfg 13 0 ≤ 9198) = false := decide_eq_false (by omega)
    simp [portRegsOk, h1]

/-- A head that may be named, on a variant with heads (R402, R406). -/
def headsHere (nHeads : Nat) (hs : List (Nat × HeadRegs)) : Bool :=
  decide (nHeads ≠ 0) && hs.all (fun e => decide (e.1 < nHeads))
    && (decide (1 < nHeads) || hs.all (fun e => !e.2.lock))

theorem headsHere_iff (n : Nat) (hs : List (Nat × HeadRegs)) : headsHere n hs = true
    ↔ n ≠ 0 ∧ ∀ e, e ∈ hs → e.1 < n ∧ (1 < n ∨ e.2.lock = false) := by
  by_cases h1 : 1 < n
  · simp [headsHere, h1]
  · simp [headsHere, h1, and_assoc, forall_and]

theorem headsHere_not (n : Nat) (hs : List (Nat × HeadRegs))
    (h : n = 0 ∨ ∃ e, e ∈ hs ∧ (n ≤ e.1 ∨ n = 1 ∧ e.2.lock = true)) : headsHere n hs = false := by
  rw [← Bool.not_eq_true, headsHere_iff]
  rintro ⟨h0, hall⟩
  obtain h | ⟨e, he, hbad⟩ := h
  · exact h0 h
  · obtain ⟨hlt, hlock⟩ := hall e he
    rcases hbad with hbad | ⟨h1, hbad⟩
    · omega
    · exact hlock.elim (by omega) (by simp [hbad])

end Sys2Proof.Machine

open Sys2Proof Sys2Proof.Machine

/-- Settles O34: each command is a staging command, and its rules decide which law of staging applies. -/
theorem stagingOfPortsLinesAndHeads : Obligations.StagingOfPortsLinesAndHeads := by
  refine ⟨?port, ?filter, ?ring, ?line, ?head, ?tile⟩
  case port =>
    intro m p r x tx s hr hs
    refine ⟨fun hp hok hcut hmtu => ?_, fun hp => ?_, fun hp hbad => ?_⟩
    · refine stages_of_rules rfl hr hs (need_of (decide_eq_true hp)) ?_
      rw [bind_of_ok (need_of hok), bind_of_ok hcut, bind_of_ok hmtu]
      rfl
    · exact denies_of_check rfl hr (need_not (decide_eq_false (by omega)))
    · exact refuses_of_rules rfl hr hs (need_of (decide_eq_true hp))
        (bind_of_error (need_not (portRegsOk_mtu p r hbad)) _)
  case filter =>
    intro m p r x tx s hr hs
    refine ⟨fun hp hfl hql hq ht => ?_, fun hp => ?_, fun hp ht hw => ?_⟩
    · have hok : filtersOk r = true := by simpa [filtersOk, hfl, hql] using hq
      have htr : (s.onPcie m || r.rxq.all (fun w => decide (fld w 31 30 ≠ 1))) = true := by simpa using ht
      refine stages_of_rules rfl hr hs (need_of (decide_eq_true hp)) ?_
      rw [bind_of_ok (need_of hok), bind_of_ok (need_of htr)]
      rfl
    · exact denies_of_check rfl hr (need_not (decide_eq_false (by omega)))
    · have htr : (s.onPcie m || r.rxq.all (fun w => decide (fld w 31 30 ≠ 1))) = false := by simpa [ht] using hw
      refine refuses_of_rules rfl hr hs (need_of (decide_eq_true hp)) ?_
      cases hok : filtersOk r with
      | false => exact bind_of_error (need_not rfl) _
      | true =>
        rw [bind_of_ok (need_of rfl)]
        exact bind_of_error (need_not htr) _
  case ring =>
    intro m p q a x tx s hr hs
    refine ⟨fun hp hq ha ht => ?_, fun hp hbad => ?_, fun hp => ?_⟩
    · have hok : (decide (q < 8) && decide (a.toNat % 64 = 0)) = true := by simp [hq, ha]
      have htr : (s.onPcie m || decide (fld (rxqCfg tx.cfg.eth p q) 31 30 ≠ 1)) = true := by simpa using ht
      refine stages_of_rules rfl hr hs (need_of (decide_eq_true hp)) ?_
      rw [bind_of_ok (need_of hok), bind_of_ok (need_of htr)]
      rfl
    · have hok : (decide (q < 8) && decide (a.toNat % 64 = 0)) = false := by
        rcases hbad with h | h <;> simp [h]
      exact refuses_of_rules rfl hr hs (need_of (decide_eq_true hp)) (bind_of_error (need_not hok) _)
    · exact denies_of_check rfl hr (need_not (decide_eq_false (by omega)))
  case line =>
    intro m n r x tx s hr hs
    refine ⟨fun hn hok hc => ?_, fun hn => ?_, fun hn hbad => ?_⟩
    · refine stages_of_rules rfl hr hs (need_of (decide_eq_true hn)) ?_
      rw [bind_of_ok (need_of hok), bind_of_ok hc]
      rfl
    · exact denies_of_check rfl hr (need_not (decide_eq_false (by omega)))
    · exact refuses_of_rules rfl hr hs (need_of (decide_eq_true hn)) (bind_of_error (need_not hbad) _)
  case head =>
    intro m hs x tx s hr hst
    refine ⟨fun h0 hall hok => ?_, fun hbad => ?_, fun h0 hall e hbad => ?_⟩
    · refine stages_of_rules rfl hr hst (need_of ((headsHere_iff _ _).mpr ⟨h0, hall⟩)) ?_
      rw [bind_of_ok hok]
      rfl
    · exact denies_of_check rfl hr (need_not (headsHere_not _ _ hbad))
    · exact refuses_of_rules rfl hr hst (need_of ((headsHere_iff _ _).mpr ⟨h0, hall⟩)) (bind_of_error hbad _)
  case tile =>
    intro m h k r x tx s hr hs
    refine ⟨fun hh hk hok => ?_, fun hh => ?_, fun hh hk => ?_⟩
    · refine stages_of_rules rfl hr hs (need_of (decide_eq_true hh)) ?_
      rw [bind_of_ok (need_of (decide_eq_true hk)), bind_of_ok hok]
      rfl
    · exact denies_of_check rfl hr (need_not (decide_eq_false (by omega)))
    · exact refuses_of_rules rfl hr hs (need_of (decide_eq_true hh))
        (bind_of_error (need_not (decide_eq_false (by omega))) _)
end

section
/-! PROOF. The registers after reset (O1): every table of the reset state is empty, so every mailbox, event source and
cause register is its reset record; a read of BAR0 is evaluated for each path. -/
namespace Sys2Proof.Machine
open Sys2Proof

@[simp] theorem reset_box (m : Nat) : State.reset.box m = {} := rfl

@[simp] theorem reset_srcAt (n : Nat) : State.reset.evc.srcAt n = {} := rfl

@[simp] theorem reset_cause (r : CauseReg) : State.reset.cause r = 0#32 := rfl

/-- Above the blocks of BAR0 no path but Groom's reads anything while the debug module does not answer (R33). -/
theorem readReg_unmapped {s : State} {p : Path} {a : Nat} (hdebug : s.debugOn = false) (hp : p ≠ .groom)
    (ha : 0x1000000 ≤ a) : s.readReg p a = 0xFFFFFFFF#32 := by
  simp [State.readReg, mayReadAt, hdebug, hp, Nat.not_lt.mpr ha]

theorem reset_debugOn : State.reset.debugOn = false := by decide

/-- The registers of the statement, at their offsets in BAR0, hold the values of their tables for every path. -/
theorem reset_readReg (p : Path) :
    [0x0, 0x8, 0xC, 0x300014, 0x380000, 0x400000, 0x400100, 0x600010, 0x700008, 0x70100C, 0x500000,
        0x880100, 0x900000, 0xA00024, 0xB00024, 0xC00000, 0xC00008, 0xD00004, 0xEF002C, 0xF00000].map
          (fun a => (State.reset.readReg p a).toNat)
      = [0x57481000, 0x1, 0x10, 0x640203E8, 0x20000000, 0xEA60, 0xB840785A, 0xFFFFFFFF, 0x3E8, 0xC803E8,
        0x4, 0x04003C00, 0x5DC, 0x5C0C00, 0x20000, 0x30000, 0x3C, 0x80000008, 0x40, 0x18E10258] := by
  cases p <;> decide

end Sys2Proof.Machine

open Sys2Proof Sys2Proof.Machine

/-- Settles O1: the scalar registers are fields of the reset state, its tables are empty, and a read finds the value
of the register's table. -/
theorem resetRegistersHoldTheirResetValues : Obligations.ResetRegistersHoldTheirResetValues :=
  ⟨rfl, by decide, rfl, rfl, rfl, rfl, rfl, rfl, fun m => by simp, fun n => by simp, reset_cause,
    rfl, rfl, rfl, reset_readReg, fun _ hp => readReg_unmapped reset_debugOn hp (by decide)⟩
end

section
/-! Proofs for the queries (O25): a command that only reads answers what its function gives, and the lengths of what is
answered. -/
namespace Sys2Proof.Machine
open Sys2Proof

/-! ## Rows that only read -/

section
variable {i : Instr} {s : State} {m : Nat} {op : Half} {f : Req → State → Reply}
  (he : exec i s = commit s (cmdRead m op s f)) (h : Runs m op s)
include he h

/-- A row that only reads answers what its function gives. -/
theorem reads_of_row {r : Reply} (hf : f (s.box m).req s = r) :
    ∃ t, exec i s = .next t ∧ Answers m r.status r.data s s t := by
  rw [he, ← hf]
  exact read_next s m op f h

/-- Where it gives a payload the answer is OK. -/
theorem reads_ok {d : List Byte} (hf : f (s.box m).req s = okWith d) :
    ∃ t, exec i s = .next t ∧ Answers m .ok d s s t := reads_of_row he h hf

/-- Where it gives a status alone the answer's payload is empty. -/
theorem reads_status {e : Status} (hf : f (s.box m).req s = reply e) :
    ∃ t, exec i s = .next t ∧ Answers m e [] s s t := reads_of_row he h hf

end

/-! ## Lengths of payloads -/

/-- A number that n bytes hold is what they spell. -/
theorem unle_le_of_lt {n v : Nat} (h : v < 256 ^ n) : unle (le n v) = v := by
  induction n generalizing v with
  | zero => simp_all [le, unle]
  | succ n ih =>
    have hdiv : v / 256 < 256 ^ n := Nat.div_lt_of_lt_mul (by rw [Nat.pow_succ] at h; omega)
    rw [le, unle, ih hdiv, BitVec.toNat_ofNat]
    exact Nat.mod_add_div v 256

@[simp] theorem leInt_length (n : Nat) (v : Int) : (leInt n v).length = n := le_length n _

/-- Records of one length, one after another. -/
theorem length_flatMap_of_length {α : Type} {f : α → List Byte} {k : Nat} (h : ∀ a, (f a).length = k) (l : List α) :
    (l.flatMap f).length = k * l.length := by
  simp [List.length_flatMap, h, Nat.mul_comm]

@[simp] theorem LogEntry.bytes_length (e : LogEntry) : e.bytes.length = 32 := by simp [LogEntry.bytes]

/-! ## CFG_STATUS (R535) -/

/-- The payload of CFG_STATUS: what stands open, the idle milliseconds, the staged bytes. -/
theorem cfgStatus_payload (m : Nat) (s : State) (x : Session) (h : Runs m 0x0106#16 s)
    (hs : s.session? (s.box m).req.session.toNat = some x) :
    ∃ t kind idle bytes, exec (.cfgStatus m) s = .next t ∧ Answers m .ok (le 4 kind ++ le 4 idle ++ le 8 bytes) s s t
      ∧ (∀ tx, x.txn = some tx →
          kind = 1 ∧ bytes = tx.bytes ∧ idle = min 0xFFFFFFFF ((s.elt - tx.lastNs) / 1000000))
      ∧ (x.txn = none → kind = if x.expired then 2 else 0) := by
  cases htx : x.txn with
  | some tx =>
    obtain ⟨t, ht, ha⟩ := reads_ok (d := le 4 1 ++ le 4 (min 0xFFFFFFFF ((s.elt - tx.lastNs) / 1000000)) ++ le 8 tx.bytes)
      (i := .cfgStatus m) rfl h (by simp only [hs, htx])
    exact ⟨t, _, _, _, ht, ha, by rintro _ ⟨⟩; exact ⟨rfl, rfl, rfl⟩, by simp⟩
  | none =>
    cases hx : x.expired with
    | true =>
      obtain ⟨t, ht, ha⟩ := reads_ok (d := le 4 2 ++ le 4 (min 0xFFFFFFFF ((s.elt - x.expiredNs) / 1000000)) ++ le 8 0)
        (i := .cfgStatus m) rfl h (by simp only [hs, htx, hx, if_true])
      exact ⟨t, _, _, _, ht, ha, by simp, fun _ => rfl⟩
    | false =>
      obtain ⟨t, ht, ha⟩ := reads_ok (d := le 4 0 ++ le 4 0 ++ le 8 0) (i := .cfgStatus m) rfl h
        (by simp only [hs, htx, hx, Bool.false_eq_true, if_false])
      exact ⟨t, _, _, _, ht, ha, by simp, fun _ => rfl⟩

/-! ## Reading the log (R67) -/

/-- COUNT outside 1 to 127 (R67). -/
theorem readLog_badCount (es : List LogEntry) (next first : Word) {count : Nat} (h : count < 1 ∨ 127 < count) :
    readLog es next first count = reply .badParam := if_pos h

/-- An entry asked for that is older than the oldest. -/
theorem readLog_older {e : LogEntry} (es : List LogEntry) (next : Word) {first : Word} {count : Nat}
    (h1 : 1 ≤ count) (h2 : count ≤ 127) (ho : fnLater e.seq first = true) :
    readLog (e :: es) next first count = { status := .logRange, data := le 4 e.seq.toNat } := by
  rw [readLog, if_neg (by omega)]
  exact if_pos ho

/-- The entries from the one asked for, at most COUNT. -/
theorem readLog_entries {e : LogEntry} (es : List LogEntry) (next : Word) {first : Word} {count : Nat}
    (h1 : 1 ≤ count) (h2 : count ≤ 127) (ho : fnLater e.seq first = false) : readLog (e :: es) next first count
      = okWith ((((e :: es).filter (fun x => !fnLater first x.seq)).take count).flatMap LogEntry.bytes) := by
  rw [readLog, if_neg (by omega)]
  exact if_neg (by simp [ho])

/-! ## Telemetry and counters (R66) -/

/-- QUERY_TELEMETRY of a block that exists takes a free value and answers at most 4,064 bytes. -/
theorem queryTelemetry_answers (m block : Nat) (s : State) (h : Runs m 0x0204#16 s) (hb : block ≤ 16) :
    ∃ t, exec (.queryTelemetry m block) s = .next t
      ∧ Answers m .ok ((Config.telemetry block s.freeCtr).take 4064) s s.takeFree t :=
  now_next s s.takeFree m 0x0204#16 _ (okWith _) h (if_neg (by omega)) rfl rfl rfl rfl

theorem queryTelemetry_noBlock (m block : Nat) (s : State) (h : Runs m 0x0204#16 s) (hb : 16 < block) :
    ∃ t, exec (.queryTelemetry m block) s = .next t ∧ Answers m .badParam [] s s t :=
  now_next s s m 0x0204#16 _ (reply .badParam) h (if_pos hb) rfl rfl rfl rfl

/-- QUERY_COUNTERS of a block that exists answers 12 bytes for each counter, of 338 at most. -/
theorem queryCounters_answers (m block : Nat) (s : State) (h : Runs m 0x0205#16 s) (hb : block ≤ 16) :
    ∃ t d, exec (.queryCounters m block) s = .next t ∧ d.length ≤ 4064 ∧ Answers m .ok d s s t := by
  obtain ⟨t, ht, ha⟩ := reads_ok (i := .queryCounters m block) rfl h (if_neg (Nat.not_lt.mpr hb))
  refine ⟨t, _, ht, ?_, ha⟩
  rw [length_flatMap_of_length (k := 12) (fun e => by simp), List.length_take]
  omega

/-! ## Payloads with parts of a fixed length -/

/-- The calibration record begins with its magic number (R454). -/
theorem calRecord_magic (s : State) (seq : Word) : (calRecord s seq).take 4 = le 4 0x4C435848 := rfl

end Sys2Proof.Machine

open Sys2Proof Sys2Proof.Machine

/-- Settles O25: each row is a command that only reads (QUERY_TELEMETRY takes a free value besides), and what its
function gives is evaluated. -/
theorem queriesAnswerFromTheState : Obligations.QueriesAnswerFromTheState := by
  refine ⟨?cfgStatus, ?config, ?staged, ?noTxn, ?object, ?noObject, ?telemetry, queryCounters_answers, ?noBlock, ?log,
    ?flash, ?badCount, ?older, ?entries, ?cut, ?time, ?pair, ?feed, ?bridle, ?cal, ?test, ?map, ?sec⟩
  case cfgStatus =>
    intro m s x h hs
    obtain ⟨t, kind, idle, bytes, ht, ha, hopen, hnone⟩ := cfgStatus_payload m s x h hs
    refine ⟨t, _, ht, ha, by simp, fun tx htx => ?_, fun htx => ?_⟩
    · obtain ⟨rfl, rfl, rfl⟩ := hopen tx htx
      refine ⟨by simp, List.drop_left' (by simp), fun _ hidle => ?_⟩
      have hms : (s.elt - tx.lastNs) / 1000000 < 1000000000 := by omega
      rw [List.append_assoc, List.drop_left' (le_length 4 _), List.take_left' (le_length 4 _),
        unle_le_of_lt (by omega)]
      omega
    · rw [← hnone htx]
      simp
  case config => exact fun m id s h => reads_of_row rfl h rfl
  case staged =>
    intro m id x tx s h hs htx
    refine reads_of_row rfl h ?_
    simp only [hs, htx, Option.bind_some]
  case noTxn =>
    intro m id s h hnone
    refine reads_status rfl h ?_
    simp only [hnone]
  case object =>
    intro s c id b hb ho
    rw [objectReply, hb]
    exact if_pos ho
  case noObject =>
    intro s c id hb
    rw [objectReply, hb]
    rfl
  case telemetry =>
    intro m block s h hb
    obtain ⟨t, ht, ha⟩ := queryTelemetry_answers m block s h hb
    exact ⟨t, _, ht, List.length_take_le _ _, ha⟩
  case noBlock =>
    intro m block s hb
    exact ⟨fun h => queryTelemetry_noBlock m block s h hb, fun h => reads_status rfl h (if_pos hb)⟩
  case log => exact fun m first count s h => reads_of_row rfl h rfl
  case flash => exact fun m first count s h => reads_of_row rfl h rfl
  case badCount => exact fun es next first count h => readLog_badCount es next first h
  case older => exact fun e es next first count h1 h2 ho => readLog_older es next h1 h2 ho
  case entries =>
    intro e es next first count h1 h2 ho
    rw [readLog_entries es next h1 h2 ho]
    refine ⟨rfl, ?_⟩
    rw [okWith, length_flatMap_of_length LogEntry.bytes_length, List.length_take]
  case cut => exact fun m s h => reads_ok rfl h rfl
  case time => exact fun m s h => reads_ok rfl h rfl
  case pair => exact fun m s h => reads_ok rfl h rfl
  case feed => exact fun m s h => reads_ok rfl h rfl
  case bridle =>
    intro m s h
    obtain ⟨t, ht, ha⟩ := reads_ok (i := .bridleStatus m) rfl h rfl
    exact ⟨t, _, ht, ha, by rw [length_flatMap_of_length (k := 8) (fun i => by simp), List.length_range]⟩
  case cal =>
    intro m seq s h
    obtain ⟨t, ht, ha⟩ := reads_ok (i := .calRead m seq) rfl h rfl
    exact ⟨t, ht, ha, calRecord_magic s seq⟩
  case test =>
    intro m s h
    obtain ⟨t, ht, ha⟩ := reads_ok (i := .testStatus m) rfl h rfl
    exact ⟨t, _, ht, by rw [← List.append_assoc]; exact ha, by simp⟩
  case map =>
    intro m s h
    obtain ⟨t, ht, ha⟩ := reads_ok (i := .queryResourceMap m) rfl h rfl
    exact ⟨t, _, ht, ha, by simp⟩
  case sec =>
    intro m s h
    obtain ⟨t, ht, ha⟩ := reads_ok (i := .secStatus m) rfl h rfl
    exact ⟨t, _, ht, by rw [← List.append_assoc]; exact ha⟩
end

section
/-! Proofs for the resets (O5): what a boot's parts keep. A boot works on the state that its reset leaves, and of that
state it keeps the time unit, the frame clock, the mailboxes, the counters, the commits and what AON and OTP hold. -/
namespace Sys2Proof.Machine
open Sys2Proof

/-! ## Views that operations keep -/

/-- From s to t a view of the state stays. -/
def Keeps {β : Type} (v : State → β) (s t : State) : Prop := v t = v s

section
variable {β : Type} {v : State → β} {s t u : State}

theorem Keeps.refl (v : State → β) (s : State) : Keeps v s s := rfl

theorem Keeps.trans (h : Keeps v s t) (k : Keeps v t u) : Keeps v s u := Eq.trans k h

/-- The same, the later part first. -/
theorem Keeps.after (k : Keeps v t u) (h : Keeps v s t) : Keeps v s u := h.trans k

/-- A fold of operations that each keep a view keeps it. -/
theorem Keeps.foldl {α : Type} {f : State → α → State} (h : ∀ s a, Keeps v s (f s a)) (l : List α) (s : State) :
    Keeps v s (l.foldl f s) := by
  induction l generalizing s with
  | nil => exact .refl v s
  | cons a l ih => exact (h s a).trans (ih (f s a))

/-- A branch keeps a view where both sides do. -/
theorem Keeps.ite {c : Prop} [Decidable c] (ht : Keeps v s t) (hu : Keeps v s u) : Keeps v s (if c then t else u) := by
  split
  · exact ht
  · exact hu

end

/-! ## What a boot keeps (R25, R493, R525) -/

/-- What the claims about resets read of the state. -/
structure RestartView where
  tim     : Tim
  ym      : Ym
  mbx     : Mbx
  cnt     : Tab Nat
  cap     : Tab Nat
  sched   : List Sched
  gen     : Nat
  log     : EvLog
  feeds   : Feeds
  bank0   : Tab Half
  bank1   : Tab Half
  level   : Nat
  lc      : Lc
  revoked : BitVec 4
  counter : Nat

def State.restart (s : State) : RestartView :=
  { tim := s.tim, ym := s.ym, mbx := s.mbx, cnt := s.cnt, cap := s.cap, sched := s.sched, gen := s.gen, log := s.log
    feeds := s.feeds, bank0 := s.pdk.bank0, bank1 := s.pdk.bank1, level := s.brd.level
    lc := s.sec.lc, revoked := s.sec.revoked, counter := s.sec.counter }

/-- Two states whose views agree agree in each of its fields. -/
theorem restart_eq {s t : State} : t.restart = s.restart ↔ t.tim = s.tim ∧ t.ym = s.ym ∧ t.mbx = s.mbx ∧ t.cnt = s.cnt
    ∧ t.cap = s.cap ∧ t.sched = s.sched ∧ t.gen = s.gen ∧ t.log = s.log ∧ t.feeds = s.feeds
    ∧ t.pdk.bank0 = s.pdk.bank0 ∧ t.pdk.bank1 = s.pdk.bank1 ∧ t.brd.level = s.brd.level
    ∧ t.sec.lc = s.sec.lc ∧ t.sec.revoked = s.sec.revoked ∧ t.sec.counter = s.sec.counter := by
  simp only [State.restart, RestartView.mk.injEq]

/-- With the time unit at reset ELT is 0 (R128). -/
theorem elt_of_tim {s : State} (h : s.tim = {}) : s.elt = 0 := by
  rw [State.elt, h]
  rfl

/-- From s to t the view of the claims about resets stays. -/
abbrev KeepsRestart : State → State → Prop := Keeps State.restart

theorem setDomain_restart (d v : Nat) (s : State) : KeepsRestart s (setDomain d v s) := rfl

theorem settleDomains_restart (s : State) : KeepsRestart s (settleDomains s) :=
  .foldl (fun s _ => setDomain_restart _ _ s) _ s

theorem withdrawDomain_restart (d : Nat) (s : State) : KeepsRestart s (withdrawDomain d s) := rfl

theorem bootFail_restart (f : BootFail) (s : State) : KeepsRestart s (bootFail f s) := by
  cases f with
  | bank r => exact .ite rfl rfl
  | vital d | ddr12 | stall k | eth p | line n | head h | lineBank b | logic d | test => exact rfl

theorem powerUp_restart (ds : List Nat) (s : State) : KeepsRestart s (powerUp ds s) :=
  .foldl (fun s _ => setDomain_restart _ _ s) ds s

theorem powerUntil_restart (d : Nat) (s : State) : KeepsRestart s (powerUntil d s) :=
  (powerUp_restart _ (withdrawDomain d s)).trans (setDomain_restart d 3 _)

theorem switchOn_restart (d : Nat) (s : State) : KeepsRestart s (switchOn d s) :=
  .ite (setDomain_restart d 1 s) rfl

theorem enterRecovery_restart (type : Nat) (s : State) : KeepsRestart s (enterRecovery type s) := by
  unfold enterRecovery
  exact .ite rfl ((switchOn_restart 8 _).after ((switchOn_restart 14 _).after rfl))

theorem extendMeas_restart (k : Nat) (d : Digest) (s : State) : KeepsRestart s (extendMeas k d s) := rfl

theorem secureBoot_restart {b : Boot} {s t : State} (h : secureBoot b s = .ok t) : KeepsRestart s t := by
  have hmeas : KeepsRestart s ((s.sec.flashMan.comps).foldl (fun s c => extendMeas c.type c.digest s)
      (extendMeas 0 Config.loaderDigest s)) :=
    (extendMeas_restart _ _ s).trans (.foldl (fun s _ => extendMeas_restart _ _ s) _ _)
  unfold secureBoot at h
  dsimp only at h
  split at h
  · cases h
  · split at h
    · cases h
    · split at h
      · cases h
      · cases h
        exact hmeas

theorem convertSettings_restart (s : State) : KeepsRestart s (convertSettings s) := by
  unfold convertSettings
  dsimp only
  split <;> rfl

theorem evc_restart (s : State) (e : Evc) : KeepsRestart s { s with evc := e } := rfl

theorem bootEvc_restart (s : State) : KeepsRestart s (bootEvc s) := .foldl (fun s _ => evc_restart s _) _ s

theorem raiseCause_restart (s : State) (r : CauseReg) (b : Nat) : KeepsRestart s (s.raiseCause r b) := by
  rw [raiseCause_frame]
  rfl

theorem cal_restart (s : State) (c : Cal) : KeepsRestart s { s with brd := { s.brd with cal := c } } := rfl

theorem emit_restart (s : State) (o : Out) : KeepsRestart s (s.emit o) := rfl

theorem finishBoot_restart (s : State) : KeepsRestart s (finishBoot s) := by
  unfold finishBoot
  extract_lets again _ s1 s2 s3 s4
  have h1 : KeepsRestart s s1 :=
    (bootEvc_restart _).after ((settleDomains_restart _).after ((convertSettings_restart _).after rfl))
  have h2 : KeepsRestart s s2 := h1.trans (.ite (raiseCause_restart _ _ _) rfl)
  have h3 : KeepsRestart s s3 := h2.trans (.ite (raiseCause_restart _ _ _) rfl)
  have h4 : KeepsRestart s s4 := h3.trans (.ite (raiseCause_restart _ _ _) rfl)
  split
  · exact h4
  · exact (Keeps.foldl (fun s _ => emit_restart s _) _ _).after (Keeps.after rfl h4)

/-- Whatever boot finds, a warm reset keeps what its base leaves. -/
theorem warmReset_restart (b : Boot) (s : State) : KeepsRestart (warmBase s) (warmReset b s) := by
  unfold warmReset
  extract_lets s0 s1
  have h1 : KeepsRestart s0 s1 := evc_restart s0 _
  split
  · exact h1.trans ((settleDomains_restart _).trans (enterRecovery_restart _ _))
  · next s2 h => exact h1.trans ((secureBoot_restart h).trans (finishBoot_restart _))

/-- The rails of the feeds as a cold reset finds them: what boot gives a cold reset besides (R413). -/
def withRails (b : Boot) (s : State) : State :=
  { s with feeds := { s.feeds with core := bootRail b.coreA, aon := bootRail b.aonA } }

/-- Whatever boot finds, a cold reset keeps what its base leaves, but for the rails. -/
theorem coldReset_restart (b : Boot) (s : State) : KeepsRestart (withRails b (coldBase s)) (coldReset b s) := by
  unfold coldReset
  extract_lets s0 _ _ _ _ s1 s2
  have h1 : KeepsRestart (withRails b s0) s1 := rfl
  have h2 : KeepsRestart s1 s2 := (Keeps.foldl (fun s f => bootFail_restart f s) _ _).after (.ite rfl rfl)
  split
  · exact h1.trans ((powerUntil_restart _ _).trans (enterRecovery_restart _ _))
  · refine h1.trans (.ite ((h2.trans (powerUp_restart _ _)).trans (enterRecovery_restart _ _)) ?_)
    split
    · exact h2.trans ((settleDomains_restart _).trans (enterRecovery_restart _ _))
    · next s3 h =>
      have h3 : KeepsRestart s1 s3 := h2.trans (secureBoot_restart h)
      exact (finishBoot_restart _).after ((cal_restart s3 _).after h3)

end Sys2Proof.Machine

open Sys2Proof Sys2Proof.Machine

/-- Settles O5: a boot keeps what its reset leaves, and what a collapse leaves is the base of a cold reset. -/
theorem resetsRestartTheBlock : Obligations.ResetsRestartTheBlock := by
  refine ⟨fun b s => ⟨_, rfl, ?cold⟩, fun b s => ⟨_, rfl, ?warm⟩, fun core a b s ha hb => ?collapse,
    fun core a b s h => ?holds⟩
  case cold =>
    have h : (coldReset b s).restart = (withRails b (coldBase s)).restart := coldReset_restart b s
    obtain ⟨htim, hym, hmbx, hcnt, hcap, hsched, hgen, hlog, -, -, -, -, hlc, hrev, hctr⟩ := restart_eq.mp h
    exact ⟨elt_of_tim htim, htim, hym, hmbx, hcnt, hcap, hsched, hgen, (congrArg EvLog.flash hlog :),
      (congrArg EvLog.sram hlog :), hlc, hrev, hctr, rfl, rfl⟩
  case warm =>
    have h : (warmReset b s).restart = (warmBase s).restart := warmReset_restart b s
    obtain ⟨htim, hym, hmbx, -, -, hsched, hgen, hlog, hfeeds, hb0, hb1, hlevel, hlc, hrev, hctr⟩ := restart_eq.mp h
    exact ⟨elt_of_tim htim, htim, hym, (congrArg Mbx.sessions hmbx :), hsched, hgen, hlog, hfeeds, hb0, hb1, hlevel, hlc,
      hrev, hctr, rfl, rfl⟩
  case collapse =>
    refine ⟨coldBase s, ?_, elt_of_tim rfl, rfl, rfl, rfl, rfl, rfl, rfl, rfl, rfl, rfl, rfl, rfl⟩
    show commit s (supplyCollapseEffect core a b s) = _
    rw [supplyCollapseEffect, if_pos ⟨ha, hb⟩]
    rfl
  case holds =>
    show commit s (supplyCollapseEffect core a b s) = _
    rw [supplyCollapseEffect, if_neg (by omega)]
    rfl
end

section
/-! Proofs for the sessions (O13): what answers leave of the sessions, what closing a session touches, and its rows. -/
namespace Sys2Proof.Machine
open Sys2Proof

/-! ## Tables -/

/-- What is found under a number stands in the table. -/
theorem mem_of_tfind {α : Type} {t : Tab α} {k : Nat} {v : α} (h : tfind? t k = some v) : (k, v) ∈ t := by
  induction t with
  | nil => cases h
  | cons e r ih =>
    obtain ⟨i, w⟩ := e
    rw [tfind?] at h
    split at h
    · cases h; subst_vars; exact List.mem_cons_self
    · exact List.mem_cons_of_mem _ (ih h)

/-- After a record is put in place the table holds it and, beyond it, only records it held before. -/
theorem eq_or_mem_of_mem_tset {α : Type} {t : Tab α} {k : Nat} {v : α} {e : Nat × α} (h : e ∈ tset t k v) :
    e = (k, v) ∨ e ∈ t := by
  induction t with
  | nil => exact .inl (List.mem_singleton.mp h)
  | cons a r ih =>
    obtain ⟨i, w⟩ := a
    rw [tset] at h
    split at h
    · exact List.mem_cons.mp h
    · split at h
      · exact (List.mem_cons.mp h).imp_right (List.mem_cons_of_mem _)
      · obtain rfl | h := List.mem_cons.mp h
        · exact .inr List.mem_cons_self
        · exact (ih h).imp_right (List.mem_cons_of_mem _)

theorem mem_tset_self {α : Type} (t : Tab α) (k : Nat) (v : α) : (k, v) ∈ tset t k v :=
  mem_of_tfind (tfind_tset_self t k v)

/-! ## Answers and sessions -/

/-- Answering a mailbox leaves the sessions, the configuration in effect and the scheduled commits. -/
theorem Answers.keeps {m : Nat} {st : Status} {d : List Byte} {s u t : State} (h : Answers m st d s u t) :
    Keeps (fun s => (s.mbx.sessions, s.cfg, s.sched)) u t := by
  obtain ⟨-, -, -, -, -, -, -, hf, -⟩ := h
  rw [hf]
  rfl

theorem Answers.session? {m : Nat} {st : Status} {d : List Byte} {s u t : State} (h : Answers m st d s u t) (j : Nat) :
    t.session? j = u.session? j := by
  have hs : t.mbx.sessions = u.mbx.sessions := congrArg (·.1) h.keeps
  rw [State.session?, hs, State.session?]

/-- An answer counts. -/
theorem Answers.answered {m : Nat} {st : Status} {d : List Byte} {s u t : State} (h : Answers m st d s u t) :
    Answered m st d s t := by
  obtain ⟨hst, hstatus, hdata, htag, hcount, -⟩ := h
  exact ⟨hst, hstatus, hdata, htag, hcount⟩

/-- An answer to a mailbox whose request and count are those of an earlier state answers that state's request. -/
theorem Answered.of_box {m : Nat} {st : Status} {d : List Byte} {s u t : State} (h : Answered m st d u t)
    (hreq : (u.box m).req = (s.box m).req) (hcount : (u.box m).doneCount = (s.box m).doneCount) :
    Answered m st d s t := by
  obtain ⟨hst, hstatus, hdata, htag, hdone⟩ := h
  exact ⟨hst, hstatus, hdata, htag.trans (by rw [hreq]), hdone.trans (by rw [hcount])⟩

theorem session?_delSession (s : State) (id : Nat) : (s.delSession id).session? id = none := tfind_tdel_self _ _

/-! ## SESSION_OPEN (R52) -/

/-- The challenge of a new session: OPERATOR alone over PCIe needs none. -/
def openChallenge (mask : Byte) (tr : Transport) (s : State) : BitVec 384 :=
  if decide (tr = .pcie) && decide (mask = 0x02#8) then 0 else Config.freeBits s.freeCtr

theorem openChallenge_plain (s : State) : openChallenge 0x02#8 .pcie s = 0#384 := if_pos rfl

/-- The session that SESSION_OPEN opens. -/
def openedSession (mask : Byte) (cred : Word) (tr : Transport) (s : State) : Session :=
  { transport := tr, requested := mask, granted := mask &&& s.freeMask tr, cred := cred
    challenge := openChallenge mask tr s, lastNs := s.elt }

/-- The state in which it stands open and its mailbox belongs to it. -/
def withOpened (m : Nat) (mask : Byte) (cred : Word) (tr : Transport) (s : State) : State :=
  let u : State := { s with
    freeCtr := if decide (tr = .pcie) && decide (mask = 0x02#8) then s.freeCtr else s.freeCtr + 1
    mbx := { s.mbx with
      sessions := tset s.mbx.sessions s.mbx.nextSes (openedSession mask cred tr s)
      nextSes := s.mbx.nextSes % 4294967295 + 1 } }
  u.setBox m { u.box m with owner := s.mbx.nextSes }

section
variable {m : Nat} {mask : Byte} {cred : Word} {tr : Transport} {s : State} (h : Runs m 0x0001#16 s)
  (ht : s.mbxTransport m = some tr)
include h ht

theorem sessionOpen_opens (hm : maskOk mask = true) (hn : s.mbx.sessions.length < 32) :
    sessionOpenEffect m mask cred s = (withOpened m mask cred tr s).completeAs m (BitVec.ofNat 32 s.mbx.nextSes)
      (okWith (le 4 s.mbx.nextSes ++ be 48 (openChallenge mask tr s).toNat)) := by
  rw [sessionOpenEffect, if_neg (by simp [h.1]), ht]
  dsimp only
  rw [if_neg (by simp [hm]), if_neg (by omega)]
  rfl

theorem sessionOpen_badMask (hm : maskOk mask = false) :
    sessionOpenEffect m mask cred s = s.finish m (reply .badParam) := by
  rw [sessionOpenEffect, if_neg (by simp [h.1]), ht]
  dsimp only
  rw [if_pos (by simp [hm])]

theorem sessionOpen_full (hm : maskOk mask = true) (hn : 32 ≤ s.mbx.sessions.length) :
    sessionOpenEffect m mask cred s = s.finish m (reply .noResource) := by
  rw [sessionOpenEffect, if_neg (by simp [h.1]), ht]
  dsimp only
  rw [if_neg (by simp [hm]), if_pos hn]

end

theorem withOpened_session (m : Nat) (mask : Byte) (cred : Word) (tr : Transport) (s : State) :
    (withOpened m mask cred tr s).session? s.mbx.nextSes = some (openedSession mask cred tr s) := tfind_tset_self _ _ _

theorem withOpened_session_ne (m : Nat) (mask : Byte) (cred : Word) (tr : Transport) (s : State) {j : Nat}
    (h : j ≠ s.mbx.nextSes) : (withOpened m mask cred tr s).session? j = s.session? j := tfind_tset_ne _ _ _ _ h

theorem withOpened_box (m : Nat) (mask : Byte) (cred : Word) (tr : Transport) (s : State) :
    (withOpened m mask cred tr s).box m = { s.box m with owner := s.mbx.nextSes } := box_setBox_self _ _ _

/-- A mailbox's row that ends a command in `finish`, its session open. -/
theorem commit_finish {s u : State} {m : Nat} {op : Half} (r : Reply) (h : Runs m op s) (hb : u.box m = s.box m)
    (hp : u.pending = s.pending) (hv : u.variant = s.variant) (hg : u.glb = s.glb) :
    ∃ t, commit s (u.finish m r) = .next t ∧ Answers m r.status r.data s u t := by
  obtain ⟨he, hd⟩ := h
  have ha := finish_answers s u m r (executes_lt s m op he) hb hd
  exact ⟨_, ha.commit hp hv (by rw [hg]), ha⟩

/-! ## SESSION_AUTH (R52, R422) -/

/-- What a credential grants beyond what is free, with what is free. -/
theorem granted_or_free (r c f : Byte) : (r &&& c &&& ~~~(r &&& f)) ||| (r &&& f) = r &&& (c ||| f) := by
  apply BitVec.eq_of_getLsbD_eq
  intro i hi
  simp only [BitVec.getLsbD_or, BitVec.getLsbD_and, BitVec.getLsbD_not, decide_eq_true hi]
  cases r.getLsbD i with
  | false => simp
  | true => cases f.getLsbD i <;> simp

section
variable {m : Nat} {x : Session} {s : State} (h : Runs m 0x0002#16 s)
  (hs : s.session? (s.box m).req.session.toNat = some x)
include h hs

/-- SESSION_AUTH with a signature that verifies grants what the credential adds. -/
theorem sessionAuth_grants {c : Cred} (hc : s.credFor x = some c)
    (hg : x.requested &&& c.mask &&& ~~~(x.requested &&& s.freeMask x.transport) ≠ 0) :
    sessionAuthEffect m true s
      = (s.setSession (s.box m).req.session.toNat
          { x with granted := x.requested &&& (c.mask ||| s.freeMask x.transport) }).finish m
          (okWith (le 1 (x.requested &&& (c.mask ||| s.freeMask x.transport)).toNat)) := by
  rw [sessionAuthEffect, if_neg (by simp [h.1])]
  dsimp only
  rw [hs]
  dsimp only
  rw [hc]
  dsimp only
  simp only [if_true]
  rw [if_pos hg, granted_or_free]

/-- One that does not verify grants nothing beyond what is free. -/
theorem sessionAuth_fails (hf : x.requested &&& s.freeMask x.transport ≠ 0) :
    sessionAuthEffect m false s
      = (s.setSession (s.box m).req.session.toNat { x with granted := x.requested &&& s.freeMask x.transport }).finish m
          (reply .authFailed) := by
  rw [sessionAuthEffect, if_neg (by simp [h.1])]
  dsimp only
  rw [hs]
  dsimp only
  rw [if_neg (by cases s.credFor x <;> simp), if_pos hf]

end

/-! ## What closing a session touches (R53) -/

/-- Whether or not an option gives a state, it keeps the view. -/
def KeepsIn {β : Type} (v : State → β) (s : State) (o : Option State) : Prop := ∀ t, o = some t → Keeps v s t

section
variable {β : Type} {v : State → β} {s t : State} {a b : Option State}

theorem KeepsIn.none : KeepsIn v s .none := fun _ h => nomatch h

theorem KeepsIn.some (h : Keeps v s t) : KeepsIn v s (.some t) := by rintro _ ⟨⟩; exact h

theorem KeepsIn.ite {c : Prop} [Decidable c] (ha : KeepsIn v s a) (hb : KeepsIn v s b) :
    KeepsIn v s (if c then a else b) := by
  split
  · exact ha
  · exact hb

end

/-- What no abort of a command touches: the configuration in effect, the scheduled commits, chapter 18's block. -/
def State.settled (s : State) : Cfg × List Sched × Sec := (s.cfg, s.sched, s.sec)

theorem dropTxn_settled (id : Nat) (s : State) : Keeps State.settled s (dropTxn id s) := by
  unfold dropTxn
  split <;> rfl

theorem completeAs_settled (s : State) (m : Nat) (id : Word) (r : Reply) :
    Keeps State.settled s (s.completeAs m id r) := by
  unfold State.completeAs
  dsimp only
  rw [raiseCause_frame, respond_frame]
  rfl

theorem settleClose_settled (s : State) : Keeps State.settled s s.settleClose := by
  unfold State.settleClose
  split
  · split
    · exact .ite rfl ((completeAs_settled _ _ _ _).after rfl)
    · rfl
  · rfl

theorem finish_settled (s : State) (m : Nat) (r : Reply) : Keeps State.settled s (s.finish m r) := by
  unfold State.finish
  exact .ite ((settleClose_settled _).after rfl) (completeAs_settled _ _ _ _)

theorem dropTx_settled (m : Nat) (s : State) : KeepsIn State.settled s (dropTx m s) := by
  unfold dropTx
  dsimp only
  split
  · exact .some rfl
  · exact .none

theorem dropRdm_settled (m : Nat) (s : State) : KeepsIn State.settled s (dropRdm m s) := by
  unfold dropRdm
  split
  · exact .none
  · exact .ite .none (.some rfl)

theorem dropSwap_settled (m : Nat) (s : State) : KeepsIn State.settled s (dropSwap m s) := by
  unfold dropSwap
  split
  · exact .none
  · exact .ite .none (.some rfl)

theorem dropCal_settled (m : Nat) (s : State) : KeepsIn State.settled s (dropCal m s) := by
  unfold dropCal
  split
  · exact .ite (.some rfl) .none
  · exact .none

theorem dropTest_settled (m : Nat) (s : State) : KeepsIn State.settled s (dropTest m s) := by
  unfold dropTest
  refine .ite (.some rfl) ?_
  split
  · exact .some rfl
  · exact .none

/-- Taking a command out at its abort point touches none of it. -/
theorem atAbortPoint_settled (m : Nat) (s : State) : KeepsIn State.settled s (atAbortPoint m s) := by
  have here : KeepsIn State.settled s (some s) := .some rfl
  unfold atAbortPoint
  exact .ite (.ite .none (.some (dropTxn_settled _ s))) (.ite (.ite (dropTx_settled m s) here)
    (.ite (.ite (dropRdm_settled m s) here) (.ite (.ite .none here) (.ite (.ite (.some rfl) .none)
    (.ite (.ite (.some rfl) .none) (.ite (.ite (dropSwap_settled m s) here) (.ite (.ite (dropCal_settled m s) here)
    (.ite (.ite (dropTest_settled m s) here) .none))))))))

theorem abortWith_settled (m : Nat) (data : List Byte) (s : State) : Keeps State.settled s (abortWith m data s) :=
  (finish_settled _ _ _).after rfl

theorem abortBox_settled (m : Nat) (s : State) : Keeps State.settled s (abortBox m s) := by
  unfold abortBox
  dsimp only
  split
  · rfl
  · rfl
  · exact abortWith_settled _ _ s
  · refine .ite rfl ?_
    unfold abortHere
    cases ho : atAbortPoint m s with
    | none => rfl
    | some t => exact (abortWith_settled _ _ t).after (atAbortPoint_settled m s t ho)

theorem closeBox_settled (m : Nat) (s : State) : Keeps State.settled s (closeBox m s) := by
  unfold closeBox
  dsimp only
  split
  · exact (abortBox_settled _ _).after rfl
  · rfl

/-- What a message to a neighbour of the chain leaves alone: the mailboxes, the configuration, the scheduled commits. -/
def State.unsent (s : State) : Mbx × Cfg × List Sched := (s.mbx, s.cfg, s.sched)

theorem enqueueBe_unsent (p : Nat) (x : TxFrame) (s : State) : Keeps State.unsent s (enqueueBe p x s) := by
  unfold enqueueBe enqueue
  exact .ite rfl rfl

theorem sendUpd_unsent (p : Nat) (a : BitVec 128) (k : UpdKind) (st : Half) (i c : Nat) (d : List Byte) (s : State) :
    Keeps State.unsent s (sendUpd p a k st i c d s) := by
  unfold sendUpd
  exact (Keeps.foldl (fun s x => enqueueBe_unsent p x s) _ _).after rfl

theorem releaseLock_unsent (s : State) : Keeps State.unsent s (releaseLock s) := by
  unfold releaseLock
  dsimp only
  split
  · exact Keeps.after rfl (.ite (sendUpd_unsent _ _ _ _ _ _ _ s) rfl)
  · rfl

/-- A session closes: first its transaction and its update lock go, then its mailboxes but one are closed. -/
theorem closeSession_eq (id : Nat) (keep : Option Nat) (s : State) :
    ∃ u : State, closeSession id keep s
        = ((u.mbx.boxes.filter (fun e => e.2.owner = id ∧ some e.1 ≠ keep)).map (·.1)).foldl (fun s m => closeBox m s) u
      ∧ u.mbx = (dropTxn id s).mbx ∧ u.cfg = s.cfg ∧ u.sched = s.sched
      ∧ ∀ l, u.sec.upd.lock = some l → l.session ≠ some id := by
  have hdrop := dropTxn_settled id s
  simp only [Keeps, State.settled, Prod.mk.injEq] at hdrop
  obtain ⟨hcfg, hsched, hsec⟩ := hdrop
  have hrel := releaseLock_unsent (dropTxn id s)
  simp only [Keeps, State.unsent, Prod.mk.injEq] at hrel
  obtain ⟨rmbx, rcfg, rsched⟩ := hrel
  refine ⟨_, rfl, ?_⟩
  split
  · next l hl =>
    split
    · exact ⟨rmbx, rcfg.trans hcfg, rsched.trans hsched, fun k hk => nomatch hk⟩
    · next hne =>
      refine ⟨rfl, hcfg, hsched, fun k hk hid => hne ?_⟩
      cases hl.symm.trans hk
      exact decide_eq_true hid
  · next hl => exact ⟨rfl, hcfg, hsched, fun k hk => nomatch hl.symm.trans hk⟩

/-- Closing a session keeps the configuration in effect and the scheduled commits, and its update lock is released. -/
theorem closeSession_keeps (id : Nat) (keep : Option Nat) (s : State) :
    (closeSession id keep s).cfg = s.cfg ∧ (closeSession id keep s).sched = s.sched
      ∧ ∀ l, (closeSession id keep s).sec.upd.lock = some l → l.session ≠ some id := by
  obtain ⟨u, heq, -, hcfg, hsched, hlock⟩ := closeSession_eq id keep s
  have hfold : Keeps State.settled u (closeSession id keep s) := by
    rw [heq]
    exact .foldl (fun s m => closeBox_settled m s) _ u
  simp only [Keeps, State.settled, Prod.mk.injEq] at hfold
  obtain ⟨fcfg, fsched, fsec⟩ := hfold
  exact ⟨fcfg.trans hcfg, fsched.trans hsched, fun l hl => hlock l (by rw [← fsec]; exact hl)⟩

/-! ## SESSION_CLOSE and the expiry of a session (R53) -/

/-- The one session whose SESSION_CLOSE waits, none of its other mailboxes at work, is completed. -/
theorem settleClose_completes {s : State} {id m : Nat} {x : Session} (hmem : (id, x) ∈ s.mbx.sessions)
    (honly : ∀ e ∈ s.mbx.sessions, e.2.closing ≠ none → e = (id, x)) (hc : x.closing = some m)
    (hbusy : s.otherBusy id m = false) (hd : (s.box m).discard = false) :
    s.settleClose = (s.delSession id).completeAs m (BitVec.ofNat 32 id) (reply .ok) := by
  unfold State.settleClose
  split
  · next id' x' hfind =>
    have hclosing : x'.closing ≠ none := by
      have hp := List.find?_some hfind
      intro hnone
      simp [hnone] at hp
    obtain ⟨rfl, rfl⟩ : id' = id ∧ x' = x := Prod.mk.inj (honly _ (List.mem_of_find?_eq_some hfind) hclosing)
    simp only [hc, hd, Bool.false_eq_true, if_false]
  · next hnone =>
    have := List.find?_eq_none.mp hnone _ hmem
    simp [hc, hbusy] at this

/-- The session of SESSION_CLOSE while it waits in mailbox m. -/
def waitingClose (m : Nat) (x : Session) : Session := { x with txn := none, closing := some m }

/-- The state in which the SESSION_CLOSE of session id waits in mailbox m. -/
def withWaitingClose (m id : Nat) (x : Session) (s : State) : State :=
  ((closeSession id (some m) s).setSession id (waitingClose m x)).setBox m { s.box m with waiting := true }

section
variable {m id : Nat} {x : Session} {s : State} (hs : s.session? id = some x)
  (hown : ∀ e ∈ s.mbx.boxes, e.1 = m ∨ e.2.owner ≠ id)
include hs hown

/-- Closing a session with no mailbox but m discards its transaction and touches no mailbox. -/
theorem closeSession_alone :
    (closeSession id (some m) s).mbx = (s.setSession id { x with txn := none }).mbx := by
  obtain ⟨u, heq, hmbx, -⟩ := closeSession_eq id (some m) s
  rw [dropTxn, hs] at hmbx
  have hboxes : u.mbx.boxes = s.mbx.boxes := (congrArg Mbx.boxes hmbx :)
  have hnoBox : u.mbx.boxes.filter (fun e => e.2.owner = id ∧ some e.1 ≠ some m) = [] := by
    rw [hboxes, List.filter_eq_nil_iff]
    intro e hmem
    have := hown e hmem
    simp only [decide_eq_true_eq, ne_eq, Option.some.injEq]
    tauto
  rw [heq, hnoBox]
  exact hmbx

theorem withWaitingClose_sessions :
    (withWaitingClose m id x s).mbx.sessions = tset s.mbx.sessions id (waitingClose m x) := by
  show tset (closeSession id (some m) s).mbx.sessions id _ = _
  rw [closeSession_alone hs hown]
  exact tset_tset _ _ _ _

theorem withWaitingClose_boxes :
    (withWaitingClose m id x s).mbx.boxes = tset s.mbx.boxes m { s.box m with waiting := true } := by
  show tset (closeSession id (some m) s).mbx.boxes m _ = _
  rw [closeSession_alone hs hown]
  rfl

/-- None of the session's mailboxes but m is at work. -/
theorem withWaitingClose_free : (withWaitingClose m id x s).otherBusy id m = false := by
  rw [State.otherBusy, withWaitingClose_boxes hs hown, List.any_eq_false]
  intro e hmem
  obtain rfl | hin := eq_or_mem_of_mem_tset hmem
  · simp
  · obtain rfl | hne := hown e hin
    · simp
    · simp [hne]

/-- SESSION_CLOSE of a session with no other mailbox: the session goes and the mailbox completes. -/
theorem sessionClose_completes (h : Runs m 0x0003#16 s) (hid : (s.box m).req.session.toNat = id)
    (hnone : ∀ e ∈ s.mbx.sessions, e.2.closing = none) :
    sessionCloseEffect m s
      = ((withWaitingClose m id x s).delSession id).completeAs m (BitVec.ofNat 32 id) (reply .ok) := by
  obtain ⟨he, hd⟩ := h
  have hx : x.closing = none := hnone _ (mem_of_tfind hs)
  have hmbx := closeSession_alone hs hown
  have hsession : (closeSession id (some m) s).session? id = some { x with txn := none } := by
    rw [State.session?, hmbx]
    exact tfind_tset_self _ _ _
  have hbox : (closeSession id (some m) s).box m = s.box m := by
    rw [State.box, hmbx]
    rfl
  have heff : sessionCloseEffect m s = (withWaitingClose m id x s).settleClose := by
    rw [sessionCloseEffect, if_pos he, cmd, if_pos he]
    dsimp only
    rw [hid, hs]
    dsimp only
    rw [hx, if_neg (by simp), hsession]
    dsimp only [Option.getD_some]
    rw [box_setSession, hbox]
    rfl
  refine heff.trans (settleClose_completes (x := waitingClose m x) ?_ ?_ rfl (withWaitingClose_free hs hown) ?_)
  · rw [withWaitingClose_sessions hs hown]
    exact mem_tset_self _ _ _
  · intro e hmem hclosing
    rw [withWaitingClose_sessions hs hown] at hmem
    exact (eq_or_mem_of_mem_tset hmem).resolve_right (fun hin => hclosing (hnone e hin))
  · rw [withWaitingClose, box_setBox_self]
    exact hd

end

/-- A session that has had no command for 300 s closes (R53). -/
theorem sessionIdleExpire_ends {id : Nat} {x : Session} {s : State} (hs : s.session? id = some x)
    (hc : x.closing = none) (hi : x.lastNs + 300000000000 ≤ s.elt) :
    sessionIdleExpireEffect id s = (closeSession id none s).delSession id := by
  rw [sessionIdleExpireEffect, hs]
  dsimp only
  rw [if_pos hi, endSession, hs]
  dsimp only [Option.bind_some]
  rw [hc]

theorem sessionIdleExpire_early {id : Nat} {x : Session} {s : State} (hs : s.session? id = some x)
    (hi : s.elt < x.lastNs + 300000000000) : sessionIdleExpireEffect id s = s := by
  rw [sessionIdleExpireEffect, hs]
  exact if_neg (by omega)

end Sys2Proof.Machine

open Sys2Proof Sys2Proof.Machine

/-- Settles O13: each row by its cases: an answer that leaves the sessions, a grant, or a close, whose parts touch neither
the configuration nor the commits and release the update lock. -/
theorem sessionsOpenAuthenticateAndClose : Obligations.SessionsOpenAuthenticateAndClose := by
  refine ⟨?opens, ?free, ?badMask, ?full, ?grants, ?fails, ?close, ?ping, ?expires, ?early⟩
  case opens =>
    intro m mask cred tr s h ht hm hn
    have hbox := withOpened_box m mask cred tr s
    have ha := completeAs_answers (withOpened m mask cred tr s) _ m (BitVec.ofNat 32 s.mbx.nextSes)
      (okWith (le 4 s.mbx.nextSes ++ be 48 (openChallenge mask tr s).toNat)) (executes_lt s m _ h.1) rfl
    have heff := sessionOpen_opens (cred := cred) h ht hm hn
    rw [← heff] at ha
    refine ⟨_, openedSession mask cred tr s, (openChallenge mask tr s).toNat, ha.commit rfl rfl rfl,
      (ha.session? _).trans (withOpened_session m mask cred tr s), rfl, rfl, rfl, rfl, rfl,
      ha.answered.of_box (by rw [hbox]) (by rw [hbox]), ?_,
      fun j hj => (ha.session? j).trans (withOpened_session_ne m mask cred tr s hj)⟩
    rintro rfl rfl
    rw [openChallenge_plain, BitVec.toNat_zero]
  case free =>
    intro s hr hl
    simp [State.freeMask, hr, hl]
  case badMask =>
    intro m mask cred tr s h ht hm
    obtain ⟨t, hc, ha⟩ := commit_finish (reply .badParam) h (u := s) rfl rfl rfl rfl
    rw [← sessionOpen_badMask (cred := cred) h ht hm] at hc
    exact ⟨t, hc, ha⟩
  case full =>
    intro m mask cred tr s h ht hm hn
    obtain ⟨t, hc, ha⟩ := commit_finish (reply .noResource) h (u := s) rfl rfl rfl rfl
    rw [← sessionOpen_full (cred := cred) h ht hm hn] at hc
    exact ⟨t, hc, ha⟩
  case grants =>
    intro m x c s h hs hc hg
    obtain ⟨t, ht, ha⟩ := commit_finish (okWith (le 1 (x.requested &&& (c.mask ||| s.freeMask x.transport)).toNat)) h
      (u := s.setSession (s.box m).req.session.toNat
        { x with granted := x.requested &&& (c.mask ||| s.freeMask x.transport) }) rfl rfl rfl rfl
    rw [← sessionAuth_grants h hs hc hg] at ht
    exact ⟨t, _, ht, (ha.session? _).trans (State.setSession_same _ _ _), rfl, rfl, ha.answered⟩
  case fails =>
    intro m x s h hs hf
    obtain ⟨t, ht, ha⟩ := commit_finish (reply .authFailed) h
      (u := s.setSession (s.box m).req.session.toNat { x with granted := x.requested &&& s.freeMask x.transport })
      rfl rfl rfl rfl
    rw [← sessionAuth_fails h hs hf] at ht
    exact ⟨t, _, ht, (ha.session? _).trans (State.setSession_same _ _ _), rfl, ha.answered⟩
  case close =>
    intro m x s h hs hnone hown
    have heff := sessionClose_completes hs (by simpa using hown) h rfl (by simpa using hnone)
    obtain ⟨hcfg, hsched, -⟩ := closeSession_keeps (s.box m).req.session.toNat (some m) s
    have ha := completeAs_answers ((withWaitingClose m (s.box m).req.session.toNat x s).delSession
      (s.box m).req.session.toNat) _ m (BitVec.ofNat 32 (s.box m).req.session.toNat) (reply .ok)
      (executes_lt s m _ h.1) rfl
    rw [← heff] at ha
    have hkeeps := ha.keeps
    simp only [Keeps, Prod.mk.injEq] at hkeeps
    obtain ⟨-, kcfg, ksched⟩ := hkeeps
    have hb : ((withWaitingClose m (s.box m).req.session.toNat x s).delSession (s.box m).req.session.toNat).box m
        = { s.box m with waiting := true } := box_setBox_self _ _ _
    exact ⟨_, rfl, (ha.session? _).trans (session?_delSession _ _), ha.answered.of_box (by rw [hb]) (by rw [hb]),
      kcfg.trans hcfg, ksched.trans hsched⟩
  case ping =>
    intro m x s h hs
    refine reads_ok rfl h ?_
    simp only [hs]
  case expires =>
    intro id x s hs hc hi
    obtain ⟨hcfg, hsched, hlock⟩ := closeSession_keeps id none s
    refine ⟨_, rfl, ?_⟩
    rw [sessionIdleExpire_ends hs hc hi]
    exact ⟨session?_delSession _ id, hlock, hcfg, hsched⟩
  case early =>
    intro id x s hs hi
    show commit s (sessionIdleExpireEffect id s) = .next s
    rw [sessionIdleExpire_early hs hi]
    rfl
end

section
/-! The refutation of O6: a PCIe session whose SESSION_CLOSE still waits for another of its mailboxes outlives a PCIe
reset, since a BRIDLE_WAIT has no abort point and that mailbox stays at work (R27, R47, R53). -/
namespace Sys2Proof.Machine
open Sys2Proof

/-- The sessions after a row are those its effect leaves. -/
theorem session?_of_commit {s u t : State} (h : commit s u = .next t) (id : Nat) : t.session? id = u.session? id := by
  cases h
  rfl

/-- A session opened over PCIe, as OPERATOR. -/
def pcieSession : Session := { transport := .pcie, requested := 0x02#8, granted := 0x02#8 }

/-- A mailbox that executes a command of session 1. -/
def sessionOneRuns (op : Half) : Mailbox :=
  { st := .executing, req := { opcode := op, priv := 1, session := 1 }, owner := 1 }

/-- Session 1 waits in mailbox 1 for the Bridle, and mailbox 0 is about to run its SESSION_CLOSE. -/
def closingWhileWaiting : State :=
  { State.reset with
    mbx := {
      sessions := [(1, pcieSession)], nextSes := 2
      boxes := [(0, sessionOneRuns 0x0003#16), (1, { sessionOneRuns 0x0B03#16 with waiting := true })] }
    brd := { waits := [(1, 60000000000)] } }

/-- The same with the SESSION_CLOSE waiting in mailbox 0 for mailbox 1, whose command is marked for its end. -/
def closeWaits : State :=
  { closingWhileWaiting with
    mbx := { closingWhileWaiting.mbx with
      sessions := [(1, waitingClose 0 pcieSession)]
      boxes := [
        (0, { sessionOneRuns 0x0003#16 with waiting := true }),
        (1, { sessionOneRuns 0x0B03#16 with waiting := true, discard := true, abortReq := true })] } }

/-- SESSION_CLOSE itself leads there. -/
theorem sessionClose_closingWhileWaiting : sessionCloseEffect 0 closingWhileWaiting = closeWaits := by
  decide +kernel

theorem closeWaits_sessions_rise : tfrom 0 closeWaits.mbx.sessions = true := by decide

/-- Neither mailbox stands at an abort point, so the session still waits for mailbox 1 and stays. -/
theorem pcieReset_closeWaits : (pcieResetEffect closeWaits).session? 1 = some (waitingClose 0 pcieSession) := by
  decide +kernel

end Sys2Proof.Machine

open Sys2Proof Sys2Proof.Machine

/-- Refutes O6: in `closeWaits`, where a SESSION_CLOSE waits for a BRIDLE_WAIT of its session, PCIE_RESET leaves that
session, opened over PCIe, in the table. -/
theorem not_referencesAndRootPll : ¬ Obligations.ReferencesAndRootPll := by
  rintro ⟨-, -, -, -, -, hreset, -⟩
  obtain ⟨t, ht, -, -, hclosed⟩ := hreset closeWaits
  have hsession : t.session? 1 = some (waitingClose 0 pcieSession) :=
    (session?_of_commit (u := pcieResetEffect closeWaits) ht 1).trans pcieReset_closeWaits
  exact hclosed closeWaits_sessions_rise 1 _ hsession rfl
end

section
/-! Proofs for the rows of mailbox commands: a row acts only where its mailbox executes its opcode (O27); what every
staging row is, what it leaves alone (O28), and what it answers without a usable transaction (O29). -/
namespace Sys2Proof.Machine
open Sys2Proof

/-! ## Staging rows (R50, R58) -/

/-- A check before any transaction refuses for the privilege or the variant alone (R50). -/
def Early (pre : Req → State → Except Status Unit) : Prop :=
  ∀ q t e, pre q t = .error e → e = .privDenied ∨ e = .variantUnsupported

theorem early_noCheck : Early noCheck := fun _ _ _ h => nomatch h

/-- What a kept or broken requirement can answer. -/
theorem need_error {b : Bool} {e f : Status} (h : need b e = .error f) : f = e := by
  cases b <;> cases h
  rfl

theorem early_variant (b : Req → State → Bool) : Early (fun q t => need (b q t) .variantUnsupported) :=
  fun _ _ _ h => .inr (need_error h)

theorem early_privilege (b : Req → State → Bool) : Early (fun q t => need (b q t) .privDenied) :=
  fun _ _ _ h => .inl (need_error h)

/-- Layer 8's gate refuses for the privilege, then for the variant. -/
theorem protectedGate_error {q : Req} {t : State} {l : Nat} {e : Status} (h : protectedGate q t l = .error e) :
    e = .privDenied ∨ e = .variantUnsupported := by
  unfold protectedGate at h
  split at h
  · cases hs : need (decide (q.cls = some .safety)) .privDenied with
    | ok _ =>
      rw [bind_of_ok hs] at h
      exact .inr (need_error h)
    | error g =>
      rw [bind_of_error hs] at h
      cases h
      exact .inl (need_error hs)
  · cases h

theorem early_layerSet (l : Nat) (r : LayerRegs) : Early (fun q t => do
    protectedGate q t l
    need (opacityOk t r) .variantUnsupported) := by
  intro q t e h
  dsimp only at h
  cases hg : protectedGate q t l with
  | ok _ =>
    rw [bind_of_ok hg] at h
    exact .inr (need_error h)
  | error g =>
    rw [bind_of_error hg] at h
    cases h
    exact protectedGate_error hg

/-- The row i is a staging command of mailbox m and opcode op whose early check refuses for privilege or variant. -/
def StageRow (i : Instr) (m : Nat) (op : Half) (s : State) : Prop :=
  ∃ objs f pre src, exec i s = commit s (stageCmd m op objs s f pre src) ∧ Early pre

section
variable {i : Instr} {m : Nat} {op : Half} {s : State} {src : Option Nat}

theorem StageRow.of_stage {objs : List Nat} {f : Req → State → Cfg → Except Status Cfg}
    {pre : Req → State → Except Status Unit} (he : exec i s = commit s (stage m op objs s f pre src))
    (hp : Early pre) : StageRow i m op s := ⟨objs, _, pre, src, he, hp⟩

theorem StageRow.of_comp {f : Req → State → CompCfg → Except Status CompCfg}
    {pre : Req → State → Except Status Unit} (he : exec i s = commit s (stageComp m op s f pre src))
    (hp : Early pre) : StageRow i m op s := .of_stage he hp

theorem StageRow.of_flow {f : State → FlowCfg → Except Status FlowCfg}
    (he : exec i s = commit s (stageFlow m op s f src)) : StageRow i m op s := by
  refine .of_stage he fun q t e h => ?_
  split at h
  · exact .inr (need_error h)
  · cases h

end

/-! ## Without a usable transaction (R58, R60, R423) -/

/-- A session without a transaction has none to use. -/
theorem useTxn_none {s : State} {q : Req} {x : Session} (hs : s.session? q.session.toNat = some x)
    (he : x.expired = false) (ht : x.txn = none) : s.useTxn q = (.error .cfgNoTxn, s) := by
  unfold State.useTxn
  simp only [hs, he, ht, Bool.false_eq_true, if_false]

/-- After an expiry the report is given, and used up. -/
theorem useTxn_expired {s : State} {q : Req} {x : Session} (hs : s.session? q.session.toNat = some x)
    (he : x.expired = true) :
    s.useTxn q = (.error .cfgTxnExpired, s.setSession q.session.toNat { x with expired := false }) := by
  unfold State.useTxn
  simp only [hs, he, if_true]

/-- What f answers to q on the SHADOW from another session than the mirror session, and without a usable transaction. -/
def LooksForTxn (f : Req → State → Reply × State) (q : Req) (s : State) : Prop :=
  (s.mirrored q = false → f q s = (reply .badState, s))
    ∧ ∀ e t, s.mirrored q = true → s.useTxn q = (.error e, t) → f q s = (reply e, t)

/-- The three answers of a staging row that finds no usable transaction. -/
def NeedsTxn (i : Instr) (m : Nat) (s : State) : Prop :=
  (s.mirrored (s.box m).req = false → ∃ t, exec i s = .next t ∧ Answers m .badState [] s s t)
    ∧ (∀ x, s.mirrored (s.box m).req = true → s.session? (s.box m).req.session.toNat = some x → x.expired = false →
        x.txn = none → ∃ t, exec i s = .next t ∧ Answers m .cfgNoTxn [] s s t)
    ∧ (∀ x, s.mirrored (s.box m).req = true → s.session? (s.box m).req.session.toNat = some x → x.expired = true →
        ∃ t, exec i s = .next t ∧ Answers m .cfgTxnExpired [] s
          (s.setSession (s.box m).req.session.toNat { x with expired := false }) t)

section
variable {i : Instr} {m : Nat} {op : Half} {s : State} (h : Runs m op s)
include h

theorem needsTxn_of_now {f : Req → State → Reply × State} (he : exec i s = commit s (cmdNow m op s f))
    (hf : LooksForTxn f (s.box m).req s) : NeedsTxn i m s := by
  obtain ⟨hmirror, htxn⟩ := hf
  rw [NeedsTxn, he]
  exact ⟨fun hm => now_next s s m op f _ h (hmirror hm) rfl rfl rfl rfl,
    fun x hm hs hx ht => now_next s s m op f _ h (htxn _ _ hm (useTxn_none hs hx ht)) rfl rfl rfl rfl,
    fun x hm hs hx => now_next s _ m op f _ h (htxn _ _ hm (useTxn_expired hs hx)) rfl rfl rfl rfl⟩

/-- A staging row is refused for its privilege or variant, or looks for its transaction. -/
theorem StageRow.answers (hr : StageRow i m op s) :
    Denies i m .privDenied s ∨ Denies i m .variantUnsupported s ∨ NeedsTxn i m s := by
  obtain ⟨objs, f, pre, src, he, hp⟩ := hr
  cases hpre : pre (s.box m).req s with
  | error e =>
    have hd : Denies i m e s := by
      rw [Denies, he]
      have ha := stageCmd_denies s m op objs f pre src e h hpre
      exact ⟨_, ha.commit rfl rfl rfl, ha⟩
    obtain rfl | rfl := hp _ _ _ hpre
    · exact .inl hd
    · exact .inr (.inl hd)
  | ok _ =>
    refine .inr (.inr (needsTxn_of_now h he ⟨fun hm => ?_, fun e t hm hu => ?_⟩))
    · simp [hpre, hm]
    · simp [hpre, hm, hu]

theorem cfgStageChunk_needsTxn (obj off : Nat) (data : List Byte) (hop : op = 0x0105#16) :
    NeedsTxn (.cfgStageChunk m obj off data) m s := by
  subst hop
  refine needsTxn_of_now h rfl ⟨fun hm => ?_, fun e t hm hu => ?_⟩
  · simp [hm]
  · simp [hm, hu]

end

/-! ## What a staging row leaves alone (R58, R59, R61, R421) -/

/-- The state without its mailboxes and sessions, its causes, the event controller and what goes out. -/
def State.beyondMailboxes (s : State) : State := { s with mbx := {}, causes := [], evc := {}, out := [] }

/-- What keeps all of that differs in those four parts at most. -/
theorem eq_of_keeps_beyond {s t : State} (h : Keeps State.beyondMailboxes s t) :
    t = { s with mbx := t.mbx, causes := t.causes, evc := t.evc, out := t.out } :=
  congrArg (fun u : State => { u with mbx := t.mbx, causes := t.causes, evc := t.evc, out := t.out }) h

theorem completeAs_beyond (s : State) (m : Nat) (id : Word) (r : Reply) :
    Keeps State.beyondMailboxes s (s.completeAs m id r) := by
  unfold State.completeAs
  dsimp only
  rw [raiseCause_frame, respond_frame]
  rfl

theorem settleClose_beyond (s : State) : Keeps State.beyondMailboxes s s.settleClose := by
  unfold State.settleClose
  split
  · split
    · exact .ite rfl ((completeAs_beyond _ _ _ _).after rfl)
    · rfl
  · rfl

theorem finish_beyond (s : State) (m : Nat) (r : Reply) : Keeps State.beyondMailboxes s (s.finish m r) :=
  .ite ((settleClose_beyond _).after rfl) (completeAs_beyond _ _ _ _)

/-- A command that answers at once leaves alone what f leaves alone. -/
theorem cmdNow_beyond {m : Nat} {op : Half} {s : State} {f : Req → State → Reply × State}
    (h : Keeps State.beyondMailboxes s (f (s.box m).req s).2) : Keeps State.beyondMailboxes s (cmdNow m op s f) :=
  .ite ((finish_beyond _ m _).after h) rfl

theorem useTxn_beyond (s : State) (q : Req) : Keeps State.beyondMailboxes s (s.useTxn q).2 := by
  unfold State.useTxn
  split
  · rfl
  · split
    · rfl
    · split <;> rfl

theorem stageCmd_beyond (m : Nat) (op : Half) (objs : List Nat) (s : State)
    (f : Req → State → Cfg → Except Status (Cfg × List Byte)) (pre : Req → State → Except Status Unit)
    (src : Option Nat) : Keeps State.beyondMailboxes s (stageCmd m op objs s f pre src) := by
  refine cmdNow_beyond ?_
  have hu := useTxn_beyond s (s.box m).req
  dsimp only
  split
  · rfl
  · split
    · rfl
    · split
      next heq => rw [heq] at hu; exact hu
      next heq =>
        rw [heq] at hu
        split
        · exact hu
        · split
          · exact Keeps.after rfl hu
          · exact hu

theorem cfgStageChunk_beyond (m obj off : Nat) (data : List Byte) (s : State) :
    Keeps State.beyondMailboxes s (cfgStageChunkEffect m obj off data s) := by
  refine cmdNow_beyond ?_
  have hu := useTxn_beyond s (s.box m).req
  dsimp only
  split
  · rfl
  · split
    next heq => rw [heq] at hu; exact hu
    next heq =>
      rw [heq] at hu
      split
      · exact hu
      · split
        · exact Keeps.after rfl hu
        · exact hu

/-- A meaning whose effect leaves it alone, as its row leaves the state. -/
theorem eq_of_commit_beyond {s u t : State} (h : Keeps State.beyondMailboxes s u) (ht : commit s u = .next t) :
    t = { s with mbx := t.mbx, causes := t.causes, evc := t.evc, out := t.out } := by
  have hb := eq_of_keeps_beyond h
  rw [commit, hb, Host.Outcome.next.injEq] at ht
  rw [← ht]

/-! ## Rows act in their own mailbox (R43, R44, R55) -/

/-- The effect u of a row leaves s as it is unless mailbox m executes this opcode in s. -/
def Gated (m : Nat) (op : Half) (s u : State) : Prop := s.executes m op = false → u = s

section
variable {m : Nat} {op : Half} {s u : State}

theorem gated_cmd {f : Req → State → Option Reply × State} : Gated m op s (cmd m op s f) :=
  fun h => if_neg (by simp [h])

theorem gated_cmdNow {f : Req → State → Reply × State} : Gated m op s (cmdNow m op s f) := gated_cmd

theorem gated_cmdRead {f : Req → State → Reply} : Gated m op s (cmdRead m op s f) := gated_cmd

theorem gated_updCmd {f : Req → State → Option Reply × State} : Gated m op s (updCmd m op s f) := gated_cmd

theorem gated_if : Gated m op s (if s.executes m op then u else s) := fun h => if_neg (by simp [h])

theorem gated_unless : Gated m op s (if !s.executes m op then s else u) := fun h => if_pos (by simp [h])

/-- A condition that comes before the gate and leaves the state alone. -/
theorem Gated.unless {c : Prop} [Decidable c] (h : Gated m op s u) : Gated m op s (if c then s else u) := by
  intro hx
  split
  · rfl
  · exact h hx

end

/-! ## Every command row -/

/-- What a row is, by its mailbox and opcode: a staging row, CFG_STAGE_CHUNK, or a command that its mailbox gates; a row
that is no command stages nothing. -/
def RowLaw (i : Instr) : Option (Nat × Half) → Prop
  | none => stagesCmd i = false
  | some (m, op) => (∀ s, StageRow i m op s) ∨ (∃ obj off data, i = .cfgStageChunk m obj off data)
      ∨ stagesCmd i = false ∧ ∀ s, ∃ u, exec i s = commit s u ∧ Gated m op s u

section
variable {i : Instr} {m : Nat} {op : Half}

theorem RowLaw.none (h : stagesCmd i = false) : RowLaw i none := h

theorem RowLaw.stages (h : ∀ s, StageRow i m op s) : RowLaw i (some (m, op)) := .inl h

theorem RowLaw.gates (hi : stagesCmd i = false) (h : ∀ s, ∃ u, exec i s = commit s u ∧ Gated m op s u) :
    RowLaw i (some (m, op)) := .inr (.inr ⟨hi, h⟩)

theorem RowLaw.chunk {obj off : Nat} {data : List Byte} :
    RowLaw (.cfgStageChunk m obj off data) (some (m, op)) := .inr (.inl ⟨_, _, _, rfl⟩)

end

theorem rowLaw_cmdOf (i : Instr) : RowLaw i (cmdOf i) := by
  cases i
  case cfgStageChunk => exact .chunk
  case cfgLoadImage | tackLoad => exact .stages fun s => ⟨_, _, _, _, rfl, early_noCheck⟩
  case flowLoad | flowSet | flowParamSet | flowSettings => exact .stages fun s => .of_flow rfl
  case layerSet => exact .stages fun s => .of_comp rfl (early_layerSet _ _)
  case layerStillLoad => exact .stages fun s => .of_comp rfl (early_privilege _)
  case layerOrder | layerInputSet => exact .stages fun s => .of_comp rfl (early_variant _)
  case canvasSet | layerCoefSet => exact .stages fun s => .of_comp rfl early_noCheck
  case mapLoad | pdkGraphSet | tackFixtureSet =>
    refine .stages fun s => .of_stage rfl fun q t e h => ?_
    split at h
    · exact .inr (need_error h)
    · cases h
  case timeSetPtp | mapSet | mapPatch | ethPortSet | ethFilterSet | ethRingSet | linePortSet | rasterHeadSet
      | rasterTileSet | pairSet => exact .stages fun s => .of_stage rfl (early_variant _)
  case timeSetAlign | timeSetServo | mapModelSet | mapCurveSet | lampBinSet | lampCircuitSet | lampGroupSet | lampCfgSet
      | pdkCoreSet | bridleSet | calSet | testSet => exact .stages fun s => .of_stage rfl early_noCheck
  case sessionOpen | sessionAuth => exact .gates rfl fun s => ⟨_, rfl, gated_unless⟩
  case sessionClose | updActivate | secLcSet => exact .gates rfl fun s => ⟨_, rfl, gated_if⟩
  case layerWrite => exact .gates rfl fun s => ⟨_, rfl, gated_cmd.unless⟩
  case flowDiag | ethTx | lineRdm | lineRdmDiscover | tackParamRead | cutArm | pairSwap | bridleWait | calRun
      | calRestore | checkRun | testRun => exact .gates rfl fun s => ⟨_, rfl, gated_cmd⟩
  case updManifest | updChunk | updInstall | updConfirm | updEnd | updStatus =>
    exact .gates rfl fun s => ⟨_, rfl, gated_updCmd⟩
  case cfgBegin | cfgCommit | cfgAbort | queryTelemetry | timeForceStep | ethRingRestart | ethRxRead | rasterDpEdid
      | lampGroupReset | pdkCancel | cutDisarm | cutFire | feedSet | feedSwap | bridleSensorClear | checkAbort
      | updBegin | secCredSet | secCredDel | secDebugUnlock | secSettingsSet | secKeyRevoke | logClear =>
    exact .gates rfl fun s => ⟨_, rfl, gated_cmdNow⟩
  case sessionPing | cfgStatus | queryConfig | queryStaged | queryResourceMap | queryCounters | timeStatus
      | flowStatus | ethStatus | lineRdmUids | lineStatus | layerStatus | rasterStatus | lampStatus
      | lampGroupStatus | tackStatus | pdkTaskStatus | cutStatus | pairStatus | feedStatus | bridleStatus | calRead
      | testStatus | secStatus | logRead | logFlashRead => exact .gates rfl fun s => ⟨_, rfl, gated_cmdRead⟩
  all_goals exact .none rfl

/-- A staging row is a command. -/
theorem cmdOf_of_stagesCmd {i : Instr} (hi : stagesCmd i = true) : ∃ m op, cmdOf i = some (m, op) := by
  have hrow := rowLaw_cmdOf i
  cases hc : cmdOf i with
  | none =>
    rw [hc, RowLaw, hi] at hrow
    cases hrow
  | some c => exact ⟨_, _, rfl⟩

/-- Every staging row is one, but CFG_STAGE_CHUNK. -/
theorem stageRow_of_stagesCmd {i : Instr} {m : Nat} {op : Half} (s : State) (hi : stagesCmd i = true)
    (hc : cmdOf i = some (m, op)) : StageRow i m op s ∨ ∃ obj off data, i = .cfgStageChunk m obj off data := by
  have hrow := rowLaw_cmdOf i
  rw [hc] at hrow
  obtain hrow | hrow | ⟨hno, -⟩ := hrow
  · exact .inl (hrow s)
  · exact .inr hrow
  · rw [hi] at hno
    cases hno

/-- Every command row of cmdOf has an effect that its mailbox and its opcode gate. -/
theorem exec_gated {i : Instr} {m : Nat} {op : Half} (s : State) (hc : cmdOf i = some (m, op)) :
    ∃ u, exec i s = commit s u ∧ Gated m op s u := by
  have hrow := rowLaw_cmdOf i
  rw [hc] at hrow
  obtain hrow | ⟨obj, off, data, rfl⟩ | ⟨-, hrow⟩ := hrow
  · obtain ⟨objs, f, pre, src, he, -⟩ := hrow s
    exact ⟨_, he, gated_cmdNow⟩
  · cases hc
    exact ⟨_, rfl, gated_cmdNow⟩
  · exact hrow s

end Sys2Proof.Machine

open Sys2Proof Sys2Proof.Machine

/-- Settles O29: a staging row refuses early, or looks for its transaction before anything else; CFG_STAGE_CHUNK has
nothing to refuse early. -/
theorem stagingNeedsAnOpenTransaction : Obligations.StagingNeedsAnOpenTransaction := by
  intro i m op s hi hc h
  obtain hrow | ⟨obj, off, data, rfl⟩ := stageRow_of_stagesCmd s hi hc
  · exact hrow.answers h
  · cases hc
    exact .inr (.inr (cfgStageChunk_needsTxn h obj off data rfl))

/-- Settles O28: a staging row completes its mailbox and touches its session, and neither reaches beyond them. -/
theorem stagingChangesNothingInEffect : Obligations.StagingChangesNothingInEffect := by
  intro i s t hi ht
  obtain ⟨m, op, hc⟩ := cmdOf_of_stagesCmd hi
  obtain ⟨objs, f, pre, src, he, -⟩ | ⟨obj, off, data, rfl⟩ := stageRow_of_stagesCmd s hi hc
  · exact eq_of_commit_beyond (stageCmd_beyond m op objs s f pre src) (he.symm.trans ht)
  · exact eq_of_commit_beyond (cfgStageChunk_beyond m obj off data s) ht

/-- Settles O27: each row's effect is gated by its mailbox and opcode, and a meaning whose effect is its own state stays
there. -/
theorem commandsRunOnlyInTheirMailbox : Obligations.CommandsRunOnlyInTheirMailbox := by
  intro i m op s hc hx
  obtain ⟨u, hu, hg⟩ := exec_gated s hc
  rw [hu, hg hx]
  rfl
end

section
/-! Proofs for the choice of the next request (O11): the fold that chooses keeps the first by tier, then by doorbell. -/
namespace Sys2Proof.Machine
open Sys2Proof

/-- In a table whose numbers rise, a record is found under its number. -/
theorem tfind_of_mem {α : Type} {t : Tab α} {lo : Nat} (h : tfrom lo t = true) {e : Nat × α} (he : e ∈ t) :
    lo ≤ e.1 ∧ tfind? t e.1 = some e.2 := by
  induction t generalizing lo with
  | nil => cases he
  | cons a r ih =>
    obtain ⟨i, w⟩ := a
    simp only [tfrom, Bool.and_eq_true, decide_eq_true_eq] at h
    obtain ⟨hlo, hr⟩ := h
    obtain rfl | hmem := List.mem_cons.mp he
    · exact ⟨hlo, if_pos rfl⟩
    · obtain ⟨hle, hfind⟩ := ih hr hmem
      exact ⟨by omega, by rw [tfind?, if_neg (by omega), hfind]⟩

/-- The request of mailbox a comes no later than that of b: by tier, then by doorbell (R65). -/
def Mailbox.NoLater (a b : Mailbox) : Prop :=
  a.req.tier < b.req.tier ∨ a.req.tier = b.req.tier ∧ a.order ≤ b.order

theorem Mailbox.NoLater.refl (a : Mailbox) : a.NoLater a := .inr ⟨rfl, le_rfl⟩

theorem Mailbox.NoLater.trans {a b c : Mailbox} (h : a.NoLater b) (k : b.NoLater c) : a.NoLater c := by
  unfold NoLater at *
  omega

section
variable {f : Option (Nat × Mailbox) → Nat × Mailbox → Option (Nat × Mailbox)}
  (hnone : ∀ e, f none e = some e)
  (hsome : ∀ x e, f (some x) e = if e.2.req.tier < x.2.req.tier ∨ e.2.req.tier = x.2.req.tier ∧ e.2.order < x.2.order
    then some e else some x)
include hsome

/-- A fold that replaces its choice by an earlier request alone ends with one that none precedes. -/
theorem foldl_chooses (l : List (Nat × Mailbox)) (a : Nat × Mailbox) :
    ∃ b, l.foldl f (some a) = some b ∧ b ∈ a :: l ∧ ∀ e, e ∈ a :: l → b.2.NoLater e.2 := by
  induction l generalizing a with
  | nil => exact ⟨a, rfl, List.mem_cons_self, fun e he => by rw [List.mem_singleton.mp he]; exact .refl _⟩
  | cons c l ih =>
    rw [List.foldl_cons, hsome]
    split
    next hc =>
      obtain ⟨b, hb, hmem, hall⟩ := ih c
      refine ⟨b, hb, List.mem_cons_of_mem a hmem, fun e he => ?_⟩
      obtain rfl | he := List.mem_cons.mp he
      · exact (hall c List.mem_cons_self).trans (by unfold Mailbox.NoLater; omega)
      · exact hall e he
    next hc =>
      obtain ⟨b, hb, hmem, hall⟩ := ih a
      have hba := hall a List.mem_cons_self
      refine ⟨b, hb, (List.mem_cons.mp hmem).elim (fun h => h ▸ List.mem_cons_self)
        (fun h => List.mem_cons_of_mem _ (List.mem_cons_of_mem _ h)), fun e he => ?_⟩
      obtain rfl | he := List.mem_cons.mp he
      · exact hba
      · obtain rfl | he := List.mem_cons.mp he
        · exact hba.trans (by unfold Mailbox.NoLater; omega)
        · exact hall e (List.mem_cons_of_mem a he)

include hnone

theorem foldl_chooses_first {l : List (Nat × Mailbox)} {b : Nat × Mailbox} (h : l.foldl f none = some b) :
    b ∈ l ∧ ∀ e, e ∈ l → b.2.NoLater e.2 := by
  cases l with
  | nil => cases h
  | cons a l =>
    rw [List.foldl_cons, hnone] at h
    obtain ⟨c, hc, hmem, hall⟩ := foldl_chooses hsome l a
    cases hc.symm.trans h
    exact ⟨hmem, hall⟩

end

/-- The mailbox chosen stands in the table, PENDING and served, and no other such mailbox comes before it. -/
theorem nextBox_first {s : State} {m : Nat} (h : s.nextBox = some m) :
    ∃ b, (m, b) ∈ s.mbx.boxes ∧ b.st = .pending ∧ s.served m = true
      ∧ ∀ e, e ∈ s.mbx.boxes → e.2.st = .pending → s.served e.1 = true → b.NoLater e.2 := by
  obtain ⟨⟨i, b⟩, hb, rfl⟩ := Option.map_eq_some_iff.mp h
  obtain ⟨hmem, hall⟩ := foldl_chooses_first (fun _ => rfl) (fun _ _ => rfl) hb
  simp only [List.mem_filter, Bool.and_eq_true, decide_eq_true_eq] at hmem hall
  obtain ⟨hin, hst, hserved⟩ := hmem
  exact ⟨b, hin, hst, hserved, fun e he hpend hsv => hall e ⟨he, hpend, hsv⟩⟩

/-- A mailbox that is not in its reset state stands in the table. -/
theorem mem_boxes_of_pending {s : State} {j : Nat} (h : (s.box j).st = .pending) : (j, s.box j) ∈ s.mbx.boxes := by
  unfold State.box tget at h ⊢
  cases hf : tfind? s.mbx.boxes j with
  | none => rw [hf] at h; cases h
  | some b => exact mem_of_tfind hf

end Sys2Proof.Machine

open Sys2Proof Sys2Proof.Machine

/-- Settles O11: the fold of `nextBox` chooses among the table's PENDING and served mailboxes one that none precedes. -/
theorem mbxTakeServesByTierThenOrder : Obligations.MbxTakeServesByTierThenOrder := by
  refine ⟨fun s m hfrom hnext => ?_, fun _ => rfl⟩
  obtain ⟨b, hmem, hst, hserved, hall⟩ := nextBox_first hnext
  have hbox : s.box m = b := by rw [State.box, tget, (tfind_of_mem hfrom hmem).2]; rfl
  rw [hbox]
  exact ⟨hst, hserved, fun j hj hsv => hall (j, s.box j) (mem_boxes_of_pending hj) hj hsv⟩
end

section
/-! Proofs for the doorbells, what Groom does with the request it takes, and shedding (O10). -/
namespace Sys2Proof.Machine
open Sys2Proof

/-! ## Doorbells (R38, R44, R46, R534) -/

/-- The mailbox that a ring leaves: the request of its window, PENDING (R44). -/
def rungBox (m : Nat) (s : State) : Mailbox :=
  { s.box m with
    req := readReq (s.box m).window, st := .pending, abortRes := 0
    owner := if (s.sessionOn m (readReq (s.box m).window).session.toNat).isSome
      then (readReq (s.box m).window).session.toNat else 0
    order := s.mbx.order, dma := none, abortReq := false, discard := false, waiting := false, waitUntil := 0 }

theorem ringBox_unlocked {m : Nat} {s : State} (h : (s.box m).locked = false) :
    ringBox m s = State.setBox { s with mbx := { s.mbx with order := s.mbx.order + 1 } } m (rungBox m s) :=
  if_neg (by simp [h])

theorem ringBox_locked {m : Nat} {s : State} (h : (s.box m).locked = true) :
    ringBox m s = s.setBox m { s.box m with ringIgnored := (s.box m).ringIgnored + 1 } := if_pos h

section
variable {p : Path} {m : Nat} {s : State} (hm : m < 16) (hp : p ≠ .groom)
include hm hp

theorem mbxRing_own (ho : s.boxPath m = some p) : mbxRingEffect p m s = ringBox m s := by
  have hn : ¬ (16 ≤ m ∨ p = .groom) := by simp [hp, hm]
  rw [mbxRingEffect, if_neg hn, if_pos ho]

theorem mbxRing_foreign (ho : s.boxPath m ≠ some p) : mbxRingEffect p m s = s.accessError p 2 (bellAddr m) := by
  have hn : ¬ (16 ≤ m ∨ p = .groom) := by simp [hp, hm]
  rw [mbxRingEffect, if_neg hn, if_neg ho]

theorem mbxAbort_foreign (r : Bool) (ho : s.boxPath m ≠ some p) :
    mbxAbortEffect p m r s = s.accessError p 2 (bellAddr m) := by
  have hn : ¬ (16 ≤ m ∨ p = .groom) := by simp [hp, hm]
  rw [mbxAbortEffect, if_neg hn, if_neg ho]

theorem mbxAbort_own (ho : s.boxPath m = some p) : mbxAbortEffect p m false s = abortBox m s := by
  have hn : ¬ (16 ≤ m ∨ p = .groom) := by simp [hp, hm]
  rw [mbxAbortEffect, if_neg hn, if_pos ho]
  rfl

/-- A write that sets RING too counts it as ignored and acts as ABORT (R44). -/
theorem mbxAbort_withRing (ho : s.boxPath m = some p) : mbxAbortEffect p m true s
    = abortBox m (s.setBox m { s.box m with ringIgnored := (s.box m).ringIgnored + 1 }) := by
  have hn : ¬ (16 ≤ m ∨ p = .groom) := by simp [hp, hm]
  rw [mbxAbortEffect, if_neg hn, if_pos ho]
  rfl

end

/-! ## ABORT by the state of the mailbox (R47) -/

theorem abortBox_atRest {m : Nat} {s : State} (h : (s.box m).st = .idle ∨ (s.box m).st = .done) :
    abortBox m s = s.setBox m { s.box m with abortRes := 2 } := by
  unfold abortBox
  rcases h with h | h <;> simp only [h]

theorem abortBox_pending {m : Nat} {s : State} (h : (s.box m).st = .pending) :
    abortBox m s = abortWith m (s.failData m) s := by
  unfold abortBox
  simp only [h]

theorem abortBox_noPoint {m : Nat} {s : State} (h : (s.box m).st = .executing) (hmv : (s.box m).moving = false)
    (hp : atAbortPoint m s = none) : abortBox m s = s.setBox m { s.box m with abortReq := true } := by
  unfold abortBox
  simp only [h, hmv, abortHere, hp, Bool.false_eq_true, if_false, Option.map_none, Option.getD_none]

/-- A mailbox that completes without an abort waiting keeps ABORT_RES. -/
theorem completeAs_abortRes (u : State) (m : Nat) (id : Word) (r : Reply) (h : (u.box m).abortReq = false) :
    ((u.completeAs m id r).box m).abortRes = (u.box m).abortRes := by
  unfold State.completeAs
  dsimp only
  rw [box_raiseCause, respond_frame]
  show (State.box (u.setBox m _) m).abortRes = _
  rw [box_setBox_self]
  simp [h]

/-- Answering a mailbox leaves the others. -/
theorem Answers.box_ne {m j : Nat} {st : Status} {d : List Byte} {s u t : State} (h : Answers m st d s u t)
    (hj : j ≠ m) : t.box j = u.box j := by
  obtain ⟨-, -, -, -, -, -, -, -, hothers, -⟩ := h
  exact hothers j hj

/-- An answer to a mailbox whose request and count are those of an earlier state answers that state's request. -/
theorem Answers.of_box {m : Nat} {st : Status} {d : List Byte} {s u v t : State} (h : Answers m st d u v t)
    (hreq : (u.box m).req = (s.box m).req) (hcount : (u.box m).doneCount = (s.box m).doneCount) :
    Answers m st d s v t := by
  obtain ⟨hst, hstatus, hdata, htag, hdone, hrest⟩ := h
  exact ⟨hst, hstatus, hdata, htag.trans (by rw [hreq]), hdone.trans (by rw [hcount]), hrest⟩

/-- The state in which mailbox m is free of its abort, which has been sampled (R47). -/
def withAbortSampled (m : Nat) (s : State) : State := s.setBox m { s.box m with abortReq := false, abortRes := 1 }

theorem box_withAbortSampled (m : Nat) (s : State) :
    (withAbortSampled m s).box m = { s.box m with abortReq := false, abortRes := 1 } := box_setBox_self _ _ _

section
variable {m : Nat} {s : State} (data : List Byte)

theorem abortWith_completes (hd : (s.box m).discard = false) : abortWith m data s
    = (withAbortSampled m s).completeAs m ((withAbortSampled m s).box m).req.session
        { status := .aborted, data := data } := by
  have hdu : ((withAbortSampled m s).box m).discard = false := by rw [box_withAbortSampled]; exact hd
  exact if_neg (ne_true_of_eq_false hdu)

/-- An abort that is sampled completes the mailbox with ABORTED. -/
theorem abortWith_answers (hl : Live m s) :
    Answers m .aborted data s (withAbortSampled m s) (abortWith m data s) := by
  rw [abortWith_completes data hl.2]
  exact (completeAs_answers _ _ m _ _ hl.1 rfl).of_box (by rw [box_withAbortSampled]) (by rw [box_withAbortSampled])

theorem abortWith_abortRes (hd : (s.box m).discard = false) : ((abortWith m data s).box m).abortRes = 1 := by
  rw [abortWith_completes data hd, completeAs_abortRes _ _ _ _ (by rw [box_withAbortSampled]), box_withAbortSampled]

end

/-! ## What Groom takes (R48, R50, R65, R66, R499) -/

theorem mbxTake_takes {s : State} {m : Nat} (hg : DbgCore.groom ∉ s.sec.halted) (hn : s.nextBox = some m) :
    mbxTakeEffect s = takeBox m s := by
  rw [mbxTakeEffect, if_neg hg, hn]

theorem mbxTake_nothing {s : State} (h : s.nextBox = none ∨ DbgCore.groom ∈ s.sec.halted) : mbxTakeEffect s = s := by
  unfold mbxTakeEffect
  split
  · rfl
  next hg => rw [h.resolve_right hg]

/-- The mailbox of a request that repeats the last tag: answered again with the same response (R48). -/
def repeatedBox (b : Mailbox) : Mailbox :=
  { b with st := .done, respLen := BitVec.ofNat 13 (32 + b.resp.data.length), doneCount := b.doneCount + 1 }

theorem takeBox_repeated {m : Nat} {s : State} (h : (s.box m).lastTag = some (s.box m).req.tag) :
    ∃ c e o, takeBox m s = { s.setBox m (repeatedBox (s.box m)) with causes := c, evc := e, out := o } := by
  have heff : takeBox m s = ((s.setBox m (repeatedBox (s.box m))).respond m (s.box m).resp).raiseCause .mbx m := if_pos h
  rw [heff, raiseCause_frame, respond_frame]
  exact ⟨_, _, _, rfl⟩

/-- The mailbox of a request that Groom executes. -/
def takenBox (b : Mailbox) : Mailbox :=
  { b with st := .executing, dma := if b.req.descCount = 0 then none else some {} }

section
variable {m : Nat} {s : State} (hr : (s.box m).lastTag ≠ some (s.box m).req.tag)
include hr

theorem takeBox_shed (hs : s.mbx.shedding = true) (ht : (s.box m).req.tier = 3) : takeBox m s
    = s.takeFree.finish m { status := .mbxBusy, data := le 4 (10 + Config.freeNat s.freeCtr % 991) } := by
  rw [takeBox]
  dsimp only
  rw [if_neg hr, if_pos ⟨hs, ht⟩]

variable (hs : ¬ (s.mbx.shedding = true ∧ (s.box m).req.tier = 3))
include hs

theorem takeBox_bad {e : Status} (he : checkHeader s m (s.box m).req = .error e) :
    takeBox m s = s.finish m { status := e, data := s.failData m } := by
  rw [takeBox]
  dsimp only
  rw [if_neg hr, if_neg hs, he]

/-- A request that passes its checks executes, and its session's idle time restarts. -/
theorem takeBox_good (hc : checkHeader s m (s.box m).req = .ok ()) :
    ∃ x, takeBox m s = { s.setBox m (takenBox (s.box m)) with
      mbx := { (s.setBox m (takenBox (s.box m))).mbx with sessions := x } } := by
  rw [takeBox]
  dsimp only
  rw [if_neg hr, if_neg hs, hc]
  dsimp only
  split
  · split
    · exact ⟨s.mbx.sessions, rfl⟩
    · exact ⟨_, rfl⟩
  · exact ⟨s.mbx.sessions, rfl⟩

end

/-! ## The header (R50) -/

theorem checkHeader_badHeader {s : State} {m : Nat} {q : Req}
    (h : q.hdrVer ≠ 1 ∨ 4 ≤ q.flags.toNat ∨ q.status ≠ 0 ∨ 4064 < q.len.toNat) :
    checkHeader s m q = .error .badHeader := by
  refine bind_of_error (need_not ?_) _
  rcases h with h | h | h | h
  · simp only [decide_eq_false h, Bool.false_and]
  · simp only [decide_eq_false (Nat.not_lt.mpr h), Bool.and_false, Bool.false_and]
  · simp only [decide_eq_false h, Bool.and_false, Bool.false_and]
  · simp only [decide_eq_false (Nat.not_le.mpr h), Bool.and_false, Bool.false_and]

theorem checkHeader_badCheck {s : State} {m : Nat} {q : Req} (hv : q.hdrVer = 1) (hf : q.flags = 1) (hs : q.status = 0)
    (hl : q.len.toNat ≤ 4064) (hd : q.descCount = 0) (hc : q.checkOk = false) :
    checkHeader s m q = .error .badCheck := by
  refine (bind_of_ok (need_of ?_) _).trans (bind_of_error (need_not ?_) _)
  · simp [hv, hf, hs, hl, hd]
  · simp [hf, hc, bitOf]

/-! ## Shedding (R66) -/

/-- An entry below ERROR: it goes to the end of the SRAM log under the next number, and nothing else changes. -/
theorem logEvent_appends (s : State) (sev source : Nat) (code : Half) (d : Nat) (h : sev < 4) :
    ∃ l e, s.logEvent sev source code d = { s with log := l } ∧ l.sram.getLast? = some e
      ∧ e.sev = BitVec.ofNat 8 sev ∧ e.seq = s.log.next ∧ e.code = code ∧ l.next = s.log.next + 1 :=
  ⟨_, _, logEvent_low s sev source code d h, logEvent_last s sev source code d, rfl, rfl, rfl,
    logEvent_next s sev source code d⟩

/-- What a row of the shedding pair leaves where it turns shedding on or off, its windows noted in t (R66). -/
def Turns (on : Bool) (s t u : State) : Prop :=
  u.mbx = { t.mbx with shedding := on } ∧ bitOf (u.cause .glb) 2 = true ∧ u.evc = s.evc.occur 2
    ∧ (∃ e, u.log.sram.getLast? = some e ∧ e.sev = 2 ∧ e.seq = s.log.next) ∧ u.log.next = s.log.next + 1
    ∧ u = { s with mbx := u.mbx, causes := u.causes, evc := u.evc, log := u.log }

theorem turnShedding_turns (on : Bool) {s t : State} (ht : t = { s with mbx := t.mbx }) :
    ∃ u, commit s (turnShedding on t) = .next u ∧ Turns on s t u := by
  let v : State := { t with mbx := { t.mbx with shedding := on } }
  have hbit : bitOf ((v.raiseCause .glb 2).cause .glb) 2 = true := raiseCause_bit v .glb 2 (by omega)
  have hv : v = { s with mbx := v.mbx } := congrArg (fun t : State => { t with mbx := v.mbx }) ht
  have hraise := raiseCause_src v .glb 2 2 rfl
  obtain ⟨l, e, hlog, hlast, hsev, hseq, -, hnext⟩ := logEvent_appends (v.raiseCause .glb 2) 2 2 0 0 (by omega)
  have hsame : (v.raiseCause .glb 2).log = s.log := by rw [hraise, hv]
  rw [hsame] at hseq hnext
  refine ⟨{ v.raiseCause .glb 2 with log := l }, (congrArg (commit s) hlog).trans (commit_same s _ ?_ ?_ ?_),
    mbx_raiseCause v .glb 2, hbit, ?_, ⟨e, hlast, hsev, hseq⟩, hnext, ?_⟩
  all_goals rw [hraise, hv]

/-- Noting windows touches the mailboxes' block alone. -/
theorem noteLoads_frame (ws : List Nat) (s : State) : noteLoads ws s = { s with mbx := (noteLoads ws s).mbx } := rfl

section
variable {ws : List Nat} {w : Nat} {s : State}

theorem sheddingEnter_turns (hl : (noteLoads (ws ++ [w]) s).loadStays (fun l => decide (90 < l)) = true)
    (hs : s.mbx.shedding = false) :
    sheddingEnterEffect ws w s = turnShedding true (noteLoads (ws ++ [w]) s) :=
  if_pos (by rw [hl, Bool.true_and]; exact congrArg not hs)

theorem sheddingLeave_turns (hl : (noteLoads (ws ++ [w]) s).loadStays (fun l => decide (l < 80)) = true)
    (hs : s.mbx.shedding = true) :
    sheddingLeaveEffect ws w s = turnShedding false (noteLoads (ws ++ [w]) s) :=
  if_pos (by rw [hl, Bool.true_and]; exact hs)

theorem sheddingEnter_stays (h : (noteLoads (ws ++ [w]) s).loadStays (fun l => decide (90 < l)) = false
    ∨ s.mbx.shedding = true) : sheddingEnterEffect ws w s = noteLoads (ws ++ [w]) s := by
  refine if_neg (ne_true_of_eq_false ?_)
  rcases h with h | h
  · rw [h, Bool.false_and]
  · rw [show (noteLoads (ws ++ [w]) s).mbx.shedding = true from h, Bool.not_true, Bool.and_false]

theorem sheddingLeave_stays (h : (noteLoads (ws ++ [w]) s).loadStays (fun l => decide (l < 80)) = false
    ∨ s.mbx.shedding = false) : sheddingLeaveEffect ws w s = noteLoads (ws ++ [w]) s := by
  refine if_neg (ne_true_of_eq_false ?_)
  rcases h with h | h
  · rw [h, Bool.false_and]
  · rw [show (noteLoads (ws ++ [w]) s).mbx.shedding = false from h, Bool.and_false]

end

theorem noteLoads_mbx (ws : List Nat) (l : Nat) (s : State) :
    let x := (s.mbx.loads ++ ws ++ [l]).drop ((s.mbx.loads ++ ws ++ [l]).length - 100)
    (noteLoads (ws ++ [l]) s).mbx
      = { s.mbx with loads := x, load := BitVec.ofNat 8 l, peak := BitVec.ofNat 8 (x.foldl max 0) } := by
  have hlast : ((s.mbx.loads ++ ws ++ [l]).drop ((s.mbx.loads ++ ws ++ [l]).length - 100)).getLast? = some l := by
    rw [List.getLast?_drop, if_neg (by simp)]
    simp
  unfold noteLoads
  simp only [← List.append_assoc, hlast, Option.getD_some]

end Sys2Proof.Machine

open Sys2Proof Sys2Proof.Machine

/-- Settles O10: a doorbell by its path and the mailbox's state, a taken request by its tag, its tier and its header,
and the two rows of the shedding pair by whether the load has stayed. -/
theorem mailboxDoorbellsAndTake : Obligations.MailboxDoorbellsAndTake := by
  refine ⟨⟨⟨?ring, ?locked, ?foreign, ?foreignAbort, ?atRest, ?withRing, ?pending, ?noPoint⟩,
    ⟨?repeated, ?shed, ?bad, ?good, ?nothing, fun _ _ _ => checkHeader_badHeader,
      fun _ _ _ => checkHeader_badCheck⟩⟩,
    ?enter, ?leave, fun _ _ s h => congrArg (commit s) (sheddingEnter_stays h),
    fun _ _ s h => congrArg (commit s) (sheddingLeave_stays h), fun ws l s => ⟨_, noteLoads_mbx ws l s, rfl⟩⟩
  case ring =>
    intro p m s hm hp ho hl
    refine ⟨State.setBox { s with mbx := { s.mbx with order := s.mbx.order + 1 } } m (rungBox m s), ?_, ?_⟩
    · show commit s (mbxRingEffect p m s) = _
      rw [mbxRing_own hm hp ho, ringBox_unlocked hl]
      rfl
    · rw [box_setBox_self]
      exact ⟨rfl, rfl, rfl, rfl, rfl, rfl, fun j hj => box_setBox_ne _ _ _ _ hj, rfl⟩
  case locked =>
    intro p m s hm hp ho hl
    show commit s (mbxRingEffect p m s) = _
    rw [mbxRing_own hm hp ho, ringBox_locked hl]
    rfl
  case foreign =>
    intro p m s hm hp ho ha
    refine ⟨s.accessError p 2 (bellAddr m), ?_, ?_, accessError_frame s p 2 _⟩
    show commit s (mbxRingEffect p m s) = _
    rw [mbxRing_foreign hm hp ho]
    · exact commit_same s _ rfl rfl rfl
    · rw [accessError_first s p 2 _ ha, bellAddr]
  case foreignAbort =>
    intro p m r s hm hp ho ha
    refine ⟨s.accessError p 2 (bellAddr m), ?_, by rw [accessError_first s p 2 _ ha], rfl⟩
    show commit s (mbxAbortEffect p m r s) = _
    rw [mbxAbort_foreign hm hp r ho]
    exact commit_same s _ rfl rfl rfl
  case atRest =>
    intro p m s hm hp ho hst
    show commit s (mbxAbortEffect p m false s) = _
    rw [mbxAbort_own hm hp ho, abortBox_atRest hst]
    rfl
  case withRing =>
    intro p m s hm hp ho hst
    let u := s.setBox m { s.box m with ringIgnored := (s.box m).ringIgnored + 1 }
    have hbox : u.box m = { s.box m with ringIgnored := (s.box m).ringIgnored + 1 } := box_setBox_self _ _ _
    refine ⟨u.setBox m { u.box m with abortRes := 2 }, ?_, ?_⟩
    · show commit s (mbxAbortEffect p m true s) = _
      rw [mbxAbort_withRing hm hp ho, abortBox_atRest (by rw [hbox]; exact hst)]
      rfl
    · rw [box_setBox_self, hbox]
      exact ⟨rfl, rfl, rfl⟩
  case pending =>
    intro p m s hl hp ho hst
    have ha := abortWith_answers (s.failData m) hl
    refine ⟨abortWith m (s.failData m) s, ?_, ha.answered, abortWith_abortRes _ hl.2, fun j hj => ?_⟩
    · show commit s (mbxAbortEffect p m false s) = _
      rw [mbxAbort_own hl.1 hp ho, abortBox_pending hst]
      exact ha.commit rfl rfl rfl
    · exact (ha.box_ne hj).trans (box_setBox_ne _ _ _ _ hj)
  case noPoint =>
    intro p m s hm hp ho hst hmv hap
    show commit s (mbxAbortEffect p m false s) = _
    rw [mbxAbort_own hm hp ho, abortBox_noPoint hst hmv hap]
    rfl
  case repeated =>
    intro s m hg hn _ htag
    obtain ⟨c, e, o, heff⟩ := takeBox_repeated htag
    have hbox := box_setBox_self s m (repeatedBox (s.box m))
    exact ⟨_, congrArg (commit s) ((mbxTake_takes hg hn).trans heff), congrArg (·.st) hbox, congrArg (·.resp) hbox,
      congrArg (·.doneCount) hbox, rfl⟩
  case shed =>
    intro s m hg hn hl hr hs ht
    have heff := (mbxTake_takes hg hn).trans (takeBox_shed hr hs ht)
    have ha := finish_answers s s.takeFree m
      { status := .mbxBusy, data := le 4 (10 + Config.freeNat s.freeCtr % 991) } hl.1 rfl hl.2
    rw [← heff] at ha
    exact ⟨_, 10 + Config.freeNat s.freeCtr % 991, ha.commit rfl rfl rfl, by omega, by omega, ha⟩
  case bad =>
    intro s m e hg hn hl hr hs he
    have heff := (mbxTake_takes hg hn).trans (takeBox_bad hr hs he)
    have ha := finish_answers s s m { status := e, data := s.failData m } hl.1 rfl hl.2
    rw [← heff] at ha
    exact ⟨_, ha.commit rfl rfl rfl, ha⟩
  case good =>
    intro s m hg hn hl hr hs hc
    obtain ⟨x, heff⟩ := takeBox_good hr hs hc
    have hbox := box_setBox_self s m (takenBox (s.box m))
    refine ⟨_, congrArg (commit s) ((mbxTake_takes hg hn).trans heff), congrArg (·.st) hbox, congrArg (·.req) hbox,
      congrArg (·.dma) hbox, fun j hj => box_setBox_ne s m j _ hj, rfl⟩
  case nothing =>
    intro s h
    show commit s (mbxTakeEffect s) = _
    rw [mbxTake_nothing h]
    rfl
  case enter =>
    intro ws w s hl hs
    show ∃ t, commit s (sheddingEnterEffect ws w s) = _ ∧ _
    rw [sheddingEnter_turns hl hs]
    exact turnShedding_turns true (noteLoads_frame _ s)
  case leave =>
    intro ws w s hl hs
    show ∃ t, commit s (sheddingLeaveEffect ws w s) = _ ∧ _
    rw [sheddingLeave_turns hl hs]
    exact turnShedding_turns false (noteLoads_frame _ s)
end

section
/-! Proofs for the transactions (O14): what opening, aborting, staging bytes and expiring leave. -/
namespace Sys2Proof.Machine
open Sys2Proof

/-! ## Rows that answer at once -/

/-- A row that answers at once answers what its function gives, where that keeps mailbox m, the queue and the identity. -/
theorem answers_of_now {i : Instr} {s u : State} {m : Nat} {op : Half} {f : Req → State → Reply × State} {r : Reply}
    (he : exec i s = commit s (cmdNow m op s f)) (h : Runs m op s) (hf : f (s.box m).req s = (r, u))
    (hb : u.box m = s.box m) (hp : u.pending = s.pending) (hv : u.variant = s.variant) (hg : u.glb = s.glb) :
    ∃ t, exec i s = .next t ∧ Answers m r.status r.data s u t := by
  rw [he]
  exact now_next s u m op f r h hf hb hp hv (by rw [hg])

/-! ## CFG_BEGIN and CFG_ABORT (R57, R58, R60, R62) -/

section
variable {m : Nat} {x : Session} {s : State} (hm : s.mirrored (s.box m).req = true)
  (hs : s.session? (s.box m).req.session.toNat = some x)
include hm hs

theorem cfgBegin_opens (h : Runs m 0x0101#16 s) (he : x.expired = false) (ht : x.txn = none) :
    ∃ t, exec (.cfgBegin m) s = .next t
      ∧ Answers m .ok (le 4 s.mbx.nextTxn ++ le 4 s.newestGen) s
          ({ s with mbx := { s.mbx with nextTxn := s.mbx.nextTxn + 1 } }.setSession (s.box m).req.session.toNat
            { x with committed := false, txn := some { id := s.mbx.nextTxn, base := s.newestGen, cfg := s.newestCfg
                                                       lastNs := s.elt } }) t := by
  refine answers_of_now (r := okWith _) rfl h ?_ rfl rfl rfl rfl
  simp only [hs, hm, he, ht, Bool.not_true, Bool.false_eq_true, if_false, Option.isSome_none]

theorem cfgBegin_open {tx : Txn} (h : Runs m 0x0101#16 s) (he : x.expired = false) (ht : x.txn = some tx) :
    ∃ t, exec (.cfgBegin m) s = .next t ∧ Answers m .cfgTxnOpen [] s s t := by
  refine answers_of_now (r := reply _) rfl h ?_ rfl rfl rfl rfl
  simp only [hs, hm, he, ht, Bool.not_true, Bool.false_eq_true, if_false, Option.isSome_some, if_true]

theorem cfgBegin_expired (h : Runs m 0x0101#16 s) (he : x.expired = true) :
    ∃ t, exec (.cfgBegin m) s = .next t ∧ Answers m .cfgTxnExpired [] s
      (s.setSession (s.box m).req.session.toNat { x with expired := false }) t := by
  refine answers_of_now (r := reply _) rfl h ?_ rfl rfl rfl rfl
  simp only [hs, hm, he, Bool.not_true, Bool.false_eq_true, if_false, if_true]

theorem cfgAbort_discards {tx : Txn} (h : Runs m 0x0103#16 s) (he : x.expired = false) (ht : x.txn = some tx)
    (hc : s.committing (s.box m).req.session.toNat m = []) :
    ∃ t, exec (.cfgAbort m) s = .next t
      ∧ Answers m .ok [] s (s.setSession (s.box m).req.session.toNat { x with txn := none }) t := by
  refine answers_of_now (r := reply _) rfl h ?_ rfl rfl rfl rfl
  simp only [hs, hm, he, ht, hc, dropTxn, Bool.not_true, Bool.false_eq_true, if_false, Option.isNone_some,
    List.foldl_nil]

theorem cfgAbort_nothing (h : Runs m 0x0103#16 s) (he : x.expired = false) (ht : x.txn = none) :
    ∃ t, exec (.cfgAbort m) s = .next t
      ∧ Answers m (if x.committed then .alreadyCommitted else .cfgNoTxn) [] s s t := by
  refine answers_of_now (r := reply (if x.committed then .alreadyCommitted else .cfgNoTxn)) rfl h ?_ rfl rfl rfl rfl
  simp only [hs, hm, he, ht, Bool.not_true, Bool.false_eq_true, if_false, if_true, Option.isNone_none]

end

theorem cfgBegin_noSession {m : Nat} {s : State} (h : Runs m 0x0101#16 s)
    (hs : s.session? (s.box m).req.session.toNat = none) :
    ∃ t, exec (.cfgBegin m) s = .next t ∧ Answers m .noSession [] s s t := by
  refine answers_of_now (r := reply _) rfl h ?_ rfl rfl rfl rfl
  simp only [hs]

/-! ## CFG_STAGE_CHUNK (R57, R59) -/

/-- The limit of R59, as a number. -/
theorem mayHold_iff (s : State) (tx : Txn) (n : Nat) :
    s.mayHold tx n = true ↔ s.stagedBytes - tx.bytes + n ≤ 1073741824 := decide_eq_true_iff

/-- The staging objects of a transaction with bytes put into one of them. -/
def chunkObjs (tx : Txn) (obj off : Nat) (data : List Byte) : Tab StageObj :=
  tset tx.objs obj ((tget tx.objs obj {}).put off data)

/-- The transaction that holds them. -/
def chunkTxn (s : State) (tx : Txn) (obj off : Nat) (data : List Byte) : Txn :=
  { tx with objs := chunkObjs tx obj off data, bytes := heldBytes tx.cfg tx.changed (chunkObjs tx obj off data)
            lastNs := s.elt }

section
variable {m obj off : Nat} {data : List Byte} {x : Session} {tx : Txn} {s : State} (h : Runs m 0x0105#16 s)
  (hs : MayStage s m x tx) (hl : data.length ≤ 4000)
include h hs hl

theorem cfgStageChunk_stages
    (hr : s.mayHold tx (heldBytes tx.cfg tx.changed (chunkObjs tx obj off data)) = true) :
    ∃ t, exec (.cfgStageChunk m obj off data) s = .next t
      ∧ Answers m .ok (le 4 data.length) s
          (s.setSession (s.box m).req.session.toNat { x with txn := some (chunkTxn s tx obj off data) }) t := by
  have hu := useTxn_ok s m x tx hs
  have hr' : s.mayHold { tx with lastNs := s.elt }
    (heldBytes tx.cfg tx.changed (tset tx.objs obj ((tget tx.objs obj {}).put off data))) = true := hr
  refine answers_of_now (r := okWith _) rfl h ?_ rfl rfl rfl rfl
  simp only [hs.1, hu, hr', Nat.not_lt.mpr hl, Bool.not_true, Bool.false_eq_true, if_false, if_true, setSession_twice]
  rfl

theorem cfgStageChunk_tooLarge
    (hr : s.mayHold tx (heldBytes tx.cfg tx.changed (chunkObjs tx obj off data)) = false) :
    Refuses (.cfgStageChunk m obj off data) m .cfgTooLarge x tx s := by
  have hu := useTxn_ok s m x tx hs
  have hr' : s.mayHold { tx with lastNs := s.elt }
    (heldBytes tx.cfg tx.changed (tset tx.objs obj ((tget tx.objs obj {}).put off data))) = false := hr
  refine answers_of_now (r := reply _) rfl h ?_ rfl rfl rfl rfl
  simp only [hs.1, hu, hr', Nat.not_lt.mpr hl, Bool.not_true, Bool.false_eq_true, if_false]

end

/-! ## CFG_TXN_EXPIRE (R60) -/

section
variable {id : Nat} {x : Session} {tx : Txn} {s : State} (hs : s.session? id = some x) (ht : x.txn = some tx)
include hs ht

theorem cfgTxnExpire_old (ho : tx.lastNs + 600000000000 ≤ s.elt) : cfgTxnExpireEffect id s
    = (s.setSession id { x with txn := none, expired := true, expiredNs := tx.lastNs, expiredBase := tx.base }).logEvent
        3 255 Status.cfgTxnExpired.code id := by
  rw [cfgTxnExpireEffect, hs]
  dsimp only
  rw [ht]
  exact if_pos ho

theorem cfgTxnExpire_young (hy : s.elt < tx.lastNs + 600000000000) : cfgTxnExpireEffect id s = s := by
  rw [cfgTxnExpireEffect, hs]
  dsimp only
  rw [ht]
  exact if_neg (by omega)

end

end Sys2Proof.Machine

open Sys2Proof Sys2Proof.Machine

/-- Settles O14: each row by what its function gives: a session put in place, a staging object written, or a status. -/
theorem transactionsOpenStageAndEnd : Obligations.TransactionsOpenStageAndEnd := by
  refine ⟨fun m x s h hm hs he ht => cfgBegin_opens hm hs h he ht, fun m x tx s h hm hs he ht => cfgBegin_open hm hs h he ht,
    fun m s h hs => cfgBegin_noSession h hs, fun m x s h hm hs he => cfgBegin_expired hm hs h he,
    fun m x tx s h hm hs he ht hc => cfgAbort_discards hm hs h he ht hc,
    fun m x s h hm hs he ht => cfgAbort_nothing hm hs h he ht, ?chunk,
    fun m obj off data x tx s h hs hl hr => cfgStageChunk_tooLarge h hs hl hr, mayHold_iff, ?expires, ?young, ?clear⟩
  case chunk =>
    intro m obj off data x tx s h hs hl hr
    obtain ⟨t, ht, ha⟩ := cfgStageChunk_stages h hs hl hr
    have hput : tget (chunkObjs tx obj off data) obj {} = (tget tx.objs obj {}).put off data := tget_tset_self _ _ _ _
    refine ⟨t, _, _, ht, ha.answered, (ha.session? _).trans (State.setSession_same _ _ _), rfl, fun i hi => ?_,
      fun a hout => ?_, fun o ho => tget_tset_ne _ _ _ _ _ ho, rfl, ?_⟩
    · show mget (tget (chunkObjs tx obj off data) obj {}).data (off + i) = _
      rw [hput]
      exact mget_mwrite _ _ _ _ hi
    · show mget (tget (chunkObjs tx obj off data) obj {}).data a = _
      rw [hput]
      exact hout.elim (mget_mwrite_below _ _ _ _) (mget_mwrite_above _ _ _ _)
    · have hk := ha.keeps
      simp only [Keeps, Prod.mk.injEq] at hk
      obtain ⟨-, hcfg, -⟩ := hk
      exact hcfg
  case expires =>
    intro id x tx s hs ht ho
    obtain ⟨l, e, heff, hlast, hsev, hseq, hcode, -⟩ := logEvent_appends (s.setSession id
      { x with txn := none, expired := true, expiredNs := tx.lastNs, expiredBase := tx.base }) 3 255
      Status.cfgTxnExpired.code id (by omega)
    exact ⟨_, e, congrArg (commit s) ((cfgTxnExpire_old hs ht ho).trans heff), State.setSession_same _ _ _, hlast, hsev,
      hseq, hcode, rfl⟩
  case young =>
    intro id x tx s hs ht hy
    exact congrArg (commit s) (cfgTxnExpire_young hs ht hy)
  case clear =>
    intro m s h
    exact answers_of_now (r := reply _) rfl h rfl rfl rfl rfl rfl
end

section
/-! Proofs for the commits (O15): the checks of CFG_COMMIT in the order of R61, the frame of a commit, and an image staged
whole. -/
namespace Sys2Proof.Machine
open Sys2Proof

/-! ## The frame of a commit (R95, R96) -/

/-- The first frame whose latch a commit meets is later than the one in which it completes. -/
theorem lt_firstFrame (p : Nat → Bool) (n : Nat) :
    n < (((List.range 64).map (· + n + 1)).find? p).getD (n + 65) := by
  cases hf : ((List.range 64).map (· + n + 1)).find? p with
  | none => simp
  | some M =>
    obtain ⟨i, -, rfl⟩ := List.mem_map.mp (List.mem_of_find?_eq_some hf)
    simp only [Option.getD_some]
    omega

theorem effectiveFrame_later (t : State) (c : Cfg) (tc : Nat) : t.cfg.ym.frameAt tc < effectiveFrame t c tc := by
  have h := lt_firstFrame (meetsLatch t tc (domainsToWake t c).length) (t.cfg.ym.frameAt tc)
  unfold effectiveFrame
  dsimp only
  split
  · exact lt_max_of_lt_left h
  · exact h

theorem effectiveFrame_inOrder (t : State) (c : Cfg) (tc : Nat) {x : Sched} (hx : t.sched.getLast? = some x) :
    x.frame ≤ effectiveFrame t c tc := by
  unfold effectiveFrame
  dsimp only
  rw [hx]
  exact le_max_right _ _

/-! ## The response's flags (R51) -/

/-- COMMIT_PENDING of a response is what the reply says. -/
theorem mkResp_pending (q : Req) (n : Nat) (id : Word) (r : Reply) : bitOf (mkResp q n id r).flags 2 = r.pending := by
  unfold mkResp
  cases bitOf q.flags 0 <;> cases r.pending <;> simp [bitOf]

theorem completeAs_resp (u : State) (m : Nat) (id : Word) (r : Reply) :
    ∃ n, ((u.completeAs m id r).box m).resp = mkResp (u.box m).req n id r := by
  unfold State.completeAs
  dsimp only
  rw [box_raiseCause, respond_frame]
  exact ⟨_, congrArg (·.resp) (box_setBox_self u m _)⟩

/-- What a row that answers at once leaves of the flag, beside its answer. -/
theorem answers_of_now_flagged {i : Instr} {s u : State} {m : Nat} {op : Half} {f : Req → State → Reply × State}
    {r : Reply} (he : exec i s = commit s (cmdNow m op s f)) (h : Runs m op s) (hf : f (s.box m).req s = (r, u))
    (hb : u.box m = s.box m) (hp : u.pending = s.pending) (hv : u.variant = s.variant) (hg : u.glb = s.glb) :
    ∃ t, exec i s = .next t ∧ Answers m r.status r.data s u t ∧ bitOf (t.box m).resp.flags 2 = r.pending := by
  have ha := cmdNow_answers s u m op f r h hf hb
  obtain ⟨hx, hd⟩ := h
  have hfin : cmdNow m op s f = u.completeAs m (u.box m).req.session r := by
    unfold cmdNow cmd State.finish
    simp only [hx, hf, hb, hd, if_true, Bool.false_eq_true, if_false]
  refine ⟨cmdNow m op s f, he.trans (ha.commit hp hv (by rw [hg])), ha, ?_⟩
  obtain ⟨n, hn⟩ := completeAs_resp u m (u.box m).req.session r
  rw [hfin, hn, mkResp_pending]

/-! ## CFG_COMMIT (R61, R98) -/

/-- The state after a commit is handed over: scheduled for frame M, its transaction closed. -/
def scheduled (s : State) (m : Nat) (x : Session) (tx : Txn) (M : Nat) (late : Bool) (p : Pdk) : State :=
  { s.setSession (s.box m).req.session.toNat { x with txn := none, committed := true } with
    sched := s.sched ++ [{ frame := M, gen := s.newestGen + 1, cfg := tx.cfg, changed := tx.changed }]
    ym := { s.ym with pendFlag := late }, pdk := p }

theorem dropPrimed_frame (g : Graph) (s : State) : dropPrimed g s = { s with pdk := (dropPrimed g s).pdk } := by
  unfold dropPrimed
  split <;> rfl

/-- The payload of a commit scheduled for frame M. -/
def commitDone (s : State) (c : Cfg) (M : Nat) : List Byte :=
  le 4 (fnOf M).toNat ++ le 4 (s.newestGen + 1) ++ le 24 0 ++ be 48 (s.configHash c).toNat

/-- What the answer of a scheduled commit leaves: its entry, the flag, and the configuration in effect. -/
theorem scheduled_kept {m : Nat} {x : Session} {tx : Txn} {M : Nat} {late : Bool} {p : Pdk} {d : List Byte} {s t : State}
    (h : Answers m .ok d s (scheduled s m x tx M late p) t) :
    t.sched = s.sched ++ [{ frame := M, gen := s.newestGen + 1, cfg := tx.cfg, changed := tx.changed }]
      ∧ t.ym.pendFlag = late ∧ t.cfg = s.cfg ∧ t.gen = s.gen := by
  obtain ⟨-, -, -, -, -, -, -, ht, -⟩ := h
  rw [ht]
  exact ⟨rfl, rfl, rfl, rfl⟩

section
variable {m : Nat} {peer : PeerCommit} {x : Session} {tx : Txn} {s : State}

/-- Step 7 of R61, from a transaction whose idle time has just restarted. -/
theorem handOver_schedules (tc M : Nat) : ∃ p,
    handOver (s.setSession (s.box m).req.session.toNat { x with txn := some { tx with lastNs := s.elt } })
        (s.box m).req.session.toNat x { tx with lastNs := s.elt } tc M
      = ({ status := .ok, pending := decide (s.cfg.ym.frameAt tc + 1 < M), data := commitDone s tx.cfg M },
          scheduled s m x tx M (decide (s.cfg.ym.frameAt tc + 1 < M)) p) := by
  unfold handOver
  dsimp only
  rw [dropPrimed_frame]
  generalize (dropPrimed _ _).pdk = p
  refine ⟨p, Prod.ext rfl ?_⟩
  exact congrArg (fun u : State => ({ u with
      sched := s.sched ++ [{ frame := M, gen := s.newestGen + 1, cfg := tx.cfg, changed := tx.changed }]
      ym := { s.ym with pendFlag := decide (s.cfg.ym.frameAt tc + 1 < M) }, pdk := p } : State))
    (setSession_twice s _ { x with txn := some { tx with lastNs := s.elt } } _)

variable (h : Runs m 0x0102#16 s) (hs : MayStage s m x tx)
include h hs

theorem cfgCommit_bridle (hl : 3 ≤ s.brd.level) : ∃ t, exec (.cfgCommit m peer) s = .next t
    ∧ Answers m .bridleLevel (commitFailed tx.base) s
        (s.setSession (s.box m).req.session.toNat { x with txn := some { tx with lastNs := s.elt } }) t := by
  have hu := useTxn_ok s m x tx hs
  have hbase : s.baseOf (s.box m).req.session.toNat = tx.base := by
    unfold State.baseOf
    obtain ⟨-, hx, -, htx⟩ := hs
    simp only [hx, htx]
  refine answers_of_now (r := { status := .bridleLevel, data := commitFailed tx.base }) rfl h ?_ rfl rfl rfl rfl
  simp only [hl, hu, hbase, if_true]

variable (hl : s.brd.level < 3)
include hl

theorem cfgCommit_stale (hb : tx.base ≠ s.newestGen) : ∃ t, exec (.cfgCommit m peer) s = .next t
    ∧ Answers m .cfgStaleBase (commitFailed tx.base) s
        (s.setSession (s.box m).req.session.toNat { x with txn := some { tx with lastNs := s.elt } }) t := by
  have hu := useTxn_ok s m x tx hs
  refine answers_of_now (r := { status := .cfgStaleBase, data := commitFailed tx.base }) rfl h ?_ rfl rfl rfl rfl
  simp only [Nat.not_le.mpr hl, hs.1, hu, hb, Bool.not_true, Bool.false_eq_true, if_false, if_true, ne_eq,
    not_false_eq_true]

variable (hb : tx.base = s.newestGen)
include hb

theorem cfgCommit_full (hn : 2 ≤ s.sched.length) : ∃ t, exec (.cfgCommit m peer) s = .next t
    ∧ Answers m .noResource (commitFailed tx.base) s
        (s.setSession (s.box m).req.session.toNat { x with txn := some { tx with lastNs := s.elt } }) t := by
  have hu := useTxn_ok s m x tx hs
  refine answers_of_now (r := { status := .noResource, data := commitFailed tx.base }) rfl h ?_ rfl rfl rfl rfl
  simp only [Nat.not_le.mpr hl, hs.1, hu, hb, hn, Bool.not_true, Bool.false_eq_true, if_false, if_true, ne_eq,
    not_true_eq_false]

variable (hn : s.sched.length < 2) (hr : commitRules s tx.cfg = .ok ())
include hn hr

theorem cfgCommit_mismatch (hp : s.paired = true) (hh : s.configHash tx.cfg ≠ peer.hash) :
    ∃ t, exec (.cfgCommit m peer) s = .next t ∧ Answers m .cfgHashMismatch (commitFailed tx.base) s
        (s.setSession (s.box m).req.session.toNat { x with txn := some { tx with lastNs := s.elt } }) t := by
  have hu := useTxn_ok s m x tx hs
  refine answers_of_now (r := { status := .cfgHashMismatch, data := commitFailed tx.base }) rfl h ?_ rfl rfl rfl rfl
  simp only [Nat.not_le.mpr hl, hs.1, hu, hb, Nat.not_le.mpr hn, hr, hp, hh, Bool.not_true, Bool.false_eq_true, if_false,
    if_true, ne_eq, not_true_eq_false, not_false_eq_true, and_self]

theorem cfgCommit_schedules (hp : ¬ (s.paired = true ∧ s.configHash tx.cfg ≠ peer.hash))
    (hf : refusal s tx.cfg peer = none) : let M := commitFrame s tx.cfg peer
    let late := decide (s.cfg.ym.frameAt (if s.paired then max s.elt peer.doneNs else s.elt) + 1 < M)
    ∃ p t, exec (.cfgCommit m peer) s = .next t ∧ Answers m .ok (commitDone s tx.cfg M) s (scheduled s m x tx M late p) t
      ∧ bitOf (t.box m).resp.flags 2 = late := by
  intro M late
  have hu := useTxn_ok s m x tx hs
  obtain ⟨p, hp'⟩ := handOver_schedules (m := m) (x := x) (tx := tx) (s := s)
    (if s.paired then max s.elt peer.doneNs else s.elt) M
  refine ⟨p, answers_of_now_flagged (r := { status := .ok, pending := late, data := commitDone s tx.cfg M })
    rfl h ?_ rfl rfl rfl rfl⟩
  simp only [Nat.not_le.mpr hl, hs.1, hu, not_ne_iff.mpr hb, Nat.not_le.mpr hn, hr, hp, hf, Bool.not_true,
    Bool.false_eq_true, if_false]
  exact hp'

end

/-! ## CFG_LOAD_IMAGE (R64) -/

/-- What CFG_LOAD_IMAGE stages: the configuration the image's sections give, and their number. -/
def loadImage (m len obj : Nat) (q : Req) (t : State) (c : Cfg) : Except Status (Cfg × List Byte) := do
  let bs := (t.bulk m obj).getD []
  checkContainer bs t.vcode len
  let c' ← stageImage t q.session.toNat bs (match t.session? q.session.toNat with | some k => bitOf k.granted 3 | none => false) c
  pure (c', le 4 ((readDir bs).filter DirEntry.known).length)

theorem exec_cfgLoadImage (m len obj : Nat) (s : State) : exec (.cfgLoadImage m len obj) s =
    commit s (stageCmd m 0x0104#16 (((s.bulk m obj).map imageObjects).getD []) s (loadImage m len obj) noCheck (some obj)) :=
  rfl

section
variable {m len obj : Nat} {bs : List Byte} {k : Session} {tx : Txn} {s : State} (h : Runs m 0x0104#16 s)
  (hs : MayStage s m k tx) (hb : s.bulk m obj = some bs)
include h hs hb

theorem cfgLoadImage_stages {c : Cfg} (hc : checkContainer bs s.vcode len = .ok ())
    (hi : stageImage s (s.box m).req.session.toNat bs (bitOf k.granted 3) tx.cfg = .ok c) :
    Stages (.cfgLoadImage m len obj) m (imageObjects bs) c (le 4 ((readDir bs).filter DirEntry.known).length) k tx s
      (some obj) := by
  intro hroom
  obtain ⟨-, hk, -, -⟩ := id hs
  have hload : loadImage m len obj (s.box m).req s tx.cfg
      = .ok (c, le 4 ((readDir bs).filter DirEntry.known).length) := by
    simp only [loadImage, hb, hk, Option.getD_some, bind_of_ok hc, hi]
    rfl
  have ha := stageCmd_stages s m 0x0104#16 (imageObjects bs) k tx _ noCheck (some obj) c _ h hs rfl hroom hload
  rw [exec_cfgLoadImage, hb]
  exact ⟨_, ha.commit rfl rfl rfl, ha⟩

theorem cfgLoadImage_refuses {e : Status} (hc : checkContainer bs s.vcode len = .error e) :
    Refuses (.cfgLoadImage m len obj) m e k tx s := by
  have hload : loadImage m len obj (s.box m).req s tx.cfg = .error e := by
    simp only [loadImage, hb, Option.getD_some, bind_of_error hc]
  have ha := stageCmd_refuses s m 0x0104#16 (imageObjects bs) k tx _ noCheck (some obj) e h hs rfl hload
  rw [Refuses, exec_cfgLoadImage, hb]
  exact ⟨_, ha.commit rfl rfl rfl, ha⟩

end

end Sys2Proof.Machine

open Sys2Proof Sys2Proof.Machine

/-- Settles O15: each check of CFG_COMMIT in its order, the handing over at the frame of the commit, and an image staged
whole. -/
theorem commitsAreScheduledOrRefused : Obligations.CommitsAreScheduledOrRefused := by
  unfold Obligations.CommitsAreScheduledOrRefused
  refine ⟨?_, ?_, ?_, ?_, ?_, ?_, ?_, ?_⟩
  · intro m peer x tx s h hs hl hb hn hr hp ha
    have hM : commitFrame s tx.cfg peer = effectiveFrame s tx.cfg s.elt := by simp [commitFrame, hp]
    have hf : refusal s tx.cfg peer = none := by simp [refusal, ha, hp]
    obtain ⟨p, t, ht, ha, hflag⟩ := cfgCommit_schedules h hs hl hb hn hr (peer := peer) (by simp [hp]) hf
    simp only [hM, hp, Bool.false_eq_true, if_false] at ha hflag
    obtain ⟨hsched, hpend, hcfg, hgen⟩ := scheduled_kept ha
    exact ⟨t, effectiveFrame s tx.cfg s.elt, _, ht, ha.answered, hsched, effectiveFrame_later s tx.cfg s.elt,
      fun _ => effectiveFrame_inOrder s tx.cfg s.elt, decide_eq_true_iff, hflag, hpend,
      (ha.session? _).trans (s.setSession_same _ _), hcfg, hgen⟩
  · intro m peer x tx s h hs hl hb hn hr hp hh ha href
    have hf : refusal s tx.cfg peer = none := by simp [refusal, ha, hp, href]
    obtain ⟨p, t, ht, ha, -⟩ := cfgCommit_schedules h hs hl hb hn hr (peer := peer) (by simp [hh]) hf
    refine ⟨t, _, ht, (scheduled_kept ha).1, ?_, ?_, hh ▸ ha.answered⟩
    · intro hrole
      simp [commitFrame, hp, hrole]
    · intro hrole
      simp [commitFrame, hp, hrole]
  · intro m peer x tx s h hs hl hb hn hr hp hh
    obtain ⟨t, ht, ha⟩ := cfgCommit_mismatch h hs hl hb hn hr hp hh
    exact ⟨t, ht, ha.answered, congrArg (·.2.2) ha.keeps⟩
  · intro m peer x tx s h hs hl
    obtain ⟨t, ht, ha⟩ := cfgCommit_bridle (peer := peer) h hs hl
    exact ⟨t, ht, ha.answered, congrArg (·.2.2) ha.keeps, (ha.session? _).trans (s.setSession_same _ _)⟩
  · intro m peer x tx s h hs hl hb
    obtain ⟨t, ht, ha⟩ := cfgCommit_stale (peer := peer) h hs hl hb
    exact ⟨t, ht, ha.answered, congrArg (·.2.2) ha.keeps, (ha.session? _).trans (s.setSession_same _ _)⟩
  · intro m peer x tx s h hs hl hb hn
    obtain ⟨t, ht, ha⟩ := cfgCommit_full (peer := peer) h hs hl hb hn
    exact ⟨t, ht, ha.answered, congrArg (·.2.2) ha.keeps⟩
  · intro m len obj bs k tx c s h hs hb hc hi
    exact cfgLoadImage_stages h hs hb hc hi
  · intro m len obj bs e k tx s h hs hb hc
    exact cfgLoadImage_refuses h hs hb hc
end

section
/-! Proofs for what the time, pair, Bridle, calibration and test commands stage (O30): a masked image keeps the fields its
mask lets through, and the rules of each command on its image. -/
namespace Sys2Proof.Machine
open Sys2Proof

/-! ## Masked images (R13) -/

/-- A mask that lets the field hi:lo through leaves it. -/
theorem fld_and {w : Nat} (a k : BitVec w) (hi lo : Nat) (hk : fld k hi lo = 2 ^ (hi + 1 - lo) - 1) :
    fld (a &&& k) hi lo = fld a hi lo := by
  have hand : fld (a &&& k) hi lo = fld a hi lo &&& fld k hi lo := by
    rw [fld, BitVec.toNat_and, Nat.shiftRight_and_distrib, Nat.and_mod_two_pow, fld, fld]
  rw [hand, hk, Nat.and_two_pow_sub_one_eq_mod, Nat.mod_eq_of_lt (fld_lt a hi lo)]

/-! ## The rules of each command, as one condition each -/

/-- Two rules that refuse with one status are one rule. -/
theorem need_and (a b : Bool) (e : Status) : (need a e >>= fun _ => need b e) = need (a && b) e := by
  cases a <;> rfl

theorem servoOk_iff (jump slew lock hold : Nat) : servoOk jump slew lock hold = true
    ↔ 100 ≤ jump ∧ jump ≤ 1000000000 ∧ 1 ≤ slew ∧ slew ≤ 200 ∧ 100 ≤ lock ∧ lock ≤ 65535 ∧ hold ≤ 60 := by
  simp only [servoOk, Bool.and_eq_true, decide_eq_true_eq, and_assoc]

/-- What TIME_SET_ALIGN stages of its images. -/
def withAlign (a w : Word) (c : Cfg) : Cfg :=
  { c with time := { c.time with align := a &&& 0xFFFBFFFF#32, wcRate := w &&& 0x0003FFFF#32 } }

/-- The ranges of the images of TIME_ALIGN and TIME_WC_RATE (R144 to R146, R151). -/
def alignOk (a w : Word) (y : YmCfg) : Prop :=
  fld a 31 28 ≤ 3 ∧ (1 ≤ fld a 25 22 ∧ fld a 25 22 ≤ 8) ∧ (fld a 31 28 ≠ 3 ∨ 1 ≤ fld a 21 19 ∧ fld a 21 19 ≤ 5)
    ∧ (fld a 31 28 ≠ 3 ∨ (1 ≤ fld w 17 0 ∧ fld w 17 0 ≤ 192000)
      ∧ fld a 17 0 * 1000000000 * y.num = fld a 21 19 * fld w 17 0 * y.tNum)

theorem alignRules_withAlign (a w : Word) (c : Cfg) :
    ∃ b, alignRules (withAlign a w c) = need b .badParam ∧ (b = true ↔ alignOk a w c.ym) := by
  have hsrc : fld (a &&& 0xFFFBFFFF#32) 31 28 = fld a 31 28 := fld_and _ _ _ _ rfl
  have hden : fld (a &&& 0xFFFBFFFF#32) 21 19 = fld a 21 19 := fld_and _ _ _ _ rfl
  have hdiv : fld (a &&& 0xFFFBFFFF#32) 25 22 = fld a 25 22 := fld_and _ _ _ _ rfl
  have hhz : fld (a &&& 0xFFFBFFFF#32) 17 0 = fld a 17 0 := fld_and _ _ _ _ rfl
  have hrate : fld (w &&& 0x0003FFFF#32) 17 0 = fld w 17 0 := fld_and _ _ _ _ rfl
  refine ⟨_, by rw [alignRules, need_and, need_and, need_and], ?_⟩
  simp only [wordRatioOk, withAlign, alignOk, hsrc, hdiv, hden, hhz, hrate, Bool.and_eq_true, Bool.or_eq_true,
    decide_eq_true_eq]

/-- What TIME_SET_PTP stages. -/
def withPtp (p : PtpSet) (c : Cfg) : Cfg :=
  { c with time := { c.time with
    ptp := p.ptp &&& 0xFFF0FFFF#32, priority2 := p.priority2, syncLog := p.syncLog, annLog := p.annLog
    receipt := p.receipt, delayLog := p.delayLog, asym := p.asym } }

/-- An Announce receipt timeout from 2 to 10 stands in its range. -/
theorem receipt_inRange {r : Option Nat} (h : ∀ n, r = some n → 2 ≤ n ∧ n ≤ 10) :
    inRange (r.map (fun (n : Nat) => (n : Int))) 2 10 = true := by
  cases r with
  | none => rfl
  | some n =>
    obtain ⟨h2, h10⟩ := h n rfl
    simp only [inRange, Option.map_some, Bool.and_eq_true, decide_eq_true_eq]
    omega

theorem ptpRules_withPtp {t : State} {p : PtpSet} {c : Cfg} (hp : fld p.ptp 23 20 < t.nEth) (hs : fld p.ptp 31 28 ≤ 2)
    (hd : fld p.ptp 15 8 ≤ 127) (hsync : inRange p.syncLog (-7) 1 = true) (hann : inRange p.annLog (-3) 3 = true)
    (hdelay : inRange p.delayLog (-7) 3 = true) (hr : ∀ n, p.receipt = some n → 2 ≤ n ∧ n ≤ 10) :
    ptpRules t (withPtp p c) = .ok () := by
  have hport : fld (p.ptp &&& 0xFFF0FFFF#32) 23 20 = fld p.ptp 23 20 := fld_and _ _ _ _ rfl
  have hsrc : fld (p.ptp &&& 0xFFF0FFFF#32) 31 28 = fld p.ptp 31 28 := fld_and _ _ _ _ rfl
  have hdom : fld (p.ptp &&& 0xFFF0FFFF#32) 15 8 = fld p.ptp 15 8 := fld_and _ _ _ _ rfl
  simp only [ptpRules, ptpPortOk, withPtp, hport, hsrc, hdom]
  rw [bind_of_ok (need_of (decide_eq_true hp)), bind_of_ok (need_of (by simp [hs, hd]))]
  exact need_of (by simp [hsync, hann, hdelay, receipt_inRange hr])

/-- What PAIR_SET stages. -/
def withPair (p : PairCfg) (c : Cfg) : Cfg := { c with pair := { p with cfg := p.cfg &&& 0xE0FF0000#32 } }

theorem bitOf_and {w : Nat} (a k : BitVec w) (i : Nat) (hk : bitOf k i = true) : bitOf (a &&& k) i = bitOf a i := by
  rw [bitOf, BitVec.getLsbD_and, ← bitOf, ← bitOf, hk, Bool.and_true]

/-- The ranges of the pair's registers (R432). -/
def pairOk (p : PairCfg) : Prop :=
  (fld p.cfg 30 29 ≠ 3 ∧ fld p.cfg 23 16 ≠ 0) ∧ (p.swap = 0 ∨ 3600 ≤ p.swap.toNat ∧ p.swap.toNat ≤ 604800)

/-- Where the variant may pair, the ranges alone decide. -/
theorem pairRules_withPair {t : State} {p : PairCfg} (c : Cfg) (ht : t.isP = true ∨ bitOf p.cfg 31 = false) :
    ∃ b, pairRules t (withPair p c) = need b .badParam ∧ (b = true ↔ pairOk p) := by
  have hen : bitOf (p.cfg &&& 0xE0FF0000#32) 31 = bitOf p.cfg 31 := bitOf_and _ _ _ rfl
  have hrole : fld (p.cfg &&& 0xE0FF0000#32) 30 29 = fld p.cfg 30 29 := fld_and _ _ _ _ rfl
  have hdiv : fld (p.cfg &&& 0xE0FF0000#32) 23 16 = fld p.cfg 23 16 := fld_and _ _ _ _ rfl
  have hfits : pairFits t { p with cfg := p.cfg &&& 0xE0FF0000#32 } = .ok () := need_of (by simpa [hen] using ht)
  unfold withPair
  refine ⟨_, bind_of_ok hfits _, ?_⟩
  simp only [pairOk, hrole, hdiv, Bool.and_eq_true, Bool.or_eq_true, decide_eq_true_eq]

/-- What BRIDLE_SET stages. -/
def withBridle (w : Word) (c : Cfg) : Cfg := { c with brd := { c.brd with brd := w &&& 0x800001FF#32 } }

theorem bridleRules_withBridle (w : Word) (c : Cfg) :
    ∃ b, bridleRules (withBridle w c) = need b .badParam
      ∧ (b = true ↔ 1 ≤ fld w 8 0 ∧ fld w 8 0 ≤ 300) := by
  have hf : fld (w &&& 0x800001FF#32) 8 0 = fld w 8 0 := fld_and _ _ _ _ rfl
  exact ⟨_, rfl, by simp only [withBridle, hf, Bool.and_eq_true, decide_eq_true_eq]⟩

/-- What CAL_SET stages. -/
def withCal (w : Word) (c : Cfg) : Cfg := { c with brd := { c.brd with cal := w &&& 0x8000003F#32 } }

theorem calRules_withCal (w : Word) (c : Cfg) :
    ∃ b, calRules (withCal w c) = need b .badParam
      ∧ (b = true ↔ 2 ≤ fld w 5 0 ∧ fld w 5 0 ≤ 32) := by
  have hf : fld (w &&& 0x8000003F#32) 5 0 = fld w 5 0 := fld_and _ _ _ _ rfl
  exact ⟨_, rfl, by simp only [withCal, hf, Bool.and_eq_true, decide_eq_true_eq]⟩

/-- What TEST_SET stages. -/
def withTest (w : Word) (c : Cfg) : Cfg := { c with far := w }

theorem testRules_withTest (w : Word) (c : Cfg) :
    ∃ b, testRules (withTest w c) = need b .badParam
      ∧ (b = true ↔ 1 ≤ fld w 30 24 ∧ fld w 30 24 ≤ 168 ∧ 60 ≤ fld w 23 12 ∧ 10 ≤ fld w 11 0) :=
  ⟨_, rfl, by unfold withTest; simp only [Bool.and_eq_true, decide_eq_true_eq, and_assoc]⟩

/-! ## Commands whose rules are one condition with BAD_PARAM -/

section
variable {i : Instr} {s : State} {m : Nat} {op : Half} {objs : List Nat} {x : Session} {tx : Txn}
  {rules : State → Cfg → Except Status Unit} {img : Cfg → Cfg} {pre : Req → State → Except Status Unit} {P : Prop}
  (he : exec i s = commit s (stage m op objs s (fun _ t c => rules t (img c) >>= fun _ => pure (img c)) pre))
  (hr : Runs m op s) (hs : MayStage s m x tx) (hp : pre (s.box m).req s = .ok ())
  (hc : ∃ b, rules s (img tx.cfg) = need b .badParam ∧ (b = true ↔ P))
include he hr hs hp hc

theorem stages_inRange (h : P) : Stages i m objs (img tx.cfg) [] x tx s := by
  obtain ⟨b, hb, hiff⟩ := hc
  exact stages_of_rules he hr hs hp (bind_of_ok (hb.trans (need_of (hiff.mpr h))) _)

theorem refuses_outOfRange (h : ¬ P) : Refuses i m .badParam x tx s := by
  obtain ⟨b, hb, hiff⟩ := hc
  exact refuses_of_rules he hr hs hp
    (bind_of_error (hb.trans (need_not (Bool.eq_false_iff.mpr (mt hiff.mp h)))) _)

end

end Sys2Proof.Machine

open Sys2Proof Sys2Proof.Machine

/-- Settles O30: each command is a staging command whose rules on its image are one range, which the statement's bounds
keep or break. -/
theorem stagingOfTimePairThermalCalibrationTests : Obligations.StagingOfTimePairThermalCalibrationTests := by
  unfold Obligations.StagingOfTimePairThermalCalibrationTests
  refine ⟨?servo, ?servoOut, ?servoFull, ?align, ?alignOut, ?ptp, ?ptpPort, ?pair, ?pairS, ?pairOut, ?bridle, ?bridleOut,
    ?cal, ?calOut, ?test, ?testOut⟩
  case servo =>
    intro m jump slew lock hold x tx s hr hs h1 h2 h3 h4 h5 h6 h7
    have hok : servoOk jump slew lock hold = true := (servoOk_iff _ _ _ _).mpr ⟨h1, h2, h3, h4, h5, h6, h7⟩
    exact stages_of_rules rfl hr hs rfl (bind_of_ok (need_of hok) _)
  case servoOut =>
    intro m jump slew lock hold x tx s hr hs hout
    have hbad : servoOk jump slew lock hold = false := by
      rw [Bool.eq_false_iff, Ne, servoOk_iff]
      omega
    exact refuses_of_rules rfl hr hs rfl (bind_of_error (need_not hbad) _)
  case servoFull =>
    intro m jump slew lock hold x tx s hr hs hroom h1 h2 h3 h4 h5 h6 h7
    have hok : servoOk jump slew lock hold = true := (servoOk_iff _ _ _ _).mpr ⟨h1, h2, h3, h4, h5, h6, h7⟩
    exact stage_full s m 0x0303#16 [0x03030000] x tx _ noCheck none _ hr hs rfl hroom (bind_of_ok (need_of hok) _)
  case align =>
    intro m a w x tx s hr hs h1 h8 hsrc
    refine stages_inRange (img := withAlign a w) rfl hr hs rfl (alignRules_withAlign a w tx.cfg) ?_
    unfold alignOk
    omega
  case alignOut =>
    intro m a w x tx s hr hs hout
    refine refuses_outOfRange (img := withAlign a w) rfl hr hs rfl (alignRules_withAlign a w tx.cfg) ?_
    unfold alignOk
    omega
  case ptp =>
    intro m p x tx s hr hs hport hsrc hdom hsync hann hdelay hrec
    exact stages_of_rules rfl hr hs (need_of (decide_eq_true hport))
      (bind_of_ok (ptpRules_withPtp hport hsrc hdom hsync hann hdelay hrec) _)
  case ptpPort =>
    intro m p s hr hport
    exact denies_of_check rfl hr (need_not (decide_eq_false (by omega)))
  case pair =>
    intro m p x tx s hr hs hrole hdiv hswap hfit
    exact stages_inRange (img := withPair p) rfl hr hs (need_of (by simpa using hfit)) (pairRules_withPair tx.cfg hfit)
      ⟨⟨hrole, hdiv⟩, hswap⟩
  case pairS =>
    intro m p s hr hP hen
    exact denies_of_check rfl hr (need_not (by simp [hP, hen]))
  case pairOut =>
    intro m p x tx s hr hs hfit hout
    refine refuses_outOfRange (img := withPair p) rfl hr hs (need_of (by simpa using hfit))
      (pairRules_withPair tx.cfg hfit) ?_
    have h0 : p.swap = 0 ↔ p.swap.toNat = 0 := BitVec.toNat_inj.symm
    rw [pairOk, h0]
    rw [Ne, h0] at hout
    omega
  case bridle =>
    intro m w x tx s hr hs h1 h300
    exact stages_inRange (img := withBridle w) rfl hr hs rfl (bridleRules_withBridle w tx.cfg) ⟨h1, h300⟩
  case bridleOut =>
    intro m w x tx s hr hs hout
    exact refuses_outOfRange (img := withBridle w) rfl hr hs rfl (bridleRules_withBridle w tx.cfg) (by omega)
  case cal =>
    intro m w x tx s hr hs h2 h32
    exact stages_inRange (img := withCal w) rfl hr hs rfl (calRules_withCal w tx.cfg) ⟨h2, h32⟩
  case calOut =>
    intro m w x tx s hr hs hout
    exact refuses_outOfRange (img := withCal w) rfl hr hs rfl (calRules_withCal w tx.cfg) (by omega)
  case test =>
    intro m w x tx s hr hs h1 h168 h60 h10
    exact stages_inRange (img := withTest w) rfl hr hs rfl (testRules_withTest w tx.cfg) ⟨h1, h168, h60, h10⟩
  case testOut =>
    intro m w x tx s hr hs hout
    exact refuses_outOfRange (img := withTest w) rfl hr hs rfl (testRules_withTest w tx.cfg) (by omega)
end

section
/-! Proofs for what the map and lamp commands stage (O32): what a rule of each record set asks, and the two ways a command
that reads its records out of moved bytes goes on. -/
namespace Sys2Proof.Machine
open Sys2Proof

/-- A command that has read a value goes on with it. -/
theorem bind_of_value {α β : Type} {v : α} {a : Except Status α} (h : a = .ok v) (k : α → Except Status β) :
    (a >>= k) = k v := by rw [h]; rfl

/-- One that could not read it ends. -/
theorem bind_of_failure {α β : Type} {e : Status} {a : Except Status α} (h : a = .error e) (k : α → Except Status β) :
    (a >>= k) = .error e := by rw [h]; rfl

/-! ## The pixel map -/

theorem mapFits_iff (nPix nFix : Nat) (p : PixMap) :
    mapFits nPix nFix p = true ↔ p.recs.length ≤ nPix ∧ ∀ r, r ∈ p.recs → r.fixture < nFix := by
  simp [mapFits]

/-- A map that keeps its rules fits the variant; the empty map fits every one. -/
theorem mapFits_of_mapRules {nPix nFix : Nat} {models : Tab Model} {groups : Tab Group} {p : PixMap}
    (h : mapRules nPix nFix models groups false p = .ok ()) : mapFits nPix nFix p = true := by
  by_cases he : p.segs = [] ∧ p.recs = []
  · simp [mapFits, he.2]
  · by_contra hfit
    rw [mapRules, if_neg he, bind_of_error (need_not (Bool.eq_false_iff.mpr hfit))] at h
    cases h

/-- Segments without records, or records without segments, are no map (R185). -/
theorem mapRules_halfEmpty {nPix nFix : Nat} {models : Tab Model} {groups : Tab Group} {p : PixMap}
    (hfit : mapFits nPix nFix p = true) (h : p.segs = [] ↔ p.recs ≠ []) :
    mapRules nPix nFix models groups false p = .error .badParam := by
  have hne : ¬ (p.segs = [] ∧ p.recs = []) := fun hb => h.mp hb.1 hb.2
  have hbad : (p.segs ≠ [] && p.recs ≠ [] && p.segs.length ≤ 4096) = false := by
    by_cases hs : p.segs = []
    · simp [hs]
    · simp [not_not.mp (mt h.mpr hs)]
  rw [mapRules, if_neg hne, bind_of_ok (need_of hfit)]
  exact bind_of_error (need_not hbad) _

/-! ## Models, curves and the registers of MAP_SET -/

theorem modelRules_range {curves : Tab (List Nat)} {i : Nat} {d : Model} (h : 256 ≤ i ∨ d.emitters < 1 ∨ 8 < d.emitters) :
    modelRules curves false i d = .error .badParam := by
  have hbad : (i < 256 && 1 ≤ d.emitters && d.emitters ≤ 8) = false := by
    rw [Bool.eq_false_iff]
    simp only [ne_eq, Bool.and_eq_true, decide_eq_true_eq]
    omega
  exact bind_of_error (need_not hbad) _

theorem curveOk_iff (i : Nat) (d : List Nat) : curveOk i d = true
    ↔ 1 ≤ i ∧ i ≤ 63 ∧ d.length = 1025 ∧ ∀ v, v ∈ d → v ≤ 0x1000000 := by
  simp only [curveOk, Bool.and_eq_true, decide_eq_true_eq, List.all_eq_true, and_assoc]

/-- What MAP_SET stages. -/
def withMapSet (pq gm src probe : Word) (c : Cfg) : Cfg :=
  { c with map := { c.map with
    pqWhite := pq &&& 0x0000FFFF#32, gm := gm &&& 0x8000FFFF#32, gmSrc := src &&& 0x007FFFFF#32
    probe := probe &&& 0x807FFFFF#32 } }

theorem gmOk_of {t : State} {gm src : Word} (h : bitOf gm 31 = false ∨ fld src 22 6 < t.nFixtures) :
    gmOk t gm src = true := by
  simpa [gmOk] using h

/-- Where the bound fixture exists, the PQ white alone decides. -/
theorem mapSetRules_withMapSet {t : State} {pq gm src : Word} (probe : Word) (c : Cfg)
    (h : bitOf gm 31 = false ∨ fld src 22 6 < t.nFixtures) :
    ∃ b, mapSetRules t (withMapSet pq gm src probe c) = need b .badParam
      ∧ (b = true ↔ 100 ≤ fld pq 15 0 ∧ fld pq 15 0 ≤ 10000) := by
  have hon : bitOf (gm &&& 0x8000FFFF#32) 31 = bitOf gm 31 := bitOf_and _ _ _ rfl
  have hfix : fld (src &&& 0x007FFFFF#32) 22 6 = fld src 22 6 := fld_and _ _ _ _ rfl
  have hpq : fld (pq &&& 0x0000FFFF#32) 15 0 = fld pq 15 0 := fld_and _ _ _ _ rfl
  have hgm : gmOk t (gm &&& 0x8000FFFF#32) (src &&& 0x007FFFFF#32) = true := gmOk_of (by rwa [hon, hfix])
  unfold withMapSet
  refine ⟨_, bind_of_ok (need_of hgm) _, ?_⟩
  simp only [hpq, Bool.and_eq_true, decide_eq_true_eq]

/-! ## Lamps -/

theorem circuitOk_iff (e : Nat × Circuit) : circuitOk e = true
    ↔ e.1 ≤ 2046 ∧ 1 ≤ e.2.budget ∧ e.2.budget ≤ 4294967295 ∧ e.2.idle < e.2.budget := by
  simp only [circuitOk, Bool.and_eq_true, decide_eq_true_eq, and_assoc]

/-- A proof pulse of more than 1/4,000 of its period breaks a group's rules (R225). -/
theorem groupOk_duty {e : Nat × Group} (h : e.2.period * 1000 < e.2.tMeasUs * 4000) : groupOk e = false := by
  have hbad : decide (e.2.tMeasUs * 4000 ≤ e.2.period * 1000) = false := decide_eq_false (by omega)
  rw [groupOk, hbad, Bool.and_false]

/-- One record that breaks its rule breaks that of the list. -/
theorem all_false_of_mem {α : Type} {p : α → Bool} {l : List α} {e : α} (he : e ∈ l) (h : p e = false) :
    l.all p = false :=
  List.all_eq_false.mpr ⟨e, he, by simp [h]⟩

/-- What LAMP_CFG_SET stages. -/
def withLampSet (fl sd te pr mc : Word) (c : Cfg) : Cfg :=
  { c with lamp := { c.lamp with
    floor := fl &&& 0x0001FFFF#32, staleD := sd &&& 0x0001FFFF#32, telem := te &&& 0x0000FFFF#32
    proof := pr, measCode := mc &&& 0x0000FFFF#32 } }

/-- The ranges of LAMP_CFG_SET's images (R234). -/
def lampSetOk (fl sd te pr : Word) : Prop :=
  (fld fl 16 0 ≤ 0x10000 ∧ fld sd 16 0 ≤ 0x10000) ∧ (10 ≤ fld te 15 0 ∧ fld te 15 0 ≤ 60000)
    ∧ 1 ≤ fld pr 31 16 ∧ fld pr 31 16 ≤ 15000 ∧ 100 ≤ fld pr 15 0 ∧ fld pr 15 0 ≤ 60000
    ∧ fld pr 31 16 * 4000 ≤ fld pr 15 0 * 1000

theorem lampSetRules_withLampSet (fl sd te pr mc : Word) (c : Cfg) :
    ∃ b, lampSetRules (withLampSet fl sd te pr mc c) = need b .badParam ∧ (b = true ↔ lampSetOk fl sd te pr) := by
  have hfl : fld (fl &&& 0x0001FFFF#32) 16 0 = fld fl 16 0 := fld_and _ _ _ _ rfl
  have hsd : fld (sd &&& 0x0001FFFF#32) 16 0 = fld sd 16 0 := fld_and _ _ _ _ rfl
  have hte : fld (te &&& 0x0000FFFF#32) 15 0 = fld te 15 0 := fld_and _ _ _ _ rfl
  unfold withLampSet
  refine ⟨_, by rw [lampSetRules, need_and, need_and], ?_⟩
  simp only [lampSetOk, hfl, hsd, hte, Bool.and_eq_true, decide_eq_true_eq, and_assoc]

end Sys2Proof.Machine

open Sys2Proof Sys2Proof.Machine

/-- Settles O32: each command is a staging command, and its records' rules, taken in their order, decide which law of
staging applies. -/
theorem stagingOfTheMapAndLamps : Obligations.StagingOfTheMapAndLamps := by
  unfold Obligations.StagingOfTheMapAndLamps
  refine ⟨?mapLoad, ?mapTooBig, ?unread, ?patch, ?patchFixture, ?model, ?curve, ?mapSet, ?mapSetFixture, ?bins, ?circuits,
    ?groups, ?lampSet⟩
  case mapLoad =>
    intro m obj p x tx s hr hs hb
    refine ⟨fun hrules => ?_, fun hpix hfix hhalf => ?_⟩
    · refine stages_of_rules rfl hr hs ?_ ?_
      · simp only [hb]
        exact need_of (mapFits_of_mapRules hrules)
      · rw [bind_of_value hb, bind_of_ok hrules]
        rfl
    · have hfit := (mapFits_iff _ _ p).mpr ⟨hpix, hfix⟩
      refine refuses_of_rules rfl hr hs ?_ ?_
      · simp only [hb]
        exact need_of hfit
      · rw [bind_of_value hb]
        exact bind_of_error (mapRules_halfEmpty hfit hhalf) _
  case mapTooBig =>
    intro m obj p s hr hb hbig
    refine denies_of_check rfl hr ?_
    simp only [hb]
    refine need_not ?_
    rw [Bool.eq_false_iff, Ne, mapFits_iff]
    rintro ⟨hpix, hfix⟩
    rcases hbig with hbig | ⟨r, hmem, hbig⟩
    · omega
    · exact absurd (hfix r hmem) (by omega)
  case unread =>
    intro m obj n hd e x tx s hs
    refine ⟨fun hr hb => ?_, fun hr hb => ?_, fun hr hb => ?_⟩
    · refine refuses_of_rules rfl hr hs ?_ (bind_of_failure hb _)
      simp only [hb]
    · exact refuses_of_rules rfl hr hs rfl (bind_of_failure hb _)
    · exact refuses_of_rules rfl hr hs rfl (bind_of_failure hb _)
  case patch =>
    intro m ps x tx s hr hs hfix
    have hpre : ps.all (fun e => decide (e.2.fixture < s.nFixtures)) = true := by simpa using hfix
    refine ⟨fun hlen hat hrules => ?_, fun hbeyond => ?_⟩
    · refine stages_of_rules rfl hr hs (need_of hpre) ?_
      rw [bind_of_ok (need_of (by simpa [hlen] using hat)), bind_of_ok hrules]
      rfl
    · obtain ⟨e, hmem, hbeyond⟩ := hbeyond
      have hall := all_false_of_mem (p := fun e : Nat × PixRec => decide (e.1 < tx.cfg.map.map.recs.length)) hmem
        (decide_eq_false (by omega))
      exact refuses_of_rules rfl hr hs (need_of hpre) (bind_of_error (need_not (by rw [hall, Bool.and_false])) _)
  case patchFixture =>
    intro m ps s hr hbeyond
    obtain ⟨e, hmem, hbeyond⟩ := hbeyond
    exact denies_of_check rfl hr (need_not (all_false_of_mem hmem (decide_eq_false (by omega))))
  case model =>
    intro m obj i hd d x tx s hr hs hb c
    refine ⟨fun hrules hslots => ?_, fun hrange => ?_, fun hrules hslots => ?_⟩
    · exact stages_of_rules rfl hr hs rfl
        ((bind_of_value hb _).trans ((bind_of_ok hrules _).trans (bind_of_ok (need_of hslots) _)))
    · exact refuses_of_rules rfl hr hs rfl ((bind_of_value hb _).trans (bind_of_error (modelRules_range hrange) _))
    · exact refuses_of_rules rfl hr hs rfl
        ((bind_of_value hb _).trans ((bind_of_ok hrules _).trans (bind_of_error (need_not hslots) _)))
  case curve =>
    intro m i d x tx s hr hs c
    refine ⟨fun h1 h63 hlen hall hslots => ?_, fun h1 h63 hlen hall hslots => ?_, fun hbad => ?_⟩
    · refine stages_of_rules rfl hr hs rfl ?_
      rw [bind_of_ok (need_of ((curveOk_iff i d).mpr ⟨h1, h63, hlen, hall⟩)), bind_of_ok (need_of hslots)]
      rfl
    · refine refuses_of_rules rfl hr hs rfl ?_
      rw [bind_of_ok (need_of ((curveOk_iff i d).mpr ⟨h1, h63, hlen, hall⟩))]
      exact bind_of_error (need_not hslots) _
    · obtain ⟨v, hmem, hbad⟩ := hbad
      have hcurve : curveOk i d = false := by
        rw [Bool.eq_false_iff, Ne, curveOk_iff]
        exact fun ⟨_, _, _, hall⟩ => absurd (hall v hmem) (by omega)
      exact refuses_of_rules rfl hr hs rfl (bind_of_error (need_not hcurve) _)
  case mapSet =>
    intro m pq gm src probe x tx s hr hs hgm
    have hrules := mapSetRules_withMapSet (pq := pq) probe tx.cfg hgm
    refine ⟨fun h100 h10000 => ?_, fun hout => ?_⟩
    · exact stages_inRange (img := withMapSet pq gm src probe) rfl hr hs (need_of (gmOk_of hgm)) hrules ⟨h100, h10000⟩
    · exact refuses_outOfRange (img := withMapSet pq gm src probe) rfl hr hs (need_of (gmOk_of hgm)) hrules (by omega)
  case mapSetFixture =>
    intro m pq gm src probe s hr hon hfix
    have hgm : gmOk s gm src = false := by simpa [gmOk, hon] using hfix
    exact denies_of_check rfl hr (need_not hgm)
  case bins =>
    intro m rs x tx s hr hs hlen hok c
    have hrecs : (decide (rs.length ≤ 28) && rs.all binOk) = true := by simp [hlen, hok]
    refine ⟨fun hslots => ?_, fun hslots => ?_⟩
    · refine stages_of_rules rfl hr hs rfl ?_
      rw [bind_of_ok (need_of hrecs), bind_of_ok (need_of hslots)]
      rfl
    · refine refuses_of_rules rfl hr hs rfl ?_
      rw [bind_of_ok (need_of hrecs)]
      exact bind_of_error (need_not hslots) _
  case circuits =>
    intro m rs x tx s hr hs
    refine ⟨fun hlen hall => ?_, fun hbad => ?_⟩
    · have hok : rs.all circuitOk = true := List.all_eq_true.mpr fun e he => (circuitOk_iff e).mpr (hall e he)
      exact stages_of_rules rfl hr hs rfl (bind_of_ok (need_of (by simp [hlen, hok])) _)
    · obtain ⟨e, hmem, hbad⟩ := hbad
      have hok : circuitOk e = false := by
        rw [Bool.eq_false_iff, Ne, circuitOk_iff]
        omega
      exact refuses_of_rules rfl hr hs rfl
        (bind_of_error (need_not (by rw [all_false_of_mem hmem hok, Bool.and_false])) _)
  case groups =>
    intro m n obj rs x tx s hr hs hb g
    refine ⟨fun hok hsum hapart hclear hdiag => ?_, fun hduty => ?_, fun hok hsum hclash => ?_⟩
    · refine stages_of_rules rfl hr hs rfl ?_
      rw [bind_of_value hb, bind_of_ok (need_of hok), bind_of_ok (need_of (decide_eq_true hsum)),
        bind_of_ok (need_of (by rw [hapart, hclear]; rfl)), bind_of_ok (need_of (decide_eq_true hdiag))]
      rfl
    · obtain ⟨e, hmem, hduty⟩ := hduty
      refine refuses_of_rules rfl hr hs rfl ?_
      rw [bind_of_value hb]
      exact bind_of_error (need_not (all_false_of_mem hmem (groupOk_duty hduty))) _
    · refine refuses_of_rules rfl hr hs rfl ?_
      rw [bind_of_value hb, bind_of_ok (need_of hok), bind_of_ok (need_of (decide_eq_true hsum))]
      exact bind_of_error (need_not (Bool.and_eq_false_iff.mpr hclash)) _
  case lampSet =>
    intro m fl sd te pr mc x tx s hr hs
    have hrules := lampSetRules_withLampSet fl sd te pr mc tx.cfg
    refine ⟨fun h1 h2 h3 h4 h5 h6 h7 h8 h9 => ?_, fun hout => ?_⟩
    · exact stages_inRange (img := withLampSet fl sd te pr mc) rfl hr hs rfl hrules ⟨⟨h1, h2⟩, ⟨h3, h4⟩, h5, h6, h7, h8, h9⟩
    · refine refuses_outOfRange (img := withLampSet fl sd te pr mc) rfl hr hs rfl hrules ?_
      unfold lampSetOk
      omega
end

section
/-! Laws of the event controller (chapter 03): what a delivery, a moderation and a presentation leave alone, what bringing
the pending records up to date gives, and what a change to one source does to the sources and the targets. -/
namespace Sys2Proof.Machine
open Sys2Proof

/-! ## Delivery, moderation and presentation (R75, R80 to R82) -/

/-- What no delivery and no moderation changes: all but the vectors' bits, the deliveries and, of each target, what
moderation counts and holds. `Evc.SameSetup` says as much of the sources and of EVC_TGT_CFG alone; EVC_SW and BAD_COMPLETE
stay as well. -/
def Evc.still (e : Evc) : Evc × (Nat → Tgt) :=
  ({ e with tgt := [], vec := [], wakeHeld := [], sent := [] },
    fun t => { e.tgtAt t with count := 0, running := false, age := 0, held := [] })

theorem Evc.src_of_still {e f : Evc} (h : f.still = e.still) : f.src = e.src := congrArg (fun x => x.1.src) h

theorem Evc.sw_of_still {e f : Evc} (h : f.still = e.still) : f.sw = e.sw := congrArg (fun x => x.1.sw) h

theorem Evc.base_of_still {e f : Evc} (h : f.still = e.still) (t : Nat) : (f.tgtAt t).base = (e.tgtAt t).base :=
  congrArg (fun x => (x.2 t).base) h

theorem Evc.bad_of_still {e f : Evc} (h : f.still = e.still) (t : Nat) : (f.tgtAt t).bad = (e.tgtAt t).bad :=
  congrArg (fun x => (x.2 t).bad) h

theorem Evc.foldl_still {α : Type} {f : Evc → α → Evc} (h : ∀ e a, (f e a).still = e.still) (l : List α) (e : Evc) :
    (l.foldl f e).still = e.still := by
  induction l generalizing e with
  | nil => rfl
  | cons a l ih => exact (ih (f e a)).trans (h e a)

/-- Messages of vectors touch the vectors' pending bits and the deliveries alone. -/
theorem Evc.sendVecs_frame (l : List Nat) (e : Evc) :
    l.foldl Evc.sendVec e = { e with vec := (l.foldl Evc.sendVec e).vec, sent := (l.foldl Evc.sendVec e).sent } := by
  induction l generalizing e with
  | nil => rfl
  | cons v l ih =>
    have hv : e.sendVec v = { e with vec := (e.sendVec v).vec, sent := (e.sendVec v).sent } := by
      unfold Evc.sendVec
      split <;> rfl
    rw [List.foldl_cons, ih, hv]

/-- Delivery to the host while the link is awake is messages of vectors alone. -/
theorem Evc.deliverHost_awake (e : Evc) (ns : List Nat) (h : (e.linkL1 || e.d3hot) = false) :
    e.deliverHost ns = { e with vec := (e.deliverHost ns).vec, sent := (e.deliverHost ns).sent } := by
  rw [Evc.deliverHost, if_neg (by simp [h])]
  exact sendVecs_frame _ e

/-- A delivery touches the vectors, the deliveries and what waits for the link. -/
theorem Evc.deliver_frame (e : Evc) (t : Nat) (ns : List Nat) : e.deliver t ns = { e with
    vec := (e.deliver t ns).vec, wakeHeld := (e.deliver t ns).wakeHeld, sent := (e.deliver t ns).sent } := by
  unfold Evc.deliver
  split
  · rfl
  · split
    · cases h : (e.linkL1 || e.d3hot) with
      | true => simp only [Evc.deliverHost, h, if_true]
      | false => rw [deliverHost_awake e ns h]
    · rfl

/-- Delivery to the host while the link is awake touches the vectors and the deliveries alone. -/
theorem Evc.deliver_awake (e : Evc) (ns : List Nat) (h : (e.linkL1 || e.d3hot) = false) :
    e.deliver 0 ns = { e with vec := (e.deliver 0 ns).vec, sent := (e.deliver 0 ns).sent } := by
  unfold Evc.deliver
  split
  · rfl
  · exact deliverHost_awake e ns h

theorem Evc.deliver_still (e : Evc) (t : Nat) (ns : List Nat) : (e.deliver t ns).still = e.still := by
  rw [deliver_frame]; rfl

theorem Evc.tgtAt_setTgt_self (e : Evc) (t : Nat) (g : Tgt) : (e.setTgt t g).tgtAt t = g := tget_tset_self _ _ _ _

theorem Evc.tgtAt_setTgt_ne (e : Evc) {t k : Nat} (g : Tgt) (h : k ≠ t) : (e.setTgt t g).tgtAt k = e.tgtAt k :=
  tget_tset_ne _ _ _ _ _ h

/-- A target's record may be replaced by one that differs in what moderation counts and holds. -/
theorem Evc.setTgt_still (e : Evc) (t n a : Nat) (r : Bool) (l : List Nat) :
    (e.setTgt t { e.tgtAt t with count := n, running := r, age := a, held := l }).still = e.still := by
  refine Prod.ext rfl (funext fun k => ?_)
  by_cases hk : k = t
  · subst hk
    simp only [Evc.still, tgtAt_setTgt_self]
  · simp only [Evc.still, tgtAt_setTgt_ne e _ hk]

theorem Evc.release_still (e : Evc) (t : Nat) : (e.release t).still = e.still :=
  (deliver_still _ t _).trans (setTgt_still e t 0 0 false [])

/-- A release ends what its target's moderation counts and holds (R80). -/
theorem Evc.release_tgtAt (e : Evc) (t : Nat) :
    (e.release t).tgtAt t = { e.tgtAt t with held := [], count := 0, running := false, age := 0 } := by
  rw [Evc.release, deliver_frame]
  exact tgtAt_setTgt_self e t _

theorem Evc.present_still (e : Evc) (t : Nat) (ns : List (Nat × Pend)) : (e.present t ns).still = e.still := by
  have hheld : ∀ l, (e.setTgt t { e.tgtAt t with held := l, running := true }).still = e.still :=
    fun l => setTgt_still e t _ _ true l
  unfold Evc.present
  dsimp only
  split
  · rfl
  · split
    · exact deliver_still e t _
    · split
      · exact (release_still _ t).trans (hheld _)
      · exact hheld _

theorem Evc.settle_still (old new : Evc) : (Evc.settle old new).still = new.still :=
  foldl_still (fun e t => present_still e t (Evc.newly old new t)) _ new

theorem Evc.countOcc_still (e : Evc) (n t : Nat) : (e.countOcc n t).still = e.still := by
  have hcount : (e.setTgt t { e.tgtAt t with count := (e.tgtAt t).count + 1 }).still = e.still :=
    setTgt_still e t _ _ _ _
  unfold Evc.countOcc
  dsimp only
  split
  · rfl
  · split
    · exact (release_still _ t).trans hcount
    · exact hcount

/-! ## Pending records (R72, R77) -/

theorem tfind_tdel_ne {α : Type} (t : Tab α) {k j : Nat} (h : j ≠ k) : tfind? (tdel t k) j = tfind? t j := by
  induction t with
  | nil => rfl
  | cons e r ih =>
    obtain ⟨i, v⟩ := e
    by_cases hi : i = k
    · subst hi
      rw [tfind?, if_neg h.symm, ← ih]
      simp [tdel]
    · have hcons : tdel ((i, v) :: r) k = (i, v) :: tdel r k := by simp [tdel, hi]
      rw [hcons, tfind?, tfind?, ih]

/-- What a source holds for target t once its record is up to date: while it is pending, what it held, else the PRIORITY
and VECTOR of now. -/
def Src.holds (r : Src) (t : Nat) : Option Pend :=
  if r.pends t then some ((tfind? r.pend t).getD { prio := r.priority, vec := r.vector }) else none

theorem Src.refreshOne_frame (r : Src) (t : Nat) : r.refreshOne t = { r with pend := (r.refreshOne t).pend } := by
  unfold Src.refreshOne
  split
  · split <;> rfl
  · rfl

theorem Src.refreshOne_pend_self (r : Src) (t : Nat) : tfind? (r.refreshOne t).pend t = r.holds t := by
  unfold Src.refreshOne Src.holds
  split
  · split
    next p hp => simp [hp]
    next hp => simp [hp, tfind_tset_self]
  · exact tfind_tdel_self _ _

theorem Src.refreshOne_pend_ne (r : Src) {t j : Nat} (h : j ≠ t) :
    tfind? (r.refreshOne t).pend j = tfind? r.pend j := by
  unfold Src.refreshOne
  split
  · split
    · rfl
    · exact tfind_tset_ne _ _ _ _ h
  · exact tfind_tdel_ne _ h

/-- What a source holds for one target is not touched when another's record is brought up to date. -/
theorem Src.refreshOne_holds_ne (r : Src) {t j : Nat} (h : j ≠ t) : (r.refreshOne t).holds j = r.holds j := by
  have hp : (r.refreshOne t).pends j = r.pends j := by rw [refreshOne_frame]; rfl
  rw [Src.holds, hp, refreshOne_pend_ne r h, refreshOne_frame]
  rfl

theorem Src.refresh_frame (r : Src) : r.refresh = { r with pend := r.refresh.pend } := by
  have hone : ∀ (q : Src) (t : Nat), { q.refreshOne t with pend := [] } = { q with pend := [] } := fun q t => by
    rw [refreshOne_frame]
  have hall : { r.refresh with pend := [] } = { r with pend := [] } :=
    (hone _ 3).trans ((hone _ 2).trans ((hone _ 1).trans (hone r 0)))
  exact congrArg (fun q : Src => { q with pend := r.refresh.pend }) hall

/-- Brought up to date, a source's record for each target is what it holds for it. -/
theorem Src.refresh_pend (r : Src) {t : Nat} (h : t < 4) : tfind? r.refresh.pend t = r.holds t := by
  unfold Src.refresh
  obtain rfl | rfl | rfl | rfl : t = 0 ∨ t = 1 ∨ t = 2 ∨ t = 3 := by omega
  · rw [refreshOne_pend_ne _ (by decide), refreshOne_pend_ne _ (by decide), refreshOne_pend_ne _ (by decide),
      refreshOne_pend_self]
  · rw [refreshOne_pend_ne _ (by decide), refreshOne_pend_ne _ (by decide), refreshOne_pend_self,
      refreshOne_holds_ne _ (by decide)]
  · rw [refreshOne_pend_ne _ (by decide), refreshOne_pend_self, refreshOne_holds_ne _ (by decide),
      refreshOne_holds_ne _ (by decide)]
  · rw [refreshOne_pend_self, refreshOne_holds_ne _ (by decide), refreshOne_holds_ne _ (by decide),
      refreshOne_holds_ne _ (by decide)]

@[simp] theorem Src.refresh_effective (r : Src) : r.refresh.effective = r.effective := by rw [refresh_frame]
@[simp] theorem Src.refresh_enable (r : Src) : r.refresh.enable = r.enable := by rw [refresh_frame]
@[simp] theorem Src.refresh_vector (r : Src) : r.refresh.vector = r.vector := by rw [refresh_frame]
@[simp] theorem Src.refresh_priority (r : Src) : r.refresh.priority = r.priority := by rw [refresh_frame]
@[simp] theorem Src.refresh_count (r : Src) : r.refresh.count = r.count := by rw [refresh_frame]
@[simp] theorem Src.refresh_act (r : Src) : r.refresh.act = r.act := by rw [refresh_frame]

/-! ## A change to one source -/

theorem Evc.srcAt_setSrc_self (e : Evc) (n : Nat) (r : Src) : (e.setSrc n r).srcAt n = r := tget_tset_self _ _ _ _

theorem Evc.srcAt_setSrc_ne (e : Evc) {n k : Nat} (r : Src) (h : k ≠ n) : (e.setSrc n r).srcAt k = e.srcAt k :=
  tget_tset_ne _ _ _ _ _ h

theorem Evc.srcAt_of_src {e f : Evc} (h : f.src = e.src) (k : Nat) : f.srcAt k = e.srcAt k := by
  rw [Evc.srcAt, h, Evc.srcAt]

/-- A change touches, beyond its source's record, only what presentation does. -/
theorem Evc.change_still (e : Evc) (n : Nat) (f : Src → Src) :
    (e.change n f).still = (e.setSrc n (f (e.srcAt n)).refresh).still := settle_still _ _

theorem Evc.change_src (e : Evc) (n : Nat) (f : Src → Src) :
    (e.change n f).src = tset e.src n (f (e.srcAt n)).refresh := src_of_still (change_still e n f)

@[simp] theorem Evc.change_srcAt_self (e : Evc) (n : Nat) (f : Src → Src) :
    (e.change n f).srcAt n = (f (e.srcAt n)).refresh :=
  (srcAt_of_src (change_src e n f) n).trans (srcAt_setSrc_self e n _)

theorem Evc.change_srcAt_ne (e : Evc) {n k : Nat} (f : Src → Src) (h : k ≠ n) : (e.change n f).srcAt k = e.srcAt k :=
  (srcAt_of_src (change_src e n f) k).trans (srcAt_setSrc_ne e _ h)

@[simp] theorem Evc.change_sw (e : Evc) (n : Nat) (f : Src → Src) : (e.change n f).sw = e.sw :=
  (sw_of_still (change_still e n f)).trans rfl

@[simp] theorem Evc.change_base (e : Evc) (n : Nat) (f : Src → Src) (t : Nat) :
    ((e.change n f).tgtAt t).base = (e.tgtAt t).base :=
  (base_of_still (change_still e n f) t).trans rfl

@[simp] theorem Evc.change_bad (e : Evc) (n : Nat) (f : Src → Src) (t : Nat) :
    ((e.change n f).tgtAt t).bad = (e.tgtAt t).bad :=
  (bad_of_still (change_still e n f) t).trans rfl

end Sys2Proof.Machine
end

section
/-! Proofs for the claims (O16): the best of a list in rising order, the sources a target holds active, the threshold after
a claim, and the two reads. -/
namespace Sys2Proof.Machine
open Sys2Proof

/-! ## The source of highest priority (R74) -/

/-- x stands before y at a claim: its priority is higher, or equal and its number no greater. -/
def Outranks (x y : Nat × Pend) : Prop := y.2.prio.toNat < x.2.prio.toNat ∨ y.2.prio = x.2.prio ∧ x.1 ≤ y.1

theorem bestOf_mem {l : List (Nat × Pend)} {y : Nat × Pend} (h : bestOf l = some y) : y ∈ l := by
  induction l with
  | nil => cases h
  | cons x r ih =>
    rw [bestOf] at h
    split at h
    next => cases h; exact List.mem_cons_self
    next z hz =>
      split at h
      · cases h; exact List.mem_cons_of_mem x (ih hz)
      · cases h; exact List.mem_cons_self

/-- In a list with rising numbers the best is the entry that outranks every other. -/
theorem bestOf_of_outranks {l : List (Nat × Pend)} {x : Nat × Pend} (hrise : l.Pairwise (fun a b => a.1 < b.1))
    (hx : x ∈ l) (hall : ∀ y ∈ l, Outranks x y) : bestOf l = some x := by
  induction l with
  | nil => cases hx
  | cons a r ih =>
    obtain ⟨hhead, hrest⟩ := List.pairwise_cons.mp hrise
    rw [bestOf]
    obtain rfl | hmem := List.mem_cons.mp hx
    · split
      next => rfl
      next y hy =>
        have hle : y.2.prio.toNat ≤ x.2.prio.toNat := by
          obtain hlt | ⟨heq, -⟩ := hall y (List.mem_cons_of_mem x (bestOf_mem hy))
          · exact hlt.le
          · exact (congrArg BitVec.toNat heq).le
        rw [if_neg (Nat.not_lt.mpr hle)]
    · have hlt : a.2.prio.toNat < x.2.prio.toNat := by
        obtain hlt | ⟨-, hle⟩ := hall a List.mem_cons_self
        · exact hlt
        · exact absurd (hhead x hmem) (Nat.not_lt.mpr hle)
      rw [ih hrest hmem (fun y hy => hall y (List.mem_cons_of_mem a hy))]
      exact if_pos hlt

/-! ## Tables of sources in order -/

theorem rising_of_tfrom {α : Type} {t : Tab α} {lo : Nat} (h : tfrom lo t = true) :
    t.Pairwise (fun a b => a.1 < b.1) := by
  induction t generalizing lo with
  | nil => exact .nil
  | cons e r ih =>
    simp only [tfrom, Bool.and_eq_true, decide_eq_true_eq] at h
    obtain ⟨-, hr⟩ := h
    exact .cons (fun b hb => (tfind_of_mem hr hb).1) (ih hr)

/-- A list gathered from the sources, each under its number, rises as they do. -/
theorem filterMap_rises {t : Tab Src} {f : Nat × Src → Option (Nat × Pend)} (h : tfrom 0 t = true)
    (hf : ∀ a b, f a = some b → b.1 = a.1) : (t.filterMap f).Pairwise (fun a b => a.1 < b.1) :=
  (rising_of_tfrom h).filterMap f fun a a' hlt b hb b' hb' => by rw [hf a b hb, hf a' b' hb']; exact hlt

theorem presentable_rises {e : Evc} (h : tfrom 0 e.src = true) (t : Nat) :
    (e.presentable t).Pairwise (fun a b => a.1 < b.1) := by
  refine filterMap_rises h fun a b hb => ?_
  split at hb
  · split at hb
    · cases hb; rfl
    · cases hb
  · cases hb

theorem actives_rises {e : Evc} (h : tfrom 0 e.src = true) (t : Nat) :
    (e.actives t).Pairwise (fun a b => a.1 < b.1) := by
  refine filterMap_rises h fun a b hb => ?_
  obtain ⟨p, -, rfl⟩ := Option.map_eq_some_iff.mp hb
  rfl

/-- Of sources in order, those that a record with a property lists are the numbers whose record has it; a number that no
record lists has the reset record. -/
theorem exists_src_iff {e : Evc} (h : tfrom 0 e.src = true) (n : Nat) (P : Src → Prop) (hreset : ¬ P {}) :
    (∃ r, (n, r) ∈ e.src ∧ P r) ↔ P (e.srcAt n) := by
  constructor
  · rintro ⟨r, hr, hP⟩
    rwa [Evc.srcAt, tget, (tfind_of_mem h hr).2]
  · intro hP
    cases hn : tfind? e.src n with
    | none => rw [Evc.srcAt, tget, hn] at hP; exact absurd hP hreset
    | some r => rw [Evc.srcAt, tget, hn] at hP; exact ⟨r, mem_of_tfind hn, hP⟩

/-- The sources active for t are those whose record says so. -/
theorem mem_actives {e : Evc} (h : tfrom 0 e.src = true) (t n : Nat) (p : Pend) :
    (n, p) ∈ e.actives t ↔ tfind? (e.srcAt n).act t = some p := by
  rw [← exists_src_iff h n (fun r => tfind? r.act t = some p) (by simp [tfind?])]
  simp [Evc.actives]

/-- A presentable source stands above the threshold. -/
theorem threshold_lt_of_presentable {e : Evc} {t n : Nat} {p : Pend} (h : (n, p) ∈ e.presentable t) :
    e.threshold t < p.prio.toNat := by
  obtain ⟨x, -, hx⟩ := List.mem_filterMap.mp h
  split at hx
  · split at hx
    next hlt => cases hx; exact hlt
    next => cases hx
  · cases hx

/-! ## The threshold (R73) -/

/-- A fold whose every step is at most a bound exactly where what it began with and its element allow. -/
theorem foldl_le_iff {α : Type} {f : Nat → α → Nat} {b : Nat} {P : α → Prop}
    (h : ∀ a x, f a x ≤ b ↔ a ≤ b ∧ P x) (l : List α) (a : Nat) : l.foldl f a ≤ b ↔ a ≤ b ∧ ∀ x ∈ l, P x := by
  induction l generalizing a with
  | nil => simp
  | cons x l ih => rw [List.foldl_cons, ih, h, List.forall_mem_cons, and_assoc]

/-- The greatest active priority is at most a bound where every active priority is. -/
theorem activePrio_le_iff (e : Evc) (t b : Nat) :
    e.activePrio t ≤ b ↔ ∀ x ∈ e.actives t, x.2.prio.toNat ≤ b := by
  rw [Evc.activePrio, foldl_le_iff (P := fun x => ∀ p, tfind? x.2.act t = some p → p.prio.toNat ≤ b)]
  · constructor
    · rintro ⟨-, h⟩ y hy
      obtain ⟨x, hx, hy⟩ := List.mem_filterMap.mp hy
      obtain ⟨p, hp, rfl⟩ := Option.map_eq_some_iff.mp hy
      exact h x hx p hp
    · exact fun h => ⟨Nat.zero_le b, fun x hx p hp => h (x.1, p) (List.mem_filterMap.mpr ⟨x, hx, by rw [hp]; rfl⟩)⟩
  · intro a x
    cases h : tfind? x.2.act t <;> simp

/-- Where every active source but n is below n's priority, and so is the base, the threshold is n's priority. -/
theorem threshold_eq {e : Evc} (h : tfrom 0 e.src = true) {t n : Nat} {p : Pend}
    (hact : tfind? (e.srcAt n).act t = some p) (hbase : (e.tgtAt t).base.toNat ≤ p.prio.toNat)
    (hothers : ∀ k q, k ≠ n → tfind? (e.srcAt k).act t = some q → q.prio.toNat ≤ p.prio.toNat) :
    e.threshold t = p.prio.toNat := by
  have hle : e.activePrio t ≤ p.prio.toNat := by
    rw [activePrio_le_iff]
    rintro ⟨k, q⟩ hk
    rw [mem_actives h] at hk
    by_cases hkn : k = n
    · subst hkn
      rw [Option.some.inj (hk.symm.trans hact)]
    · exact hothers k q hkn hk
  have hge : p.prio.toNat ≤ e.activePrio t :=
    (activePrio_le_iff e t _).mp le_rfl (n, p) ((mem_actives h t n p).mpr hact)
  rw [Evc.threshold, le_antisymm hle hge]
  exact max_eq_right hbase

/-! ## What a claim does (R74) -/

/-- The claimed source is active with what it held. -/
theorem claim_act (e : Evc) (t n : Nat) (p : Pend) : tfind? ((e.claim t n p).srcAt n).act t = some p := by
  rw [Evc.claim, Evc.change_srcAt_self, Src.refresh_act]
  exact tfind_tset_self _ _ _

theorem claim_srcAt_ne (e : Evc) (t : Nat) {n k : Nat} (p : Pend) (h : k ≠ n) :
    (e.claim t n p).srcAt k = e.srcAt k := Evc.change_srcAt_ne e _ h

/-- The claim of a presentable source raises the threshold to its priority. -/
theorem claim_threshold {e : Evc} (h : tfrom 0 e.src = true) {t n : Nat} {p : Pend} (hp : (n, p) ∈ e.presentable t) :
    (e.claim t n p).threshold t = p.prio.toNat := by
  have hlt := threshold_lt_of_presentable hp
  rw [Evc.threshold, max_lt_iff] at hlt
  obtain ⟨hbase, hactive⟩ := hlt
  have horder : tfrom 0 (e.claim t n p).src = true := by
    rw [Evc.claim, Evc.change_src]
    exact tset_from _ _ _ _ h (Nat.zero_le n)
  refine threshold_eq horder (claim_act e t n p) ?_ fun k q hk hq => ?_
  · rw [Evc.claim, Evc.change_base]
    exact hbase.le
  · rw [claim_srcAt_ne e t p hk, ← mem_actives h] at hq
    exact (activePrio_le_iff e t _).mp hactive.le _ hq

/-! ## The claim registers read (R74, R83) -/

/-- Of a list that rises, the best among the entries that satisfy q. -/
theorem bestOf_filter {l : List (Nat × Pend)} {q : Pend → Bool} {x : Nat × Pend}
    (hrise : l.Pairwise (fun a b => a.1 < b.1)) (hx : x ∈ l) (hq : q x.2 = true)
    (hall : ∀ y ∈ l, q y.2 = true → Outranks x y) : bestOf (l.filter (fun y => q y.2)) = some x :=
  bestOf_of_outranks (hrise.filter _) (List.mem_filter.mpr ⟨hx, hq⟩) fun y hy =>
    hall y (List.mem_filter.mp hy).1 (List.mem_filter.mp hy).2

/-- A claim read claims and returns the presentable source that outranks all others that satisfy q. -/
theorem claimRead_claims {t n : Nat} {q : Pend → Bool} {pd : Pend} {s : State} (p : Path)
    (horder : tfrom 0 s.evc.src = true) (hmem : (n, pd) ∈ s.evc.presentable t) (hq : q pd = true)
    (hbest : ∀ x ∈ s.evc.presentable t, q x.2 = true → Outranks (n, pd) x) :
    claimRead p true t q s = ({ s with evc := s.evc.claim t n pd }).returns p (claimWord n pd.prio) := by
  simp only [claimRead, if_true, bestOf_filter (presentable_rises horder t) hmem hq hbest]

/-- Where no presentable source satisfies q it returns 0. -/
theorem claimRead_nothing {t : Nat} {q : Pend → Bool} {s : State} (p : Path)
    (h : ∀ x ∈ s.evc.presentable t, q x.2 = false) : claimRead p true t q s = s.returns p 0 := by
  have hnone : (s.evc.presentable t).filter (fun x => q x.2) = [] :=
    List.filter_eq_nil_iff.mpr fun x hx => by simp [h x hx]
  simp only [claimRead, if_true, hnone, bestOf]

/-- From another path it returns the active source that outranks all others that satisfy q, and claims nothing. -/
theorem claimRead_looks {t n : Nat} {q : Pend → Bool} {pd : Pend} {s : State} (p : Path)
    (horder : tfrom 0 s.evc.src = true) (hmem : (n, pd) ∈ s.evc.actives t) (hq : q pd = true)
    (hbest : ∀ x ∈ s.evc.actives t, q x.2 = true → Outranks (n, pd) x) :
    claimRead p false t q s = s.returns p (claimWord n pd.prio) := by
  simp only [claimRead, Bool.false_eq_true, if_false, bestOf_filter (actives_rises horder t) hmem hq hbest]

/-- From another path it returns 0 where no active source satisfies q. -/
theorem claimRead_looks_nothing {t : Nat} {q : Pend → Bool} {s : State} (p : Path)
    (h : ∀ x ∈ s.evc.actives t, q x.2 = false) : claimRead p false t q s = s.returns p 0 := by
  have hnone : (s.evc.actives t).filter (fun x => q x.2) = [] :=
    List.filter_eq_nil_iff.mpr fun x hx => by simp [h x hx]
  simp only [claimRead, Bool.false_eq_true, if_false, hnone, bestOf]

/-- From another path a claim read returns some word and does nothing else. -/
theorem claimRead_other (p : Path) (t : Nat) (q : Pend → Bool) (s : State) :
    ∃ w, claimRead p false t q s = s.returns p w := by
  cases h : bestOf ((s.evc.actives t).filter (fun x => q x.2)) with
  | none => exact ⟨0, by simp only [claimRead, Bool.false_eq_true, if_false, h]⟩
  | some x => exact ⟨claimWord x.1 x.2.prio, by simp only [claimRead, Bool.false_eq_true, if_false, h]⟩

theorem evcClaim_own {p : Path} {t : Nat} (s : State) (ht : t < 4) (hp : ownPath t = some p) :
    exec (.evcClaim p t) s = commit s (claimRead p true t (fun _ => true) s) := by
  show commit s (evcClaimEffect p t s) = _
  rw [evcClaimEffect, if_pos ht, decide_eq_true hp]

theorem evcClaim_other {p : Path} {t : Nat} (s : State) (ht : t < 4) (hp : ownPath t ≠ some p) :
    exec (.evcClaim p t) s = commit s (claimRead p false t (fun _ => true) s) := by
  show commit s (evcClaimEffect p t s) = _
  rw [evcClaimEffect, if_pos ht, decide_eq_false hp]

/-- What a claim reads: VALID, the priority and the number (R85). -/
theorem returns_claimWord (s : State) (p : Path) (n : Nat) (prio : BitVec 4) :
    (s.returns p (claimWord n prio)).readOf p = some (BitVec.ofNat 32 (2 ^ 31 + prio.toNat * 2 ^ 16 + n % 256)) := by
  rw [State.returns_readOf, claimWord]
  norm_num

/-- A read that may have changed the event controller as well goes on as it is. -/
theorem commit_returns (s : State) (e : Evc) (p : Path) (w : Word) :
    commit s (({ s with evc := e }).returns p w) = .next (({ s with evc := e }).returns p w) :=
  commit_same s _ rfl rfl rfl

end Sys2Proof.Machine

open Sys2Proof Sys2Proof.Machine

/-- Settles O16: in order, the source that the claim takes is the one that outranks all others; its claim leaves the other
sources alone, and the threshold was below its priority. -/
theorem claimReturnsTheHighestPresentable : Obligations.ClaimReturnsTheHighestPresentable := by
  refine ⟨?own, ?ownNone, ?other, ?otherNone⟩
  case own =>
    intro p t n pd s ht hp horder hmem hbest
    have hthreshold := claim_threshold horder hmem
    refine ⟨({ s with evc := s.evc.claim t n pd }).returns p (claimWord n pd.prio), ?_⟩
    refine ⟨?_, returns_claimWord _ p n pd.prio,
      claim_act s.evc t n pd, hthreshold, fun k hk => claim_srcAt_ne s.evc t pd hk, rfl⟩
    rw [evcClaim_own s ht hp, claimRead_claims p horder hmem rfl (fun x hx _ => hbest x hx), commit_returns]
  case ownNone =>
    intro p t s ht hp hnone
    refine ⟨s.returns p 0, ?_, State.returns_readOf s p 0, rfl⟩
    rw [evcClaim_own s ht hp, claimRead_nothing p (by simp [hnone]), commit_returns s s.evc]
  case other =>
    intro p t n pd s ht hp horder hmem hbest
    refine ⟨s.returns p (claimWord n pd.prio), ?_, returns_claimWord s p n pd.prio, rfl⟩
    rw [evcClaim_other s ht hp, claimRead_looks p horder hmem rfl (fun x hx _ => hbest x hx), commit_returns s s.evc]
  case otherNone =>
    intro p t s ht hp hnone
    refine ⟨s.returns p 0, ?_, State.returns_readOf s p 0, rfl⟩
    rw [evcClaim_other s ht hp, claimRead_looks_nothing p (by simp [hnone]), commit_returns s s.evc]
end

section
/-! Proofs for the vector claims, the completions and the reads that clear (O17). -/
namespace Sys2Proof.Machine
open Sys2Proof

/-! ## EVC_VCLAIM (R83) -/

theorem evcVclaim_pcie {v : Nat} (s : State) (hv : v < 32) :
    exec (.evcVclaim .pcie v) s = commit s (claimRead .pcie true 0 (fun x => decide (x.vec.toNat = v)) s) := by
  show commit s (evcVclaimEffect .pcie v s) = _
  rw [evcVclaimEffect, if_pos hv]
  rfl

theorem evcVclaim_other {p : Path} {v : Nat} (s : State) (hv : v < 32) (hp : p ≠ .pcie) :
    exec (.evcVclaim p v) s = commit s (claimRead p false 0 (fun x => decide (x.vec.toNat = v)) s) := by
  show commit s (evcVclaimEffect p v s) = _
  rw [evcVclaimEffect, if_pos hv, decide_eq_false hp]

/-! ## EVC_COMPLETE (R76, R82) -/

/-- The event controller after the completion of an active source n of target t. -/
def Evc.completed (e : Evc) (t n : Nat) : Evc :=
  let f := e.change n (fun r => { r with act := tdel r.act t })
  if t = 0 then Evc.resend e f else f

/-- What is sent again after a completion changes no source and no target. -/
theorem Evc.resend_still (old e : Evc) : (Evc.resend old e).still = e.still := by
  unfold Evc.resend
  dsimp only
  split
  · rfl
  · rw [sendVecs_frame]; rfl

theorem Evc.completed_still (e : Evc) (t n : Nat) :
    (e.completed t n).still = (e.change n (fun r => { r with act := tdel r.act t })).still := by
  unfold Evc.completed
  dsimp only
  split
  · exact resend_still _ _
  · rfl

theorem Evc.completed_srcAt_self (e : Evc) (t n : Nat) :
    (e.completed t n).srcAt n = ({ e.srcAt n with act := tdel (e.srcAt n).act t } : Src).refresh := by
  rw [srcAt_of_src (src_of_still (completed_still e t n)), change_srcAt_self]

theorem Evc.completed_srcAt_ne (e : Evc) (t : Nat) {n k : Nat} (h : k ≠ n) : (e.completed t n).srcAt k = e.srcAt k := by
  rw [srcAt_of_src (src_of_still (completed_still e t n)), change_srcAt_ne e _ h]

theorem Evc.completed_bad (e : Evc) (t n k : Nat) : ((e.completed t n).tgtAt k).bad = (e.tgtAt k).bad := by
  rw [bad_of_still (completed_still e t n), change_bad]

/-- The completed source is not active any more. -/
theorem Evc.completed_act (e : Evc) (t n : Nat) : tfind? ((e.completed t n).srcAt n).act t = none := by
  rw [completed_srcAt_self, Src.refresh_act]
  exact tfind_tdel_self _ _

/-- At level 1 and enabled it is pending again with the PRIORITY and VECTOR of now. -/
theorem Evc.completed_pend {e : Evc} {t n : Nat} (ht : t < 4) (hl : (e.srcAt n).level = true)
    (he : bitOf (e.srcAt n).effective t = true) (hp : tfind? (e.srcAt n).pend t = none) :
    tfind? ((e.completed t n).srcAt n).pend t
      = some { prio := (e.srcAt n).priority, vec := (e.srcAt n).vector } := by
  rw [completed_srcAt_self, Src.refresh_pend _ ht]
  simp [Src.holds, Src.pends, hl, he, hp, tfind_tdel_self]

theorem evcComplete_active {p : Path} {t n : Nat} {pd : Pend} {s : State} (ht : t < 4) (hp : ownPath t = some p)
    (ha : tfind? (s.evc.srcAt n).act t = some pd) :
    exec (.evcComplete p t n) s = .next { s with evc := s.evc.completed t n } := by
  show commit s (evcCompleteEffect p t n s) = _
  rw [evcCompleteEffect, if_pos ht, if_pos hp, ha]
  rfl

theorem evcComplete_bad {p : Path} {t n : Nat} {s : State} (ht : t < 4) (hp : ownPath t = some p)
    (ha : tfind? (s.evc.srcAt n).act t = none) : exec (.evcComplete p t n) s = .next
      { s with evc := s.evc.setTgt t { s.evc.tgtAt t with bad := satInc (s.evc.tgtAt t).bad } } := by
  show commit s (evcCompleteEffect p t n s) = _
  rw [evcCompleteEffect, if_pos ht, if_pos hp, ha]
  rfl

theorem evcComplete_refused {p : Path} {t : Nat} (n : Nat) (s : State) (ht : t < 4) (hp : ownPath t ≠ some p) :
    exec (.evcComplete p t n) s = .next (s.accessError p 2 (0x2F0004 + t * 0x100)) := by
  show commit s (evcCompleteEffect p t n s) = _
  rw [evcCompleteEffect, if_pos ht, if_neg hp]
  exact commit_same s _ rfl rfl rfl

/-! ## EVC_SRC_COUNT and EVC_TGT_STATUS (R70, R76) -/

theorem evcSrcCountRead_clears (p : Path) {n : Nat} (s : State) (h : n < 256) : exec (.evcSrcCountRead p n) s = .next
    (({ s with evc := s.evc.setSrc n { s.evc.srcAt n with count := 0 } }).returns p
      ((s.evc.srcAt n).count.setWidth 32)) := by
  show commit s (evcSrcCountReadEffect p n s) = _
  rw [evcSrcCountReadEffect, if_pos h, commit_returns]

theorem evcTgtStatusRead_clears (p : Path) {t : Nat} (s : State) (h : t < 4) : exec (.evcTgtStatusRead p t) s = .next
    (({ s with evc := s.evc.setTgt t { s.evc.tgtAt t with bad := 0 } }).returns p (s.evc.tgtStatus t)) := by
  show commit s (evcTgtStatusReadEffect p t s) = _
  rw [evcTgtStatusReadEffect, if_pos h, commit_returns]

end Sys2Proof.Machine

open Sys2Proof Sys2Proof.Machine

/-- Settles O17: a vector's claim is the claim of O16 among the sources of the vector; a completion is a change to its
source, after which the record for the target is what the source holds. -/
theorem vectorClaimsAndCompletions : Obligations.VectorClaimsAndCompletions := by
  refine ⟨?vclaim, ?vclaimNone, ?vclaimOther, ?complete, ?completeBad, ?completeRefused, ?count, ?status⟩
  case vclaim =>
    intro v n pd s hv horder hmem hvec hbest
    refine ⟨({ s with evc := s.evc.claim 0 n pd }).returns .pcie (claimWord n pd.prio), ?_⟩
    refine ⟨?_, returns_claimWord _ .pcie n pd.prio, claim_act s.evc 0 n pd,
      fun k hk => claim_srcAt_ne s.evc 0 pd hk, rfl⟩
    rw [evcVclaim_pcie s hv, claimRead_claims .pcie horder hmem (decide_eq_true hvec)
      (fun x hx hq => hbest x hx (of_decide_eq_true hq)), commit_returns]
  case vclaimNone =>
    intro v s hv hnone
    refine ⟨s.returns .pcie 0, ?_, State.returns_readOf s .pcie 0, rfl⟩
    rw [evcVclaim_pcie s hv, claimRead_nothing .pcie (fun x hx => decide_eq_false (hnone x hx)),
      commit_returns s s.evc]
  case vclaimOther =>
    intro p v s hv hp
    obtain ⟨w, hw⟩ := claimRead_other p 0 (fun x => decide (x.vec.toNat = v)) s
    refine ⟨s.returns p w, ?_, rfl, fun hnone => ?_⟩
    · rw [evcVclaim_other s hv hp, hw, commit_returns s s.evc]
    · rw [← hw, claimRead_looks_nothing p (fun x hx => decide_eq_false (hnone x hx)), State.returns_readOf]
  case complete =>
    intro p t n pd s ht hp ha
    refine ⟨_, evcComplete_active ht hp ha, ?_⟩
    refine ⟨Evc.completed_act s.evc t n, ?_, Evc.completed_pend ht, fun k hk => Evc.completed_srcAt_ne s.evc t hk,
      Evc.completed_bad s.evc t n t, rfl⟩
    dsimp only
    rw [Evc.completed_srcAt_self, Src.refresh_level]
  case completeBad =>
    intro p t n s ht hp ha
    refine ⟨_, evcComplete_bad ht hp ha, ?_, rfl, rfl⟩
    dsimp only
    rw [Evc.tgtAt_setTgt_self]
    exact satInc_toNat _
  case completeRefused =>
    intro p t n s ht hp hv
    have hacc := accessError_first s p 2 (0x2F0004 + t * 0x100) hv
    exact ⟨_, evcComplete_refused n s ht hp, by rw [hacc], by rw [hacc], rfl⟩
  case count =>
    intro p n s hn
    exact ⟨_, evcSrcCountRead_clears p s hn, State.returns_readOf _ p _, Evc.srcAt_setSrc_self s.evc n _,
      fun k hk => Evc.srcAt_setSrc_ne s.evc _ hk, rfl⟩
  case status =>
    intro p t s ht
    exact ⟨_, evcTgtStatusRead_clears p s ht, State.returns_readOf _ p _, Evc.tgtAt_setTgt_self s.evc t _,
      fun k hk => Evc.tgtAt_setTgt_ne s.evc _ hk, rfl⟩
end

section
/-! Proofs for the registers of the event controller (O18): enables, software events, moderation, MSI-X, the link's sleep
and Groom's poll. -/
namespace Sys2Proof.Machine
open Sys2Proof

/-! ## EVC_SRC_CFG and its enables (R77 to R79) -/

/-- A source with the written configuration: VECTOR, PRIORITY and the enables that the path may write. -/
def Src.configured (r : Src) (p : Path) (v : Word) : Src :=
  { r with vector := BitVec.ofNat 5 (fld v 12 8), priority := BitVec.ofNat 4 (fld v 7 4)
           enable := (r.enable &&& ~~~(enableMask p)) ||| (BitVec.ofNat 4 (fld v 3 0) &&& enableMask p) }

/-- A source whose written enable for t has taken effect. -/
def Src.applied (r : Src) (t : Nat) : Src :=
  { r with effective := (r.effective &&& ~~~(bitMask 4 t)) ||| (r.enable &&& bitMask 4 t) }

theorem evcSrcCfgWrite_configures (p : Path) {n : Nat} (v : Word) (s : State) (h : n < 256) :
    exec (.evcSrcCfgWrite p n v) s = .next { s with evc := s.evc.change n (fun r => r.configured p v) } := by
  show commit s (evcSrcCfgWriteEffect p n v s) = _
  rw [evcSrcCfgWriteEffect, if_pos h]
  rfl

theorem evcEnableApply_applies {n t : Nat} (s : State) (hn : n < 256) (ht : t < 4) :
    exec (.evcEnableApply n t) s = .next { s with evc := s.evc.change n (fun r => r.applied t) } := by
  show commit s (evcEnableApplyEffect n t s) = _
  rw [evcEnableApplyEffect, if_pos ⟨hn, ht⟩]
  rfl

/-- A field put into as many bits as it has keeps its value. -/
theorem ofNat_fld_toNat (v : Word) (hi lo : Nat) : (BitVec.ofNat (hi + 1 - lo) (fld v hi lo)).toNat = fld v hi lo := by
  rw [BitVec.toNat_ofNat, Nat.mod_eq_of_lt (fld_lt v hi lo)]

/-- The enables of a written configuration. -/
theorem Src.configured_enable (r : Src) (p : Path) (v : Word) :
    let mask : BitVec 4 := if p = .groom then 15 else if p = .debug then 9 else 1
    (r.configured p v).enable = (r.enable &&& ~~~mask) ||| (BitVec.ofNat 4 v.toNat &&& mask) := by
  have hmask : (if p = .groom then 15 else if p = .debug then 9 else 1) = enableMask p := by cases p <;> rfl
  have hlow : BitVec.ofNat 4 (fld v 3 0) = BitVec.ofNat 4 v.toNat := by
    rw [fld, Nat.shiftRight_zero]
    exact BitVec.eq_of_toNat_eq (by simp)
  dsimp only
  rw [hmask, ← hlow]
  rfl

/-- A source that stays pending keeps the record it holds, whatever PRIORITY and VECTOR are written (R77). -/
theorem Src.configured_holds {r : Src} {t : Nat} {pd : Pend} (p : Path) (v : Word) (h : r.pends t = true)
    (hp : tfind? r.pend t = some pd) : (r.configured p v).holds t = some pd := by
  have hpends : (r.configured p v).pends t = true := h
  have hpend : tfind? (r.configured p v).pend t = some pd := hp
  rw [Src.holds, if_pos hpends, hpend]
  rfl

/-- A word whose masked bits are another's. -/
theorem bitOf_merge {w : Nat} (a b m : BitVec w) {k : Nat} (h : k < w) :
    bitOf ((a &&& ~~~m) ||| (b &&& m)) k = if bitOf m k then bitOf b k else bitOf a k := by
  simp only [bitOf, BitVec.getLsbD_or, BitVec.getLsbD_and, BitVec.getLsbD_not, decide_eq_true h, Bool.true_and]
  by_cases hm : m.getLsbD k = true <;> simp [hm]

/-- An applied enable is that of its target alone. -/
theorem Src.applied_effective (r : Src) (t : Nat) {k : Nat} (h : k < 4) :
    bitOf (r.applied t).effective k = if k = t then bitOf r.enable k else bitOf r.effective k := by
  rw [Src.applied, bitOf_merge _ _ _ h, bitOf_bitMask 4 t k h]
  simp [eq_comm]

/-! ## EVC_SW (R69, R70, R85) -/

theorem Evc.occur_still (e : Evc) (n : Nat) :
    (e.occur n).still = (e.change n (fun r => { r with level := true, count := satInc r.count })).still :=
  foldl_still (fun e t => countOcc_still e n t) _ _

/-- An occurrence: level 1 and one more counted. -/
theorem Evc.occur_srcAt_self (e : Evc) (n : Nat) : (e.occur n).srcAt n
    = ({ e.srcAt n with level := true, count := satInc (e.srcAt n).count } : Src).refresh := by
  rw [srcAt_of_src (src_of_still (occur_still e n)), change_srcAt_self]

theorem Evc.occur_srcAt_ne (e : Evc) {n k : Nat} (h : k ≠ n) : (e.occur n).srcAt k = e.srcAt k := by
  rw [srcAt_of_src (src_of_still (occur_still e n)), change_srcAt_ne e _ h]

theorem Evc.occur_sw (e : Evc) (n : Nat) : (e.occur n).sw = e.sw := by
  rw [sw_of_still (occur_still e n), change_sw]

theorem Evc.level_srcAt_ne (e : Evc) {n k : Nat} (l : Bool) (h : k ≠ n) : (e.level n l).srcAt k = e.srcAt k := by
  unfold Evc.level
  split
  · rfl
  · exact change_srcAt_ne e _ h

theorem Evc.level_sw (e : Evc) (n : Nat) (l : Bool) : (e.level n l).sw = e.sw := by
  unfold Evc.level
  split
  · rfl
  · exact change_sw e n _

/-- What a write of EVC_SW does to source 240 + i: a set bit is an occurrence, a cleared one ends the level. -/
def Evc.swBit (set clr : Half) (e : Evc) (i : Nat) : Evc :=
  if set.getLsbD i then e.occur (240 + i) else if clr.getLsbD i then e.level (240 + i) false else e

section
variable (set clr : Half)

theorem Evc.swBit_sw (e : Evc) (i : Nat) : (e.swBit set clr i).sw = e.sw := by
  unfold Evc.swBit
  split
  · exact occur_sw e _
  · split
    · exact level_sw e _ _
    · rfl

theorem Evc.swBit_srcAt_ne (e : Evc) {i k : Nat} (h : k ≠ 240 + i) : (e.swBit set clr i).srcAt k = e.srcAt k := by
  unfold Evc.swBit
  split
  · exact occur_srcAt_ne e h
  · split
    · exact level_srcAt_ne e _ h
    · rfl

theorem Evc.swBits_sw (l : List Nat) (e : Evc) : (l.foldl (Evc.swBit set clr) e).sw = e.sw := by
  induction l generalizing e with
  | nil => rfl
  | cons i l ih => exact (ih _).trans (swBit_sw set clr e i)

theorem Evc.swBits_srcAt_ne (l : List Nat) (e : Evc) {k : Nat} (h : ∀ i ∈ l, k ≠ 240 + i) :
    (l.foldl (Evc.swBit set clr) e).srcAt k = e.srcAt k := by
  induction l generalizing e with
  | nil => rfl
  | cons i l ih =>
    exact (ih _ (fun j hj => h j (List.mem_cons_of_mem i hj))).trans
      (swBit_srcAt_ne set clr e (h i List.mem_cons_self))

/-- Each bit of a list without repeats meets its source as the list found it, and none after it touches that source. -/
theorem Evc.swBits_srcAt_self {l : List Nat} (e : Evc) {i : Nat} (hl : l.Nodup) (hi : i ∈ l) :
    ∃ f : Evc, f.srcAt (240 + i) = e.srcAt (240 + i)
      ∧ (l.foldl (Evc.swBit set clr) e).srcAt (240 + i) = (f.swBit set clr i).srcAt (240 + i) := by
  obtain ⟨before, after, rfl⟩ := List.append_of_mem hi
  obtain ⟨-, hafter, hbefore⟩ := List.nodup_append.mp hl
  have hi_after : i ∉ after := (List.nodup_cons.mp hafter).1
  refine ⟨before.foldl (Evc.swBit set clr) e, swBits_srcAt_ne set clr before e fun j hj heq => ?_, ?_⟩
  · exact hbefore j hj i List.mem_cons_self (by omega)
  · rw [List.foldl_append, List.foldl_cons]
    refine swBits_srcAt_ne set clr after _ fun j hj heq => hi_after ?_
    rwa [show i = j by omega]

end

/-- The event controller after a write of EVC_SW. -/
def Evc.swWritten (e : Evc) (v : Word) : Evc :=
  (List.range 16).foldl (Evc.swBit (v.setWidth 16) (BitVec.ofNat 16 (fld v 31 16)))
    { e with sw := (e.sw &&& ~~~(BitVec.ofNat 16 (fld v 31 16))) ||| v.setWidth 16 }

theorem evcSwWriteEffect_eq (v : Word) (s : State) : evcSwWriteEffect v s = { s with evc := s.evc.swWritten v } := by
  refine List.foldl_hom (fun e => { s with evc := e }) fun e i => ?_
  unfold Evc.swBit
  split
  · rfl
  · split <;> rfl

theorem evcSwWrite_writes (v : Word) (s : State) :
    exec (.evcSwWrite v) s = .next { s with evc := s.evc.swWritten v } := by
  show commit s (evcSwWriteEffect v s) = _
  rw [evcSwWriteEffect_eq]
  rfl

theorem Evc.swWritten_sw (e : Evc) (v : Word) :
    (e.swWritten v).sw = (e.sw &&& ~~~(BitVec.ofNat 16 (fld v 31 16))) ||| v.setWidth 16 := swBits_sw _ _ _ _

theorem Evc.swWritten_srcAt_low (e : Evc) (v : Word) {n : Nat} (h : n < 240) :
    (e.swWritten v).srcAt n = e.srcAt n :=
  swBits_srcAt_ne _ _ _ _ fun i _ => by omega

/-- Source 240 + i after the write is what bit i of LEVEL and bit i of CLEAR make of it. -/
theorem Evc.swWritten_srcAt (e : Evc) (v : Word) {i : Nat} (h : i < 16) :
    ∃ f : Evc, f.srcAt (240 + i) = e.srcAt (240 + i) ∧ (e.swWritten v).srcAt (240 + i)
      = (if bitOf v i then f.occur (240 + i) else if bitOf v (16 + i) then f.level (240 + i) false else f).srcAt
          (240 + i) := by
  have hset : (v.setWidth 16).getLsbD i = bitOf v i := by simp [bitOf, h]
  have hclr : (BitVec.ofNat 16 (fld v 31 16)).getLsbD i = bitOf v (16 + i) := by
    rw [BitVec.getLsbD_ofNat, fld, Nat.testBit_mod_two_pow, Nat.testBit_shiftRight, decide_eq_true h, Bool.true_and]
    rfl
  obtain ⟨f, hf, hfold⟩ := swBits_srcAt_self (v.setWidth 16) (BitVec.ofNat 16 (fld v 31 16))
    { e with sw := (e.sw &&& ~~~(BitVec.ofNat 16 (fld v 31 16))) ||| v.setWidth 16 }
    List.nodup_range (List.mem_range.mpr h)
  rw [Evc.swBit, hset, hclr] at hfold
  exact ⟨f, hf, hfold⟩

/-! ## Moderation, MSI-X and the link (R80 to R82) -/

theorem modTimerExpire_releases {t : Nat} {s : State} (ht : t < 4) (hr : (s.evc.tgtAt t).running = true)
    (hu : (s.evc.tgtAt t).modUs ≠ 0) (ha : 1000 * (s.evc.tgtAt t).modUs.toNat ≤ (s.evc.tgtAt t).age) :
    exec (.modTimerExpire t) s = .next { s with evc := s.evc.release t } := by
  show commit s (modTimerExpireEffect t s) = _
  rw [modTimerExpireEffect, if_pos ⟨ht, hr, hu, ha⟩]
  rfl

/-- A timer that does not run, is off or has not run MOD_TIMER_US releases nothing. -/
theorem modTimerExpire_early {t : Nat} {s : State} (h : (s.evc.tgtAt t).running = false ∨ (s.evc.tgtAt t).modUs = 0 ∨
    (s.evc.tgtAt t).age < 1000 * (s.evc.tgtAt t).modUs.toNat) : exec (.modTimerExpire t) s = .next s := by
  have hnot : ¬ (t < 4 ∧ (s.evc.tgtAt t).running = true ∧ (s.evc.tgtAt t).modUs ≠ 0
      ∧ 1000 * (s.evc.tgtAt t).modUs.toNat ≤ (s.evc.tgtAt t).age) := by
    rintro ⟨-, hr, hu, ha⟩
    obtain hoff | hzero | hyoung := h
    · exact absurd hr (by simp [hoff])
    · exact hu hzero
    · exact absurd ha (Nat.not_le.mpr hyoung)
  show commit s (modTimerExpireEffect t s) = _
  rw [modTimerExpireEffect, if_neg hnot]
  rfl

theorem msixUnmask_sends {v : Nat} (s : State) (h : v < 32) : exec (.msixUnmask v) s = .next { s with evc := { s.evc with
    vec := tset s.evc.vec v { s.evc.vecAt v with mask := false, pending := false }
    sent := if (s.evc.vecAt v).pending then .msix v :: s.evc.sent else s.evc.sent } } := by
  show commit s (msixUnmaskEffect v s) = _
  rw [msixUnmaskEffect, if_pos h]
  rfl

/-- A vector's record replaced, and nothing else. -/
def State.withVec (s : State) (v : Nat) (r : Vec) : State :=
  { s with evc := { s.evc with vec := tset s.evc.vec v r } }

theorem State.withVec_vecAt (s : State) (v : Nat) (r : Vec) : (s.withVec v r).evc.vecAt v = r := tget_tset_self _ _ _ _

theorem registerWrite_msixData (p : Path) {v : Nat} (w : Word) (s : State) (h : v < 32) :
    exec (.registerWrite p (.msix v 2) w) s = .next (s.withVec v { s.evc.vecAt v with data := w }) := by
  show commit s (writeMsix v 2 w s) = _
  rw [writeMsix, if_neg (by omega)]
  rfl

/-- The low address word takes the word written and the high one stays; the address stands behind `∃`, so that no proof
that cites this computes with it. -/
theorem registerWrite_msixAddr (p : Path) {v : Nat} (w : Word) (s : State) (h : v < 32) :
    ∃ a : DWord, exec (.registerWrite p (.msix v 0) w) s = .next (s.withVec v { s.evc.vecAt v with addr := a })
      ∧ a.toNat % 2 ^ 32 = w.toNat ∧ a.toNat / 2 ^ 32 = (s.evc.vecAt v).addr.toNat / 2 ^ 32 := by
  have ha := (s.evc.vecAt v).addr.isLt
  have hw := w.isLt
  refine ⟨BitVec.ofNat 64 ((s.evc.vecAt v).addr.toNat / 4294967296 * 4294967296 + w.toNat), ?_, ?_, ?_⟩
  · show commit s (writeMsix v 0 w s) = _
    rw [writeMsix, if_neg (by omega)]
    exact commit_same s _ rfl rfl rfl
  · rw [BitVec.toNat_ofNat]; omega
  · rw [BitVec.toNat_ofNat]; omega

theorem pcieL1OrD3hotEntry_sleeps (d3 : Bool) (s : State) : exec (.pcieL1OrD3hotEntry d3) s
    = .next { s with evc := { s.evc with d3hot := d3 || s.evc.d3hot, linkL1 := !d3 || s.evc.linkL1 } } := by
  cases d3 <;> rfl

/-- The event controller with the link in L0 and the function in D0, nothing held for it. -/
def Evc.woken (e : Evc) : Evc := { e with linkL1 := false, d3hot := false, wakeHeld := [] }

/-- The link's return wakes the controller and then delivers what was held (R81). -/
theorem pcieLinkL0Return_delivers (s : State) :
    ∃ ns, exec .pcieLinkL0Return s = .next { s with evc := s.evc.woken.deliver 0 ns } := ⟨_, rfl⟩

/-! ## Groom's poll (R84) -/

/-- The sources at level 1 that Groom has enabled. -/
def Evc.served (e : Evc) : List Nat := (e.src.filter (fun x => x.2.level && bitOf x.2.enable 1)).map (·.1)

theorem groomEventPoll_polls (s : State) :
    exec .groomEventPoll s = .next { s with evc := { s.evc with polled := s.evc.served } } := rfl

theorem mem_served {e : Evc} (h : tfrom 0 e.src = true) (n : Nat) :
    n ∈ e.served ↔ (e.srcAt n).level = true ∧ bitOf (e.srcAt n).enable 1 = true := by
  rw [← exists_src_iff h n (fun r => r.level = true ∧ bitOf r.enable 1 = true) (by simp)]
  simp [Evc.served]

end Sys2Proof.Machine

open Sys2Proof Sys2Proof.Machine

/-- Settles O18: each row is a change to its source, a fold over the 16 bits of EVC_SW, a release, or a record replaced. -/
theorem eventControllerRegisters : Obligations.EventControllerRegisters := by
  refine ⟨?srcCfg, ?enable, ?sw, ?timer, ?timerEarly, ?unmask, ?table, ?sleep, ?wake, ?poll⟩
  case srcCfg =>
    intro p n v s hn
    have hself := Evc.change_srcAt_self s.evc n (fun r => r.configured p v)
    refine ⟨_, evcSrcCfgWrite_configures p v s hn, ?_⟩
    dsimp only
    rw [hself]
    refine ⟨?_, ?_, ?_, ?_, ?_, fun t pd ht hpends hpend => ?_, fun k hk => Evc.change_srcAt_ne s.evc _ hk, rfl⟩
    · rw [Src.refresh_vector]; exact ofNat_fld_toNat v 12 8
    · rw [Src.refresh_priority]; exact ofNat_fld_toNat v 7 4
    · rw [Src.refresh_enable]; exact Src.configured_enable _ p v
    · rw [Src.refresh_effective]; rfl
    · rw [Src.refresh_level]; rfl
    · rw [Src.refresh_pend _ ht]; exact Src.configured_holds p v hpends hpend
  case enable =>
    intro n t s hn ht
    refine ⟨_, evcEnableApply_applies s hn ht, ?_⟩
    dsimp only
    rw [Evc.change_srcAt_self, Src.refresh_effective]
    refine ⟨?_, fun k hk hne => ?_, fun k hk => Evc.change_srcAt_ne s.evc _ hk, rfl⟩
    · rw [Src.applied_effective _ t ht, if_pos rfl]
    · rw [Src.applied_effective _ t hk, if_neg hne]
  case sw =>
    intro v s
    refine ⟨_, evcSwWrite_writes v s, Evc.swWritten_sw s.evc v, fun i hi hset => ?_, fun i hi hset hclr => ?_,
      fun i hi hset hclr => ?_, fun n hn => Evc.swWritten_srcAt_low s.evc v hn, rfl⟩
    all_goals
      obtain ⟨f, hf, hw⟩ := Evc.swWritten_srcAt s.evc v hi
      dsimp only
      rw [hw, hset]
    · rw [if_pos rfl, Evc.occur_srcAt_self, Src.refresh_level, Src.refresh_count, hf]
      exact ⟨rfl, satInc_toNat _⟩
    · rw [if_neg Bool.false_ne_true, hclr, if_pos rfl, Evc.level_srcAt]
    · rw [if_neg Bool.false_ne_true, hclr, if_neg Bool.false_ne_true, hf]
  case timer =>
    intro t s ht hr hu ha
    refine ⟨_, modTimerExpire_releases ht hr hu ha, ?_⟩
    dsimp only
    rw [Evc.release_tgtAt]
    exact ⟨rfl, rfl, rfl, rfl, Evc.src_of_still (Evc.release_still s.evc t), rfl⟩
  case timerEarly => exact fun t s h => modTimerExpire_early h
  case unmask => exact fun v s hv => msixUnmask_sends s hv
  case table =>
    intro p v w s hv
    obtain ⟨a, ha, hlow, hhigh⟩ := registerWrite_msixAddr p w s hv
    refine ⟨_, _, registerWrite_msixData p w s hv, ha, State.withVec_vecAt s v _, ?_⟩
    rw [State.withVec_vecAt]
    exact ⟨hlow, hhigh⟩
  case sleep => exact pcieL1OrD3hotEntry_sleeps
  case wake =>
    intro s
    obtain ⟨ns, h⟩ := pcieLinkL0Return_delivers s
    refine ⟨_, h, ?_⟩
    rw [Evc.deliver_awake s.evc.woken ns rfl]
    exact ⟨rfl, rfl, rfl, rfl, rfl, rfl⟩
  case poll => exact fun s horder => ⟨_, groomEventPoll_polls s, mem_served horder, rfl⟩
end
